-- ==== Sys2Proof/Word.lean ====
section
/-!
DEFINITION. The machine's words: a 32-bit register word (R7), a byte, and the plainest conversions between
bit patterns and the integers the manual computes with.
-/
namespace Sys2Proof

/-- A register or window word: every register is 32 bits wide and little-endian (R7). -/
abbrev Word := BitVec 32

/-- One byte of the window, of the configuration SRAM or of a frame. -/
abbrev Byte := BitVec 8

/-- The signed integer a `w`-bit two's-complement field shows, from its bits as a number. -/
def signed (w n : Nat) : Int := if n % 2 ^ w < 2 ^ (w - 1) then (n % 2 ^ w : Nat) else ((n % 2 ^ w : Nat) : Int) - (2 : Int) ^ w

/-- The `w` bits that store the integer `i` in two's complement, as a number. -/
def unsigned (w : Nat) (i : Int) : Nat := (i % (2 : Int) ^ w).toNat

/-- Bit `i` of a number. -/
def bitAt (n i : Nat) : Bool := n / 2 ^ i % 2 == 1

/-- A number with bit `i` set. -/
def setBitAt (n i : Nat) : Nat := n ||| 2 ^ i

/-- A number with bit `i` cleared. -/
def clearBitAt (n i : Nat) : Nat := if bitAt n i then n - 2 ^ i else n

/-- One bit as a number. -/
def ofBool (b : Bool) : Nat := if b then 1 else 0

/-- `len` bits of a number, from bit `lo`. -/
def bitsAt (n lo len : Nat) : Nat := n / 2 ^ lo % 2 ^ len

end Sys2Proof
end

