-- ==== Sys2Proof/Machine/RegDesc.lean ====
section
/-!
DEFINITION. How a register field is named and how a register is described: the access types of R8, the kinds of
reset of R7, and the key under which the register store holds a field.
-/
namespace Sys2Proof.Machine

/-- A field: `len` bits from bit `lo` of the register at byte address `addr`. -/
structure Fld where
  addr : Nat
  lo   : Nat
  len  : Nat
  deriving DecidableEq, Repr

/-- The key of a field in the register store. -/
def Fld.key (f : Fld) : Nat := f.addr * 32 + f.lo

/-- The access types of R8; LCK is not listed because the image's lock list decides it (R65). -/
inductive Acc where
  | rw | ro | w1c | w1s | wo | wonce
  deriving DecidableEq, Repr

/-- The three kinds of reset entry of R7. -/
inductive RstKind where
  | num | img | hw
  deriving DecidableEq, Repr

/-- One row of a register table; `priv` and `vote` are the joined types PRIV and VOTE of R8. -/
structure FieldD where
  lo   : Nat
  len  : Nat
  acc  : Acc
  priv : Bool
  vote : Bool
  kind : RstKind
  deriving DecidableEq, Repr

/-- One register table: `count` instances from `base`, `stride` bytes apart. -/
structure RegD where
  base   : Nat
  stride : Nat
  count  : Nat
  fields : List FieldD
  deriving DecidableEq, Repr

/-- The descriptor covers the word at byte address `a`. -/
def RegD.covers (r : RegD) (a : Nat) : Bool :=
  if r.stride = 0 then a == r.base
  else decide (r.base ≤ a) && (a - r.base) % r.stride == 0 && decide ((a - r.base) / r.stride < r.count)

/-- The first descriptor of a list that covers an address. -/
def findReg : List RegD → Nat → Option RegD
  | [], _ => none
  | r :: t, a => if r.covers a then some r else findReg t a

/-- A whole-word register of R375: one that holds a WONCE, VOTE or WO field. -/
def RegD.wholeWord (r : RegD) : Bool := r.fields.any (fun f => f.vote || f.acc == .wo || f.acc == .wonce)

/-- A register with a PRIV field. -/
def RegD.anyPriv (r : RegD) : Bool := r.fields.any (fun f => f.priv)

end Sys2Proof.Machine
end

