-- ==== Sys2Proof/Machine/Tab.lean ====
section
/-!
DEFINITION. Sparse tables: a list of (key, value) pairs in one canonical form. Keys rise strictly and no entry
equals what an unlisted key reads as, so that equal contents are equal data.
-/
namespace Sys2Proof.Machine

/-- A sparse table over natural keys. -/
abbrev Tab (α : Type) := List (Nat × α)

/-- What the table holds at `k`; `d` is what an unlisted key reads as. -/
def tabGet {α : Type} (d : α) : Tab α → Nat → α
  | [], _ => d
  | (k', v) :: t, k => if k' = k then v else tabGet d t k

/-- Put an entry in its place among rising keys. -/
def tabInsert {α : Type} (k : Nat) (v : α) : Tab α → Tab α
  | [] => [(k, v)]
  | (k', v') :: t => if k < k' then (k, v) :: (k', v') :: t else (k', v') :: tabInsert k v t

/-- The table without the key `k`. -/
def tabDel {α : Type} (k : Nat) (t : Tab α) : Tab α := t.filter (fun e => e.1 != k)

/-- The table with `v` at `k`; writing what an unlisted key reads as removes the entry. -/
def tabPut {α : Type} [DecidableEq α] (d : α) (t : Tab α) (k : Nat) (v : α) : Tab α :=
  if v = d then tabDel k t else tabInsert k v (tabDel k t)

/-- Keys rise strictly. -/
def tabRising {α : Type} : Tab α → Bool
  | [] => true
  | [_] => true
  | (k, _) :: (k', v') :: t => decide (k < k') && tabRising ((k', v') :: t)

/-- The canonical form: keys rise, and no entry equals the default `d` of its key. -/
def tabWf {α : Type} [DecidableEq α] (d : Nat → α) (t : Tab α) : Bool :=
  tabRising t && t.all (fun e => decide (e.2 ≠ d e.1))

end Sys2Proof.Machine
end

