-- ==== Sys2Proof/Machine/TypesSys.lean ====
section
/-!
DEFINITION. The state SYS, HIF, GLD, FLT and OBS hold beside their registers: bus masters and their shadows,
the shared window and its rings, the loader, the fault units' windows, the reset sequencer.
-/
namespace Sys2Proof.Machine

/-- The four masters of R369, coded as `HIF_ACC_ERR_INFO.MASTER`. -/
inductive Master where
  | pf0 | pf1 | spi | i2c
  deriving DecidableEq, Repr, Inhabited

/-- The master's code (R395). -/
def Master.code : Master → Nat
  | .pf0 => 0 | .pf1 => 1 | .spi => 2 | .i2c => 3

/-- A 32-bit write as a master presents it: which byte lanes it enables, and the word (R374). -/
structure HostWrite where
  m  : Master
  be : Fin 16
  v  : Word
  deriving DecidableEq, Repr, Inhabited

/-- One measurement record (R98), its flags by name. -/
structure Rec where
  slot    : Nat
  lane    : Nat
  kind    : Nat
  dfact   : Nat
  calGerr : Int
  seq     : Nat
  ovf     : Bool
  decim   : Bool
  calfail : Bool
  masked  : Bool
  first   : Bool
  win     : Bool
  pwf     : Bool
  calOfs  : Int
  coarse  : Nat
  fine    : Nat
  phase   : Int
  edges   : Nat
  width   : Nat
  tick    : Nat
  srcidx  : Nat
  deriving DecidableEq, Repr, Inhabited

/-- A descriptor of a ring as the device read it (R383). -/
structure Desc where
  idx   : Nat
  tsreq : Bool
  port  : Nat
  len   : Nat
  buf   : Nat
  id    : Nat
  sramOfs : Nat
  deriving DecidableEq, Repr, Inhabited

/-- A device-to-host item: its bytes, the port of a FRAME_RX item, and the bits the item sets in word 1 or 2. -/
structure RingItem where
  ring  : Nat
  port  : Nat
  bytes : List Byte
  deriving DecidableEq, Repr, Inhabited

/-- Host interface state (R377, R380, R384, R390, R392). -/
structure Hif where
  /-- Window bytes; an unlisted byte reads 0 (R381). -/
  window   : Tab Byte
  /-- High words and group words latched for a master: key `master * 2^24 + address`. -/
  shadow   : Tab (Option Nat)
  /-- The last read result of each master, for READ_LAST (R372). -/
  lastRead : Tab Nat
  /-- Data of a master's last completed indirect read of a block: key `master * 32 + block`. -/
  indLast  : Tab Nat
  /-- Indirect accesses in progress per block (R380). -/
  indBusy  : Tab Nat
  /-- The master (code and 1) that last wrote a block's `IND_ADDR`, and the one whose staging words TNS holds (R368, R380). -/
  indBy    : Tab Nat
  stageBy  : Option Nat
  /-- Words returned by the present bus command, with the SPI status bytes (R372). -/
  resp     : List Word
  status   : List Nat
  /-- The present PCIe request was completed Unsupported Request. -/
  ur       : Bool
  /-- Asserted vectors as last evaluated, vectors masked in the MSI-X table, and the messages of the present command (R392). -/
  vecLevel : Nat
  vecMask  : Nat
  msgs     : List Nat
  /-- Item being taken on each host-to-device ring. -/
  item     : Tab (Option Desc)
  /-- A doorbell's run is in progress on the ring. -/
  running  : Tab Bool
  /-- FRAME_RX items held for an announcing edge (R390), oldest first. -/
  held     : List RingItem
  /-- `PERST_N` is low. -/
  perst    : Bool
  /-- A vector of `VEC_INT_EN` was asserted when last evaluated, and the coarse count at which `INT_N` last rose (R392). -/
  intWant  : Bool
  intUp    : Option Nat
  deriving DecidableEq, Repr, Inhabited

/-- What the loader is doing (R50, R59, R60). -/
inductive LoadKind where
  | boot | full | swap
  deriving DecidableEq, Repr, Inhabited

/-- A job of the slot schedule (R183, R198): kind, class, target, issue lane, slot offset, worst-case cost, and whether it
runs in tick 0 of each second only. -/
structure Job where
  kind   : Nat
  cls    : Nat
  target : Nat
  lane   : Nat
  offset : Nat
  cost   : Nat
  per    : Bool
  deriving DecidableEq, Repr, Inhabited

/-- What a grist image declares beyond its header (R42): the values of IMG fields, and the tables the sections carry. -/
structure ImageCfg where
  /-- Values of IMG fields, keyed as the register store. -/
  img      : Tab Nat
  /-- Oscillator calibration δ in units of 2^-48 (R446). -/
  oscCal   : Int
  /-- Slots REFMAP declares. -/
  declared : List Nat
  /-- The slot schedule. -/
  sched    : List Job
  /-- Addresses of the LOCK section as applied (R65). -/
  locks    : List Nat
  /-- Oscillator identity word. -/
  oscId    : Nat
  tickCode : Nat
  primary  : Nat
  fplan    : Nat
  svn      : Nat
  keyIndex : Nat
  ver      : Nat
  noSwapIn  : Bool
  noSwapOut : Bool
  hash     : Nat
  /-- Per APLL: fraction bits 15:0 of N_nom, and the detector settings (R229, R255). -/
  apllFrac : Tab Nat
  apllLd   : Tab Nat
  /-- SerDes words of the ports: key as the indirect address (R314). -/
  serdes   : Tab Nat
  /-- Session context words of the PTP section: key `session * 64 + word`. -/
  ptpCtx   : Tab Nat
  /-- Staged words of the initial tense entries. -/
  tense    : List (List Nat)
  /-- Initial cask model words per channel: key `channel * 8 + word`. -/
  cask     : Tab Nat
  /-- The image has a CJL section. -/
  cjl      : Bool
  deriving DecidableEq, Repr, Inhabited

/-- Loader state (R48 – R64). -/
structure Gld where
  /-- The operation in progress. -/
  op        : Option LoadKind
  /-- Flash slot being read: false A, true B; and whether it is the alternate slot of a boot. -/
  slotB     : Bool
  alternate : Bool
  /-- The operation reads flash (boot, or `SRC` 1); its header has been read and checked. -/
  fromFlash : Bool
  hdr       : Bool
  /-- The last check of R48 has passed; the apply step runs. -/
  applying  : Bool
  /-- Configuration SRAM bytes. -/
  sram      : Tab Byte
  /-- Key staging words (R56). -/
  staging   : Tab Nat
  /-- The verified image waiting for the apply step or the swap boundary. -/
  next      : Option ImageCfg
  /-- The running image is the one loaded by the boot after the last power-on or `RESET_N` (R52). -/
  bootRun   : Bool
  /-- Target of an OTP programming in progress. -/
  arbTarget : Option Nat
  deriving DecidableEq, Repr, Inhabited

/-- One-time-programmable state, kept through every reset (R56 – R58, R458). -/
structure Otp where
  keyHash    : Tab Nat
  programmed : Nat
  revoked    : Nat
  arb        : Nat
  deriving DecidableEq, Repr, Inhabited

/-- Fault units and pin driver (R398 – R416). -/
structure Flt where
  /-- Buckets of each source, the present one first, and the coarse count at which that one began (R400). -/
  buckets : Tab (List Nat)
  bucketAt : Tab Nat
  /-- Event-type sources with an event since the last tick boundary (R399). -/
  live    : List Nat
  /-- Sources already counted in the HCLK cycle of the present command (R398). -/
  cyc     : List Nat
  /-- Reaction resets called for, block and sub-unit (R404, R406). -/
  rstReq  : List (Nat × Nat)
  /-- Host resets written to `SYS_BRST`: reset units (R454). -/
  hostReq : List Nat
  /-- Ticks left in reset, and in reset-shadow, of each reset unit 0–23. -/
  rstLeft : Tab Nat
  shdLeft : Tab Nat
  /-- Blocks with a live line fault, and consecutive missed inversions (R410). -/
  lineBad : List Nat
  missInv : Tab Nat
  /-- Blocks whose line indication is kept through a reset (R415), with the indication kept. -/
  kept    : Tab Bool
  /-- Blocks that held `FAULT_N` when the pin was last evaluated. -/
  holders : List Nat
  deriving DecidableEq, Repr, Inhabited

/-- Observation state (R424 – R436). -/
structure Obs where
  /-- The 96 counters. -/
  cnt   : Tab Nat
  /-- The counters as latched at the last tick boundary, for snapshots (R436). -/
  atB   : Tab Nat
  /-- Samplers whose counter has wrapped and whose capture is due. -/
  pend  : List Nat
  /-- Counters that have wrapped and whose overflow bit is due. -/
  wrapped : List Nat
  deriving DecidableEq, Repr, Inhabited

/-- A group of time registers with one latching `NS` register (R272, R377): a scale's present time, its slot stamp, an EVT
pin's stamp, a port's transmit stamp, a fault unit's first capture. -/
inductive TimeGroup where
  | now (k : Fin 4)
  | slot (k : Fin 4)
  | evt (i : Fin 16)
  | txq (p : Fin 16)
  | first (b : Fin 17)
  deriving DecidableEq, Repr, Inhabited

/-- Where a sampler's capture falls (R434, R435): the captured slot as the issue stage reports it. -/
structure SampleAt where
  skid   : Fin 9
  tick   : Nat
  cycle  : Nat
  issue  : Fin 4
  starve : Fin 4
  jkind  : Fin 16
  cls    : Fin 4
  subj   : Bool
  tag    : Fin 256
  target : Fin 256
  deriving DecidableEq, Repr, Inhabited

/-- The slots that a job of the tick used, by its entry of the schedule: for its indicative work, and for its subjunctive
work, the preview of a preview job or what a selection job prepares (R192). -/
structure JobSlots where
  entry : Fin 512
  ind   : Nat
  subj  : Nat
  deriving DecidableEq, Repr, Inhabited

/-- What a tick boundary takes from outside (R25, R28, R185, R192, R231): the cycle in which each job that has completed did,
by entry of the schedule, so that an entry that ran and is not listed has overrun or was abandoned; the slots its jobs used,
and those starved for records and for ports; the first XO edge after the boundary, in 62.5 fs from it; and copies of VOTE fields that change in the tick now
beginning: key, and the exclusive-or of the second and of the third copy with the first. -/
structure TickIn where
  ends  : List (Fin 512 × Fin 131071)
  used  : List JobSlots
  front : Nat
  back  : Nat
  xo    : Option (BitVec 20)
  upsets : List (Nat × Nat × Nat)
  deriving DecidableEq, Repr, Inhabited

/-- System control state beside its registers (R443 – R448). -/
structure Sys where
  /-- `RESET_N` is low; power-on reset holds. -/
  rstN   : Bool
  por    : Bool
  /-- Domains powered and released (R445); the output banks' supplies mask it in `PD_ON`. -/
  pdUp   : Nat
  /-- Domains switched on whose ramp has ended and whose release is due. -/
  pdWait : Nat
  /-- Supply of each output bank in mV. -/
  bankMv : Tab Nat
  /-- The MPLL has locked since the last internal reset, so the derived clocks run. -/
  clocks : Bool
  /-- `OSC_SEL` chose the code in use, or detection did. -/
  locking : Bool
  deriving DecidableEq, Repr, Inhabited

end Sys2Proof.Machine
end

