-- ==== Sys2Proof/Machine/TypesIn.lean ====
section
/-!
DEFINITION. The state REF, TIM and TME hold beside their registers: the conditioning chain of a slot, a
measurement lane, the bank queue, and a time scale.
Instants are counted in 62.5 fs units from the start of the coarse counter: 8,000 to one MCLK period (R88).
-/
namespace Sys2Proof.Machine

/-- The conditioning chain of slot 0–55 (R76 – R84). -/
structure RefSlot where
  /-- The next edge bounds a removed phase and is removed with it (R77). -/
  skip      : Bool
  /-- Leading edge of the pulse whose trailing edge is awaited (R84). -/
  lead      : Option Nat
  /-- Edges counted toward the pre-divider (R78) and toward `ACT_DIV` (R82). -/
  divPh     : Nat
  actPh     : Nat
  /-- Conditioned edges in the present gate, and the tick boundaries from its start on, that one included (R81). -/
  gateEdges : Nat
  gateTicks : Nat
  /-- Time of the last monitored edge, or of the enable or release (R82). -/
  lastMon   : Nat
  /-- The accepted pulse before (R81), and missing edges declared since the last monitored edge (R82). -/
  lastPulse : Option Nat
  missed    : Nat
  /-- The present pulse failed its window. -/
  pulseWin  : Bool
  /-- A clock-type gate failed and none has passed since. -/
  gateBad   : Bool
  deriving DecidableEq, Repr, Inhabited

/-- A calibration result: raw results of one and two MCLK periods (R94). -/
structure Cal where
  m1 : Nat
  m2 : Nat
  deriving DecidableEq, Repr, Inhabited

/-- The calibration that scales a record, taken with its edge (R94, R95): the result that converts it, none for the
nominal values; whether the lane's last calibration failed, and the departures that one reports. -/
structure Scaling where
  cal  : Option Cal
  fail : Bool
  gerr : Int
  ofs  : Int
  deriving DecidableEq, Repr, Inhabited

/-- An edge a lane has captured and not yet formed into a record. -/
structure Capture where
  t     : Nat
  edges : Nat
  /-- Active width of a pulse, once known. -/
  width : Option Nat
  win   : Bool
  pwf   : Bool
  /-- Result of a vernier conversion, once done: time of the edge in 62.5 fs units. -/
  conv  : Option Nat
  scaling : Scaling
  deriving DecidableEq, Repr, Inhabited

/-- A measurement lane, 0–63 TDL and 64–79 vernier (R90 – R103). -/
structure Lane where
  /-- The earliest time at which the next edge is recorded, from a sample instant until one is (R91). -/
  armed : Option Nat
  cap   : Option Capture
  /-- A vernier lane between a leading edge, or its start, and the end of its calibration (R93, R104). -/
  busy  : Bool
  /-- Conditioned edges since the last delivered record. -/
  edges : Nat
  /-- Sample instants or pulses since the last kept one (R103). -/
  phase : Nat
  dfact : Nat
  queue : List Rec
  /-- Coarse count of the last delivered record. -/
  prev  : Option Nat
  /-- The last calibration, whether it failed, and the last good one (R95). -/
  cal   : Option Cal
  calBad : Bool
  good  : Option Cal
  deriving DecidableEq, Repr, Inhabited

/-- An unlisted lane. -/
def Lane.idle : Lane := ⟨none, none, false, 0, 0, 0, [], none, none, false, none⟩

/-- A lane that starts: a vernier lane calibrates before its first measurement (R104). -/
def Lane.start (l : Nat) : Lane := { Lane.idle with busy := decide (64 ≤ l) }

/-- An unlisted conditioning chain. -/
def RefSlot.idle : RefSlot := ⟨false, none, 0, 0, 0, 0, 0, none, 0, false, false⟩

/-- A stretch of a time scale: from coarse count `c0` the counter runs from `v0` (2^-48 ns), adding `inc` per
`TCK` edge and one LSB more on the first `r` edges (R258, R262). -/
structure Seg where
  c0  : Nat
  v0  : Nat
  inc : Nat
  r   : Nat
  deriving DecidableEq, Repr, Inhabited

/-- A rate adjustment: its rate in ps/s, ticks left, and the movement not yet made, in 0.1 ps ÷ tick rate (R268). -/
structure Radj where
  rate : Int
  left : Nat
  rem  : Int
  deriving DecidableEq, Repr, Inhabited

/-- A tense rate change that waits for its boundary: rate and duration, the coarse count from which a boundary starts it, and its
journal record (R268, R355). -/
structure TenseRate where
  rate  : Int
  dur   : Nat
  since : Nat
  entry : List Nat
  deriving DecidableEq, Repr, Inhabited

/-- The UTC data of a scale (R269). -/
structure UtcData where
  ofs    : Int
  valid  : Bool
  leap61 : Bool
  leap59 : Bool
  sec    : Nat
  deriving DecidableEq, Repr, Inhabited

/-- A time scale (R258 – R270). -/
structure Scale where
  /-- Stretches of the counter, newest first (R271). -/
  segs    : List Seg
  /-- The image has bound the scale and its increments follow the channel; coarse count and value at which the
  present increment's account began. -/
  run     : Bool
  mark0   : Nat
  mark    : Int
  /-- Advance owed and not made, in 10^-4 · 2^-48 ns (R262, R264). -/
  carry   : Int
  /-- `PH` of the bound channel at the last rate update (R261). -/
  lastPh  : Int
  /-- A step write waits for its edge S: the delta in 2^-48 ns, and the coarse count of S (R265). -/
  step    : Option (Int × Nat)
  /-- Coarse count of the edge at which the step was made. -/
  stepAt  : Option Nat
  radj    : Option Radj
  /-- The host's adjustment that waits for its boundary, and the tense ones, oldest first. -/
  radjNext : Option (Int × Nat)
  radjTense : List TenseRate
  /-- UTC fields as committed, waiting for the next boundary (R269). -/
  utcDue  : Option UtcData
  /-- UTC data in force; the second the leap was last judged at. -/
  utc     : UtcData
  secSeen : Nat
  /-- Advance missed during a TME reset and not yet removed, 10^-4 · 2^-48 ns (R280). -/
  slew    : Int
  /-- A full load has taken the channel's history: the scale free-runs on its increment until the channel locks (R59). -/
  hold    : Bool
  deriving DecidableEq, Repr, Inhabited

/-- An entry of a transmit-timestamp queue: identifier, stamp seconds, ns, fraction (R278). -/
structure TxEntry where
  id  : Nat
  sec : Nat
  ns  : Nat
  frac : Nat
  deriving DecidableEq, Repr, Inhabited

end Sys2Proof.Machine
end

