-- ==== Sys2Proof/Machine/TypesLoop.lean ====
section
/-!
DEFINITION. The state the qualifier, the selector and the loop engine hold beside their registers, and the two
state banks of R26.

Phases are kept relative to the device time base: a phase `x` at an instant is the clock's reading less the device
time, in units of 62.5 fs, so a frequency is the slope of `x`. A channel's `x` is counted in 62.5 fs · 2^-48 so that
`FW` accumulates without rounding (R170).
-/
namespace Sys2Proof.Machine

/-- A phase sample of a slot (R114): its instant in 62.5 fs units and its phase against the device time base. -/
structure Samp where
  t : Int
  x : Rat
  deriving DecidableEq, Repr, Inhabited

/-- A fitted line: value at `t0` and slope per 62.5 fs unit of time. -/
structure Line where
  t0 : Int
  a  : Rat
  b  : Rat
  deriving DecidableEq, Repr, Inhabited

/-- The Allan deviation estimator of one τ (R128): the squares of the last 64 samples, newest first. -/
structure Allan where
  sq : List Rat
  deriving DecidableEq, Repr, Inhabited

/-- Monitors and timers of slot 0–87 (R111 – R130). -/
structure QSlot where
  /-- A confirmed record has arrived since the slot was declared, enabled or reset; and when the last one did. -/
  confirmed : Bool
  lastConf  : Int
  /-- How long the loss timeout has stood still since then, in reset-shadow (R130). -/
  frozen    : Int
  /-- Records delivered to the slot and not yet taken by a qualify job. -/
  inbox     : List Rec
  /-- Phase samples taken this tick, for the selection jobs of the tick (R112), and whether a record was masked. -/
  got       : List Samp
  gotMasked : Bool
  /-- When a missing edge was last declared; one was since the last qualify job, and one in the tick that job saw
  (R186, R188). -/
  missAt    : Option Int
  missNow   : Bool
  missTick  : Bool
  /-- An unmasked record arrived this tick; and the newest record was masked (R186). -/
  gotOk     : Bool
  lastMasked : Bool
  /-- The largest residual of this tick, in ps (R117, R188). -/
  tickRes   : Rat
  /-- The present series of samples, counted at each break, its last sample and the one before (R114), and the edges of
  the records since the last sample that yielded none. -/
  series    : Nat
  last      : Option Samp
  before    : Option Samp
  edges     : Nat
  /-- Samples of the present second, newest first, and the last sample of the second before. -/
  secSamp   : List Samp
  secPrev   : Option Samp
  /-- Mean offsets of the seconds that held unmasked samples, newest first, against the base of R115. -/
  secs      : List Rat
  /-- One more than the whole seconds each window may use since it was last restarted, 0 before the first tick 0:
  W0, W1, W2, DW (R116). -/
  winAge    : List Nat
  /-- Windows a host write restarts at the next tick boundary: 0–3 as `winAge`, 4 the wander window (R132). -/
  restart   : List Nat
  /-- Differences from the channel's phase over the wander window, newest first, the fitted line, and the largest
  residual of the second in ps (R117). -/
  wander    : List Samp
  fit       : Option Line
  resid     : Rat
  /-- Ticks since a residual at or above 15/16 of `WSOFT`, and of `WHARD`. -/
  softAge   : Nat
  hardAge   : Nat
  /-- E in units of 10^-14 s (R118). The second of the present tick 0 is evaluated; the qualify job of the tick has run. -/
  exc       : Int
  secDone   : Bool
  judged    : Bool
  /-- The window that reached its limit when FSOFT, and FHARD, was last raised or held up (R125). -/
  softWin   : Nat
  hardWin   : Nat
  /-- Second boundaries whose phase point waits for the sample after them, points not yet taken by the estimator,
  the points with their series, newest first, how many seconds they count from the first point of the series, and the
  squares of the samples per τ, newest first (R128). -/
  ptDue     : List Int
  newPts    : List (Option (Nat × Rat))
  pts       : List (Option (Nat × Rat))
  ptCount   : Nat
  allan     : List Allan
  /-- The loss timeout has run out; the last clock-type record carried `WIN`. -/
  lossOut   : Bool
  winBad    : Bool
  /-- Steep and recovery timers in ticks. -/
  steep     : Nat
  srec      : Nat
  /-- The tick of the last lower-level loss report, and its time in 62.5 fs units (R121). -/
  lowTick   : Option Nat
  lowAt     : Int
  /-- A soft condition was raised in the previous tick (R123). -/
  softPrev  : Bool
  deriving DecidableEq, Repr, Inhabited

/-- An undisturbed slot. -/
def QSlot.idle : QSlot :=
  { confirmed := false, lastConf := 0, frozen := 0, inbox := [], got := [], gotMasked := false, missAt := none, missNow := false, missTick := false,
    gotOk := false, lastMasked := false, tickRes := 0,
    series := 0, last := none, before := none, edges := 0, secSamp := [], secPrev := none, secs := [], winAge := [0, 0, 0, 0], restart := [],
    wander := [], fit := none, resid := 0, softAge := 0, hardAge := 0, exc := 0, secDone := false, judged := false, softWin := 0, hardWin := 0,
    ptDue := [], newPts := [], pts := [], ptCount := 0, allan := [⟨[]⟩, ⟨[]⟩, ⟨[]⟩, ⟨[]⟩], lossOut := false, winBad := false, steep := 0, srec := 0,
    lowTick := none, lowAt := 0, softPrev := false }

/-- The source side of a transition (R142, R145): a slot with its offset, or a hold that stood at `x` at the instant
`t` and advances at the frequency word `fw`. -/
inductive Side where
  | slot (n : Nat) (ofs : Rat)
  | hold (t : Int) (x : Rat) (fw : Int)
  deriving DecidableEq, Repr, Inhabited

/-- An ensemble member (R149 – R155): its slot, the bias its raw weight was last formed with, entry offset, applied and
sought raw weight, ticks left of the movement of ρ, fade factor, a fade-out under way, whether it is in the combination,
deviation, held, weight in 2^-16. -/
structure Member where
  slot  : Nat
  bias  : Option Nat
  ofs   : Rat
  rho   : Rat
  rhoTo : Rat
  rhoT  : Nat
  f     : Rat
  fading : Bool
  inn   : Bool
  d     : Rat
  held  : Bool
  w     : Nat
  deriving DecidableEq, Repr, Inhabited

/-- What a channel keeps of a slot it lists: the series it follows, the whole periods resolved for it and whether they
are (R187), the deviations from the estimate its fit uses, newest first (R143), and its last sample, resolved, whatever
series that was of (R145). -/
structure SlotUse where
  series : Nat
  ofs    : Rat
  used   : Bool
  devs   : List Samp
  last   : Option Samp
  deriving DecidableEq, Repr, Inhabited

/-- A prepared target with its fit (R140, R143), or the re-weighting preview (R155). -/
structure Prep where
  kind  : Nat
  tgt   : Nat
  ofs   : Rat
  df    : Rat
  pmask : Nat
  deriving DecidableEq, Repr, Inhabited

/-- A slot carried through a QUL shadow (R163): the state it had, the tick since which it is ABSENT after the shadow, and
whether it has been STEEPING again. -/
structure Carried where
  was     : Nat
  since   : Option Nat
  steeped : Bool
  deriving DecidableEq, Repr, Inhabited

/-- The recent mean of R215: mean frequency (2^-48) and temperature (1/128 °C) of a window, and its mid-time in cask seconds. -/
structure Recent where
  m  : Rat
  tb : Rat
  tm : Rat
  deriving DecidableEq, Repr, Inhabited

/-- A live holdover preview (R188): its prediction (2^-64), φ_out extrapolated at its word (62.5 fs · 2^-48), what overrun
ticks have not yet added to that (R195), cause, start tick, cask time of its start condition, and the grade, source and
recent mean that fix its prediction (R214, R215). -/
structure Preview where
  fwp   : Int
  x     : Int
  due   : Int
  cause : Nat
  start : Nat
  sec   : Nat
  grade : Nat
  psrc  : Nat
  mean  : Option Recent
  deriving DecidableEq, Repr, Inhabited

/-- A tense switch or weight request waiting for the selection job (R158): a reference switch to a slot, or a bias for
a member; the journal record its outcome completes, and the tick that held its firing edge. -/
structure TnsReq where
  weight : Bool
  arg    : Nat
  bias   : Nat
  record : List Nat
  tick   : Nat
  deriving DecidableEq, Repr, Inhabited

/-- Selector and loop state of a channel. -/
structure Chan where
  /-- Estimate handed to the loop engine for this tick, at the boundary that starts it; the last one formed, and the
  boundary it was for. -/
  est     : Option Rat
  lastEst : Rat
  lastAt  : Int
  /-- Offset of the tracked slot and of the target; the source side, and whether the boundary fixes it to φ_out (1),
  or to the frequency then committed (2). -/
  curOfs  : Rat
  tgtOfs  : Rat
  side    : Side
  sideDue : Nat
  ebo     : Rat
  members : List Member
  prep    : Option Prep
  uses    : Tab (Option SlotUse)
  /-- Slots carried through a QUL shadow (R163). -/
  carried : Tab Carried
  tns     : List TnsReq
  /-- A named-slot write whose request is due at the next boundary (R158, R160); a request that the next selection job
  answers (R147); the slot and the biases that a tense action has named in the job of this tick (R159, R161). -/
  reqDue  : Bool
  asked   : Bool
  names   : Option Nat
  /-- A tense action was refused in a reset of SEL that has not ended (R159). -/
  refused : Bool
  biases  : List (Nat × Nat)
  /-- Tracked slot and target that a list write or a live swap has taken off the list (R62, R162). -/
  cut     : List Nat
  /-- φ_out less the device time, 62.5 fs · 2^-48 (R170). -/
  x       : Int
  /-- Integrator and type 3 second integrator, 2^-64; the rounding carried into the next word, 2^-64 (R171, R172). -/
  int     : Int
  int2    : Rat
  carry   : Int
  /-- Update ticks within the lock threshold, ticks in LOCKED, and whether the last update was at or above `UNLOCK_PH`
  (R180). -/
  lockT   : Nat
  inLock  : Nat
  above   : Bool
  /-- The live preview; whether this tick's job saw it cancelled (R190). -/
  preview : Option Preview
  cancel  : Bool
  /-- Estimate a jam sets φ_out to at the boundary (R181); unused part of the phase-slope allowance, 0.1 ps (R178). -/
  jam     : Option Rat
  phFrac  : Rat
  /-- Ticks in holdover, the prediction it follows, 2^-64, with its source and recent mean (R214 – R216); it is frozen (R221). -/
  hoDur   : Nat
  hoPred  : Int
  hoPsrc  : Nat
  hoMean  : Option Recent
  frozen  : Bool
  /-- The prediction of the present second and of the one before, 2^-64, and the second last evaluated (R202, R215). -/
  pred    : Int
  prev    : Int
  predAt  : Option Nat
  deriving DecidableEq, Repr, Inhabited

/-- An unlisted channel. -/
def Chan.idle : Chan :=
  { est := none, lastEst := 0, lastAt := 0, curOfs := 0, tgtOfs := 0, side := .hold 0 0 0, sideDue := 0, ebo := 0, members := [],
    prep := none, uses := [], carried := [], tns := [], reqDue := false, asked := false, names := none, refused := false, biases := [], cut := [],
    x := 0, int := 0, int2 := 0, carry := 0, lockT := 0, inLock := 0, above := false, preview := none, cancel := false, jam := none, phFrac := 0,
    hoDur := 0, hoPred := 0, hoPsrc := 0, hoMean := none, frozen := false, pred := 0, prev := 0, predAt := none }

/-- An open one-second accumulation (R201, R202): contributing ticks with the sums of their `FW` and of the temperature in
use (1/128 °C), all ticks with the sum of the temperature, ticks in HOLDOVER with the sums of their `FW` and of the
temperature, and whether it must be invalid. -/
structure SecAcc where
  n    : Nat
  fw   : Int
  ct   : Int
  tn   : Nat
  t    : Int
  hn   : Nat
  hfw  : Int
  ht   : Int
  bad  : Bool
  /-- The last second of its minute, and of its hour, on the primary scale; the cask time of its end. -/
  min  : Bool
  hour : Bool
  sec  : Nat
  deriving DecidableEq, Repr, Inhabited

/-- What the ticks in HOLDOVER of an open minute or hour sum to (R204): their count, `FW`, temperature in use. -/
structure HoldAcc where
  n  : Nat
  fw : Int
  t  : Int
  deriving DecidableEq, Repr, Inhabited

/-- The fit (R210 – R212): coefficients f0 (2^-48), a (2^-48/s), c1, c2 (2^-48/°C, /°C²) and their covariance, the
residuals of the last 60 points, and which coefficients are free. -/
structure Fit where
  θ    : List Rat
  P    : List (List Rat)
  res  : List Rat
  tc   : Bool
  age  : Bool
  deriving DecidableEq, Repr, Inhabited

/-- The cask of a channel. Ring entries and bins are 64-bit words (R204), ring S with the cask time of each entry's end,
each bin with the exact sum and number of its residuals (R209). -/
structure Cask where
  cur   : SecAcc
  opn   : List SecAcc
  ringS : Tab (Nat × Nat)
  ringM : Tab Nat
  ringH : Tab Nat
  bins  : Tab Nat
  sums  : Tab (Rat × Nat)
  /-- Valid S entries of the open minute (frequency, temperature, end), valid M entries of the open hour; the ticks in
  HOLDOVER of both. -/
  openM : List (Int × Int × Nat)
  openH : List (Int × Int)
  holdM : HoldAcc
  holdH : HoldAcc
  fit   : Fit
  epoch : Nat
  /-- A clear waits for tick 0 (R221). -/
  clear : Bool
  deriving DecidableEq, Repr, Inhabited

/-- Cask state shared by the channels: the device time base from power-on to the coarse counter's start, in `MCLK` periods
(R210), lagged temperature, whether it has moved in this second, learned offset (1/128 °C), the external sensor's attempts
and runs, and the cask time from which `SNS_TO` counts (R206 – R208). -/
structure CskG where
  base     : Nat
  tUse     : Rat
  tRun     : Bool
  lagged   : Bool
  tofs     : Rat
  tofsRun  : Nat
  attempts : Nat
  ext      : Option Int
  okRun    : Nat
  extAt    : Option Nat
  /-- Word 1 of the entry whose word 0 was read last, by the address of word 0, until it is read (R226). -/
  latch    : Option (Nat × Nat)
  deriving DecidableEq, Repr, Inhabited

/-- An empty accumulation. -/
def SecAcc.zero : SecAcc := ⟨0, 0, 0, 0, 0, 0, 0, 0, false, false, false, 0⟩

/-- A fit at nothing. -/
def Fit.zero : Fit := ⟨[0, 0, 0, 0], [], [], false, false⟩

/-- An unlisted cask: as power-on finds it, a clear waiting (R221). -/
def Cask.idle : Cask :=
  { cur := SecAcc.zero, opn := [], ringS := [], ringM := [], ringH := [], bins := [], sums := [], openM := [], openH := [],
    holdM := ⟨0, 0, 0⟩, holdH := ⟨0, 0, 0⟩, fit := Fit.zero, epoch := 0, clear := true }

/-- What a job leaves for the commit beside the pending bank: a register field outside it to write, a sticky bit to
set, a saturating count, an observation counter to advance, a journal record (R362) to complete with its outcome, a
record for a ring (R20), and what a packet servo job has made of group `g`: its first `n` exchanges are used up, of a grandmaster;
the path delays kept, the epoch, the record count. -/
inductive Ev where
  | put (f : Fld) (v : Nat)
  | raise (f : Fld)
  | count (f : Fld) (n : Nat)
  | obs (k n : Nat)
  | journal (record : List Nat) (outcome : Nat)
  | post (ring : Nat) (words : List Nat)
  | servo (g n : Nat) (gm : Option Nat) (mpds : List Rat) (epoch : Option Int) (seq : Nat)
  deriving DecidableEq, Repr

/-- One of the two banks of R26: the committed register fields, the slots, the channels, the time scales whose rate update is done
for the tick, and what the commit will set. Owners: 0–11 a channel, 12–15 a time scale, 16 + n slot n, 104 + c an export of channel c,
116 + g a snapshot of group g. -/
structure Bank where
  regs : Tab Nat
  qul  : Tab QSlot
  chan : Tab Chan
  ts   : List Nat
  evs  : List (Nat × Ev)
  deriving DecidableEq, Repr, Inhabited

end Sys2Proof.Machine
end

