-- ==== Sys2Proof/Machine/TypesOut.lean ====
section
/-!
DEFINITION. The state SYN holds beside its registers: the analogue PLLs, the XO follower, and the outputs
(R229 – R253).
-/
namespace Sys2Proof.Machine

/-- An analogue PLL (R229 – R233). -/
structure Apll where
  /-- The ratio in force, in 2^-64 (R232). -/
  nEff  : Nat
  /-- Phase added to the feedback divider, in 2^-16 VCO periods, and the part below that not yet added. -/
  phase : Int
  frac  : Rat
  /-- `PH` and φ_out of the bound channel as last steered, and the frequency word in use; the difference a SYN reset left, in 62.5 fs (R250). -/
  lastPh : Int
  lastX  : Int
  fw    : Int
  owe   : Rat
  /-- Tuning code of the last calibration (R255), and the detector settings: `LD_WIN` and `LD_CNT` as one word. -/
  tune  : Nat
  ld    : Nat
  /-- Coarse count at which CAL or ACQ was entered, or the search began (R233). -/
  since : Nat
  deriving DecidableEq, Repr, Inhabited

/-- What a tense action or a host write asks of an output (R251, R237, R239). -/
inductive OutAct where
  /-- Add to `OUT_PHASE`, or take the phase a host wrote. -/
  | phaseAdd (d : Int)
  | phaseTo (v : Int)
  | gateOff
  | gateOn
  /-- Reload the divider from set A (false) or B. -/
  | reload (b : Bool)
  deriving DecidableEq, Repr, Inhabited

/-- What an output's driver does. -/
inductive Drive where
  | unpowered | static | active
  deriving DecidableEq, Repr, Inhabited

/-- What one leg of an output's pair is driven to. -/
inductive Leg where
  | low | high | hiZ
  deriving DecidableEq, Repr, Inhabited

/-- An output (R235 – R253). -/
structure Out where
  /-- The policy of R248 has been met since the output was armed; cause HO and the alignment error, as last seen. -/
  met   : Bool
  ho    : Bool
  bad   : Bool
  /-- |`AERR`| was below `ALIGN_LIM` at the last update. -/
  good  : Bool
  drive : Drive
  /-- Phase offset and set in use, the delay `TRIM` moves toward and the delay in force, ps (R239, R250). -/
  phase : Int
  setB  : Bool
  trimTo : Int
  trim  : Int
  /-- Target of `ATRIM`, and the alignment differences not yet averaged, in 62.5 fs (R244). -/
  atrimTo : Int
  diffs : List Rat
  /-- Actions waiting for a period boundary at or after a coarse count, oldest first, with the journal record of a
  tense action (R362). -/
  acts  : List (OutAct × Nat × List Nat)
  /-- Value of the time scale when the last cause or gate cleared, and the epoch instant of the first edge after it,
  both in 2^-48 ns (R243). -/
  clearAt : Nat
  edge  : Rat
  /-- The last phase step omitted its edge (R251). -/
  omitted : Bool
  /-- The changes of `PWIDTH` that a pulse in progress may have begun before, oldest first: the coarse count of each and the width
  until then (R238). -/
  widths : List (Nat × Nat)
  deriving DecidableEq, Repr, Inhabited

/-- SYN's internal state. The XO follower keeps its prediction of the XO's reading less the device time, in 62.5 fs,
its frequency integrator in 2^-64, and the ticks its error has stayed below 1 ns (R231). -/
structure Syn where
  apll  : Tab Apll
  out   : Tab Out
  xoRun : Bool
  xoZ   : Rat
  xoInt : Int
  xoT   : Nat
  deriving DecidableEq, Repr, Inhabited

/-- An unlisted APLL and output. -/
def Apll.idle : Apll := ⟨0, 0, 0, 0, 0, 0, 0, 0, 0, 0⟩
def Out.idle : Out :=
  { met := false, ho := false, bad := false, good := false, drive := .unpowered, phase := 0, setB := false, trimTo := 0, trim := 0,
    atrimTo := 0, diffs := [], acts := [], clearAt := 0, edge := 0, omitted := false, widths := [] }

end Sys2Proof.Machine
end

