-- ==== Sys2Proof/Machine/TypesNet.lean ====
section
/-!
DEFINITION. The state ETH, PTP, CJL and TNS hold beside their registers, what their commands carry, and what they send.
Times on a scale are exact nanoseconds.
-/
namespace Sys2Proof.Machine

/-! ## Packet ports and sessions (chapter of packet timing) -/

/-- A clock dataset as Announce carries it: grandmaster fields, identity, steps removed, UTC offset. -/
structure Dset where
  prio1 : Nat
  cls   : Nat
  acc   : Nat
  prio2 : Nat
  var   : Nat
  tsrc  : Nat
  /-- leap61, leap59, currentUtcOffsetValid, ptpTimescale, timeTraceable, frequencyTraceable, from bit 0. -/
  flags : Nat
  gmId  : Nat
  steps : Nat
  utc   : Nat
  deriving DecidableEq, Repr, Inhabited

/-- A PTP message the engine sends. Times in 2^-48 ns; a grant type is 0 Announce, 1 Sync, 2 Delay_Resp. -/
inductive PtpOut where
  | sync (seq : Nat) (twoStep : Bool) (origin : Nat)
  | followUp (seq origin : Nat)
  | delayReq (seq : Nat)
  | delayResp (seq recv reqId reqPort : Nat) (corr : Int)
  | announce (seq : Nat) (ds : Dset)
  | request (type : Nat) (logInt : Int) (dur : Nat)
  | grant (type : Nat) (logInt : Int) (dur : Nat)
  | cancel (type : Nat)
  | ackCancel (type : Nat)
  deriving DecidableEq, Repr, Inhabited

/-- What the device sends by the present command. -/
inductive Wire where
  /-- A host frame on a port. -/
  | frame (port : Nat) (bytes : List Byte)
  /-- An ESMC PDU: event or information, SSM code, enhanced code when the TLV is present. -/
  | esmc (port : Nat) (event : Bool) (code : Nat) (ext : Option Nat)
  /-- A PTP message of a session. -/
  | ptp (sess port : Nat) (m : PtpOut)
  /-- A frame and an echo marker on a Conjunction Link. -/
  | link (k : Nat) (bytes : List Byte)
  | marker (k : Nat)
  /-- A read transaction of the sensor I²C master (R206): address, pointer byte, at 400 kHz. -/
  | sensor (addr ptr : Nat) (fast : Bool)
  deriving DecidableEq, Repr, Inhabited

/-- The header of a received PTP message: sender's clockIdentity, portNumber, sequenceId, correctionField in 2^-16 ns. -/
structure PtpHdr where
  id   : BitVec 64
  port : BitVec 16
  seq  : BitVec 16
  corr : BitVec 64
  deriving DecidableEq, Repr, Inhabited

/-- A PTP timestamp: 48-bit seconds and nanoseconds. -/
structure PtpTime where
  sec : BitVec 48
  ns  : BitVec 32
  deriving DecidableEq, Repr, Inhabited

/-- An instant as the PCS measures it: the point at the inner reference in 62.5 fs units, and the variable part of the
path in 1/64 UI (R276). -/
structure PcsTime where
  t   : Nat
  var : Nat
  deriving DecidableEq, Repr, Inhabited

/-- One TLV of unicast negotiation (R301). -/
inductive NegTlv where
  | request (type : Fin 3) (logInt : BitVec 8) (dur : BitVec 32)
  | grant (type : Fin 3) (logInt : BitVec 8) (dur : BitVec 32)
  | cancel (type : Fin 3)
  | ackCancel (type : Fin 3)
  deriving DecidableEq, Repr, Inhabited

/-- The content of a received Announce. -/
structure AnnMsg where
  hdr   : PtpHdr
  prio1 : BitVec 8
  cls   : BitVec 8
  acc   : BitVec 8
  prio2 : BitVec 8
  var   : BitVec 16
  tsrc  : BitVec 8
  flags : BitVec 6
  gmId  : BitVec 64
  steps : BitVec 16
  utc   : BitVec 16
  deriving DecidableEq, Repr, Inhabited

/-- A received message that matches a session. -/
inductive PtpIn where
  | sync (h : PtpHdr) (twoStep : Bool) (origin : PtpTime) (at_ : PcsTime)
  | followUp (h : PtpHdr) (origin : PtpTime)
  | delayReq (h : PtpHdr) (at_ : PcsTime)
  | delayResp (h : PtpHdr) (recv : PtpTime) (reqId : BitVec 64) (reqPort : BitVec 16)
  | announce (m : AnnMsg)
  | signaling (l : List NegTlv)
  deriving DecidableEq, Repr, Inhabited

/-- A Sync taken by a SLAVE (R300): sequenceId, t2 on the port's scale and on the device time base (ns), the side of
the scale's step it lies on, t1 once known, the correction, and the coarse count of its arrival. -/
structure SyncX where
  seq  : Nat
  t2   : Rat
  b2   : Rat
  side : Bool
  t1   : Option Rat
  c    : Rat
  since : Nat
  deriving DecidableEq, Repr, Inhabited

/-- A Delay_Req sent: sequenceId, t3, its side, the latest Sync before it, t4 once known, the correction, and the coarse
count of its sending. -/
structure DreqX where
  seq  : Nat
  t3   : Rat
  side : Bool
  sy   : Option SyncX
  t4   : Option Rat
  c    : Rat
  since : Nat
  deriving DecidableEq, Repr, Inhabited

/-- A unicast grant held or given: type, the coarse count at which it ends, and its length in coarse counts (R301). -/
structure Grant where
  type : Nat
  till : Nat
  dur  : Nat
  deriving DecidableEq, Repr, Inhabited

/-- A session beside its context words (R298 – R304). -/
structure Sess where
  /-- The engine has read the context; words 0–10 as it read them. -/
  on     : Bool
  w      : List Nat
  /-- Token bucket, in 1/(2·10^9) of a token, and the coarse count it stood at. -/
  lvl    : Nat
  lvlAt  : Nat
  /-- Message contexts, newest first, and the latest Sync. -/
  syncs  : List SyncX
  dreqs  : List DreqX
  last   : Option SyncX
  grants : List Grant
  /-- Grant types asked for and not answered, with the coarse count of the last request. -/
  asks   : List (Nat × Nat)
  /-- Ticks of the last confirmed success and Announce receipt timeout. -/
  okTick : Option Nat
  toTick : Option Nat
  /-- Coarse counts from which `SESS_TO` and the Announce budget run, time in reset-shadow added (R299, R304, R311), and the tick in
  which the session's own timeout was captured. -/
  okAt   : Nat
  annAt  : Nat
  lostTick : Option Nat
  deriving DecidableEq, Repr, Inhabited

/-- An exchange accepted by a contributing member (R307): v, offset and path delay, ns. -/
structure GrpX where
  v   : Rat
  ofs : Rat
  mpd : Rat
  deriving DecidableEq, Repr, Inhabited

/-- A session group (R307 – R310): grandmaster, epoch in s once latched, path delays of the last 64 used exchanges,
exchanges of the tick, record count, tick of the last loss report, and the coarse counts from which `MISS_TO` and `GMHOLD` run,
time in reset-shadow added. -/
structure Grp where
  gm    : Option Nat
  epoch : Option Int
  mpds  : List Rat
  got   : List GrpX
  seq   : Nat
  lossTick : Option Nat
  usedAt : Nat
  holdAt : Nat
  deriving DecidableEq, Repr, Inhabited

/-- The PTP engine. -/
structure Ptp where
  /-- Context words: key `session * 64 + word`. -/
  mem   : Tab Nat
  sess  : Tab Sess
  grp   : Tab Grp
  /-- The aggregate bucket, as a session's; event messages admitted in the open second; a comparison is due (R305). -/
  lvl   : Nat
  lvlAt : Nat
  evts  : Nat
  bmca  : Bool
  deriving DecidableEq, Repr, Inhabited

def Sess.idle : Sess :=
  { on := false, w := [], lvl := 0, lvlAt := 0, syncs := [], dreqs := [], last := none, grants := [], asks := [], okTick := none,
    toTick := none, okAt := 0, annAt := 0, lostTick := none }
def Grp.idle : Grp := ⟨none, none, [], [], 0, none, 0, 0⟩

/-- ETH beside its registers: token buckets of host-bound frames in 1/(2·10^9) of a bit with the coarse count they
stood at, codes last sent, SerDes words in force and as written (R294, R292, R314). -/
structure Eth where
  lvl   : Tab (Option Nat)
  lvlAt : Tab Nat
  sent  : Tab (Option (Nat × Option Nat))
  /-- Tick of a port's last valid ESMC PDU (R312), and the coarse count from which the 5 s of R291 run, time in reset-shadow
  added. -/
  esmcTick : Tab (Option Nat)
  esmcAt : Tab Nat
  serdes : Tab Nat
  written : Tab Nat
  deriving DecidableEq, Repr, Inhabited

/-! ## Conjunction Links -/

/-- An exchange outstanding at the initiating end: `ESEQ`, t1 and its side of the scale's step, t4 once the response
marker has come (an unstamped one has none), its side, whether a marker has been matched to it, the coarse count of t1, and
whether a reset-shadow of CJL or of the vernier bank stood when it was sent. -/
structure EchoX where
  eseq  : Nat
  t1    : Rat
  side1 : Bool
  t4    : Option Rat
  side4 : Bool
  seen  : Bool
  since : Nat
  shadow : Bool
  deriving DecidableEq, Repr, Inhabited

/-- A request marker at the answering end: t2 if stamped, its side, a reset-shadow at it, t3 and its side once the
response is inserted, the request's `ESEQ` once its frame has come, and a wrong number of markers before that frame. -/
structure EchoR where
  t2    : Option Rat
  side2 : Bool
  shadow : Bool
  t3    : Option Rat
  side3 : Bool
  eseq  : Option Nat
  wrong : Bool
  /-- The request frame has come; an extra marker has no `ESEQ`. -/
  met   : Bool
  deriving DecidableEq, Repr, Inhabited

/-- An ECHO_RSP waiting for its slot. -/
structure EchoRsp where
  eseq   : Nat
  status : Nat
  rmc    : Nat
  t2     : Nat
  turn   : Nat
  deriving DecidableEq, Repr, Inhabited

/-- A FLOOD waiting: origin, sequence, code, hops, detection time. -/
structure Flood where
  origin : Nat
  seq    : Nat
  code   : Nat
  hops   : Nat
  at_    : Nat
  deriving DecidableEq, Repr, Inhabited

/-- A TENSE frame waiting: origin, sequence, scope left, entry words. -/
structure TenseF where
  origin : Nat
  tseq   : Nat
  scope  : Nat
  words  : List Nat
  deriving DecidableEq, Repr, Inhabited

/-- A link's state (R320 – R340). -/
structure Link where
  fseq   : Nat
  /-- Slots since the last TIME frame sent, since the last IDENT, and since the last request (1023 before the first). -/
  sinceT : Nat
  sinceI : Nat
  sinceR : Nat
  rsps   : List EchoRsp
  reqs   : List Nat
  floods : List Flood
  tenses : List TenseF
  /-- Initiating end: next `ESEQ`, exchanges outstanding, oldest first, count of response markers, last 16 results
  newest first (d and theta, ns), completed in a row, voids in a row toward the budget, a retry is due, a give-up is due. -/
  eseq   : Nat
  out    : List EchoX
  rmc    : Nat
  done   : List (Rat × Rat)
  run    : Nat
  budget : Nat
  retry  : Bool
  giveUp : Bool
  /-- Ticks of the last completed exchange, and of the last give-up or entry to DEGRADED. -/
  doneTick : Option Nat
  badTick  : Option Nat
  /-- Coarse count from which `TL_TO` runs, time in CJL's reset-shadow added (R334, R341), and the tick in which its expiry was
  captured. -/
  doneAt   : Nat
  lostTick : Option Nat
  /-- The mean `HOP_D` moves toward, and the return delay in force, ns. -/
  hopTo  : Rat
  hop    : Rat
  /-- Answering end: request markers, oldest first; response markers inserted. -/
  marks  : List EchoR
  sentM  : Nat
  /-- A TIME frame has come within 64 slots; the coarse count of the last; the peer's root. -/
  timeOk : Bool
  timeAt : Nat
  root   : Nat
  /-- The role conflict and the tie stand. -/
  roleBad : Bool
  tie    : Bool
  deriving DecidableEq, Repr, Inhabited

def Link.idle : Link :=
  { fseq := 0, sinceT := 0, sinceI := 0, sinceR := 1023, rsps := [], reqs := [], floods := [], tenses := [], eseq := 0, out := [], rmc := 0, done := [],
    run := 0, budget := 0, retry := false, giveUp := false, doneTick := none, badTick := none, doneAt := 0, lostTick := none, hopTo := 0, hop := 0, marks := [],
    sentM := 0, timeOk := false, timeAt := 0, root := 0, roleBad := false, tie := false }

/-- The Conjunction engine: links, mailbox words (key as the indirect address), own flood count, floods seen. -/
structure Cjl where
  link  : Tab Link
  mail  : Tab Nat
  flseq : Nat
  seen  : List (Nat × Nat)
  deriving DecidableEq, Repr, Inhabited

/-! ## The tense table -/

/-- An EVT pin driven by TNS: its level, the level between actions, whether a pulse runs, and the coarse count of its trailing
edge. -/
structure EvtPin where
  level : Bool
  base  : Bool
  pulse : Bool
  till  : Nat
  deriving DecidableEq, Repr, Inhabited

/-- The tense table: entries by index, eight words each; coarse count until which `BUSY` reads 1; coarse count of the last
accepted domain insert; pins. -/
structure Tns where
  entry  : Tab (List Nat)
  busyTo : Nat
  lastDom : Option Nat
  pin    : Tab EvtPin
  /-- Phase adjustments set by tense actions of the present tick, by channel (R196). -/
  padj   : List (Nat × Nat)
  deriving DecidableEq, Repr, Inhabited

def EvtPin.idle : EvtPin := ⟨false, false, false, 0⟩

/-! ## Requests of the PCIe endpoint -/

/-- A request of the PCIe endpoint: a function's read or write of dwords at a BAR with the byte lanes of its first and
last dword (R374), or a mask bit of the MSI-X table (R392). -/
inductive PcieReq where
  | read  (pf1 bar2 : Bool) (addr : BitVec 22) (dwords : Fin 129) (first last : Fin 16)
  | write (pf1 bar2 : Bool) (addr : BitVec 22) (data : List Word) (first last : Fin 16)
  | mask  (vector : Fin 32) (masked : Bool)
  deriving DecidableEq, Repr, Inhabited


end Sys2Proof.Machine
end

