-- ==== Sys2Proof/Syntax.lean ====
section
/-!
DEFINITION. The commands the device takes from outside and the events that come about in it: one constructor per row of
the table of operations and events, in its order. The table gives a row no operands; each constructor carries what the
rules of its row read from outside (log entry 1). Instants and lengths of time count 62.5 fs unless a docstring says otherwise.
-/
namespace Sys2Proof
open Machine

/-- A command or event. -/
inductive Instr where
  /-- POWER_ON_RESET (R442): A monitored rail enters or leaves its range, which holds the device in a power-on reset that
  has every effect of power-on. -/
  | powerOnReset
  /-- POWER_ON_RESET_END (R442): Every monitored rail has stayed in range for 2 ms, so the power-on reset ends. The straps
  are read as the reset ends. -/
  | powerOnResetEnd (bootSel : Fin 4) (spiSec testMode : Bool)
  /-- RESET_N_ASSERT (R452): RESET_N is held low for at least 1 µs; outputs go high impedance and the internal reset is
  held. -/
  | resetNAssert
  /-- RESET_N_RELEASE (R450): RESET_N rises; the internal reset ends at the later of this edge and the end of power-on
  reset. The straps are read as the reset ends. -/
  | resetNRelease (bootSel : Fin 4) (spiSec testMode : Bool)
  /-- OSCIN_DETECTION_DONE (R446): After 100 µs of measurement SYS chooses the matching OSC_CODE or sets DET_FAIL. `hz` is
  the measured frequency. -/
  | oscinDetectionDone (hz : Nat)
  /-- OSC_SEL_WRITE (R447): A privileged write of OSC_SEL while DET_FAIL reads 1 starts the MPLL on that code; at other
  times it is ignored. -/
  | oscSelWrite (w : HostWrite)
  /-- MPLL_LOCK (R447): The MPLL locks; HCLK moves to it without a glitch and the coarse counter and time scales start at
  that edge. -/
  | mpllLock
  /-- MPLL_LOCK_TIMEOUT (R447): The MPLL has not locked within 2 ms on the chosen code, so the device stays on the boot
  clock. -/
  | mpllLockTimeout
  /-- OSCIN_LOSS (R448): No OSCIN edge for 500 ns clears OSC_OK and MPLL_LOCK while the MPLL holds its tuning. -/
  | oscinLoss
  /-- OSCIN_RESTORE (R448): After 1 ms of OSCIN edges OSC_OK is set again and the MPLL relocks without a step. -/
  | oscinRestore
  /-- PERST_N_ASSERT (R453): PERST_N resets the PCIe endpoint and every HIF field and has no other effect. -/
  | perstNAssert
  /-- SYS_BLOCK_RESET_WRITE (R454): A privileged write to SYS_BRST requests a reset of a block or sub-unit at the next
  tick boundary. -/
  | sysBlockResetWrite (w : HostWrite)
  /-- BLOCK_RESET_START (R406): A requested host or reaction reset starts at a tick boundary and holds its target in
  reset. -/
  | blockResetStart (u : Fin 24)
  /-- BLOCK_RESET_RELEASE (R406): After 3 ticks the reset target is released, its RST_S is set and its reset-shadow
  continues. -/
  | blockResetRelease (u : Fin 24)
  /-- RESET_SHADOW_END (R413): 64 ticks after release the block leaves reset-shadow and consumers stop masking its records
  and fault lines. -/
  | resetShadowEnd (u : Fin 24)
  /-- PD_EN_WRITE (R444): A write of SYS_PD_EN switches power domains on or off. -/
  | pdEnWrite (w : HostWrite)
  /-- DOMAIN_RAMP_DONE (R445): A domain switched on finishes its ramp within 250 µs and RAMP clears. -/
  | domainRampDone (d : Fin 16)
  /-- DOMAIN_RELEASE (R445): At the next tick boundary after the ramp the domain's logic leaves reset, with a reset-shadow
  where the table gives one. -/
  | domainRelease (d : Fin 16)
  /-- OUT_BANK_SUPPLY_CHANGE (R443): An output bank supply leaves the band of its latched class, clears SUP_PGOOD, sets
  SUP_S and turns its outputs OFF. -/
  | outBankSupplyChange (bank : Fin 3) (mv : Nat)
  /-- OUT_BANK_CLASS_LATCH (R443): An output bank supply that has stayed 2 ms within a band latches that class. -/
  | outBankClassLatch (bank : Fin 3)
  /-- DIE_TEMP_READ (R456): Every 1 ms SYS reads the die sensor and raises or clears TALARM against T_HI. -/
  | dieTempRead (t : BitVec 16)
  /-- REF_BANK_SUPPLY_CHANGE (R74): A REFIN bank supply leaves its latched band, clearing PGOOD and setting PFAIL_S, or
  falls below 1.62 V and loses its class. -/
  | refBankSupplyChange (bank : Fin 4) (mv : Nat)
  /-- REF_BANK_CLASS_LATCH (R74): A REFIN bank supply that has stayed 2 ms within a band latches that class. -/
  | refBankClassLatch (bank : Fin 4)
  /-- LEVEL_LOSS (R75): An input whose swing stays below V_LOS for 1 µs clears LEVEL_OK and delivers no edges. -/
  | levelLoss (n : Fin 32)
  /-- LEVEL_RESTORE (R75): An input whose swing stays above V_LOS for 1 µs delivers edges again. -/
  | levelRestore (n : Fin 32)
  /-- REF_EDGE (R76): A reference edge passes the conditioning chain of receiver, polarity, glitch filter, pre-divider and
  monitors. The sources are those of log entry 1; `t` and `hold` count 62.5 fs. -/
  | refEdge (n : Fin 104) (t : Nat) (rise : Bool) (hold : Nat)
  /-- FREQ_WINDOW_GATE (R81): A clock-type slot's gate of 2^GATE ticks ends and its edge count is judged against the
  window. -/
  | freqWindowGate (n : Fin 56)
  /-- MISSING_EDGE (R82): No monitored edge has arrived by e + k·P + τ, so a missing edge is declared. -/
  | missingEdge (n : Fin 56)
  /-- PULSE_WIDTH_TIMEOUT (R84): No trailing edge by REF_PW_MAX + 1 MCLK periods, so the pulse record is formed with a
  saturated width. -/
  | pulseWidthTimeout (n : Fin 32)
  /-- TDL_SAMPLE_INSTANT (R91): A TDL lane reaches a sample instant, calibrates for 8 MCLK periods and arms to record the
  next edge. Instant `k` of the tick; `cal` is what the calibration measures. -/
  | tdlSampleInstant (l : Fin 64) (k : Fin 8) (cal : Cal)
  /-- TDL_RECORD_FORM (R90): 16 MCLK periods after a recorded edge the TDL lane forms the record and enters it in its lane
  queue. `raw` is the raw fine value of the captured edge. -/
  | tdlRecordForm (l : Fin 64) (raw : Nat)
  /-- VERNIER_CONVERSION_DONE (R92): A vernier lane completes its ring conversion and forms the record from the stop edge
  backward. The stop edge and the ring cycles before it. -/
  | vernierConversionDone (i : Fin 16) (sCoarse : Nat) (fall : Bool) (n : Nat)
  /-- VERNIER_CALIBRATION_DONE (R93): The 2.4 µs post-conversion calibration of a vernier lane completes and the lane
  accepts edges again. -/
  | vernierCalibrationDone (i : Fin 16) (cal : Cal)
  /-- LANE_TO_BANK_TRANSFER (R102): A lane queue moves a record into the shared bank queue in round-robin order once there
  is room. -/
  | laneToBankTransfer (l : Fin 80)
  /-- RECORD_DELIVERY (R101): The bank queue delivers a record to its consumer by KIND: loop engine, time engine or
  Conjunction Links. -/
  | recordDelivery
  /-- TICK_BOUNDARY (R26): At each tick boundary the pending and indicative banks swap in one operation and consumers take
  up the commit. -/
  | tickBoundary (inp : TickIn)
  /-- QUALIFY_JOB (R123): The qualify job evaluates a slot's conditions and makes its state transition for the tick. -/
  | qualifyJob (n : Fin 88)
  /-- STEEP_TIMER_EXPIRY (R123): A slot's steep timer reaches 0 with no condition and no shadow, and the slot becomes
  QUALIFIED. -/
  | steepTimerExpiry (n : Fin 88)
  /-- SREC_EXPIRY (R123): A SUSPECT slot with no condition for SREC seconds returns to QUALIFIED. -/
  | srecExpiry (n : Fin 88)
  /-- LOSS_TIMEOUT (R120): LOSS_TO passes after the last confirmed record, raising LOSS and disqualifying the slot with
  cause ACTIVITY. -/
  | lossTimeout (n : Fin 88)
  /-- QUL_FORCE_WRITE (R123): A host write of FORCE moves a slot into or out of FORCED at the next boundary. -/
  | qulForceWrite (n : Fin 88) (w : HostWrite)
  /-- QUL_HOST_DQ_WRITE (R113): A host write of HOST_DQ raises or clears the HOST_DQ hard condition. -/
  | qulHostDqWrite (n : Fin 88) (w : HostWrite)
  /-- QUL_WINDOW_WRITE (R132): A write of W0, W1, W2, DW or WW restarts that window at the next boundary. Register 0 holds
  W0 and W1, 1 holds W2 and DW, 2 holds WW. -/
  | qulWindowWrite (n : Fin 88) (i : Fin 3) (w : HostWrite)
  /-- DRIFT_INT_JOB (R118): The excess integrator runs at tick 0 and raises or clears EXCESS. -/
  | driftIntJob (n : Fin 88)
  /-- ADEV_JOB (R128): The Allan deviation job forms phase points and samples and updates the estimates. -/
  | adevJob (n : Fin 88)
  /-- SELECT_JOB (R142): The selection job forms the channel's estimate and makes the selector state transition for the
  tick. -/
  | selectJob (c : Fin 12)
  /-- TRANSITION_COMPLETE (R146): K reaches XLEN and the channel tracks the target with its build-out offset. -/
  | transitionComplete (c : Fin 12)
  /-- ABSORB_COMPLETE (R146): An absorbed build-out offset reaches 0 and ABSORBING clears. -/
  | absorbComplete (c : Fin 12)
  /-- FADE_COMPLETE (R151): A member's fade factor reaches 0 or 1. -/
  | fadeComplete (c : Fin 12) (j : Fin 8)
  /-- SEL_NAMED_SLOT_WRITE (R160): A write of PRIMARY or OVR_SLOT sets REQ_PEND and requests a switch to the named slot. -/
  | selNamedSlotWrite (c : Fin 12) (w : HostWrite)
  /-- SEL_LIST_WRITE (R162): A list write that removes the tracked slot or target starts a switch or NO_REF. -/
  | selListWrite (c : Fin 12) (i : Fin 4) (w : HostWrite)
  /-- SEL_BIAS_WRITE (R161): A host write of BIAS sets a new raw weight formed in the next tick. -/
  | selBiasWrite (c : Fin 12) (i : Fin 4) (w : HostWrite)
  /-- FILTER_JOB (R172): The filter job forms the phase error and updates integrator and words under the slope limits. -/
  | filterJob (c : Fin 12)
  /-- LOCK_TIMER_EXPIRY (R180): |e| has stayed below LOCK_PH for LOCK_T seconds of updates, so the channel becomes LOCKED. -/
  | lockTimerExpiry (c : Fin 12)
  /-- LPE_PADJ_WRITE (R178): A host write of PADJ sets the phase target toward which PH moves. -/
  | lpePadjWrite (c : Fin 12) (w : HostWrite)
  /-- HOLDOVER_PREVIEW_JOB (R188): The holdover preview job starts, refreshes or cancels the channel's holdover preview. -/
  | holdoverPreviewJob (c : Fin 12)
  /-- TS_RATE_UPDATE_JOB (R261): The rate update job sets the time scale's increment for the coming tick from FW and the
  PH change. -/
  | tsRateUpdateJob (k : Fin 4)
  /-- PACKET_SERVO_JOB (R308): The packet servo forms a group's packet record from the exchanges that pass its gate. -/
  | packetServoJob (g : Fin 32)
  /-- CASK_JOB (R202): The cask history and model job closes open one-second accumulations and updates rings and fit. -/
  | caskJob (c : Fin 12)
  /-- WINDOW_EXPORT_JOB (R387): The export job writes one export record per target channel. -/
  | windowExportJob (c : Fin 12)
  /-- COUNTER_SNAPSHOT_JOB (R436): The snapshot job writes a group's eight counters latched at B + 8 ns to the SAMPLE
  ring. -/
  | counterSnapshotJob (g : Fin 256)
  /-- SAMPLE_RECORD_JOB (R183): The sample record export job runs from the slot schedule. -/
  | sampleRecordJob (i : Fin 256)
  /-- SENSOR_READ (R206): At tick 0 the cask reads the die sensor and starts an external sensor I²C transaction. -/
  | sensorRead
  /-- SENSOR_READ_DONE (R207): An external sensor transaction completes and the reading is accepted or rejected. `v` is
  the word the sensor returned. -/
  | sensorReadDone (v : BitVec 16)
  /-- SENSOR_ATTEMPT_TIMEOUT (R207): A sensor read not acknowledged or not complete within 2 ms is retried, up to three
  attempts. -/
  | sensorAttemptTimeout
  /-- SENSOR_TIMEOUT (R207): SNS_TO expires after the last accepted reading and the cask falls back to the die sensor. -/
  | sensorTimeout
  /-- TOFS_LEARNED (R208): After 1 h of averaging TOFS_OK reads 1. -/
  | tofsLearned
  /-- HO_LIMIT_REACHED (R218): Time in HOLDOVER reaches HO_LIMIT and HOLIM_S is set. -/
  | hoLimitReached (c : Fin 12)
  /-- CASK_CLEAR_WRITE (R221): A privileged write of a CLEAR bit requests a cask clear at the next tick 0. -/
  | caskClearWrite (w : HostWrite)
  /-- CASK_CLEAR (R221): At tick 0 the channel's cask entries, bins and fit are cleared and GRADE becomes 0. -/
  | caskClear (c : Fin 12)
  /-- APLL_BAND_FOUND (R233): The band search of an APLL in CAL finds a band and the APLL enters ACQ. -/
  | apllBandFound (m : Fin 4) (band : Fin 128) (tune : Fin 65536)
  /-- APLL_CAL_TIMEOUT (R233): No band found within 3 ms restarts the search and sets CALFAIL_S. -/
  | apllCalTimeout (m : Fin 4)
  /-- APLL_LOCK_DETECT (R233): Detector error below LD_WIN for LD_CNT cycles makes the APLL LOCKED. -/
  | apllLockDetect (m : Fin 4)
  /-- APLL_ACQ_TIMEOUT (R233): An APLL not LOCKED 2 ms after entering ACQ returns to CAL. -/
  | apllAcqTimeout (m : Fin 4)
  /-- APLL_UNLOCK_DETECT (R233): Detector error at or above 8 × LD_WIN in 4 cycles returns the APLL to ACQ. -/
  | apllUnlockDetect (m : Fin 4)
  /-- XO_LOSS (R234): No XO edge for 100 ns clears XO_OK, holds APLLs in CAL and squelches outputs. -/
  | xoLoss
  /-- XO_RESTORE (R234): After 1 ms of XO edges XO_OK is set again. -/
  | xoRestore
  /-- XF_LOCK (R231): The follower's phase error has stayed below 1 ns for 1 s and XF_LOCK reads 1. -/
  | xfLock
  /-- SQ_CAUSE_CHANGE (R246): A squelch cause bit of an output is set or cleared and the output changes state. -/
  | sqCauseChange (j : Fin 24)
  /-- OUTPUT_SQUELCH_ENTRY (R249): An output completes its phase in progress and holds SQ_LEVEL from its next transition.
  `inPulse`: the phase in progress is the active one. -/
  | outputSquelchEntry (j : Fin 24) (inPulse : Bool)
  /-- OUTPUT_START (R249): An output leaves squelch or gating with a full-width first phase, time-aligned outputs on their
  epoch grid. -/
  | outputStart (j : Fin 24)
  /-- SQ_FORCE_WRITE (R247): A write of SYN_SQ_FORCE sets or clears cause HOST. -/
  | sqForceWrite (w : HostWrite)
  /-- OUT_GO_WRITE (R248): A write of SYN_OUT_GO meets the host condition of POLICY 3. -/
  | outGoWrite (w : HostWrite)
  /-- OUT_SET_WRITE (R237): A host write of SET changes the output's divider set. -/
  | outSetWrite (j : Fin 24) (w : HostWrite)
  /-- OUT_PHASE_WRITE (R239): A host write of OUT_PHASE is applied as a phase step. -/
  | outPhaseWrite (j : Fin 24) (w : HostWrite)
  /-- OUT_TRIM_WRITE (R239): A write of TRIM moves the delay toward the new value by 1 ps per tick. -/
  | outTrimWrite (j : Fin 24) (w : HostWrite)
  /-- ALIGN_UPDATE (R244): After ALIGN_N feedback records the alignment unit writes AERR and moves the ATRIM target. -/
  | alignUpdate (j : Fin 24)
  /-- OUTPUT_PHASE_STEP (R251): A tense phase step moves the output's due edge at its period boundary. -/
  | outputPhaseStep (j : Fin 24)
  /-- OUTPUT_GATE_OFF (R251): A tense gate off completes the cycle and holds SQ_LEVEL at the period boundary. -/
  | outputGateOff (j : Fin 24)
  /-- OUTPUT_GATE_ON (R251): A tense gate on gives the first active edge at the period boundary. -/
  | outputGateOn (j : Fin 24)
  /-- DIVIDER_RELOAD (R251): A tense divider reload makes the due edge the last at the old ratio. -/
  | dividerReload (j : Fin 24)
  /-- TIME_STEP_GO_WRITE (R265): A privileged write of GO arms the step of a time scale, or is rejected when the right is
  spent. -/
  | timeStepGoWrite (k : Fin 4) (w : HostWrite)
  /-- TIME_STEP_APPLY (R265): At TCK edge S the delta is added to the counter, STEPPED set and the step right disarmed. -/
  | timeStepApply (k : Fin 4)
  /-- RATE_ADJ_DUR_WRITE (R268): A host write of DUR requests a rate adjustment from the next tick boundary. -/
  | rateAdjDurWrite (k : Fin 4) (w : HostWrite)
  /-- RATE_ADJ_START (R268): A requested rate adjustment starts at its tick boundary and replaces any running one. -/
  | rateAdjStart (k : Fin 4)
  /-- RATE_ADJ_DONE (R268): After DUR ticks the rate adjustment ends and RADJ_S is set. -/
  | rateAdjDone (k : Fin 4)
  /-- UTC_COMMIT_WRITE (R269): A write of COMMIT applies the held UTC fields at the next tick boundary. -/
  | utcCommitWrite (k : Fin 4) (w : HostWrite)
  /-- UTC_APPLY (R269): The held UTC offset and leap fields take effect together at the tick boundary. -/
  | utcApply (k : Fin 4)
  /-- LEAP_SECOND (R270): The seconds field reaches LEAP_SEC and UTC_OFS changes by one with LEAP_S set. -/
  | leapSecond (k : Fin 4)
  /-- TIME_LATCH_READ (R272): A read of a time group's NS register latches the group, or all four scales with LATCH_ALL. -/
  | timeLatchRead (m : Master) (g : TimeGroup)
  /-- EVT_STAMP (R273): An EVT record is converted on its scale, written to the pin registers and placed on the EVENT
  ring. -/
  | evtStamp (i : Fin 16)
  /-- EVT_TIMEOUT (R274): A pin gives no stamp for EVT_TO ms and sets MISS_S. -/
  | evtTimeout (i : Fin 16)
  /-- TXQ_POP_READ (R279): A read of TME_TXQ_ID including byte 0 pops the oldest transmit-timestamp entry. -/
  | txqPopRead (m : Master) (p : Fin 16)
  /-- LINK_CHANGE (R287): A port's PCS lock or auto-negotiation changes LINK and sets LINK_S. -/
  | linkChange (p : Fin 16) (pcs an : Bool)
  /-- QUAD_TX_PLL_LOSS (R288): A quad's transmit PLL loses lock, its ports stop transmitting and QUAD_S is set. -/
  | quadTxPllLoss (q : Fin 4)
  /-- QUAD_TX_PLL_RELOCK (R288): The quad's transmit PLL regains lock and its ports transmit again. -/
  | quadTxPllRelock (q : Fin 4)
  /-- FRAME_RECEIVE (R293): A received frame is stamped and consumed by a session or ESMC or passed to the host ring.
  `bytes` are those before the FCS, `fcs` says that the FCS is good, `m` is the message of a session the frame holds. -/
  | frameReceive (p : Fin 16) (bytes : List Byte) (fcs : Bool) (t : PcsTime) (m : Option (Fin 512 × PtpIn))
  /-- ESMC_PDU_RECEIVE (R289): An ESMC PDU is read for its SSM and enhanced codes and sets ESMC_OK. -/
  | esmcPduReceive (p : Fin 16) (ssm : Fin 16) (ext : Option (Fin 256))
  /-- ESMC_TIMEOUT (R291): No valid PDU for 5 s clears ESMC_OK and sets the slot's rank to 15. -/
  | esmcTimeout (p : Fin 16)
  /-- ESMC_INFO_SEND (R292): At tick 0 of each second a port sends an ESMC information PDU. -/
  | esmcInfoSend (p : Fin 16)
  /-- ESMC_EVENT_SEND (R292): A changed code to be sent goes out in an event PDU at the next tick boundary. -/
  | esmcEventSend (p : Fin 16)
  /-- HOST_FRAME_TRANSMIT (R295): A FRAME_TX item leaves its port after PTP and ESMC traffic, or is refused. -/
  | hostFrameTransmit (t : PcsTime)
  /-- SESSION_ENABLE (R299): VALID changing from 0 to 1 makes the engine read the context and start the session. -/
  | sessionEnable (n : Fin 512)
  /-- SESSION_DISABLE (R299): VALID written 0 frees the session's contexts, cancels grants and makes it DISABLED. -/
  | sessionDisable (n : Fin 512)
  /-- SYNC_RECEIVE (R300): A SLAVE takes a Sync with its ingress stamp t2. -/
  | syncReceive (n : Fin 512) (h : PtpHdr) (twoStep : Bool) (origin : PtpTime) (t : PcsTime)
  /-- FOLLOW_UP_RECEIVE (R300): A SLAVE pairs a Follow_Up with its Sync for t1 and the correction. -/
  | followUpReceive (n : Fin 512) (h : PtpHdr) (origin : PtpTime)
  /-- DELAY_REQ_RECEIVE (R302): A MASTER answers a Delay_Req with a Delay_Resp carrying its ingress stamp. -/
  | delayReqReceive (n : Fin 512) (h : PtpHdr) (t : PcsTime)
  /-- DELAY_RESP_RECEIVE (R300): A SLAVE pairs a Delay_Resp with its Delay_Req and completes an exchange. -/
  | delayRespReceive (n : Fin 512) (h : PtpHdr) (recv : PtpTime) (reqId : BitVec 64) (reqPort : BitVec 16)
  /-- ANNOUNCE_RECEIVE (R304): An accepted Announce sets ANN_OK and updates the partner dataset. -/
  | announceReceive (n : Fin 512) (m : AnnMsg)
  /-- SIGNALING_RECEIVE (R301): A Signaling message with unicast negotiation TLVs is granted, refused or answered. -/
  | signalingReceive (n : Fin 512) (l : List NegTlv)
  /-- EXCHANGE_TIMEOUT (R300): A Follow_Up or Delay_Resp not arrived within 1 s rejects the exchange. -/
  | exchangeTimeout (n : Fin 512) (seq : BitVec 16) (dreq : Bool)
  /-- ANNOUNCE_RECEIPT_TIMEOUT (R304): The Announce budget runs out, clearing ANN_OK and setting ANN_TO_S. -/
  | announceReceiptTimeout (n : Fin 512)
  /-- SESSION_TIMEOUT (R299): SESS_TO elapses since the last confirmed success and the session becomes LOST. -/
  | sessionTimeout (n : Fin 512)
  /-- GRANT_RENEW (R301): A grant with a quarter remaining is renewed. -/
  | grantRenew (n : Fin 512) (type : Fin 3)
  /-- GRANT_RETRY (R301): A refused or unanswered grant request is repeated after 1 s and sets GRANT_S. -/
  | grantRetry (n : Fin 512) (type : Fin 3)
  /-- GRANT_EXPIRY (R301): All grants of a unicast MASTER expire and it returns to WAIT. -/
  | grantExpiry (n : Fin 512)
  /-- SYNC_SEND (R302): A MASTER sends a Sync at its interval, one-step or with a Follow_Up. -/
  | syncSend (n : Fin 512) (t : PcsTime)
  /-- ANNOUNCE_SEND (R306): A MASTER sends an Announce with the local or copied dataset. -/
  | announceSend (n : Fin 512)
  /-- DELAY_REQ_SEND (R300): A SLAVE sends a Delay_Req at its interval and takes its egress stamp t3. -/
  | delayReqSend (n : Fin 512) (t : PcsTime)
  /-- CONTEXT_EXPIRY (R303): A message context held for 1 s without completion is freed. -/
  | contextExpiry (n : Fin 512) (seq : BitVec 16) (dreq : Bool)
  /-- MISSING_EXCHANGE (R310): MISS_TO ms in ACTIVE without a used exchange makes a missing-exchange declaration. -/
  | missingExchange (g : Fin 32)
  /-- GMHOLD_EXPIRY (R310): GMHOLD seconds after a grandmaster change the group re-enters ACTIVE with a new epoch. -/
  | gmholdExpiry (g : Fin 32)
  /-- WORD_SYNC_GAIN (R320): 64 clean comma-aligned characters put the link in SYNC. -/
  | wordSyncGain (k : Fin 8)
  /-- WORD_SYNC_LOSS (R320): 16 errors within 320 characters return the link to NOSYNC and void outstanding exchanges. -/
  | wordSyncLoss (k : Fin 8)
  /-- CJL_FRAME_SLOT (R323): Each 1.024 µs frame slot carries the first waiting frame, or a TIME frame. -/
  | cjlFrameSlot (k : Fin 8)
  /-- TIME_FRAME_RECEIVE (R327): A TIME frame updates the peer's rank, depth and identity fields. -/
  | timeFrameReceive (k : Fin 8) (frame : List Byte)
  /-- TIME_FRAME_TIMEOUT (R327): No TIME frame for 64 slots sets the slot's rank to 15. -/
  | timeFrameTimeout (k : Fin 8)
  /-- ECHO_REQUEST_SEND (R329): The initiating end sends an /E/ and ECHO_REQ every ECHO_PER slots, stamping t1, or skips
  at 64 outstanding. `t` is the instant of the marker, in 62.5 fs. -/
  | echoRequestSend (k : Fin 8) (t : Nat)
  /-- ECHO_MARKER_RECEIVE (R330): The answering end stamps an arriving request /E/ as t2. -/
  | echoMarkerReceive (k : Fin 8)
  /-- ECHO_RESPONSE_INSERT (R330): At the first character boundary after t2 + 1 µs the answering end inserts a response
  /E/ stamped t3. `t` is the instant of the marker, in 62.5 fs. -/
  | echoResponseInsert (k : Fin 8) (t : Nat)
  /-- RESPONSE_MARKER_RECEIVE (R330): The initiating end stamps a response /E/ as t4 and matches it to its request. -/
  | responseMarkerReceive (k : Fin 8)
  /-- ECHO_RSP_RECEIVE (R332): An ECHO_RSP completes an exchange giving d and θ, or voids it. -/
  | echoRspReceive (k : Fin 8) (frame : List Byte)
  /-- ECHO_WAIT_TIMEOUT (R333): No ECHO_RSP within ECHO_WAIT µs of t1 voids the exchange. -/
  | echoWaitTimeout (k : Fin 8)
  /-- ECHO_RETRY (R334): After a non-excused void a retry request is sent at least 4 slots later. `t` is the instant of
  the marker, in 62.5 fs. -/
  | echoRetry (k : Fin 8) (t : Nat)
  /-- ECHO_GIVE_UP (R334): ECHO_RETRY + 1 consecutive voids make the end report to its time layer and set GIVEUP_S. -/
  | echoGiveUp (k : Fin 8)
  /-- TL_TIMEOUT (R334): TL_TO µs pass after the last completed exchange, clearing TL_OK. -/
  | tlTimeout (k : Fin 8)
  /-- FLOOD_RECEIVE (R338): A FLOOD on the uplink is handed to FLT and forwarded, or dropped as stray or repeat. -/
  | floodReceive (k : Fin 8) (frame : List Byte)
  /-- CJL_FLOOD_TX_WRITE (R338): A host write of CJL_FLOOD_TX originates a FLOOD with its code. -/
  | cjlFloodTxWrite (w : HostWrite)
  /-- TENSE_FRAME_RECEIVE (R339): A TENSE frame on the uplink is handed to TNS and queued downward, or dropped. -/
  | tenseFrameReceive (k : Fin 8) (frame : List Byte)
  /-- IDENT_RECEIVE (R328): An IDENT offer on the uplink assigns NODE_ID and range under ID_MODE 1. -/
  | identReceive (k : Fin 8) (frame : List Byte)
  /-- MAIL_SEND_WRITE (R340): Setting SEND transmits the transmit mailbox as a MAIL frame. -/
  | mailSendWrite (k : Fin 8) (w : HostWrite)
  /-- MAIL_RECEIVE (R340): A MAIL frame fills the receive mailbox and sets MAIL_S. -/
  | mailReceive (k : Fin 8) (frame : List Byte)
  /-- TNS_INSERT (R350): A write of TNS_INSERT.GO checks and stores the staged entry, reporting in TNS_INS_STAT within 2
  µs. `dur` is how long the insert takes (log entry 26). -/
  | tnsInsert (w : HostWrite) (dur : Fin 4001)
  /-- TNS_CANCEL_WRITE (R358): A write of TNS_CANCEL.INDEX removes a pending entry on this node. -/
  | tnsCancelWrite (w : HostWrite)
  /-- TENSE_FIRE (R355): At its firing edge F each due entry is handed to its target and leaves the table. -/
  | tenseFire (k : Fin 4)
  /-- EVT_PULSE_TRAILING (R355): An EVT pulse ends at T + width. -/
  | evtPulseTrailing (i : Fin 16)
  /-- HEADER_READ_DONE (R51): The single-bit read of a slot's 64-byte header completes and BAD_MAGIC and header checks are
  made. -/
  | headerReadDone (bytes : List Byte)
  /-- IMAGE_READ_DONE (R51): The quad read of the rest of the image completes. -/
  | imageReadDone (bytes : List Byte)
  /-- IMAGE_VERIFY_DONE (R48): The loader's checks complete with OK or the first failing result code. -/
  | imageVerifyDone
  /-- IMAGE_APPLY_DONE (R59): The apply step ends; a full load runs, or a swap is ARMED. -/
  | imageApplyDone
  /-- SWAP_BOUNDARY (R60): Every block swaps its configuration banks at the swap boundary with the state-bank swap. -/
  | swapBoundary
  /-- GLD_START_FULL (R59): START with MODE FULL begins a full load from SRAM or flash. -/
  | gldStartFull (m : Master) (src flashSlot : Bool)
  /-- GLD_START_SWAP (R60): START with MODE SWAP begins a live swap with the swap checks. -/
  | gldStartSwap (m : Master) (src flashSlot swapAt : Bool)
  /-- GLD_ABORT (R490): ABORT abandons a swap before its boundary or a load before its last check. -/
  | gldAbort (m : Master)
  /-- GLD_CONFIRM_WRITE (R52): A privileged write of CONFIRM confirms the running image and clears TRIES. -/
  | gldConfirmWrite (w : HostWrite)
  /-- ARB_ADVANCE_WRITE (R58): A write of GLD_ARB_ADV.TARGET starts advancing the anti-rollback counter, or is refused. -/
  | arbAdvanceWrite (w : HostWrite)
  /-- ARB_PROGRAM_DONE (R58): OTP programming of the counter completes and BUSY clears. -/
  | arbProgramDone
  /-- KEY_PROG_WRITE (R56): A PROG bit programs a blank key slot from the staging words, or is refused. -/
  | keyProgWrite (w : HostWrite)
  /-- KEY_REVOKE_WRITE (R57): A REVOKE bit revokes a key slot unless it is the last programmed one. -/
  | keyRevokeWrite (w : HostWrite)
  /-- SPI_WRITE (R372): SPI command 0x02 writes data words at advancing addresses. `cut`: a last word was cut short. -/
  | spiWrite (addr : Word) (words : List Word) (cut : Bool)
  /-- SPI_WRITE_FIXED (R372): SPI command 0x12 writes data words to one address. `cut`: a last word was cut short. -/
  | spiWriteFixed (addr : Word) (words : List Word) (cut : Bool)
  /-- SPI_READ (R372): SPI command 0x03 reads words with status bytes at advancing addresses. -/
  | spiRead (addr : Word) (n : Nat)
  /-- SPI_READ_FIXED (R372): SPI command 0x13 reads words with status bytes from one address. -/
  | spiReadFixed (addr : Word) (n : Nat)
  /-- SPI_READ_LAST (R372): SPI command 0x0F returns the master's last read result without a new access. -/
  | spiReadLast
  /-- SPI_STATUS (R372): SPI command 0x05 returns a status byte. -/
  | spiStatus
  /-- SPI_UNKNOWN_COMMAND (R372): Any other SPI command byte discards the frame with cause 4. -/
  | spiUnknownCommand
  /-- I2C_WRITE (R373): An I²C write transaction writes data words at advancing addresses. `dev` is the addressed device,
  `bytes` what follows. -/
  | i2cWrite (dev : BitVec 7) (bytes : List Byte)
  /-- I2C_READ (R373): An I²C read transaction reads words, stretching SCL until each access completes. -/
  | i2cRead (dev : BitVec 7) (abytes : List Byte) (n : Nat)
  /-- PCIE_REQUEST (R374): A PCIe request is split into 32-bit accesses or completed Unsupported Request. -/
  | pcieRequest (q : PcieReq)
  /-- REGISTER_WRITE (R8): A write to a register with no row of its own acts by its access type. -/
  | registerWrite (addr : Word) (w : HostWrite) (lost : Bool)
  /-- LOW_WORD_LATCH_READ (R377): A read of a _LO word loads the reading master's shadow of its _HI word. -/
  | lowWordLatchRead (m : Master) (addr : Word)
  /-- IND_ADDR_WRITE (R379): A write of IND_ADDR sets the indirect address and increment mode. -/
  | indAddrWrite (b : Fin 17) (w : HostWrite)
  /-- IND_DATA_READ (R380): A read of IND_DATA reads the word at ADDR and auto-increments. -/
  | indDataRead (m : Master) (b : Fin 17)
  /-- IND_DATA_WRITE (R380): A write of IND_DATA writes the word at ADDR and auto-increments. -/
  | indDataWrite (b : Fin 17) (w : HostWrite)
  /-- INDIRECT_COMPLETE (R380): An indirect access completes within 2 µs, releasing any stalled access. -/
  | indirectComplete (b : Fin 17)
  /-- RING_DOORBELL (R385): A doorbell makes the device take host-owned descriptors of FRAME_TX or IMAGE until OWN reads
  0. -/
  | ringDoorbell (w : HostWrite)
  /-- RING_ENABLE_WRITE (R386): A write of RING_EN starts a ring at index 0 or stops it after the item in progress. -/
  | ringEnableWrite (r : Fin 8) (w : HostWrite)
  /-- RING_ITEM_POST (R384): A device-to-host item is written to the descriptor at the index, or dropped. -/
  | ringItemPost (r : Fin 8) (port : Fin 16) (bytes : List Byte)
  /-- HOST_ITEM_COMPLETE (R385): A host-to-device item completes and its descriptor is returned with STATUS. A FRAME_TX
  item with its frame's instant, or the IMAGE item. -/
  | hostItemComplete (t : Option PcsTime)
  /-- FRAME_RX_RELEASE (R390): Held FRAME_RX items of a software-stamped port take the announcing edge stamp and are
  released. `e` is the `TCK` edge chosen; `tx` names source 105. -/
  | frameRxRelease (tx : Bool) (e : Nat)
  /-- EOI_WRITE (R392): A write of HIF_EOI resends the message of an asserted vector. -/
  | eoiWrite (w : HostWrite)
  /-- GRAVITY_BUCKET_ADVANCE (R400): A gravity window bucket of WIN × 62.5 µs ends and the oldest bucket leaves WCOUNT. -/
  | gravityBucketAdvance (src : Fin 128)
  /-- SEV_CLEAR_WRITE (R402): A host W1C of SEV re-arms a source unless it is live and at threshold. -/
  | sevClearWrite (b : Fin 17) (w : HostWrite)
  /-- CAPTURE_CLEAR_WRITE (R407): A write of 1 to V clears a first-source capture or the first-block latch. 17 names the
  first-block latch. -/
  | captureClearWrite (b : Fin 18) (w : HostWrite)
  /-- ESC_CLEAR_WRITE (R416): A W1C of a FLT_ESC bit lifts the suppression of a block's reaction resets. -/
  | escClearWrite (w : HostWrite)
  /-- LINE_INVERSION (R410): Every 256 HCLK cycles each fault unit inverts its rails and the pin driver checks them. -/
  | lineInversion (b : Fin 17) (seen : Bool)
  /-- LINE_FAULT (R410): Missed inversions or an illegal rail state for over two cycles declare a line fault. -/
  | lineFault (b : Fin 17)
  /-- COUNTER_WRAP (R427): A counter passes 2^48 − 1, sets its OVF bit, and a sampler reloads it. -/
  | counterWrap (k : Fin 96) (inc : Nat)
  /-- SAMPLER_CAPTURE (R434): Within 8 slots of a sampled wrap the captured slot is written as a sample record. -/
  | samplerCapture (i : Fin 4) (c : SampleAt)
  /-- OBS_COUNTER_WRITE (R429): A host write to a counter wins over a same-cycle event and sets COLLIDE. `inc` occurrences
  fall in the cycle of the write. -/
  | obsCounterWrite (k : Fin 96) (hi : Bool) (inc : Nat) (w : HostWrite)
  /-- OBS_THR_WRITE (R426): A write of an occupancy threshold N takes effect at the next tick boundary. -/
  | obsThrWrite (i : Fin 8) (w : HostWrite)
  /-- PERST_N_RELEASE (R453): PERST_N rises and the PCIe endpoint leaves its reset. -/
  | perstNRelease
  /-- CJL_TX_PLL_LOCK (R320): The shared Conjunction Link transmit PLL gains (or loses) lock, which lets links leave OFF
  for NOSYNC. -/
  | cjlTxPllLock (lock : Bool)
  /-- ECHO_REQ_RECEIVE (R330): The answering end receives an ECHO_REQ frame, takes its ESEQ and checks the /E/ that
  preceded it. -/
  | echoReqReceive (k : Fin 8) (frame : List Byte)
  deriving DecidableEq, Repr, Inhabited

end Sys2Proof
end

