-- ==== Sys2Proof/Decode.lean ====
section
/-!
DEFINITION. The table of operations and events gives no row any bits: the commands of the device come from its pins and
its buses, framed as R372 – R374 say, and from within. So no word of the table spells a command.
-/
namespace Sys2Proof

/-- The command a word spells by the table's bits: none. -/
def decodeTableWord (_nbits _w : Nat) : Option Instr := none

end Sys2Proof
end

