-- ==== Sys2Proof/Config.lean ====
section
/-!
DEFINITION. What an implementation fixes and the manual does not give: free values, with no body, so that no proof
can see what they are. Each is applied to what it may depend on.
-/
namespace Sys2Proof

/-- How an inexact result that the manual only calls rounded is rounded: up (true) or down, from its numerator and
denominator. DESIGN CHOICE: the manual leaves the direction open (log entry 8). -/
opaque Config.roundUp : Int → Nat → Bool

/-- A value the manual leaves open, fresh for each count of `State.free` (log entry 9). -/
opaque Config.freeValue : Nat → Nat

/-- What a VOTE field reads as while its three copies all differ, from the three copies (log entry 10). -/
opaque Config.voteNoMajority : Nat → Nat → Nat → Nat

/-- SHA-384 of a byte string, as a 384-bit big-endian number (R45, R56, R489); the manual names the function and
does not define it (log entry 11). -/
opaque Config.sha384 : List Byte → Nat

/-- ECDSA P-384 verification: public key bytes, digest, r, s (R45; log entry 11). -/
opaque Config.ecdsaVerify : List Byte → Nat → Nat → Nat → Bool

/-- What the sections of an image declare (R42), from their types and contents: their encodings are not in the manual (log
entry 12). -/
opaque Config.imageConfig : List (Nat × List Byte) → Machine.ImageCfg

/-- The 64-bit unique identity in OTP (R458; log entry 13). -/
opaque Config.uid : Nat

/-- Factory offset of a lane, in 62.5 fs units (R94; log entry 14). -/
opaque Config.laneFactoryOffset : Nat → Int

/-- The factory table of an APLL: lower edge of a VCO band, MHz (R255; log entry 22). -/
opaque Config.bandEdge : Nat → Nat → Nat

/-- The legs of an output at a level, or held static, under a reserved code of `FORMAT` or `SQ_LEVEL` (R235, R246; log entry 9). -/
opaque Config.reservedLegs : Nat → Bool → Machine.Leg × Machine.Leg

end Sys2Proof
end

