-- ==== Sys2Proof/Machine/Operands.lean ====
section
/-!
DEFINITION. How a command's operands are read: byte enables and the bits a 32-bit write carries into a field (R374),
byte strings and words, and the rounding of exact results.
-/
namespace Sys2Proof.Machine
open Sys2Proof

/-- The bits of the byte lanes a write enables. -/
def beMask (be : Fin 16) : Nat :=
  (if bitAt be.val 0 then 0xFF else 0) + (if bitAt be.val 1 then 0xFF00 else 0)
    + (if bitAt be.val 2 then 0xFF0000 else 0) + (if bitAt be.val 3 then 0xFF000000 else 0)

/-- All four byte lanes. -/
def beAll : Fin 16 := 15

/-- The write covers the whole word. -/
def HostWrite.full (w : HostWrite) : Bool := w.be.val == 15

/-- A field's old bits with the written lanes replaced (R374). -/
def mergeField (be : Fin 16) (v : Word) (lo len old : Nat) : Nat :=
  let m := bitsAt (beMask be) lo len
  let n := bitsAt v.toNat lo len
  (n &&& m) + (old - (old &&& m))

/-- The bits of a field a write presents on enabled lanes: what W1C, W1S and WO fields act on (R374). -/
def writtenBits (be : Fin 16) (v : Word) (lo len : Nat) : Nat :=
  bitsAt (v.toNat &&& beMask be) lo len

/-- Little-endian number of a byte list. -/
def leNat : List Byte → Nat
  | [] => 0
  | b :: t => b.toNat + 256 * leNat t

/-- Big-endian number of a byte list. -/
def beNat (l : List Byte) : Nat := leNat l.reverse

/-- `n` little-endian bytes of a number. -/
def leBytes : Nat → Nat → List Byte
  | 0, _ => []
  | n + 1, v => BitVec.ofNat 8 v :: leBytes n (v / 256)

/-- Little-endian bytes of 32-bit words given as numbers. -/
def wordsBytes (l : List Nat) : List Byte := l.flatMap (leBytes 4)

/-- One bit, and one byte, of the CRC-32 of IEEE 802.3, least significant bit first. -/
def crcBit (c : Nat) : Nat := if c % 2 = 1 then Nat.xor (c / 2) 0xEDB88320 else c / 2
def crcByte (c b : Nat) : Nat := crcBit (crcBit (crcBit (crcBit (crcBit (crcBit (crcBit (crcBit (Nat.xor c b))))))))

/-- CRC-32 with the IEEE 802.3 polynomial (R41, R322). -/
def crc32 (l : List Byte) : Nat := Nat.xor (l.foldl (fun c b => crcByte c b.toNat) 0xFFFFFFFF) 0xFFFFFFFF

/-- An exact result rounded down. -/
def rndDown (q : Rat) : Int := q.num / (q.den : Int)

/-- An exact result rounded up. -/
def rndUp (q : Rat) : Int := -((-q.num) / (q.den : Int))

/-- An exact result rounded where the manual gives no direction: unchanged when exact, else up or down as the free
bit says (log entry 8). -/
def rnd (q : Rat) : Int :=
  if q.den = 1 then q.num else rndDown q + (if Config.roundUp q.num q.den then 1 else 0)

/-- An exact result rounded to the nearest integer, a tie as the free bit says. -/
def rndNear (q : Rat) : Int :=
  let f := rndDown q
  let r := q - (f : Rat)
  if r * 2 < 1 then f else if r * 2 > 1 then f + 1
  else f + (if Config.roundUp q.num q.den then 1 else 0)

/-- An integer held within bounds. -/
def clampInt (lo hi i : Int) : Int := if i < lo then lo else if i > hi then hi else i

/-- A rational held within ±`m`. -/
def clampRat (m q : Rat) : Rat := if q > m then m else if q < -m then -m else q

/-- The absolute value of a rational. -/
def absRat (q : Rat) : Rat := if q < 0 then -q else q

/-- Integer square root, one bit at a time from bit `b`. -/
def isqrtFrom : Nat → Nat → Nat → Nat
  | 0, n, r => if (r + 1) * (r + 1) ≤ n then r + 1 else r
  | b + 1, n, r => let c := r + 2 ^ (b + 1); isqrtFrom b n (if c * c ≤ n then c else r)

/-- The integer square root of a number below 2^512. -/
def isqrt (n : Nat) : Nat := isqrtFrom 255 n 0

/-- Sum of a list of rationals. -/
def sumRat (l : List Rat) : Rat := l.foldl (· + ·) 0

/-- Mean of a list of rationals; 0 of none. -/
def meanRat (l : List Rat) : Rat := if l.length = 0 then 0 else sumRat l / (l.length : Rat)

/-- The least-squares line through samples, its value taken at `t0`; one sample gives slope 0 (R117, R143). -/
def fitLine (t0 : Int) (l : List Samp) : Option Line :=
  match l with
  | [] => none
  | _ =>
    let n : Rat := (l.length : Rat)
    let us : List Rat := l.map (fun p => ((p.t - t0 : Int) : Rat))
    let mu := sumRat us / n
    let mx := sumRat (l.map (·.x)) / n
    let sxx := sumRat (us.map (fun u => (u - mu) * (u - mu)))
    let sxy := sumRat (l.map (fun p => (((p.t - t0 : Int) : Rat) - mu) * (p.x - mx)))
    let b := if sxx = 0 then 0 else sxy / sxx
    some ⟨t0, mx - b * mu, b⟩

/-- A line's value at an instant. -/
def Line.at (ln : Line) (t : Int) : Rat := ln.a + ln.b * ((t - ln.t0 : Int) : Rat)

end Sys2Proof.Machine
end

