-- ==== Sys2Proof/Machine/RegsCore.lean ====
section
/-!
DEFINITION. The register fields of SYS, HIF, GLD, FLT and OBS (R458, R395, R70, R421, R439) and of every fault unit (R420), as the spec's
register tables lay them out: one named field per table row, and the descriptor list the bus reads.
A pair `_LO`/`_HI` is two registers.
-/
namespace Sys2Proof.Machine

def GLD_CTL_START : Fld := ⟨0x20000, 0, 1⟩
def GLD_CTL_ABORT : Fld := ⟨0x20000, 1, 1⟩
def GLD_CTL_MODE : Fld := ⟨0x20000, 2, 2⟩
def GLD_CTL_SRC : Fld := ⟨0x20000, 4, 1⟩
def GLD_CTL_FLASH_SLOT : Fld := ⟨0x20000, 5, 1⟩
def GLD_CTL_SWAP_AT_EN : Fld := ⟨0x20000, 6, 1⟩
def GLD_STAT_LOADER : Fld := ⟨0x20004, 0, 4⟩
def GLD_STAT_IMG_VALID : Fld := ⟨0x20004, 4, 1⟩
def GLD_STAT_SRAM_MATCH : Fld := ⟨0x20004, 5, 1⟩
def GLD_STAT_UNPROVISIONED : Fld := ⟨0x20004, 6, 1⟩
def GLD_STAT_RESULT : Fld := ⟨0x20004, 8, 8⟩
def GLD_IMG_LEN_LEN : Fld := ⟨0x20008, 0, 22⟩
def GLD_IMG_VER_IMAGE_VER : Fld := ⟨0x2000C, 0, 32⟩
def GLD_IMG_SVN_SVN : Fld := ⟨0x20010, 0, 8⟩
def GLD_IMG_SVN_KEY_INDEX : Fld := ⟨0x20010, 8, 2⟩
def GLD_IMG_SVN_TICK_CODE : Fld := ⟨0x20010, 10, 2⟩
def GLD_IMG_SVN_PRIMARY_TS : Fld := ⟨0x20010, 12, 2⟩
def GLD_ARB_COUNT : Fld := ⟨0x20014, 0, 8⟩
def GLD_ARB_BUSY : Fld := ⟨0x20014, 8, 1⟩
def GLD_ARB_ADV_TARGET : Fld := ⟨0x20018, 0, 8⟩
def GLD_BOOT_BOOT_SEL : Fld := ⟨0x2001C, 0, 2⟩
def GLD_BOOT_LOADED_FROM : Fld := ⟨0x2001C, 2, 2⟩
def GLD_BOOT_TRIES : Fld := ⟨0x2001C, 4, 2⟩
def GLD_BOOT_FELL_BACK : Fld := ⟨0x2001C, 6, 1⟩
def GLD_BOOT_CONFIRM : Fld := ⟨0x2001C, 8, 1⟩
def GLD_SWAP_SEC_LO_SEC_LO : Fld := ⟨0x20020, 0, 32⟩
def GLD_SWAP_SEC_HI_SEC_HI : Fld := ⟨0x20024, 0, 32⟩
def GLD_SWAP_TICK_TICK : Fld := ⟨0x20028, 0, 16⟩
def GLD_SWAP_TICK_SWAPS : Fld := ⟨0x20028, 16, 16⟩
def GLD_FPLAN_LO_FPLAN : Fld := ⟨0x20030, 0, 32⟩
def GLD_FPLAN_HI_FPLAN : Fld := ⟨0x20034, 0, 32⟩
def GLD_IMG_HASH_HASH (n : Nat) : Fld := ⟨0x20040 + 0x4 * n, 0, 32⟩
def GLD_KEY_PROGRAMMED : Fld := ⟨0x20080, 0, 4⟩
def GLD_KEY_REVOKED : Fld := ⟨0x20080, 4, 4⟩
def GLD_KEY_REVOKE : Fld := ⟨0x20080, 8, 4⟩
def GLD_KEY_PROG : Fld := ⟨0x20080, 12, 4⟩
def GLD_STICKY_WONCE_VIOL : Fld := ⟨0x20090, 0, 1⟩
def GLD_STICKY_LOAD_FAIL : Fld := ⟨0x20090, 1, 1⟩
def GLD_STICKY_SWAP_REFUSED : Fld := ⟨0x20090, 2, 1⟩
def GLD_STICKY_ARB_REFUSED : Fld := ⟨0x20090, 3, 1⟩
def GLD_STICKY_VOTE_REPAIR : Fld := ⟨0x20090, 4, 1⟩
def GLD_STICKY_VOTE_UNRESOLVED : Fld := ⟨0x20090, 5, 1⟩
def GLD_STICKY_SRAM_WR_BLOCKED : Fld := ⟨0x20090, 6, 1⟩
def GLD_STICKY_FELL_BACK : Fld := ⟨0x20090, 7, 1⟩
def GLD_VIOL_CNT_COUNT : Fld := ⟨0x20094, 0, 16⟩
def GLD_VIOL_ADDR_ADDR : Fld := ⟨0x20098, 0, 32⟩
def GLD_VOTE_CNT_REPAIRED : Fld := ⟨0x2009C, 0, 16⟩
def GLD_VOTE_CNT_UNRESOLVED : Fld := ⟨0x2009C, 16, 16⟩
def HIF_STICKY_WONCE_VIOL : Fld := ⟨0x10000, 0, 1⟩
def HIF_STICKY_RST_S : Fld := ⟨0x10000, 1, 1⟩
def HIF_STICKY_ACC_ERR : Fld := ⟨0x10000, 2, 1⟩
def HIF_STICKY_STALL_S : Fld := ⟨0x10000, 3, 1⟩
def HIF_STICKY_PRIV_S : Fld := ⟨0x10000, 4, 1⟩
def HIF_ACC_ERR_ADDR_ADDR : Fld := ⟨0x10004, 0, 32⟩
def HIF_ACC_ERR_INFO_CAUSE : Fld := ⟨0x10008, 0, 3⟩
def HIF_ACC_ERR_INFO_MASTER : Fld := ⟨0x10008, 3, 2⟩
def HIF_MASTER_WHO : Fld := ⟨0x1000C, 0, 2⟩
def HIF_MASTER_PRIV : Fld := ⟨0x1000C, 2, 1⟩
def HIF_MASTER_SPI_SEC : Fld := ⟨0x1000C, 3, 1⟩
def HIF_I2C_ADDR_ADDR : Fld := ⟨0x10010, 0, 7⟩
def HIF_CNT_STALLS : Fld := ⟨0x10014, 0, 16⟩
def HIF_CNT_PRIV_CNT : Fld := ⟨0x10014, 16, 16⟩
def HIF_EV_EN_EN (n : Nat) : Fld := ⟨0x10100 + 0x4 * n, 0, 32⟩
def HIF_EV_ASSERT_SRC (n : Nat) : Fld := ⟨0x10110 + 0x4 * n, 0, 32⟩
def HIF_EV_PEND_SRC (n : Nat) : Fld := ⟨0x10120 + 0x4 * n, 0, 32⟩
def HIF_VEC_STAT_VEC : Fld := ⟨0x10180, 0, 32⟩
def HIF_VEC_INT_EN_INT_EN : Fld := ⟨0x10184, 0, 32⟩
def HIF_EOI_VEC : Fld := ⟨0x10188, 0, 5⟩
def HIF_EV_VEC_VEC (n : Nat) (i : Nat) : Fld := ⟨0x10200 + 0x4 * n, 8 * i, 5⟩
def HIF_RING_DOORBELL_RING : Fld := ⟨0x10300, 1, 2⟩
def HIF_RING_STICKY_DONE_S (i : Nat) : Fld := ⟨0x10304, i, 1⟩
def HIF_RING_STICKY_DROP_S (i : Nat) : Fld := ⟨0x10304, i + 8, 1⟩
def HIF_RING_STICKY_ERR_S (i : Nat) : Fld := ⟨0x10304, i + 16, 1⟩
def HIF_RING_BASE_BASE (n : Nat) : Fld := ⟨0x10400 + 0x10 * n, 0, 20⟩
def HIF_RING_CFG_SIZE (n : Nat) : Fld := ⟨0x10404 + 0x10 * n, 0, 13⟩
def HIF_RING_CFG_RING_EN (n : Nat) : Fld := ⟨0x10404 + 0x10 * n, 16, 1⟩
def HIF_RING_IDX_IDX (n : Nat) : Fld := ⟨0x10408 + 0x10 * n, 0, 12⟩
def HIF_RING_IDX_RSEQ (n : Nat) : Fld := ⟨0x10408 + 0x10 * n, 16, 16⟩
def HIF_RING_CNT_DROPS (n : Nat) : Fld := ⟨0x1040C + 0x10 * n, 0, 32⟩
def FLT_STICKY_PIN_S : Fld := ⟨0x30000, 0, 1⟩
def FLT_STICKY_CAPOVF_S : Fld := ⟨0x30000, 1, 1⟩
def FLT_STICKY_SEV_S : Fld := ⟨0x30000, 2, 1⟩
def FLT_STICKY_RST_RX_S : Fld := ⟨0x30000, 3, 1⟩
def FLT_STICKY_SQHO_S : Fld := ⟨0x30000, 4, 1⟩
def FLT_STICKY_LINE_S : Fld := ⟨0x30000, 5, 1⟩
def FLT_STICKY_ESC_S : Fld := ⟨0x30000, 6, 1⟩
def FLT_STICKY_WONCE_VIOL : Fld := ⟨0x30000, 7, 1⟩
def FLT_STICKY_RST_S : Fld := ⟨0x30000, 8, 1⟩
def FLT_PIN_PIN_LOW : Fld := ⟨0x30004, 0, 1⟩
def FLT_PIN_NOIMG : Fld := ⟨0x30004, 1, 1⟩
def FLT_PIN_FIRST_BLK : Fld := ⟨0x30008, 0, 5⟩
def FLT_PIN_FIRST_V : Fld := ⟨0x30008, 5, 1⟩
def FLT_PIN_FIRST_OVF : Fld := ⟨0x30008, 6, 1⟩
def FLT_PIN_FIRST_KIND : Fld := ⟨0x30008, 8, 2⟩
def FLT_PIN_FIRST_TICK : Fld := ⟨0x30008, 16, 16⟩
def FLT_PIN_BLK_BLK : Fld := ⟨0x3000C, 0, 17⟩
def FLT_LINE_BLK : Fld := ⟨0x30010, 0, 17⟩
def FLT_SEV_MAP_BLK : Fld := ⟨0x30028, 0, 17⟩
def FLT_LINE_S_BLK (i : Nat) : Fld := ⟨0x30014, i, 1⟩
def FLT_ESC_BLK (i : Nat) : Fld := ⟨0x30018, i, 1⟩
def FLT_SHADOW_BLK : Fld := ⟨0x3001C, 0, 17⟩
def FLT_SHADOW_SUB : Fld := ⟨0x3001C, 17, 7⟩
def FLT_RST_BLK : Fld := ⟨0x30020, 0, 17⟩
def FLT_RST_SUB : Fld := ⟨0x30020, 17, 7⟩
def FLT_CNT_RST_RX : Fld := ⟨0x30024, 0, 16⟩
def FLT_CNT_RST_SUPP : Fld := ⟨0x30024, 16, 16⟩
def OBS_STICKY_WONCE_VIOL : Fld := ⟨0x40000, 0, 1⟩
def OBS_STICKY_RST_S : Fld := ⟨0x40000, 1, 1⟩
def OBS_STICKY_EXT_COLLIDE_S : Fld := ⟨0x40000, 2, 1⟩
def OBS_STICKY_SMP_S : Fld := ⟨0x40000, 3, 1⟩
def OBS_STICKY_SMP_DROP_S : Fld := ⟨0x40000, 4, 1⟩
def OBS_CTL_OBS_USER_EN : Fld := ⟨0x40004, 0, 1⟩
def OBS_ACCT_TICK_TICK : Fld := ⟨0x40008, 0, 16⟩
def OBS_OVF_OVF (n : Nat) (i : Nat) : Fld := ⟨0x40010 + 0x4 * n, i, 1⟩
def OBS_COLLIDE_COLLIDE (n : Nat) (i : Nat) : Fld := ⟨0x40020 + 0x4 * n, i, 1⟩
def OBS_THR_N (n : Nat) : Fld := ⟨0x40040 + 0x4 * n, 0, 13⟩
def OBS_SMP_CFG_EN (n : Nat) : Fld := ⟨0x40080 + 0x8 * n, 0, 1⟩
def OBS_SMP_CFG_CNT (n : Nat) : Fld := ⟨0x40080 + 0x8 * n, 1, 7⟩
def OBS_SMP_PER_PERIOD (n : Nat) : Fld := ⟨0x40084 + 0x8 * n, 0, 32⟩
def OBS_SMP_SEQ_SEQ : Fld := ⟨0x400A0, 0, 16⟩
def OBS_CNT_LO_CNT (n : Nat) : Fld := ⟨0x41000 + 0x8 * n, 0, 32⟩
def OBS_CNT_HI_CNT (n : Nat) : Fld := ⟨0x41004 + 0x8 * n, 0, 16⟩
def SYS_ID_DEVICE_ID : Fld := ⟨0x0, 0, 16⟩
def SYS_ID_STEP : Fld := ⟨0x0, 16, 8⟩
def SYS_UID_LO_UID : Fld := ⟨0x4, 0, 32⟩
def SYS_UID_HI_UID : Fld := ⟨0x8, 0, 32⟩
def SYS_STICKY_WONCE_VIOL : Fld := ⟨0xC, 0, 1⟩
def SYS_STICKY_BRST_S : Fld := ⟨0xC, 1, 1⟩
def SYS_STICKY_TEMP_S : Fld := ⟨0xC, 2, 1⟩
def SYS_STICKY_SUP_S : Fld := ⟨0xC, 3, 1⟩
def SYS_STICKY_PD_S : Fld := ⟨0xC, 4, 1⟩
def SYS_STICKY_OSC_S : Fld := ⟨0xC, 5, 1⟩
def SYS_STICKY_MPLL_S : Fld := ⟨0xC, 6, 1⟩
def SYS_STRAP_BOOT_SEL : Fld := ⟨0x10, 0, 2⟩
def SYS_STRAP_SPI_SEC : Fld := ⟨0x10, 2, 1⟩
def SYS_STRAP_TEST_MODE : Fld := ⟨0x10, 3, 1⟩
def SYS_STRAP_RST_CAUSE : Fld := ⟨0x10, 4, 1⟩
def SYS_OSC_OSC_CODE : Fld := ⟨0x14, 0, 4⟩
def SYS_OSC_OSC_OK : Fld := ⟨0x14, 4, 1⟩
def SYS_OSC_MPLL_LOCK : Fld := ⟨0x14, 5, 1⟩
def SYS_OSC_BOOTCLK : Fld := ⟨0x14, 6, 1⟩
def SYS_OSC_DET_FAIL : Fld := ⟨0x14, 7, 1⟩
def SYS_OSC_SEL_OSC_SEL : Fld := ⟨0x18, 0, 4⟩
def SYS_OSC_CNT_OSC_LOSS : Fld := ⟨0x1C, 0, 16⟩
def SYS_OSC_CNT_MPLL_UNLOCK : Fld := ⟨0x1C, 16, 16⟩
def SYS_PD_EN_PD_EN : Fld := ⟨0x20, 0, 16⟩
def SYS_PD_STAT_PD_ON : Fld := ⟨0x24, 0, 16⟩
def SYS_PD_STAT_RAMP : Fld := ⟨0x24, 16, 16⟩
def SYS_SUP_STAT_CORE_PGOOD : Fld := ⟨0x28, 0, 5⟩
def SYS_SUP_STAT_SUP_PGOOD : Fld := ⟨0x28, 5, 3⟩
def SYS_SUP_STAT_VDDO_CLASS : Fld := ⟨0x28, 8, 6⟩
def SYS_TEMP_T_DIE : Fld := ⟨0x2C, 0, 16⟩
def SYS_TEMP_T_HI : Fld := ⟨0x2C, 16, 8⟩
def SYS_TEMP_TALARM : Fld := ⟨0x2C, 24, 1⟩
def SYS_BRST_BLK : Fld := ⟨0x30, 1, 16⟩
def SYS_BRST_SUB : Fld := ⟨0x30, 17, 7⟩
def SYS_BRST_CNT_BRST_CNT : Fld := ⟨0x34, 0, 16⟩

/-! ## Fault units (R420): block `b` at `b * 0x10000 + 0x0E00`, source `j` of the unit -/
def BLK_FLT_LIVE (b : Nat) : Fld := ⟨b * 0x10000 + 0xE00, 0, 16⟩
def BLK_FLT_SEV (b j : Nat) : Fld := ⟨b * 0x10000 + 0xE04, j, 1⟩
def BLK_FLT_FIRST_SRC (b : Nat) : Fld := ⟨b * 0x10000 + 0xE08, 0, 7⟩
def BLK_FLT_FIRST_V (b : Nat) : Fld := ⟨b * 0x10000 + 0xE08, 7, 1⟩
def BLK_FLT_FIRST_OVF (b : Nat) : Fld := ⟨b * 0x10000 + 0xE08, 8, 1⟩
def BLK_FLT_FIRST_CAUSE_SRC (b : Nat) : Fld := ⟨b * 0x10000 + 0xE08, 16, 7⟩
def BLK_FLT_FIRST_CAUSE_V (b : Nat) : Fld := ⟨b * 0x10000 + 0xE08, 23, 1⟩
def BLK_FLT_FIRST_TICK (b : Nat) : Fld := ⟨b * 0x10000 + 0xE0C, 0, 16⟩
def BLK_FLT_FIRST_OVF_CNT (b : Nat) : Fld := ⟨b * 0x10000 + 0xE0C, 16, 16⟩
def BLK_FLT_FIRST_NS (b : Nat) : Fld := ⟨b * 0x10000 + 0xE10, 0, 32⟩
def BLK_FLT_FIRST_SEC_LO (b : Nat) : Fld := ⟨b * 0x10000 + 0xE14, 0, 32⟩
def BLK_FLT_FIRST_SEC_HI (b : Nat) : Fld := ⟨b * 0x10000 + 0xE18, 0, 32⟩
def BLK_FLT_SQ_MASK (b : Nat) : Fld := ⟨b * 0x10000 + 0xE1C, 0, 24⟩
def BLK_FLT_HO_MASK (b : Nat) : Fld := ⟨b * 0x10000 + 0xE20, 0, 12⟩
def BLK_FLT_MASKED (b : Nat) : Fld := ⟨b * 0x10000 + 0xE24, 0, 32⟩
def BLK_FLT_CFG_R_INT (b j : Nat) : Fld := ⟨b * 0x10000 + 0xE40 + 0x10 * j, 0, 1⟩
def BLK_FLT_CFG_R_SQ (b j : Nat) : Fld := ⟨b * 0x10000 + 0xE40 + 0x10 * j, 1, 1⟩
def BLK_FLT_CFG_R_HO (b j : Nat) : Fld := ⟨b * 0x10000 + 0xE40 + 0x10 * j, 2, 1⟩
def BLK_FLT_CFG_R_RST (b j : Nat) : Fld := ⟨b * 0x10000 + 0xE40 + 0x10 * j, 3, 1⟩
def BLK_FLT_CFG_RSUB (b j : Nat) : Fld := ⟨b * 0x10000 + 0xE40 + 0x10 * j, 4, 3⟩
def BLK_FLT_CFG_R_PIN (b j : Nat) : Fld := ⟨b * 0x10000 + 0xE40 + 0x10 * j, 7, 1⟩
def BLK_FLT_CFG_CAP (b j : Nat) : Fld := ⟨b * 0x10000 + 0xE40 + 0x10 * j, 8, 1⟩
def BLK_FLT_CFG_SHM (b j : Nat) : Fld := ⟨b * 0x10000 + 0xE40 + 0x10 * j, 9, 1⟩
def BLK_FLT_CFG_COND (b j : Nat) : Fld := ⟨b * 0x10000 + 0xE40 + 0x10 * j, 10, 1⟩
def BLK_FLT_CFG_THR (b j : Nat) : Fld := ⟨b * 0x10000 + 0xE40 + 0x10 * j, 16, 16⟩
def BLK_FLT_WIN (b j : Nat) : Fld := ⟨b * 0x10000 + 0xE44 + 0x10 * j, 0, 22⟩
def BLK_FLT_CNT_WCOUNT (b j : Nat) : Fld := ⟨b * 0x10000 + 0xE48 + 0x10 * j, 0, 16⟩
def BLK_FLT_CNT_PEAK (b j : Nat) : Fld := ⟨b * 0x10000 + 0xE48 + 0x10 * j, 16, 16⟩
def BLK_FLT_TOTAL (b j : Nat) : Fld := ⟨b * 0x10000 + 0xE4C + 0x10 * j, 0, 32⟩

/-! ## Indirect pairs (R379) -/
def BLK_IND_ADDR_ADDR (b : Nat) : Fld := ⟨b * 0x10000 + 0xFF0, 0, 30⟩
def BLK_IND_ADDR_INC (b : Nat) : Fld := ⟨b * 0x10000 + 0xFF0, 30, 2⟩
def BLK_IND_DATA (b : Nat) : Fld := ⟨b * 0x10000 + 0xFF4, 0, 32⟩

/-- The registers of block `b`'s fault unit with `k` sources (R420). -/
def faultUnitRegs (b k : Nat) : List RegD := [
  ⟨b * 0x10000 + 0xE00, 0, 1, [⟨0, 16, .ro, false, false, .hw⟩]⟩,
  ⟨b * 0x10000 + 0xE04, 0, 1, (List.range k).map (fun j => ⟨j, 1, .w1c, false, false, .num⟩)⟩,
  ⟨b * 0x10000 + 0xE08, 0, 1, [⟨0, 7, .ro, false, false, .num⟩, ⟨7, 1, .w1c, false, false, .num⟩, ⟨8, 1, .ro, false, false, .num⟩,
    ⟨16, 7, .ro, false, false, .num⟩, ⟨23, 1, .ro, false, false, .num⟩]⟩,
  ⟨b * 0x10000 + 0xE0C, 0, 1, [⟨0, 16, .ro, false, false, .num⟩, ⟨16, 16, .ro, false, false, .num⟩]⟩,
  ⟨b * 0x10000 + 0xE10, 4, 3, [⟨0, 32, .ro, false, false, .num⟩]⟩,
  ⟨b * 0x10000 + 0xE1C, 0, 1, [⟨0, 24, .rw, true, true, .img⟩]⟩,
  ⟨b * 0x10000 + 0xE20, 0, 1, [⟨0, 12, .rw, true, true, .img⟩]⟩,
  ⟨b * 0x10000 + 0xE24, 0, 1, [⟨0, 32, .rw, false, false, .num⟩]⟩,
  ⟨b * 0x10000 + 0xE40, 0x10, k, [⟨0, 1, .rw, true, true, .img⟩, ⟨1, 1, .rw, true, true, .img⟩, ⟨2, 1, .rw, true, true, .img⟩,
    ⟨3, 1, .rw, true, true, .img⟩, ⟨4, 3, .rw, true, true, .img⟩, ⟨7, 1, .rw, true, true, .img⟩, ⟨8, 1, .rw, true, true, .img⟩,
    ⟨9, 1, .rw, true, true, .img⟩, ⟨10, 1, .ro, false, false, .hw⟩, ⟨16, 16, .rw, true, true, .img⟩]⟩,
  ⟨b * 0x10000 + 0xE44, 0x10, k, [⟨0, 22, .rw, true, true, .img⟩]⟩,
  ⟨b * 0x10000 + 0xE48, 0x10, k, [⟨0, 16, .ro, false, false, .hw⟩, ⟨16, 16, .rw, false, false, .num⟩]⟩,
  ⟨b * 0x10000 + 0xE4C, 0x10, k, [⟨0, 32, .rw, false, false, .num⟩]⟩]

/-- The indirect pair of block `b` (R379). -/
def indirectRegs (b : Nat) : List RegD := [
  ⟨b * 0x10000 + 0xFF0, 0, 1, [⟨0, 30, .rw, false, false, .num⟩, ⟨30, 2, .rw, false, false, .num⟩]⟩,
  ⟨b * 0x10000 + 0xFF4, 0, 1, [⟨0, 32, .rw, false, false, .num⟩]⟩]

/-- Register descriptors, part 1. -/
def regsCore1 : List RegD := [
  ⟨0x20000, 0x0, 1, [⟨0, 1, .wo, true, false, .num⟩, ⟨1, 1, .wo, true, false, .num⟩, ⟨2, 2, .rw, true, false, .num⟩, ⟨4, 1, .rw, true, false, .num⟩, ⟨5, 1, .rw, true, false, .num⟩, ⟨6, 1, .rw, true, false, .num⟩]⟩,
  ⟨0x20004, 0x0, 1, [⟨0, 4, .ro, false, false, .hw⟩, ⟨4, 1, .ro, false, false, .hw⟩, ⟨5, 1, .ro, false, false, .hw⟩, ⟨6, 1, .ro, false, false, .hw⟩, ⟨8, 8, .ro, false, false, .num⟩]⟩,
  ⟨0x20008, 0x0, 1, [⟨0, 22, .rw, true, false, .num⟩]⟩,
  ⟨0x2000C, 0x0, 1, [⟨0, 32, .ro, false, false, .hw⟩]⟩,
  ⟨0x20010, 0x0, 1, [⟨0, 8, .ro, false, false, .hw⟩, ⟨8, 2, .ro, false, false, .hw⟩, ⟨10, 2, .ro, false, false, .hw⟩, ⟨12, 2, .ro, false, false, .hw⟩]⟩,
  ⟨0x20014, 0x0, 1, [⟨0, 8, .ro, false, false, .hw⟩, ⟨8, 1, .ro, false, false, .hw⟩]⟩,
  ⟨0x20018, 0x0, 1, [⟨0, 8, .wo, true, false, .num⟩]⟩,
  ⟨0x2001C, 0x0, 1, [⟨0, 2, .ro, false, false, .hw⟩, ⟨2, 2, .ro, false, false, .hw⟩, ⟨4, 2, .ro, false, false, .hw⟩, ⟨6, 1, .ro, false, false, .hw⟩, ⟨8, 1, .w1s, true, false, .num⟩]⟩,
  ⟨0x20020, 0x0, 1, [⟨0, 32, .rw, true, false, .num⟩]⟩,
  ⟨0x20024, 0x0, 1, [⟨0, 32, .rw, true, false, .num⟩]⟩,
  ⟨0x20028, 0x0, 1, [⟨0, 16, .ro, false, false, .num⟩, ⟨16, 16, .ro, false, false, .num⟩]⟩,
  ⟨0x20030, 0x0, 1, [⟨0, 32, .ro, false, false, .hw⟩]⟩,
  ⟨0x20034, 0x0, 1, [⟨0, 32, .ro, false, false, .hw⟩]⟩,
  ⟨0x20040, 0x4, 12, [⟨0, 32, .ro, false, false, .hw⟩]⟩,
  ⟨0x20080, 0x0, 1, [⟨0, 4, .ro, false, false, .hw⟩, ⟨4, 4, .ro, false, false, .hw⟩, ⟨8, 4, .w1s, true, false, .num⟩, ⟨12, 4, .wo, true, false, .num⟩]⟩,
  ⟨0x20090, 0x0, 1, [⟨0, 1, .w1c, false, false, .num⟩, ⟨1, 1, .w1c, false, false, .num⟩, ⟨2, 1, .w1c, false, false, .num⟩, ⟨3, 1, .w1c, false, false, .num⟩, ⟨4, 1, .w1c, false, false, .num⟩, ⟨5, 1, .w1c, false, false, .num⟩, ⟨6, 1, .w1c, false, false, .num⟩, ⟨7, 1, .w1c, false, false, .num⟩]⟩,
  ⟨0x20094, 0x0, 1, [⟨0, 16, .rw, true, false, .num⟩]⟩,
  ⟨0x20098, 0x0, 1, [⟨0, 32, .ro, false, false, .num⟩]⟩,
  ⟨0x2009C, 0x0, 1, [⟨0, 16, .ro, false, false, .num⟩, ⟨16, 16, .ro, false, false, .num⟩]⟩,
  ⟨0x10000, 0x0, 1, [⟨0, 1, .w1c, false, false, .num⟩, ⟨1, 1, .w1c, false, false, .num⟩, ⟨2, 1, .w1c, false, false, .num⟩, ⟨3, 1, .w1c, false, false, .num⟩, ⟨4, 1, .w1c, false, false, .num⟩]⟩,
  ⟨0x10004, 0x0, 1, [⟨0, 32, .ro, false, false, .num⟩]⟩,
  ⟨0x10008, 0x0, 1, [⟨0, 3, .ro, false, false, .num⟩, ⟨3, 2, .ro, false, false, .num⟩]⟩,
  ⟨0x1000C, 0x0, 1, [⟨0, 2, .ro, false, false, .hw⟩, ⟨2, 1, .ro, false, false, .hw⟩, ⟨3, 1, .ro, false, false, .hw⟩]⟩,
  ⟨0x10010, 0x0, 1, [⟨0, 7, .rw, true, false, .num⟩]⟩]

/-- Register descriptors, part 2. -/
def regsCore2 : List RegD := [
  ⟨0x10014, 0x0, 1, [⟨0, 16, .rw, false, false, .num⟩, ⟨16, 16, .rw, false, false, .num⟩]⟩,
  ⟨0x10100, 0x4, 4, [⟨0, 32, .rw, true, false, .num⟩]⟩,
  ⟨0x10110, 0x4, 4, [⟨0, 32, .ro, false, false, .hw⟩]⟩,
  ⟨0x10120, 0x4, 4, [⟨0, 32, .ro, false, false, .hw⟩]⟩,
  ⟨0x10180, 0x0, 1, [⟨0, 32, .ro, false, false, .hw⟩]⟩,
  ⟨0x10184, 0x0, 1, [⟨0, 32, .rw, true, false, .num⟩]⟩,
  ⟨0x10188, 0x0, 1, [⟨0, 5, .wo, false, false, .num⟩]⟩,
  ⟨0x10200, 0x4, 32, [⟨0, 5, .rw, true, false, .num⟩, ⟨8, 5, .rw, true, false, .num⟩, ⟨16, 5, .rw, true, false, .num⟩, ⟨24, 5, .rw, true, false, .num⟩]⟩,
  ⟨0x10300, 0x0, 1, [⟨1, 2, .wo, true, false, .num⟩]⟩,
  ⟨0x10304, 0x0, 1, [⟨0, 1, .w1c, false, false, .num⟩, ⟨1, 1, .w1c, false, false, .num⟩, ⟨2, 1, .w1c, false, false, .num⟩, ⟨3, 1, .w1c, false, false, .num⟩, ⟨4, 1, .w1c, false, false, .num⟩, ⟨5, 1, .w1c, false, false, .num⟩, ⟨6, 1, .w1c, false, false, .num⟩, ⟨7, 1, .w1c, false, false, .num⟩, ⟨8, 1, .w1c, false, false, .num⟩, ⟨9, 1, .w1c, false, false, .num⟩, ⟨10, 1, .w1c, false, false, .num⟩, ⟨11, 1, .w1c, false, false, .num⟩, ⟨12, 1, .w1c, false, false, .num⟩, ⟨13, 1, .w1c, false, false, .num⟩, ⟨14, 1, .w1c, false, false, .num⟩, ⟨15, 1, .w1c, false, false, .num⟩, ⟨16, 1, .w1c, false, false, .num⟩, ⟨17, 1, .w1c, false, false, .num⟩, ⟨18, 1, .w1c, false, false, .num⟩, ⟨19, 1, .w1c, false, false, .num⟩, ⟨20, 1, .w1c, false, false, .num⟩, ⟨21, 1, .w1c, false, false, .num⟩, ⟨22, 1, .w1c, false, false, .num⟩, ⟨23, 1, .w1c, false, false, .num⟩]⟩,
  ⟨0x10400, 0x10, 8, [⟨0, 20, .rw, true, false, .num⟩]⟩,
  ⟨0x10404, 0x10, 8, [⟨0, 13, .rw, true, false, .num⟩, ⟨16, 1, .rw, true, false, .num⟩]⟩,
  ⟨0x10408, 0x10, 8, [⟨0, 12, .ro, false, false, .num⟩, ⟨16, 16, .ro, false, false, .num⟩]⟩,
  ⟨0x1040C, 0x10, 8, [⟨0, 32, .rw, false, false, .num⟩]⟩,
  ⟨0x30000, 0x0, 1, [⟨0, 1, .w1c, false, false, .num⟩, ⟨1, 1, .w1c, false, false, .num⟩, ⟨2, 1, .w1c, false, false, .num⟩, ⟨3, 1, .w1c, false, false, .num⟩, ⟨4, 1, .w1c, false, false, .num⟩, ⟨5, 1, .w1c, false, false, .num⟩, ⟨6, 1, .w1c, false, false, .num⟩, ⟨7, 1, .w1c, false, false, .num⟩, ⟨8, 1, .w1c, false, false, .num⟩]⟩,
  ⟨0x30004, 0x0, 1, [⟨0, 1, .ro, false, false, .hw⟩, ⟨1, 1, .ro, false, false, .hw⟩]⟩,
  ⟨0x30008, 0x0, 1, [⟨0, 5, .ro, false, false, .num⟩, ⟨5, 1, .w1c, false, false, .num⟩, ⟨6, 1, .ro, false, false, .num⟩, ⟨8, 2, .ro, false, false, .num⟩, ⟨16, 16, .ro, false, false, .num⟩]⟩,
  ⟨0x3000C, 0x0, 1, [⟨0, 17, .ro, false, false, .hw⟩]⟩,
  ⟨0x30010, 0x0, 1, [⟨0, 17, .ro, false, false, .hw⟩]⟩,
  ⟨0x30028, 0x0, 1, [⟨0, 17, .ro, false, false, .hw⟩]⟩,
  ⟨0x30014, 0x0, 1, [⟨0, 1, .w1c, false, false, .num⟩, ⟨1, 1, .w1c, false, false, .num⟩, ⟨2, 1, .w1c, false, false, .num⟩, ⟨3, 1, .w1c, false, false, .num⟩, ⟨4, 1, .w1c, false, false, .num⟩, ⟨5, 1, .w1c, false, false, .num⟩, ⟨6, 1, .w1c, false, false, .num⟩, ⟨7, 1, .w1c, false, false, .num⟩, ⟨8, 1, .w1c, false, false, .num⟩, ⟨9, 1, .w1c, false, false, .num⟩, ⟨10, 1, .w1c, false, false, .num⟩, ⟨11, 1, .w1c, false, false, .num⟩, ⟨12, 1, .w1c, false, false, .num⟩, ⟨13, 1, .w1c, false, false, .num⟩, ⟨14, 1, .w1c, false, false, .num⟩, ⟨15, 1, .w1c, false, false, .num⟩, ⟨16, 1, .w1c, false, false, .num⟩]⟩,
  ⟨0x30018, 0x0, 1, [⟨0, 1, .w1c, false, false, .num⟩, ⟨1, 1, .w1c, false, false, .num⟩, ⟨2, 1, .w1c, false, false, .num⟩, ⟨3, 1, .w1c, false, false, .num⟩, ⟨4, 1, .w1c, false, false, .num⟩, ⟨5, 1, .w1c, false, false, .num⟩, ⟨6, 1, .w1c, false, false, .num⟩, ⟨7, 1, .w1c, false, false, .num⟩, ⟨8, 1, .w1c, false, false, .num⟩, ⟨9, 1, .w1c, false, false, .num⟩, ⟨10, 1, .w1c, false, false, .num⟩, ⟨11, 1, .w1c, false, false, .num⟩, ⟨12, 1, .w1c, false, false, .num⟩, ⟨13, 1, .w1c, false, false, .num⟩, ⟨14, 1, .w1c, false, false, .num⟩, ⟨15, 1, .w1c, false, false, .num⟩, ⟨16, 1, .w1c, false, false, .num⟩]⟩,
  ⟨0x3001C, 0x0, 1, [⟨0, 17, .ro, false, false, .hw⟩, ⟨17, 7, .ro, false, false, .hw⟩]⟩,
  ⟨0x30020, 0x0, 1, [⟨0, 17, .ro, false, false, .hw⟩, ⟨17, 7, .ro, false, false, .hw⟩]⟩]

/-- Register descriptors, part 3. -/
def regsCore3 : List RegD := [
  ⟨0x30024, 0x0, 1, [⟨0, 16, .rw, false, false, .num⟩, ⟨16, 16, .rw, false, false, .num⟩]⟩,
  ⟨0x40000, 0x0, 1, [⟨0, 1, .w1c, false, false, .num⟩, ⟨1, 1, .w1c, false, false, .num⟩, ⟨2, 1, .w1c, false, false, .num⟩, ⟨3, 1, .w1c, false, false, .num⟩, ⟨4, 1, .w1c, false, false, .num⟩]⟩,
  ⟨0x40004, 0x0, 1, [⟨0, 1, .rw, true, true, .num⟩]⟩,
  ⟨0x40008, 0x0, 1, [⟨0, 16, .ro, true, false, .hw⟩]⟩,
  ⟨0x40010, 0x4, 3, [⟨0, 1, .w1c, true, false, .hw⟩, ⟨1, 1, .w1c, true, false, .hw⟩, ⟨2, 1, .w1c, true, false, .hw⟩, ⟨3, 1, .w1c, true, false, .hw⟩, ⟨4, 1, .w1c, true, false, .hw⟩, ⟨5, 1, .w1c, true, false, .hw⟩, ⟨6, 1, .w1c, true, false, .hw⟩, ⟨7, 1, .w1c, true, false, .hw⟩, ⟨8, 1, .w1c, true, false, .hw⟩, ⟨9, 1, .w1c, true, false, .hw⟩, ⟨10, 1, .w1c, true, false, .hw⟩, ⟨11, 1, .w1c, true, false, .hw⟩, ⟨12, 1, .w1c, true, false, .hw⟩, ⟨13, 1, .w1c, true, false, .hw⟩, ⟨14, 1, .w1c, true, false, .hw⟩, ⟨15, 1, .w1c, true, false, .hw⟩, ⟨16, 1, .w1c, true, false, .hw⟩, ⟨17, 1, .w1c, true, false, .hw⟩, ⟨18, 1, .w1c, true, false, .hw⟩, ⟨19, 1, .w1c, true, false, .hw⟩, ⟨20, 1, .w1c, true, false, .hw⟩, ⟨21, 1, .w1c, true, false, .hw⟩, ⟨22, 1, .w1c, true, false, .hw⟩, ⟨23, 1, .w1c, true, false, .hw⟩, ⟨24, 1, .w1c, true, false, .hw⟩, ⟨25, 1, .w1c, true, false, .hw⟩, ⟨26, 1, .w1c, true, false, .hw⟩, ⟨27, 1, .w1c, true, false, .hw⟩, ⟨28, 1, .w1c, true, false, .hw⟩, ⟨29, 1, .w1c, true, false, .hw⟩, ⟨30, 1, .w1c, true, false, .hw⟩, ⟨31, 1, .w1c, true, false, .hw⟩]⟩,
  ⟨0x40020, 0x4, 3, [⟨0, 1, .w1c, true, false, .hw⟩, ⟨1, 1, .w1c, true, false, .hw⟩, ⟨2, 1, .w1c, true, false, .hw⟩, ⟨3, 1, .w1c, true, false, .hw⟩, ⟨4, 1, .w1c, true, false, .hw⟩, ⟨5, 1, .w1c, true, false, .hw⟩, ⟨6, 1, .w1c, true, false, .hw⟩, ⟨7, 1, .w1c, true, false, .hw⟩, ⟨8, 1, .w1c, true, false, .hw⟩, ⟨9, 1, .w1c, true, false, .hw⟩, ⟨10, 1, .w1c, true, false, .hw⟩, ⟨11, 1, .w1c, true, false, .hw⟩, ⟨12, 1, .w1c, true, false, .hw⟩, ⟨13, 1, .w1c, true, false, .hw⟩, ⟨14, 1, .w1c, true, false, .hw⟩, ⟨15, 1, .w1c, true, false, .hw⟩, ⟨16, 1, .w1c, true, false, .hw⟩, ⟨17, 1, .w1c, true, false, .hw⟩, ⟨18, 1, .w1c, true, false, .hw⟩, ⟨19, 1, .w1c, true, false, .hw⟩, ⟨20, 1, .w1c, true, false, .hw⟩, ⟨21, 1, .w1c, true, false, .hw⟩, ⟨22, 1, .w1c, true, false, .hw⟩, ⟨23, 1, .w1c, true, false, .hw⟩, ⟨24, 1, .w1c, true, false, .hw⟩, ⟨25, 1, .w1c, true, false, .hw⟩, ⟨26, 1, .w1c, true, false, .hw⟩, ⟨27, 1, .w1c, true, false, .hw⟩, ⟨28, 1, .w1c, true, false, .hw⟩, ⟨29, 1, .w1c, true, false, .hw⟩, ⟨30, 1, .w1c, true, false, .hw⟩, ⟨31, 1, .w1c, true, false, .hw⟩]⟩,
  ⟨0x40040, 0x4, 8, [⟨0, 13, .rw, true, false, .img⟩]⟩,
  ⟨0x40080, 0x8, 4, [⟨0, 1, .rw, true, false, .num⟩, ⟨1, 7, .rw, true, false, .num⟩]⟩,
  ⟨0x40084, 0x8, 4, [⟨0, 32, .rw, true, false, .num⟩]⟩,
  ⟨0x400A0, 0x0, 1, [⟨0, 16, .ro, false, false, .hw⟩]⟩,
  ⟨0x41000, 0x8, 96, [⟨0, 32, .rw, true, false, .hw⟩]⟩,
  ⟨0x41004, 0x8, 96, [⟨0, 16, .rw, true, false, .hw⟩]⟩,
  ⟨0x0, 0x0, 1, [⟨0, 16, .ro, false, false, .num⟩, ⟨16, 8, .ro, false, false, .num⟩]⟩,
  ⟨0x4, 0x0, 1, [⟨0, 32, .ro, false, false, .hw⟩]⟩,
  ⟨0x8, 0x0, 1, [⟨0, 32, .ro, false, false, .hw⟩]⟩,
  ⟨0xC, 0x0, 1, [⟨0, 1, .w1c, false, false, .num⟩, ⟨1, 1, .w1c, false, false, .num⟩, ⟨2, 1, .w1c, false, false, .num⟩, ⟨3, 1, .w1c, false, false, .num⟩, ⟨4, 1, .w1c, false, false, .num⟩, ⟨5, 1, .w1c, false, false, .num⟩, ⟨6, 1, .w1c, false, false, .num⟩]⟩,
  ⟨0x10, 0x0, 1, [⟨0, 2, .ro, false, false, .hw⟩, ⟨2, 1, .ro, false, false, .hw⟩, ⟨3, 1, .ro, false, false, .hw⟩, ⟨4, 1, .ro, false, false, .hw⟩]⟩,
  ⟨0x14, 0x0, 1, [⟨0, 4, .ro, false, false, .hw⟩, ⟨4, 1, .ro, false, false, .hw⟩, ⟨5, 1, .ro, false, false, .hw⟩, ⟨6, 1, .ro, false, false, .hw⟩, ⟨7, 1, .ro, false, false, .hw⟩]⟩,
  ⟨0x18, 0x0, 1, [⟨0, 4, .wonce, true, false, .num⟩]⟩,
  ⟨0x1C, 0x0, 1, [⟨0, 16, .rw, false, false, .num⟩, ⟨16, 16, .rw, false, false, .num⟩]⟩,
  ⟨0x20, 0x0, 1, [⟨0, 16, .rw, true, true, .img⟩]⟩,
  ⟨0x24, 0x0, 1, [⟨0, 16, .ro, false, false, .hw⟩, ⟨16, 16, .ro, false, false, .hw⟩]⟩,
  ⟨0x28, 0x0, 1, [⟨0, 5, .ro, false, false, .hw⟩, ⟨5, 3, .ro, false, false, .hw⟩, ⟨8, 6, .ro, false, false, .hw⟩]⟩,
  ⟨0x2C, 0x0, 1, [⟨0, 16, .ro, false, false, .hw⟩, ⟨16, 8, .rw, false, false, .img⟩, ⟨24, 1, .ro, false, false, .hw⟩]⟩]

/-- Register descriptors, part 4. -/
def regsCore4 : List RegD := [
  ⟨0x30, 0x0, 1, [⟨1, 16, .wo, true, false, .num⟩, ⟨17, 7, .wo, true, false, .num⟩]⟩,
  ⟨0x34, 0x0, 1, [⟨0, 16, .rw, false, false, .num⟩]⟩]

/-- Every register descriptor of this file. -/
def regsCore : List RegD := regsCore1 ++ regsCore2 ++ regsCore3 ++ regsCore4

end Sys2Proof.Machine
end

