-- ==== Sys2Proof/Machine/RegsIn.lean ====
section
/-!
DEFINITION. The register fields of REF, TIM and QUL (R107, R134), as the spec's
register tables lay them out: one named field per table row, and the descriptor list the bus reads.
A pair `_LO`/`_HI` is two registers.
-/
namespace Sys2Proof.Machine

def REF_BANK_STAT_PGOOD : Fld := ⟨0x50000, 0, 4⟩
def REF_BANK_STAT_CLASS : Fld := ⟨0x50000, 4, 8⟩
def REF_BANK_STAT_PFAIL_S (i : Nat) : Fld := ⟨0x50000, i + 12, 1⟩
def REF_STICKY_WONCE_VIOL : Fld := ⟨0x50004, 0, 1⟩
def REF_STICKY_RST_S : Fld := ⟨0x50004, 1, 1⟩
def REF_ACT_MAP_0_ACT : Fld := ⟨0x50008, 0, 32⟩
def REF_ACT_MAP_1_ACT : Fld := ⟨0x5000C, 0, 32⟩
def REF_CFG_EN (n : Nat) : Fld := ⟨0x51000 + 0x40 * n, 0, 1⟩
def REF_CFG_TYPE (n : Nat) : Fld := ⟨0x51000 + 0x40 * n, 1, 1⟩
def REF_CFG_INV (n : Nat) : Fld := ⟨0x51000 + 0x40 * n, 2, 1⟩
def REF_CFG_FORMAT (n : Nat) : Fld := ⟨0x51000 + 0x40 * n, 3, 3⟩
def REF_CFG_TERM (n : Nat) : Fld := ⟨0x51000 + 0x40 * n, 6, 1⟩
def REF_CFG_BIAS (n : Nat) : Fld := ⟨0x51000 + 0x40 * n, 7, 1⟩
def REF_DIV_DIV (n : Nat) : Fld := ⟨0x51004 + 0x40 * n, 0, 24⟩
def REF_FREQ_LO_FREQ (n : Nat) : Fld := ⟨0x51008 + 0x40 * n, 0, 32⟩
def REF_FREQ_HI_FREQ (n : Nat) : Fld := ⟨0x5100C + 0x40 * n, 0, 16⟩
def REF_GLITCH_GW (n : Nat) : Fld := ⟨0x51010 + 0x40 * n, 0, 11⟩
def REF_GLITCH_GW_UNIT (n : Nat) : Fld := ⟨0x51010 + 0x40 * n, 11, 1⟩
def REF_WIN_WIN_PPM (n : Nat) : Fld := ⟨0x51014 + 0x40 * n, 0, 16⟩
def REF_WIN_GATE (n : Nat) : Fld := ⟨0x51014 + 0x40 * n, 16, 4⟩
def REF_ACT_MISS_TOL (n : Nat) : Fld := ⟨0x51018 + 0x40 * n, 0, 8⟩
def REF_ACT_ACT_DIV (n : Nat) : Fld := ⟨0x51018 + 0x40 * n, 8, 16⟩
def REF_PW_MIN_PW (n : Nat) : Fld := ⟨0x5101C + 0x40 * n, 0, 32⟩
def REF_PW_MAX_PW (n : Nat) : Fld := ⟨0x51020 + 0x40 * n, 0, 32⟩
def REF_DLY_DLY (n : Nat) : Fld := ⟨0x51024 + 0x40 * n, 0, 32⟩
def REF_STAT_ACT (n : Nat) : Fld := ⟨0x51028 + 0x40 * n, 0, 1⟩
def REF_STAT_LEVEL_OK (n : Nat) : Fld := ⟨0x51028 + 0x40 * n, 1, 1⟩
def REF_STAT_WIN_OK (n : Nat) : Fld := ⟨0x51028 + 0x40 * n, 2, 1⟩
def REF_STAT_PW_OK (n : Nat) : Fld := ⟨0x51028 + 0x40 * n, 3, 1⟩
def REF_STAT_LOST (n : Nat) : Fld := ⟨0x51028 + 0x40 * n, 4, 1⟩
def REF_STAT_MISSING (n : Nat) : Fld := ⟨0x51028 + 0x40 * n, 8, 8⟩
def REF_STAT_LOST_S (n : Nat) : Fld := ⟨0x51028 + 0x40 * n, 16, 1⟩
def REF_STAT_LEVEL_S (n : Nat) : Fld := ⟨0x51028 + 0x40 * n, 17, 1⟩
def REF_STAT_WIN_S (n : Nat) : Fld := ⟨0x51028 + 0x40 * n, 18, 1⟩
def REF_STAT_PW_S (n : Nat) : Fld := ⟨0x51028 + 0x40 * n, 19, 1⟩
def REF_STAT_GLITCH_S (n : Nat) : Fld := ⟨0x51028 + 0x40 * n, 20, 1⟩
def REF_STAT_MISS_S (n : Nat) : Fld := ⟨0x51028 + 0x40 * n, 21, 1⟩
def REF_CNT_GLITCHES (n : Nat) : Fld := ⟨0x5102C + 0x40 * n, 0, 8⟩
def REF_CNT_MISSING (n : Nat) : Fld := ⟨0x5102C + 0x40 * n, 8, 8⟩
def REF_CNT_PW_FAIL (n : Nat) : Fld := ⟨0x5102C + 0x40 * n, 16, 8⟩
def REF_CNT_WIN_FAIL (n : Nat) : Fld := ⟨0x5102C + 0x40 * n, 24, 8⟩
def TIM_CTL_GERR_LIM : Fld := ⟨0x60000, 0, 8⟩
def TIM_CTL_OFS_LIM : Fld := ⟨0x60000, 8, 8⟩
def TIM_COARSE_LO_COARSE : Fld := ⟨0x60004, 0, 32⟩
def TIM_COARSE_HI_COARSE : Fld := ⟨0x60008, 0, 32⟩
def TIM_BND_LO_BND_COARSE : Fld := ⟨0x6000C, 0, 32⟩
def TIM_BND_HI_BND_COARSE : Fld := ⟨0x60010, 0, 16⟩
def TIM_BND_HI_BND_TICK : Fld := ⟨0x60010, 16, 16⟩
def TIM_QSTAT_OCC : Fld := ⟨0x60014, 0, 11⟩
def TIM_QSTAT_HWM : Fld := ⟨0x60014, 16, 11⟩
def TIM_BANKFULL_CNT_CYCLES : Fld := ⟨0x60018, 0, 32⟩
def TIM_STICKY_WONCE_VIOL : Fld := ⟨0x6001C, 0, 1⟩
def TIM_STICKY_CALFAIL : Fld := ⟨0x6001C, 1, 1⟩
def TIM_STICKY_DECIM : Fld := ⟨0x6001C, 2, 1⟩
def TIM_STICKY_LANE_DROP : Fld := ⟨0x6001C, 3, 1⟩
def TIM_STICKY_BANK_FULL : Fld := ⟨0x6001C, 4, 1⟩
def TIM_STICKY_BUSY_MISS : Fld := ⟨0x6001C, 5, 1⟩
def TIM_STICKY_OVF : Fld := ⟨0x6001C, 6, 1⟩
def TIM_STICKY_BANK_RST : Fld := ⟨0x6001C, 7, 1⟩
def TIM_BANK_STAT_RST : Fld := ⟨0x60020, 0, 3⟩
def TIM_BANK_STAT_SHADOW : Fld := ⟨0x60020, 4, 3⟩
def TIM_TAP_TAP_EN : Fld := ⟨0x60024, 0, 1⟩
def TIM_TAP_TAP_LANE : Fld := ⟨0x60024, 8, 7⟩
def TIM_TDL_CFG_SRC (n : Nat) : Fld := ⟨0x60100 + 0x10 * n, 0, 8⟩
def TIM_TDL_CFG_RPT (n : Nat) : Fld := ⟨0x60100 + 0x10 * n, 8, 4⟩
def TIM_TDL_STAT_OCC (n : Nat) : Fld := ⟨0x60104 + 0x10 * n, 0, 6⟩
def TIM_TDL_STAT_DFACT (n : Nat) : Fld := ⟨0x60104 + 0x10 * n, 8, 4⟩
def TIM_TDL_STAT_GERR (n : Nat) : Fld := ⟨0x60104 + 0x10 * n, 16, 8⟩
def TIM_TDL_STAT_OFS (n : Nat) : Fld := ⟨0x60104 + 0x10 * n, 24, 8⟩
def TIM_VRN_STAT_OCC (n : Nat) : Fld := ⟨0x60604 + 0x10 * n, 0, 6⟩
def TIM_VRN_STAT_DFACT (n : Nat) : Fld := ⟨0x60604 + 0x10 * n, 8, 4⟩
def TIM_VRN_STAT_GERR (n : Nat) : Fld := ⟨0x60604 + 0x10 * n, 16, 8⟩
def TIM_VRN_STAT_OFS (n : Nat) : Fld := ⟨0x60604 + 0x10 * n, 24, 8⟩
def TIM_TDL_CNT_DECIM_UP (n : Nat) : Fld := ⟨0x60108 + 0x10 * n, 0, 16⟩
def TIM_TDL_CNT_CALFAILS (n : Nat) : Fld := ⟨0x60108 + 0x10 * n, 16, 16⟩
def TIM_VRN_CNT_DECIM_UP (n : Nat) : Fld := ⟨0x60608 + 0x10 * n, 0, 16⟩
def TIM_VRN_CNT_CALFAILS (n : Nat) : Fld := ⟨0x60608 + 0x10 * n, 16, 16⟩
def TIM_TDL_SEQ_DROP (n : Nat) : Fld := ⟨0x6010C + 0x10 * n, 0, 16⟩
def TIM_TDL_SEQ_SEQ (n : Nat) : Fld := ⟨0x6010C + 0x10 * n, 16, 16⟩
def TIM_VRN_CFG_SRC (n : Nat) : Fld := ⟨0x60600 + 0x10 * n, 0, 8⟩
def TIM_VRN_SEQ_DROP (n : Nat) : Fld := ⟨0x6060C + 0x10 * n, 0, 8⟩
def TIM_VRN_SEQ_BUSY_MISS (n : Nat) : Fld := ⟨0x6060C + 0x10 * n, 8, 8⟩
def TIM_VRN_SEQ_SEQ (n : Nat) : Fld := ⟨0x6060C + 0x10 * n, 16, 16⟩
def QUL_STICKY_WONCE_VIOL : Fld := ⟨0x70000, 0, 1⟩
def QUL_STICKY_RST_S : Fld := ⟨0x70000, 1, 1⟩
def QUL_COMMIT_TICK_TICK : Fld := ⟨0x70004, 0, 16⟩
def QUL_STATE_MAP_STATE (n : Nat) : Fld := ⟨0x70010 + 0x4 * n, 0, 32⟩
def QUL_CFG_SOAK (n : Nat) : Fld := ⟨0x71000 + 0x80 * n, 0, 16⟩
def QUL_CFG_BASE (n : Nat) : Fld := ⟨0x71000 + 0x80 * n, 16, 1⟩
def QUL_CFG_CHAN (n : Nat) : Fld := ⟨0x71000 + 0x80 * n, 17, 4⟩
def QUL_CFG_QL_EN (n : Nat) : Fld := ⟨0x71000 + 0x80 * n, 21, 1⟩
def QUL_CFG_QL_MAX (n : Nat) : Fld := ⟨0x71000 + 0x80 * n, 22, 4⟩
def QUL_CFG_INT_EN (n : Nat) : Fld := ⟨0x71000 + 0x80 * n, 26, 1⟩
def QUL_CFG_FORCE (n : Nat) : Fld := ⟨0x71000 + 0x80 * n, 27, 1⟩
def QUL_CFG_HOST_DQ (n : Nat) : Fld := ⟨0x71000 + 0x80 * n, 28, 1⟩
def QUL_FWIN_W0 (n : Nat) : Fld := ⟨0x71004 + 0x80 * n, 0, 16⟩
def QUL_FWIN_W1 (n : Nat) : Fld := ⟨0x71004 + 0x80 * n, 16, 16⟩
def QUL_FWIN2_W2 (n : Nat) : Fld := ⟨0x71008 + 0x80 * n, 0, 16⟩
def QUL_FWIN2_DW (n : Nat) : Fld := ⟨0x71008 + 0x80 * n, 16, 16⟩
def QUL_FSOFT0_LIM (n : Nat) : Fld := ⟨0x7100C + 0x80 * n, 0, 32⟩
def QUL_FHARD0_LIM (n : Nat) : Fld := ⟨0x71010 + 0x80 * n, 0, 32⟩
def QUL_FSOFT1_LIM (n : Nat) : Fld := ⟨0x71014 + 0x80 * n, 0, 32⟩
def QUL_FHARD1_LIM (n : Nat) : Fld := ⟨0x71018 + 0x80 * n, 0, 32⟩
def QUL_FSOFT2_LIM (n : Nat) : Fld := ⟨0x7101C + 0x80 * n, 0, 32⟩
def QUL_FHARD2_LIM (n : Nat) : Fld := ⟨0x71020 + 0x80 * n, 0, 32⟩
def QUL_DSOFT_LIM (n : Nat) : Fld := ⟨0x71024 + 0x80 * n, 0, 32⟩
def QUL_DHARD_LIM (n : Nat) : Fld := ⟨0x71028 + 0x80 * n, 0, 32⟩
def QUL_WSOFT_LIM (n : Nat) : Fld := ⟨0x7102C + 0x80 * n, 0, 32⟩
def QUL_WHARD_LIM (n : Nat) : Fld := ⟨0x71030 + 0x80 * n, 0, 32⟩
def QUL_TIMES_WW (n : Nat) : Fld := ⟨0x71034 + 0x80 * n, 0, 16⟩
def QUL_TIMES_SREC (n : Nat) : Fld := ⟨0x71034 + 0x80 * n, 16, 16⟩
def QUL_INT_BASE_INT_BASE (n : Nat) : Fld := ⟨0x71038 + 0x80 * n, 0, 32⟩
def QUL_INT_LIM_INT_LIM (n : Nat) : Fld := ⟨0x7103C + 0x80 * n, 0, 32⟩
def QUL_LOSS_TO_LOSS_TO (n : Nat) : Fld := ⟨0x71040 + 0x80 * n, 0, 32⟩
def QUL_FADE_FADE (n : Nat) : Fld := ⟨0x71044 + 0x80 * n, 0, 13⟩
def QUL_FADE_QL_PIN (n : Nat) : Fld := ⟨0x71044 + 0x80 * n, 16, 4⟩
def QUL_STAT_STATE (n : Nat) : Fld := ⟨0x71048 + 0x80 * n, 0, 3⟩
def QUL_STAT_CAUSE_W (n : Nat) : Fld := ⟨0x71048 + 0x80 * n, 3, 1⟩
def QUL_STAT_CAUSE (n : Nat) : Fld := ⟨0x71048 + 0x80 * n, 4, 4⟩
def QUL_STAT_LOSS (n : Nat) : Fld := ⟨0x71048 + 0x80 * n, 8, 1⟩
def QUL_STAT_LOW_REP (n : Nat) : Fld := ⟨0x71048 + 0x80 * n, 9, 1⟩
def QUL_STAT_FSOFT (n : Nat) : Fld := ⟨0x71048 + 0x80 * n, 10, 1⟩
def QUL_STAT_FHARD (n : Nat) : Fld := ⟨0x71048 + 0x80 * n, 11, 1⟩
def QUL_STAT_DSOFT (n : Nat) : Fld := ⟨0x71048 + 0x80 * n, 12, 1⟩
def QUL_STAT_DHARD (n : Nat) : Fld := ⟨0x71048 + 0x80 * n, 13, 1⟩
def QUL_STAT_WSOFT (n : Nat) : Fld := ⟨0x71048 + 0x80 * n, 14, 1⟩
def QUL_STAT_WHARD (n : Nat) : Fld := ⟨0x71048 + 0x80 * n, 15, 1⟩
def QUL_STAT_EXCESS (n : Nat) : Fld := ⟨0x71048 + 0x80 * n, 16, 1⟩
def QUL_STAT_QL_BAD (n : Nat) : Fld := ⟨0x71048 + 0x80 * n, 17, 1⟩
def QUL_STAT_WINDOW (n : Nat) : Fld := ⟨0x71048 + 0x80 * n, 18, 1⟩
def QUL_STAT_SHADOW (n : Nat) : Fld := ⟨0x71048 + 0x80 * n, 19, 1⟩
def QUL_STAT_CAUSE_LOW (n : Nat) : Fld := ⟨0x71048 + 0x80 * n, 20, 2⟩
def QUL_STICKY_DQ_S (n : Nat) : Fld := ⟨0x7104C + 0x80 * n, 0, 1⟩
def QUL_STICKY_SUS_S (n : Nat) : Fld := ⟨0x7104C + 0x80 * n, 1, 1⟩
def QUL_STICKY_QUAL_S (n : Nat) : Fld := ⟨0x7104C + 0x80 * n, 2, 1⟩
def QUL_STICKY_STEEP_S (n : Nat) : Fld := ⟨0x7104C + 0x80 * n, 3, 1⟩
def QUL_STICKY_LOSS_S (n : Nat) : Fld := ⟨0x7104C + 0x80 * n, 4, 1⟩
def QUL_STICKY_FSOFT_S (n : Nat) : Fld := ⟨0x7104C + 0x80 * n, 5, 1⟩
def QUL_STICKY_FHARD_S (n : Nat) : Fld := ⟨0x7104C + 0x80 * n, 6, 1⟩
def QUL_STICKY_DRIFT_S (n : Nat) : Fld := ⟨0x7104C + 0x80 * n, 7, 1⟩
def QUL_STICKY_WANDER_S (n : Nat) : Fld := ⟨0x7104C + 0x80 * n, 8, 1⟩
def QUL_STICKY_EXCESS_S (n : Nat) : Fld := ⟨0x7104C + 0x80 * n, 9, 1⟩
def QUL_STICKY_QL_S (n : Nat) : Fld := ⟨0x7104C + 0x80 * n, 10, 1⟩
def QUL_STICKY_WIN_S (n : Nat) : Fld := ⟨0x7104C + 0x80 * n, 11, 1⟩
def QUL_STICKY_MASK_S (n : Nat) : Fld := ⟨0x7104C + 0x80 * n, 12, 1⟩
def QUL_STICKY_ADEV_S (n : Nat) : Fld := ⟨0x7104C + 0x80 * n, 13, 1⟩
def QUL_STICKY_FORCE_S (n : Nat) : Fld := ⟨0x7104C + 0x80 * n, 14, 1⟩
def QUL_STEEP_STEEP_LEFT (n : Nat) : Fld := ⟨0x71050 + 0x80 * n, 0, 16⟩
def QUL_STEEP_QL_RANK (n : Nat) : Fld := ⟨0x71050 + 0x80 * n, 16, 4⟩
def QUL_STEEP_ADEV_OK (n : Nat) : Fld := ⟨0x71050 + 0x80 * n, 20, 4⟩
def QUL_FOFS0_FOFS (n : Nat) : Fld := ⟨0x71054 + 0x80 * n, 0, 32⟩
def QUL_FOFS1_FOFS (n : Nat) : Fld := ⟨0x71058 + 0x80 * n, 0, 32⟩
def QUL_FOFS2_FOFS (n : Nat) : Fld := ⟨0x7105C + 0x80 * n, 0, 32⟩
def QUL_DRIFT_DRIFT (n : Nat) : Fld := ⟨0x71060 + 0x80 * n, 0, 32⟩
def QUL_WANDER_WANDER (n : Nat) : Fld := ⟨0x71064 + 0x80 * n, 0, 32⟩
def QUL_EXCESS_EXCESS (n : Nat) : Fld := ⟨0x71068 + 0x80 * n, 0, 32⟩
def QUL_ADEV1S_ADEV (n : Nat) : Fld := ⟨0x7106C + 0x80 * n, 0, 32⟩
def QUL_ADEV10S_ADEV (n : Nat) : Fld := ⟨0x71070 + 0x80 * n, 0, 32⟩
def QUL_ADEV100S_ADEV (n : Nat) : Fld := ⟨0x71074 + 0x80 * n, 0, 32⟩
def QUL_ADEV1KS_ADEV (n : Nat) : Fld := ⟨0x71078 + 0x80 * n, 0, 32⟩
def QUL_CNT_MASKED (n : Nat) : Fld := ⟨0x7107C + 0x80 * n, 0, 16⟩
def QUL_CNT_TRANS (n : Nat) : Fld := ⟨0x7107C + 0x80 * n, 16, 16⟩

/-- Register descriptors, part 1. -/
def regsIn1 : List RegD := [
  ⟨0x50000, 0x0, 1, [⟨0, 4, .ro, false, false, .hw⟩, ⟨4, 8, .ro, false, false, .hw⟩, ⟨12, 1, .w1c, false, false, .num⟩, ⟨13, 1, .w1c, false, false, .num⟩, ⟨14, 1, .w1c, false, false, .num⟩, ⟨15, 1, .w1c, false, false, .num⟩]⟩,
  ⟨0x50004, 0x0, 1, [⟨0, 1, .w1c, false, false, .num⟩, ⟨1, 1, .w1c, false, false, .num⟩]⟩,
  ⟨0x50008, 0x0, 1, [⟨0, 32, .ro, false, false, .hw⟩]⟩,
  ⟨0x5000C, 0x0, 1, [⟨0, 32, .ro, false, false, .hw⟩]⟩,
  ⟨0x51000, 0x40, 32, [⟨0, 1, .rw, false, false, .img⟩, ⟨1, 1, .rw, false, false, .img⟩, ⟨2, 1, .rw, false, false, .img⟩, ⟨3, 3, .rw, false, false, .img⟩, ⟨6, 1, .rw, false, false, .img⟩, ⟨7, 1, .rw, false, false, .img⟩]⟩,
  ⟨0x51800, 0x40, 24, [⟨0, 1, .rw, false, false, .img⟩, ⟨1, 1, .rw, false, false, .img⟩]⟩,
  ⟨0x51004, 0x40, 56, [⟨0, 24, .rw, false, false, .img⟩]⟩,
  ⟨0x51008, 0x40, 56, [⟨0, 32, .rw, false, false, .img⟩]⟩,
  ⟨0x5100C, 0x40, 56, [⟨0, 16, .rw, false, false, .img⟩]⟩,
  ⟨0x51010, 0x40, 32, [⟨0, 11, .rw, false, false, .img⟩, ⟨11, 1, .rw, false, false, .img⟩]⟩,
  ⟨0x51014, 0x40, 56, [⟨0, 16, .rw, false, false, .img⟩, ⟨16, 4, .rw, false, false, .img⟩]⟩,
  ⟨0x51018, 0x40, 56, [⟨0, 8, .rw, false, false, .img⟩, ⟨8, 16, .rw, false, false, .img⟩]⟩,
  ⟨0x5101C, 0x40, 32, [⟨0, 32, .rw, false, false, .img⟩]⟩,
  ⟨0x51020, 0x40, 32, [⟨0, 32, .rw, false, false, .img⟩]⟩,
  ⟨0x51024, 0x40, 56, [⟨0, 32, .rw, false, false, .img⟩]⟩,
  ⟨0x51028, 0x40, 56, [⟨0, 1, .ro, false, false, .hw⟩, ⟨1, 1, .ro, false, false, .hw⟩, ⟨2, 1, .ro, false, false, .hw⟩, ⟨3, 1, .ro, false, false, .hw⟩, ⟨4, 1, .ro, false, false, .hw⟩, ⟨8, 8, .ro, false, false, .hw⟩, ⟨16, 1, .w1c, false, false, .num⟩, ⟨17, 1, .w1c, false, false, .num⟩, ⟨18, 1, .w1c, false, false, .num⟩, ⟨19, 1, .w1c, false, false, .num⟩, ⟨20, 1, .w1c, false, false, .num⟩, ⟨21, 1, .w1c, false, false, .num⟩]⟩,
  ⟨0x5102C, 0x40, 56, [⟨0, 8, .rw, false, false, .num⟩, ⟨8, 8, .rw, false, false, .num⟩, ⟨16, 8, .rw, false, false, .num⟩, ⟨24, 8, .rw, false, false, .num⟩]⟩,
  ⟨0x60000, 0x0, 1, [⟨0, 8, .rw, false, false, .img⟩, ⟨8, 8, .rw, false, false, .img⟩]⟩,
  ⟨0x60004, 0x0, 1, [⟨0, 32, .ro, false, false, .hw⟩]⟩,
  ⟨0x60008, 0x0, 1, [⟨0, 32, .ro, false, false, .hw⟩]⟩,
  ⟨0x6000C, 0x0, 1, [⟨0, 32, .ro, false, false, .hw⟩]⟩,
  ⟨0x60010, 0x0, 1, [⟨0, 16, .ro, false, false, .hw⟩, ⟨16, 16, .ro, false, false, .hw⟩]⟩,
  ⟨0x60014, 0x0, 1, [⟨0, 11, .ro, false, false, .hw⟩, ⟨16, 11, .rw, false, false, .num⟩]⟩,
  ⟨0x60018, 0x0, 1, [⟨0, 32, .rw, false, false, .num⟩]⟩]

/-- Register descriptors, part 2. -/
def regsIn2 : List RegD := [
  ⟨0x6001C, 0x0, 1, [⟨0, 1, .w1c, false, false, .num⟩, ⟨1, 1, .w1c, false, false, .num⟩, ⟨2, 1, .w1c, false, false, .num⟩, ⟨3, 1, .w1c, false, false, .num⟩, ⟨4, 1, .w1c, false, false, .num⟩, ⟨5, 1, .w1c, false, false, .num⟩, ⟨6, 1, .w1c, false, false, .num⟩, ⟨7, 1, .w1c, false, false, .num⟩]⟩,
  ⟨0x60020, 0x0, 1, [⟨0, 3, .ro, false, false, .hw⟩, ⟨4, 3, .ro, false, false, .hw⟩]⟩,
  ⟨0x60024, 0x0, 1, [⟨0, 1, .rw, false, false, .num⟩, ⟨8, 7, .rw, false, false, .num⟩]⟩,
  ⟨0x60100, 0x10, 64, [⟨0, 8, .rw, false, false, .img⟩, ⟨8, 4, .rw, false, false, .img⟩]⟩,
  ⟨0x60104, 0x10, 64, [⟨0, 6, .ro, false, false, .hw⟩, ⟨8, 4, .ro, false, false, .hw⟩, ⟨16, 8, .ro, false, false, .hw⟩, ⟨24, 8, .ro, false, false, .hw⟩]⟩,
  ⟨0x60604, 0x10, 16, [⟨0, 6, .ro, false, false, .hw⟩, ⟨8, 4, .ro, false, false, .hw⟩, ⟨16, 8, .ro, false, false, .hw⟩, ⟨24, 8, .ro, false, false, .hw⟩]⟩,
  ⟨0x60108, 0x10, 64, [⟨0, 16, .rw, false, false, .num⟩, ⟨16, 16, .rw, false, false, .num⟩]⟩,
  ⟨0x60608, 0x10, 16, [⟨0, 16, .rw, false, false, .num⟩, ⟨16, 16, .rw, false, false, .num⟩]⟩,
  ⟨0x6010C, 0x10, 64, [⟨0, 16, .rw, false, false, .num⟩, ⟨16, 16, .ro, false, false, .num⟩]⟩,
  ⟨0x60680, 0x10, 8, [⟨0, 8, .rw, false, false, .img⟩]⟩,
  ⟨0x60600, 0x10, 8, [⟨0, 8, .ro, false, false, .hw⟩]⟩,
  ⟨0x6060C, 0x10, 16, [⟨0, 8, .rw, false, false, .num⟩, ⟨8, 8, .rw, false, false, .num⟩, ⟨16, 16, .ro, false, false, .num⟩]⟩,
  ⟨0x70000, 0x0, 1, [⟨0, 1, .w1c, false, false, .num⟩, ⟨1, 1, .w1c, false, false, .num⟩]⟩,
  ⟨0x70004, 0x0, 1, [⟨0, 16, .ro, false, false, .hw⟩]⟩,
  ⟨0x70010, 0x4, 11, [⟨0, 32, .ro, false, false, .num⟩]⟩,
  ⟨0x71000, 0x80, 88, [⟨0, 16, .rw, false, false, .img⟩, ⟨16, 1, .rw, false, false, .img⟩, ⟨17, 4, .rw, false, false, .img⟩, ⟨21, 1, .rw, false, false, .img⟩, ⟨22, 4, .rw, false, false, .img⟩, ⟨26, 1, .rw, false, false, .img⟩, ⟨27, 1, .rw, false, false, .img⟩, ⟨28, 1, .rw, false, false, .num⟩]⟩,
  ⟨0x71004, 0x80, 88, [⟨0, 16, .rw, false, false, .img⟩, ⟨16, 16, .rw, false, false, .img⟩]⟩,
  ⟨0x71008, 0x80, 88, [⟨0, 16, .rw, false, false, .img⟩, ⟨16, 16, .rw, false, false, .img⟩]⟩,
  ⟨0x7100C, 0x80, 88, [⟨0, 32, .rw, false, false, .img⟩]⟩,
  ⟨0x71010, 0x80, 88, [⟨0, 32, .rw, false, false, .img⟩]⟩,
  ⟨0x71014, 0x80, 88, [⟨0, 32, .rw, false, false, .img⟩]⟩,
  ⟨0x71018, 0x80, 88, [⟨0, 32, .rw, false, false, .img⟩]⟩,
  ⟨0x7101C, 0x80, 88, [⟨0, 32, .rw, false, false, .img⟩]⟩,
  ⟨0x71020, 0x80, 88, [⟨0, 32, .rw, false, false, .img⟩]⟩]

/-- Register descriptors, part 3. -/
def regsIn3 : List RegD := [
  ⟨0x71024, 0x80, 88, [⟨0, 32, .rw, false, false, .img⟩]⟩,
  ⟨0x71028, 0x80, 88, [⟨0, 32, .rw, false, false, .img⟩]⟩,
  ⟨0x7102C, 0x80, 88, [⟨0, 32, .rw, false, false, .img⟩]⟩,
  ⟨0x71030, 0x80, 88, [⟨0, 32, .rw, false, false, .img⟩]⟩,
  ⟨0x71034, 0x80, 88, [⟨0, 16, .rw, false, false, .img⟩, ⟨16, 16, .rw, false, false, .img⟩]⟩,
  ⟨0x71038, 0x80, 88, [⟨0, 32, .rw, false, false, .img⟩]⟩,
  ⟨0x7103C, 0x80, 88, [⟨0, 32, .rw, false, false, .img⟩]⟩,
  ⟨0x71040, 0x80, 88, [⟨0, 32, .rw, false, false, .img⟩]⟩,
  ⟨0x71044, 0x80, 32, [⟨0, 13, .rw, false, false, .img⟩, ⟨16, 4, .rw, false, false, .img⟩]⟩,
  ⟨0x72044, 0x80, 56, [⟨0, 13, .rw, false, false, .img⟩]⟩,
  ⟨0x71048, 0x80, 88, [⟨0, 3, .ro, false, false, .num⟩, ⟨3, 1, .ro, false, false, .num⟩, ⟨4, 4, .ro, false, false, .num⟩, ⟨8, 1, .ro, false, false, .hw⟩, ⟨9, 1, .ro, false, false, .hw⟩, ⟨10, 1, .ro, false, false, .hw⟩, ⟨11, 1, .ro, false, false, .hw⟩, ⟨12, 1, .ro, false, false, .hw⟩, ⟨13, 1, .ro, false, false, .hw⟩, ⟨14, 1, .ro, false, false, .hw⟩, ⟨15, 1, .ro, false, false, .hw⟩, ⟨16, 1, .ro, false, false, .hw⟩, ⟨17, 1, .ro, false, false, .hw⟩, ⟨18, 1, .ro, false, false, .hw⟩, ⟨19, 1, .ro, false, false, .hw⟩, ⟨20, 2, .ro, false, false, .num⟩]⟩,
  ⟨0x7104C, 0x80, 88, [⟨0, 1, .w1c, false, false, .num⟩, ⟨1, 1, .w1c, false, false, .num⟩, ⟨2, 1, .w1c, false, false, .num⟩, ⟨3, 1, .w1c, false, false, .num⟩, ⟨4, 1, .w1c, false, false, .num⟩, ⟨5, 1, .w1c, false, false, .num⟩, ⟨6, 1, .w1c, false, false, .num⟩, ⟨7, 1, .w1c, false, false, .num⟩, ⟨8, 1, .w1c, false, false, .num⟩, ⟨9, 1, .w1c, false, false, .num⟩, ⟨10, 1, .w1c, false, false, .num⟩, ⟨11, 1, .w1c, false, false, .num⟩, ⟨12, 1, .w1c, false, false, .num⟩, ⟨13, 1, .w1c, false, false, .num⟩, ⟨14, 1, .w1c, false, false, .num⟩]⟩,
  ⟨0x71050, 0x80, 88, [⟨0, 16, .ro, false, false, .num⟩, ⟨16, 4, .ro, false, false, .hw⟩, ⟨20, 4, .ro, false, false, .num⟩]⟩,
  ⟨0x71054, 0x80, 88, [⟨0, 32, .ro, false, false, .num⟩]⟩,
  ⟨0x71058, 0x80, 88, [⟨0, 32, .ro, false, false, .num⟩]⟩,
  ⟨0x7105C, 0x80, 88, [⟨0, 32, .ro, false, false, .num⟩]⟩,
  ⟨0x71060, 0x80, 88, [⟨0, 32, .ro, false, false, .num⟩]⟩,
  ⟨0x71064, 0x80, 88, [⟨0, 32, .ro, false, false, .num⟩]⟩,
  ⟨0x71068, 0x80, 88, [⟨0, 32, .ro, false, false, .num⟩]⟩,
  ⟨0x7106C, 0x80, 88, [⟨0, 32, .ro, false, false, .num⟩]⟩,
  ⟨0x71070, 0x80, 88, [⟨0, 32, .ro, false, false, .num⟩]⟩,
  ⟨0x71074, 0x80, 88, [⟨0, 32, .ro, false, false, .num⟩]⟩,
  ⟨0x71078, 0x80, 88, [⟨0, 32, .ro, false, false, .num⟩]⟩,
  ⟨0x7107C, 0x80, 88, [⟨0, 16, .rw, false, false, .num⟩, ⟨16, 16, .rw, false, false, .num⟩]⟩]

/-- Every register descriptor of this file. -/
def regsIn : List RegD := regsIn1 ++ regsIn2 ++ regsIn3

end Sys2Proof.Machine
end

