-- ==== Sys2Proof/Machine/RegsLoop.lean ====
section
/-!
DEFINITION. The register fields of SEL, LPE and CSK (R166, R197, R226), as the spec's
register tables lay them out: one named field per table row, and the descriptor list the bus reads.
A pair `_LO`/`_HI` is two registers.
-/
namespace Sys2Proof.Machine

def SEL_STICKY_WONCE_VIOL : Fld := ⟨0x80000, 0, 1⟩
def SEL_STICKY_RST_S : Fld := ⟨0x80000, 1, 1⟩
def SEL_CTL_MODE (n : Nat) : Fld := ⟨0x81000 + 0x100 * n, 0, 2⟩
def SEL_CTL_EN (n : Nat) : Fld := ⟨0x81000 + 0x100 * n, 2, 1⟩
def SEL_CTL_REVERT (n : Nat) : Fld := ⟨0x81000 + 0x100 * n, 3, 1⟩
def SEL_CTL_QL_FIRST (n : Nat) : Fld := ⟨0x81000 + 0x100 * n, 4, 1⟩
def SEL_CTL_BO_MODE (n : Nat) : Fld := ⟨0x81000 + 0x100 * n, 5, 1⟩
def SEL_CTL_WTAU (n : Nat) : Fld := ⟨0x81000 + 0x100 * n, 6, 2⟩
def SEL_CTL_PRIMARY (n : Nat) : Fld := ⟨0x81000 + 0x100 * n, 8, 7⟩
def SEL_CTL_OVR_SLOT (n : Nat) : Fld := ⟨0x81000 + 0x100 * n, 16, 7⟩
def SEL_LIST0_SLOT (n : Nat) (i : Nat) : Fld := ⟨0x81004 + 0x100 * n, 8 * i, 7⟩
def SEL_LIST0_V (n : Nat) (i : Nat) : Fld := ⟨0x81004 + 0x100 * n, 8 * i + 7, 1⟩
def SEL_LIST1_SLOT (n : Nat) (i : Nat) : Fld := ⟨0x81008 + 0x100 * n, 8 * i, 7⟩
def SEL_LIST1_V (n : Nat) (i : Nat) : Fld := ⟨0x81008 + 0x100 * n, 8 * i + 7, 1⟩
def SEL_LIST2_SLOT (n : Nat) (i : Nat) : Fld := ⟨0x8100C + 0x100 * n, 8 * i, 7⟩
def SEL_LIST2_V (n : Nat) (i : Nat) : Fld := ⟨0x8100C + 0x100 * n, 8 * i + 7, 1⟩
def SEL_LIST3_SLOT (n : Nat) (i : Nat) : Fld := ⟨0x81010 + 0x100 * n, 8 * i, 7⟩
def SEL_LIST3_V (n : Nat) (i : Nat) : Fld := ⟨0x81010 + 0x100 * n, 8 * i + 7, 1⟩
def SEL_XFER_XFER (n : Nat) : Fld := ⟨0x81014 + 0x100 * n, 0, 16⟩
def SEL_FSLOPE_FSLOPE (n : Nat) : Fld := ⟨0x81018 + 0x100 * n, 0, 32⟩
def SEL_PSLOPE_PSLOPE (n : Nat) : Fld := ⟨0x8101C + 0x100 * n, 0, 32⟩
def SEL_MEM0_SLOT (n : Nat) (i : Nat) : Fld := ⟨0x81020 + 0x100 * n, 16 * i, 7⟩
def SEL_MEM0_V (n : Nat) (i : Nat) : Fld := ⟨0x81020 + 0x100 * n, 16 * i + 7, 1⟩
def SEL_MEM0_BIAS (n : Nat) (i : Nat) : Fld := ⟨0x81020 + 0x100 * n, 16 * i + 8, 8⟩
def SEL_MEM1_SLOT (n : Nat) (i : Nat) : Fld := ⟨0x81024 + 0x100 * n, 16 * i, 7⟩
def SEL_MEM1_V (n : Nat) (i : Nat) : Fld := ⟨0x81024 + 0x100 * n, 16 * i + 7, 1⟩
def SEL_MEM1_BIAS (n : Nat) (i : Nat) : Fld := ⟨0x81024 + 0x100 * n, 16 * i + 8, 8⟩
def SEL_MEM2_SLOT (n : Nat) (i : Nat) : Fld := ⟨0x81028 + 0x100 * n, 16 * i, 7⟩
def SEL_MEM2_V (n : Nat) (i : Nat) : Fld := ⟨0x81028 + 0x100 * n, 16 * i + 7, 1⟩
def SEL_MEM2_BIAS (n : Nat) (i : Nat) : Fld := ⟨0x81028 + 0x100 * n, 16 * i + 8, 8⟩
def SEL_MEM3_SLOT (n : Nat) (i : Nat) : Fld := ⟨0x8102C + 0x100 * n, 16 * i, 7⟩
def SEL_MEM3_V (n : Nat) (i : Nat) : Fld := ⟨0x8102C + 0x100 * n, 16 * i + 7, 1⟩
def SEL_MEM3_BIAS (n : Nat) (i : Nat) : Fld := ⟨0x8102C + 0x100 * n, 16 * i + 8, 8⟩
def SEL_DEFADEV0_DEF_ADEV (n : Nat) : Fld := ⟨0x81030 + 0x100 * n, 0, 32⟩
def SEL_DEFADEV1_DEF_ADEV (n : Nat) : Fld := ⟨0x81034 + 0x100 * n, 0, 32⟩
def SEL_DEFADEV2_DEF_ADEV (n : Nat) : Fld := ⟨0x81038 + 0x100 * n, 0, 32⟩
def SEL_DEFADEV3_DEF_ADEV (n : Nat) : Fld := ⟨0x8103C + 0x100 * n, 0, 32⟩
def SEL_STAT_SSTATE (n : Nat) : Fld := ⟨0x81040 + 0x100 * n, 0, 3⟩
def SEL_STAT_HAS_PHASE (n : Nat) : Fld := ⟨0x81040 + 0x100 * n, 3, 1⟩
def SEL_STAT_REQ_PEND (n : Nat) : Fld := ⟨0x81040 + 0x100 * n, 4, 1⟩
def SEL_STAT_ABSORBING (n : Nat) : Fld := ⟨0x81040 + 0x100 * n, 5, 1⟩
def SEL_STAT_CARRY (n : Nat) : Fld := ⟨0x81040 + 0x100 * n, 6, 1⟩
def SEL_STAT_CUR (n : Nat) : Fld := ⟨0x81040 + 0x100 * n, 8, 7⟩
def SEL_STAT_TGT (n : Nat) : Fld := ⟨0x81040 + 0x100 * n, 16, 7⟩
def SEL_STAT_MEMBERS (n : Nat) : Fld := ⟨0x81040 + 0x100 * n, 24, 4⟩
def SEL_PROG_K (n : Nat) : Fld := ⟨0x81044 + 0x100 * n, 0, 24⟩
def SEL_XLEN_XLEN (n : Nat) : Fld := ⟨0x81048 + 0x100 * n, 0, 24⟩
def SEL_TICK_TICK (n : Nat) : Fld := ⟨0x8104C + 0x100 * n, 0, 16⟩
def SEL_TICK_SWITCHES (n : Nat) : Fld := ⟨0x8104C + 0x100 * n, 16, 16⟩
def SEL_BO_LO_OFS (n : Nat) : Fld := ⟨0x81050 + 0x100 * n, 0, 32⟩
def SEL_BO_HI_OFS (n : Nat) : Fld := ⟨0x81054 + 0x100 * n, 0, 32⟩
def SEL_EBO_LO_OFS (n : Nat) : Fld := ⟨0x81058 + 0x100 * n, 0, 32⟩
def SEL_EBO_HI_OFS (n : Nat) : Fld := ⟨0x8105C + 0x100 * n, 0, 32⟩
def SEL_DF_DF (n : Nat) : Fld := ⟨0x81060 + 0x100 * n, 0, 32⟩
def SEL_WT0_W (n : Nat) : Fld := ⟨0x81070 + 0x100 * n, 0, 17⟩
def SEL_WT0_HELD (n : Nat) : Fld := ⟨0x81070 + 0x100 * n, 17, 1⟩
def SEL_WT0_IN (n : Nat) : Fld := ⟨0x81070 + 0x100 * n, 18, 1⟩
def SEL_WT0_F (n : Nat) : Fld := ⟨0x81070 + 0x100 * n, 19, 13⟩
def SEL_WT1_W (n : Nat) : Fld := ⟨0x81074 + 0x100 * n, 0, 17⟩
def SEL_WT1_HELD (n : Nat) : Fld := ⟨0x81074 + 0x100 * n, 17, 1⟩
def SEL_WT1_IN (n : Nat) : Fld := ⟨0x81074 + 0x100 * n, 18, 1⟩
def SEL_WT1_F (n : Nat) : Fld := ⟨0x81074 + 0x100 * n, 19, 13⟩
def SEL_WT2_W (n : Nat) : Fld := ⟨0x81078 + 0x100 * n, 0, 17⟩
def SEL_WT2_HELD (n : Nat) : Fld := ⟨0x81078 + 0x100 * n, 17, 1⟩
def SEL_WT2_IN (n : Nat) : Fld := ⟨0x81078 + 0x100 * n, 18, 1⟩
def SEL_WT2_F (n : Nat) : Fld := ⟨0x81078 + 0x100 * n, 19, 13⟩
def SEL_WT3_W (n : Nat) : Fld := ⟨0x8107C + 0x100 * n, 0, 17⟩
def SEL_WT3_HELD (n : Nat) : Fld := ⟨0x8107C + 0x100 * n, 17, 1⟩
def SEL_WT3_IN (n : Nat) : Fld := ⟨0x8107C + 0x100 * n, 18, 1⟩
def SEL_WT3_F (n : Nat) : Fld := ⟨0x8107C + 0x100 * n, 19, 13⟩
def SEL_WT4_W (n : Nat) : Fld := ⟨0x81080 + 0x100 * n, 0, 17⟩
def SEL_WT4_HELD (n : Nat) : Fld := ⟨0x81080 + 0x100 * n, 17, 1⟩
def SEL_WT4_IN (n : Nat) : Fld := ⟨0x81080 + 0x100 * n, 18, 1⟩
def SEL_WT4_F (n : Nat) : Fld := ⟨0x81080 + 0x100 * n, 19, 13⟩
def SEL_WT5_W (n : Nat) : Fld := ⟨0x81084 + 0x100 * n, 0, 17⟩
def SEL_WT5_HELD (n : Nat) : Fld := ⟨0x81084 + 0x100 * n, 17, 1⟩
def SEL_WT5_IN (n : Nat) : Fld := ⟨0x81084 + 0x100 * n, 18, 1⟩
def SEL_WT5_F (n : Nat) : Fld := ⟨0x81084 + 0x100 * n, 19, 13⟩
def SEL_WT6_W (n : Nat) : Fld := ⟨0x81088 + 0x100 * n, 0, 17⟩
def SEL_WT6_HELD (n : Nat) : Fld := ⟨0x81088 + 0x100 * n, 17, 1⟩
def SEL_WT6_IN (n : Nat) : Fld := ⟨0x81088 + 0x100 * n, 18, 1⟩
def SEL_WT6_F (n : Nat) : Fld := ⟨0x81088 + 0x100 * n, 19, 13⟩
def SEL_WT7_W (n : Nat) : Fld := ⟨0x8108C + 0x100 * n, 0, 17⟩
def SEL_WT7_HELD (n : Nat) : Fld := ⟨0x8108C + 0x100 * n, 17, 1⟩
def SEL_WT7_IN (n : Nat) : Fld := ⟨0x8108C + 0x100 * n, 18, 1⟩
def SEL_WT7_F (n : Nat) : Fld := ⟨0x8108C + 0x100 * n, 19, 13⟩
def SEL_MD0_D (n : Nat) : Fld := ⟨0x81090 + 0x100 * n, 0, 32⟩
def SEL_MD1_D (n : Nat) : Fld := ⟨0x81094 + 0x100 * n, 0, 32⟩
def SEL_MD2_D (n : Nat) : Fld := ⟨0x81098 + 0x100 * n, 0, 32⟩
def SEL_MD3_D (n : Nat) : Fld := ⟨0x8109C + 0x100 * n, 0, 32⟩
def SEL_MD4_D (n : Nat) : Fld := ⟨0x810A0 + 0x100 * n, 0, 32⟩
def SEL_MD5_D (n : Nat) : Fld := ⟨0x810A4 + 0x100 * n, 0, 32⟩
def SEL_MD6_D (n : Nat) : Fld := ⟨0x810A8 + 0x100 * n, 0, 32⟩
def SEL_MD7_D (n : Nat) : Fld := ⟨0x810AC + 0x100 * n, 0, 32⟩
def SEL_STICKY_SW_S (n : Nat) : Fld := ⟨0x810B0 + 0x100 * n, 0, 1⟩
def SEL_STICKY_RED_S (n : Nat) : Fld := ⟨0x810B0 + 0x100 * n, 1, 1⟩
def SEL_STICKY_NOREF_S (n : Nat) : Fld := ⟨0x810B0 + 0x100 * n, 2, 1⟩
def SEL_STICKY_LOSS_S (n : Nat) : Fld := ⟨0x810B0 + 0x100 * n, 3, 1⟩
def SEL_STICKY_FADE_S (n : Nat) : Fld := ⟨0x810B0 + 0x100 * n, 4, 1⟩
def SEL_STICKY_TNS_REF_S (n : Nat) : Fld := ⟨0x810B0 + 0x100 * n, 5, 1⟩
def SEL_STICKY_CARRY_S (n : Nat) : Fld := ⟨0x810B0 + 0x100 * n, 6, 1⟩
def SEL_STICKY_DONE_S (n : Nat) : Fld := ⟨0x810B0 + 0x100 * n, 7, 1⟩
def SEL_CNT_REDIRECTS (n : Nat) : Fld := ⟨0x810B4 + 0x100 * n, 0, 16⟩
def SEL_CNT_LOSSES (n : Nat) : Fld := ⟨0x810B4 + 0x100 * n, 16, 16⟩
def SEL_SUBJ_SUBJ (n : Nat) : Fld := ⟨0x810B8 + 0x100 * n, 0, 1⟩
def SEL_SUBJ_KIND (n : Nat) : Fld := ⟨0x810B8 + 0x100 * n, 1, 2⟩
def SEL_SUBJ_PTGT (n : Nat) : Fld := ⟨0x810B8 + 0x100 * n, 8, 7⟩
def SEL_SUBJ_PMASK (n : Nat) : Fld := ⟨0x810B8 + 0x100 * n, 16, 8⟩
def SEL_SUBJ_LO_SOFS (n : Nat) : Fld := ⟨0x810BC + 0x100 * n, 0, 32⟩
def SEL_SUBJ_HI_SOFS (n : Nat) : Fld := ⟨0x810C0 + 0x100 * n, 0, 32⟩
def LPE_STICKY_WONCE_VIOL : Fld := ⟨0x90000, 0, 1⟩
def LPE_STICKY_RST_S : Fld := ⟨0x90000, 1, 1⟩
def LPE_STICKY_REALIGN_S : Fld := ⟨0x90000, 2, 1⟩
def LPE_STICKY_DEFER_S : Fld := ⟨0x90000, 3, 1⟩
def LPE_STICKY_DROP_S : Fld := ⟨0x90000, 4, 1⟩
def LPE_TICKNUM_LO_TICKNUM : Fld := ⟨0x90004, 0, 32⟩
def LPE_TICKNUM_HI_TICKNUM : Fld := ⟨0x90008, 0, 32⟩
def LPE_GEOM_TICK_CODE : Fld := ⟨0x9000C, 0, 2⟩
def LPE_GEOM_CYCLES : Fld := ⟨0x9000C, 8, 17⟩
def LPE_DEMAND_DEMAND : Fld := ⟨0x90010, 0, 20⟩
def LPE_TAGS_DPLL_TAGS : Fld := ⟨0x90014, 0, 9⟩
def LPE_TAGS_HWM : Fld := ⟨0x90014, 16, 9⟩
def LPE_DEFER_DEFERRED : Fld := ⟨0x90018, 0, 16⟩
def LPE_DEFER_DROPPED : Fld := ⟨0x90018, 16, 16⟩
def LPE_REALIGN_TICK : Fld := ⟨0x9001C, 0, 16⟩
def LPE_REALIGN_COUNT : Fld := ⟨0x9001C, 16, 16⟩
def LPE_CTL_TYPE (n : Nat) : Fld := ⟨0x91000 + 0x100 * n, 0, 2⟩
def LPE_CTL_DAMP (n : Nat) : Fld := ⟨0x91000 + 0x100 * n, 2, 3⟩
def LPE_CTL_ACQ_MODE (n : Nat) : Fld := ⟨0x91000 + 0x100 * n, 5, 1⟩
def LPE_CTL_REACQ (n : Nat) : Fld := ⟨0x91000 + 0x100 * n, 6, 1⟩
def LPE_CTL_MASK (n : Nat) : Fld := ⟨0x91000 + 0x100 * n, 8, 3⟩
def LPE_BW_BW (n : Nat) : Fld := ⟨0x91004 + 0x100 * n, 0, 26⟩
def LPE_FBW_FBW (n : Nat) : Fld := ⟨0x91008 + 0x100 * n, 0, 26⟩
def LPE_FRANGE_FRANGE (n : Nat) : Fld := ⟨0x9100C + 0x100 * n, 0, 32⟩
def LPE_PHSLOPE_PHSLOPE (n : Nat) : Fld := ⟨0x91010 + 0x100 * n, 0, 32⟩
def LPE_FRSLOPE_FRSLOPE (n : Nat) : Fld := ⟨0x91014 + 0x100 * n, 0, 32⟩
def LPE_LOCK_PH_LOCK_PH (n : Nat) : Fld := ⟨0x91018 + 0x100 * n, 0, 32⟩
def LPE_UNLOCK_PH_UNLOCK_PH (n : Nat) : Fld := ⟨0x9101C + 0x100 * n, 0, 32⟩
def LPE_LOCK_T_LOCK_T (n : Nat) : Fld := ⟨0x91020 + 0x100 * n, 0, 16⟩
def LPE_PADJ_PADJ (n : Nat) : Fld := ⟨0x91024 + 0x100 * n, 0, 32⟩
def LPE_STAT_LSTATE (n : Nat) : Fld := ⟨0x91028 + 0x100 * n, 0, 3⟩
def LPE_STAT_FAST (n : Nat) : Fld := ⟨0x91028 + 0x100 * n, 3, 1⟩
def LPE_STAT_LOL (n : Nat) : Fld := ⟨0x91028 + 0x100 * n, 4, 1⟩
def LPE_STAT_MISSING (n : Nat) : Fld := ⟨0x91028 + 0x100 * n, 5, 1⟩
def LPE_STAT_PCLAMP (n : Nat) : Fld := ⟨0x91028 + 0x100 * n, 6, 1⟩
def LPE_STAT_FCLAMP (n : Nat) : Fld := ⟨0x91028 + 0x100 * n, 7, 1⟩
def LPE_STAT_RCLAMP (n : Nat) : Fld := ⟨0x91028 + 0x100 * n, 8, 1⟩
def LPE_STAT_HAS_PHASE (n : Nat) : Fld := ⟨0x91028 + 0x100 * n, 9, 1⟩
def LPE_STAT_SLEWING (n : Nat) : Fld := ⟨0x91028 + 0x100 * n, 10, 1⟩
def LPE_TICK_TICK (n : Nat) : Fld := ⟨0x9102C + 0x100 * n, 0, 16⟩
def LPE_TICK_OVERRUNS (n : Nat) : Fld := ⟨0x9102C + 0x100 * n, 16, 16⟩
def LPE_FW_LO_FW (n : Nat) : Fld := ⟨0x91030 + 0x100 * n, 0, 32⟩
def LPE_FW_HI_FW (n : Nat) : Fld := ⟨0x91034 + 0x100 * n, 0, 32⟩
def LPE_PH_PH (n : Nat) : Fld := ⟨0x91038 + 0x100 * n, 0, 32⟩
def LPE_PERR_LO_PERR (n : Nat) : Fld := ⟨0x9103C + 0x100 * n, 0, 32⟩
def LPE_PERR_HI_PERR (n : Nat) : Fld := ⟨0x91040 + 0x100 * n, 0, 32⟩
def LPE_INT_LO_INT (n : Nat) : Fld := ⟨0x91044 + 0x100 * n, 0, 32⟩
def LPE_INT_HI_INT (n : Nat) : Fld := ⟨0x91048 + 0x100 * n, 0, 32⟩
def LPE_WN_LO_WN (n : Nat) : Fld := ⟨0x9104C + 0x100 * n, 0, 32⟩
def LPE_WN_HI_WN (n : Nat) : Fld := ⟨0x91050 + 0x100 * n, 0, 32⟩
def LPE_LOCKED_T_LOCKED_T (n : Nat) : Fld := ⟨0x91054 + 0x100 * n, 0, 32⟩
def LPE_STICKY_OVR_S (n : Nat) : Fld := ⟨0x91058 + 0x100 * n, 0, 1⟩
def LPE_STICKY_LOCK_S (n : Nat) : Fld := ⟨0x91058 + 0x100 * n, 1, 1⟩
def LPE_STICKY_UNLOCK_S (n : Nat) : Fld := ⟨0x91058 + 0x100 * n, 2, 1⟩
def LPE_STICKY_HO_S (n : Nat) : Fld := ⟨0x91058 + 0x100 * n, 3, 1⟩
def LPE_STICKY_HOEXIT_S (n : Nat) : Fld := ⟨0x91058 + 0x100 * n, 4, 1⟩
def LPE_STICKY_PREV_S (n : Nat) : Fld := ⟨0x91058 + 0x100 * n, 5, 1⟩
def LPE_STICKY_DISCARD_S (n : Nat) : Fld := ⟨0x91058 + 0x100 * n, 6, 1⟩
def LPE_STICKY_CLAMP_S (n : Nat) : Fld := ⟨0x91058 + 0x100 * n, 7, 1⟩
def LPE_STICKY_JAM_S (n : Nat) : Fld := ⟨0x91058 + 0x100 * n, 8, 1⟩
def LPE_CNT_PREVIEWS (n : Nat) : Fld := ⟨0x9105C + 0x100 * n, 0, 16⟩
def LPE_CNT_DISCARDS (n : Nat) : Fld := ⟨0x9105C + 0x100 * n, 16, 16⟩
def LPE_SUBJ_SUBJ (n : Nat) : Fld := ⟨0x91060 + 0x100 * n, 0, 1⟩
def LPE_SUBJ_KIND (n : Nat) : Fld := ⟨0x91060 + 0x100 * n, 1, 2⟩
def LPE_SUBJ_CAUSE (n : Nat) : Fld := ⟨0x91060 + 0x100 * n, 3, 3⟩
def LPE_SUBJ_START (n : Nat) : Fld := ⟨0x91060 + 0x100 * n, 16, 16⟩
def LPE_SUBJ_FW_LO_FWP (n : Nat) : Fld := ⟨0x91064 + 0x100 * n, 0, 32⟩
def LPE_SUBJ_FW_HI_FWP (n : Nat) : Fld := ⟨0x91068 + 0x100 * n, 0, 32⟩
def LPE_SUBJ_PH_LO_DPH (n : Nat) : Fld := ⟨0x9106C + 0x100 * n, 0, 32⟩
def LPE_SUBJ_PH_HI_DPH (n : Nat) : Fld := ⟨0x91070 + 0x100 * n, 0, 32⟩
def CSK_STICKY_WONCE_VIOL : Fld := ⟨0xA0000, 0, 1⟩
def CSK_STICKY_RST_S : Fld := ⟨0xA0000, 1, 1⟩
def CSK_STICKY_SNS_FB_S : Fld := ⟨0xA0000, 2, 1⟩
def CSK_STICKY_SNS_REJ_S : Fld := ⟨0xA0000, 3, 1⟩
def CSK_CLEAR_CLEAR : Fld := ⟨0xA0004, 0, 12⟩
def CSK_SEC_SEC : Fld := ⟨0xA0008, 0, 32⟩
def CSK_TEMP_T_DIE : Fld := ⟨0xA000C, 0, 16⟩
def CSK_TEMP_T_EXT : Fld := ⟨0xA000C, 16, 16⟩
def CSK_TUSE_T_USE : Fld := ⟨0xA0010, 0, 16⟩
def CSK_TUSE_SRC : Fld := ⟨0xA0010, 16, 1⟩
def CSK_TUSE_FALLBACK : Fld := ⟨0xA0010, 17, 1⟩
def CSK_TUSE_TOFS_OK : Fld := ⟨0xA0010, 18, 1⟩
def CSK_TOFS_TOFS : Fld := ⟨0xA0014, 0, 16⟩
def CSK_SNS_CFG_SNS_EN : Fld := ⟨0xA0018, 0, 1⟩
def CSK_SNS_CFG_ADDR : Fld := ⟨0xA0018, 1, 7⟩
def CSK_SNS_CFG_PTR : Fld := ⟨0xA0018, 8, 8⟩
def CSK_SNS_CFG_SPEED : Fld := ⟨0xA0018, 16, 1⟩
def CSK_SNS_CFG_FRAC : Fld := ⟨0xA0018, 20, 4⟩
def CSK_SNS_CFG_WIDTH : Fld := ⟨0xA0018, 24, 5⟩
def CSK_SNS_LIM_SNS_STEP : Fld := ⟨0xA001C, 0, 8⟩
def CSK_SNS_LIM_SNS_TO : Fld := ⟨0xA001C, 8, 8⟩
def CSK_SNS_LIM_TLAG : Fld := ⟨0xA001C, 16, 12⟩
def CSK_SNS_CNT_NAK : Fld := ⟨0xA0020, 0, 16⟩
def CSK_SNS_CNT_REJ : Fld := ⟨0xA0020, 16, 16⟩
def CSK_CFG_HO_AVG (n : Nat) : Fld := ⟨0xA1000 + 0x100 * n, 0, 12⟩
def CSK_CFG_HO_GUARD (n : Nat) : Fld := ⟨0xA1000 + 0x100 * n, 12, 6⟩
def CSK_CFG2_MIN_LOCK (n : Nat) : Fld := ⟨0xA1004 + 0x100 * n, 0, 16⟩
def CSK_CFG2_FORGET (n : Nat) : Fld := ⟨0xA1004 + 0x100 * n, 16, 10⟩
def CSK_CFG2_TSPAN (n : Nat) : Fld := ⟨0xA1004 + 0x100 * n, 26, 6⟩
def CSK_T0_T0 (n : Nat) : Fld := ⟨0xA1008 + 0x100 * n, 0, 16⟩
def CSK_HO_LIMIT_HO_LIMIT (n : Nat) : Fld := ⟨0xA100C + 0x100 * n, 0, 32⟩
def CSK_STAT_GRADE (n : Nat) : Fld := ⟨0xA1010 + 0x100 * n, 0, 2⟩
def CSK_STAT_GRADE_HO (n : Nat) : Fld := ⟨0xA1010 + 0x100 * n, 2, 2⟩
def CSK_STAT_PSRC (n : Nat) : Fld := ⟨0xA1010 + 0x100 * n, 4, 3⟩
def CSK_STAT_TC_FIT (n : Nat) : Fld := ⟨0xA1010 + 0x100 * n, 7, 1⟩
def CSK_STAT_AGE_FIT (n : Nat) : Fld := ⟨0xA1010 + 0x100 * n, 8, 1⟩
def CSK_STAT_IN_HO (n : Nat) : Fld := ⟨0xA1010 + 0x100 * n, 9, 1⟩
def CSK_TICK_TICK (n : Nat) : Fld := ⟨0xA1014 + 0x100 * n, 0, 16⟩
def CSK_TICK_HOLDOVERS (n : Nat) : Fld := ⟨0xA1014 + 0x100 * n, 16, 16⟩
def CSK_FILL_S_VALID (n : Nat) : Fld := ⟨0xA1018 + 0x100 * n, 0, 12⟩
def CSK_FILL_M_VALID (n : Nat) : Fld := ⟨0xA1018 + 0x100 * n, 12, 12⟩
def CSK_FIT_MIN_FIT_MIN (n : Nat) : Fld := ⟨0xA101C + 0x100 * n, 0, 32⟩
def CSK_HEAD_S_HEAD (n : Nat) : Fld := ⟨0xA1020 + 0x100 * n, 0, 12⟩
def CSK_HEAD_M_HEAD (n : Nat) : Fld := ⟨0xA1020 + 0x100 * n, 12, 12⟩
def CSK_HEAD2_H_HEAD (n : Nat) : Fld := ⟨0xA1024 + 0x100 * n, 0, 10⟩
def CSK_HEAD2_H_VALID (n : Nat) : Fld := ⟨0xA1024 + 0x100 * n, 10, 10⟩
def CSK_PRED_LO_PRED (n : Nat) : Fld := ⟨0xA1028 + 0x100 * n, 0, 32⟩
def CSK_PRED_HI_PRED (n : Nat) : Fld := ⟨0xA102C + 0x100 * n, 0, 32⟩
def CSK_F0_LO_F0 (n : Nat) : Fld := ⟨0xA1030 + 0x100 * n, 0, 32⟩
def CSK_F0_HI_F0 (n : Nat) : Fld := ⟨0xA1034 + 0x100 * n, 0, 32⟩
def CSK_AGE_COEF (n : Nat) : Fld := ⟨0xA1038 + 0x100 * n, 0, 32⟩
def CSK_C1_COEF (n : Nat) : Fld := ⟨0xA103C + 0x100 * n, 0, 32⟩
def CSK_C2_COEF (n : Nat) : Fld := ⟨0xA1040 + 0x100 * n, 0, 32⟩
def CSK_EPOCH_EPOCH (n : Nat) : Fld := ⟨0xA1044 + 0x100 * n, 0, 32⟩
def CSK_RESID_RESID (n : Nat) : Fld := ⟨0xA1048 + 0x100 * n, 0, 32⟩
def CSK_HOLOG_DUR_HOLOG_DUR (n : Nat) : Fld := ⟨0xA104C + 0x100 * n, 0, 32⟩
def CSK_HOLOG_PH_LO_HOLOG_PH (n : Nat) : Fld := ⟨0xA1050 + 0x100 * n, 0, 32⟩
def CSK_HOLOG_PH_HI_HOLOG_PH (n : Nat) : Fld := ⟨0xA1054 + 0x100 * n, 0, 32⟩
def CSK_STICKY_GRADE_S (n : Nat) : Fld := ⟨0xA1058 + 0x100 * n, 0, 1⟩
def CSK_STICKY_HOLIM_S (n : Nat) : Fld := ⟨0xA1058 + 0x100 * n, 1, 1⟩
def CSK_STICKY_TC_S (n : Nat) : Fld := ⟨0xA1058 + 0x100 * n, 2, 1⟩
def CSK_STICKY_AGE_S (n : Nat) : Fld := ⟨0xA1058 + 0x100 * n, 3, 1⟩
def CSK_STICKY_CLR_S (n : Nat) : Fld := ⟨0xA1058 + 0x100 * n, 4, 1⟩

/-- Register descriptors, part 1. -/
def regsLoop1 : List RegD := [
  ⟨0x80000, 0x0, 1, [⟨0, 1, .w1c, false, false, .num⟩, ⟨1, 1, .w1c, false, false, .num⟩]⟩,
  ⟨0x81000, 0x100, 12, [⟨0, 2, .rw, false, false, .img⟩, ⟨2, 1, .ro, false, false, .img⟩, ⟨3, 1, .rw, false, false, .img⟩, ⟨4, 1, .rw, false, false, .img⟩, ⟨5, 1, .rw, false, false, .img⟩, ⟨6, 2, .rw, false, false, .img⟩, ⟨8, 7, .rw, false, false, .img⟩, ⟨16, 7, .rw, false, false, .num⟩]⟩,
  ⟨0x81004, 0x100, 12, [⟨0, 7, .rw, false, false, .img⟩, ⟨8, 7, .rw, false, false, .img⟩, ⟨16, 7, .rw, false, false, .img⟩, ⟨24, 7, .rw, false, false, .img⟩, ⟨7, 1, .rw, false, false, .img⟩, ⟨15, 1, .rw, false, false, .img⟩, ⟨23, 1, .rw, false, false, .img⟩, ⟨31, 1, .rw, false, false, .img⟩]⟩,
  ⟨0x81008, 0x100, 12, [⟨0, 7, .rw, false, false, .img⟩, ⟨8, 7, .rw, false, false, .img⟩, ⟨16, 7, .rw, false, false, .img⟩, ⟨24, 7, .rw, false, false, .img⟩, ⟨7, 1, .rw, false, false, .img⟩, ⟨15, 1, .rw, false, false, .img⟩, ⟨23, 1, .rw, false, false, .img⟩, ⟨31, 1, .rw, false, false, .img⟩]⟩,
  ⟨0x8100C, 0x100, 12, [⟨0, 7, .rw, false, false, .img⟩, ⟨8, 7, .rw, false, false, .img⟩, ⟨16, 7, .rw, false, false, .img⟩, ⟨24, 7, .rw, false, false, .img⟩, ⟨7, 1, .rw, false, false, .img⟩, ⟨15, 1, .rw, false, false, .img⟩, ⟨23, 1, .rw, false, false, .img⟩, ⟨31, 1, .rw, false, false, .img⟩]⟩,
  ⟨0x81010, 0x100, 12, [⟨0, 7, .rw, false, false, .img⟩, ⟨8, 7, .rw, false, false, .img⟩, ⟨16, 7, .rw, false, false, .img⟩, ⟨24, 7, .rw, false, false, .img⟩, ⟨7, 1, .rw, false, false, .img⟩, ⟨15, 1, .rw, false, false, .img⟩, ⟨23, 1, .rw, false, false, .img⟩, ⟨31, 1, .rw, false, false, .img⟩]⟩,
  ⟨0x81014, 0x100, 12, [⟨0, 16, .rw, false, false, .img⟩]⟩,
  ⟨0x81018, 0x100, 12, [⟨0, 32, .rw, false, false, .img⟩]⟩,
  ⟨0x8101C, 0x100, 12, [⟨0, 32, .rw, false, false, .img⟩]⟩,
  ⟨0x81020, 0x100, 12, [⟨0, 7, .rw, false, false, .img⟩, ⟨16, 7, .rw, false, false, .img⟩, ⟨7, 1, .rw, false, false, .img⟩, ⟨23, 1, .rw, false, false, .img⟩, ⟨8, 8, .rw, false, false, .img⟩, ⟨24, 8, .rw, false, false, .img⟩]⟩,
  ⟨0x81024, 0x100, 12, [⟨0, 7, .rw, false, false, .img⟩, ⟨16, 7, .rw, false, false, .img⟩, ⟨7, 1, .rw, false, false, .img⟩, ⟨23, 1, .rw, false, false, .img⟩, ⟨8, 8, .rw, false, false, .img⟩, ⟨24, 8, .rw, false, false, .img⟩]⟩,
  ⟨0x81028, 0x100, 12, [⟨0, 7, .rw, false, false, .img⟩, ⟨16, 7, .rw, false, false, .img⟩, ⟨7, 1, .rw, false, false, .img⟩, ⟨23, 1, .rw, false, false, .img⟩, ⟨8, 8, .rw, false, false, .img⟩, ⟨24, 8, .rw, false, false, .img⟩]⟩,
  ⟨0x8102C, 0x100, 12, [⟨0, 7, .rw, false, false, .img⟩, ⟨16, 7, .rw, false, false, .img⟩, ⟨7, 1, .rw, false, false, .img⟩, ⟨23, 1, .rw, false, false, .img⟩, ⟨8, 8, .rw, false, false, .img⟩, ⟨24, 8, .rw, false, false, .img⟩]⟩,
  ⟨0x81030, 0x100, 12, [⟨0, 32, .rw, false, false, .img⟩]⟩,
  ⟨0x81034, 0x100, 12, [⟨0, 32, .rw, false, false, .img⟩]⟩,
  ⟨0x81038, 0x100, 12, [⟨0, 32, .rw, false, false, .img⟩]⟩,
  ⟨0x8103C, 0x100, 12, [⟨0, 32, .rw, false, false, .img⟩]⟩,
  ⟨0x81040, 0x100, 12, [⟨0, 3, .ro, false, false, .num⟩, ⟨3, 1, .ro, false, false, .hw⟩, ⟨4, 1, .ro, false, false, .hw⟩, ⟨5, 1, .ro, false, false, .hw⟩, ⟨6, 1, .ro, false, false, .hw⟩, ⟨8, 7, .ro, false, false, .num⟩, ⟨16, 7, .ro, false, false, .num⟩, ⟨24, 4, .ro, false, false, .num⟩]⟩,
  ⟨0x81044, 0x100, 12, [⟨0, 24, .ro, false, false, .num⟩]⟩,
  ⟨0x81048, 0x100, 12, [⟨0, 24, .ro, false, false, .num⟩]⟩,
  ⟨0x8104C, 0x100, 12, [⟨0, 16, .ro, false, false, .hw⟩, ⟨16, 16, .rw, false, false, .num⟩]⟩,
  ⟨0x81050, 0x100, 12, [⟨0, 32, .ro, false, false, .num⟩]⟩,
  ⟨0x81054, 0x100, 12, [⟨0, 32, .ro, false, false, .num⟩]⟩,
  ⟨0x81058, 0x100, 12, [⟨0, 32, .ro, false, false, .num⟩]⟩]

/-- Register descriptors, part 2. -/
def regsLoop2 : List RegD := [
  ⟨0x8105C, 0x100, 12, [⟨0, 32, .ro, false, false, .num⟩]⟩,
  ⟨0x81060, 0x100, 12, [⟨0, 32, .ro, false, false, .num⟩]⟩,
  ⟨0x81070, 0x100, 12, [⟨0, 17, .ro, false, false, .num⟩, ⟨17, 1, .ro, false, false, .hw⟩, ⟨18, 1, .ro, false, false, .hw⟩, ⟨19, 13, .ro, false, false, .num⟩]⟩,
  ⟨0x81074, 0x100, 12, [⟨0, 17, .ro, false, false, .num⟩, ⟨17, 1, .ro, false, false, .hw⟩, ⟨18, 1, .ro, false, false, .hw⟩, ⟨19, 13, .ro, false, false, .num⟩]⟩,
  ⟨0x81078, 0x100, 12, [⟨0, 17, .ro, false, false, .num⟩, ⟨17, 1, .ro, false, false, .hw⟩, ⟨18, 1, .ro, false, false, .hw⟩, ⟨19, 13, .ro, false, false, .num⟩]⟩,
  ⟨0x8107C, 0x100, 12, [⟨0, 17, .ro, false, false, .num⟩, ⟨17, 1, .ro, false, false, .hw⟩, ⟨18, 1, .ro, false, false, .hw⟩, ⟨19, 13, .ro, false, false, .num⟩]⟩,
  ⟨0x81080, 0x100, 12, [⟨0, 17, .ro, false, false, .num⟩, ⟨17, 1, .ro, false, false, .hw⟩, ⟨18, 1, .ro, false, false, .hw⟩, ⟨19, 13, .ro, false, false, .num⟩]⟩,
  ⟨0x81084, 0x100, 12, [⟨0, 17, .ro, false, false, .num⟩, ⟨17, 1, .ro, false, false, .hw⟩, ⟨18, 1, .ro, false, false, .hw⟩, ⟨19, 13, .ro, false, false, .num⟩]⟩,
  ⟨0x81088, 0x100, 12, [⟨0, 17, .ro, false, false, .num⟩, ⟨17, 1, .ro, false, false, .hw⟩, ⟨18, 1, .ro, false, false, .hw⟩, ⟨19, 13, .ro, false, false, .num⟩]⟩,
  ⟨0x8108C, 0x100, 12, [⟨0, 17, .ro, false, false, .num⟩, ⟨17, 1, .ro, false, false, .hw⟩, ⟨18, 1, .ro, false, false, .hw⟩, ⟨19, 13, .ro, false, false, .num⟩]⟩,
  ⟨0x81090, 0x100, 12, [⟨0, 32, .ro, false, false, .num⟩]⟩,
  ⟨0x81094, 0x100, 12, [⟨0, 32, .ro, false, false, .num⟩]⟩,
  ⟨0x81098, 0x100, 12, [⟨0, 32, .ro, false, false, .num⟩]⟩,
  ⟨0x8109C, 0x100, 12, [⟨0, 32, .ro, false, false, .num⟩]⟩,
  ⟨0x810A0, 0x100, 12, [⟨0, 32, .ro, false, false, .num⟩]⟩,
  ⟨0x810A4, 0x100, 12, [⟨0, 32, .ro, false, false, .num⟩]⟩,
  ⟨0x810A8, 0x100, 12, [⟨0, 32, .ro, false, false, .num⟩]⟩,
  ⟨0x810AC, 0x100, 12, [⟨0, 32, .ro, false, false, .num⟩]⟩,
  ⟨0x810B0, 0x100, 12, [⟨0, 1, .w1c, false, false, .num⟩, ⟨1, 1, .w1c, false, false, .num⟩, ⟨2, 1, .w1c, false, false, .num⟩, ⟨3, 1, .w1c, false, false, .num⟩, ⟨4, 1, .w1c, false, false, .num⟩, ⟨5, 1, .w1c, false, false, .num⟩, ⟨6, 1, .w1c, false, false, .num⟩, ⟨7, 1, .w1c, false, false, .num⟩]⟩,
  ⟨0x810B4, 0x100, 12, [⟨0, 16, .rw, false, false, .num⟩, ⟨16, 16, .rw, false, false, .num⟩]⟩,
  ⟨0x810B8, 0x100, 12, [⟨0, 1, .ro, false, false, .num⟩, ⟨1, 2, .ro, false, false, .num⟩, ⟨8, 7, .ro, false, false, .num⟩, ⟨16, 8, .ro, false, false, .num⟩]⟩,
  ⟨0x810BC, 0x100, 12, [⟨0, 32, .ro, false, false, .num⟩]⟩,
  ⟨0x810C0, 0x100, 12, [⟨0, 32, .ro, false, false, .num⟩]⟩,
  ⟨0x90000, 0x0, 1, [⟨0, 1, .w1c, false, false, .num⟩, ⟨1, 1, .w1c, false, false, .num⟩, ⟨2, 1, .w1c, false, false, .num⟩, ⟨3, 1, .w1c, false, false, .num⟩, ⟨4, 1, .w1c, false, false, .num⟩]⟩]

/-- Register descriptors, part 3. -/
def regsLoop3 : List RegD := [
  ⟨0x90004, 0x0, 1, [⟨0, 32, .ro, false, false, .hw⟩]⟩,
  ⟨0x90008, 0x0, 1, [⟨0, 32, .ro, false, false, .hw⟩]⟩,
  ⟨0x9000C, 0x0, 1, [⟨0, 2, .ro, false, false, .hw⟩, ⟨8, 17, .ro, false, false, .hw⟩]⟩,
  ⟨0x90010, 0x0, 1, [⟨0, 20, .ro, false, false, .hw⟩]⟩,
  ⟨0x90014, 0x0, 1, [⟨0, 9, .ro, false, false, .hw⟩, ⟨16, 9, .rw, false, false, .num⟩]⟩,
  ⟨0x90018, 0x0, 1, [⟨0, 16, .rw, false, false, .num⟩, ⟨16, 16, .rw, false, false, .num⟩]⟩,
  ⟨0x9001C, 0x0, 1, [⟨0, 16, .ro, false, false, .num⟩, ⟨16, 16, .ro, false, false, .num⟩]⟩,
  ⟨0x91000, 0x100, 12, [⟨0, 2, .rw, false, false, .img⟩, ⟨2, 3, .rw, false, false, .img⟩, ⟨5, 1, .rw, false, false, .img⟩, ⟨6, 1, .rw, false, false, .img⟩, ⟨8, 3, .rw, false, false, .img⟩]⟩,
  ⟨0x91004, 0x100, 12, [⟨0, 26, .rw, false, false, .img⟩]⟩,
  ⟨0x91008, 0x100, 12, [⟨0, 26, .rw, false, false, .img⟩]⟩,
  ⟨0x9100C, 0x100, 12, [⟨0, 32, .rw, false, false, .img⟩]⟩,
  ⟨0x91010, 0x100, 12, [⟨0, 32, .rw, false, false, .img⟩]⟩,
  ⟨0x91014, 0x100, 12, [⟨0, 32, .rw, false, false, .img⟩]⟩,
  ⟨0x91018, 0x100, 12, [⟨0, 32, .rw, false, false, .img⟩]⟩,
  ⟨0x9101C, 0x100, 12, [⟨0, 32, .rw, false, false, .img⟩]⟩,
  ⟨0x91020, 0x100, 12, [⟨0, 16, .rw, false, false, .img⟩]⟩,
  ⟨0x91024, 0x100, 12, [⟨0, 32, .rw, false, false, .img⟩]⟩,
  ⟨0x91028, 0x100, 12, [⟨0, 3, .ro, false, false, .num⟩, ⟨3, 1, .ro, false, false, .hw⟩, ⟨4, 1, .ro, false, false, .hw⟩, ⟨5, 1, .ro, false, false, .hw⟩, ⟨6, 1, .ro, false, false, .hw⟩, ⟨7, 1, .ro, false, false, .hw⟩, ⟨8, 1, .ro, false, false, .hw⟩, ⟨9, 1, .ro, false, false, .hw⟩, ⟨10, 1, .ro, false, false, .hw⟩]⟩,
  ⟨0x9102C, 0x100, 12, [⟨0, 16, .ro, false, false, .hw⟩, ⟨16, 16, .rw, false, false, .num⟩]⟩,
  ⟨0x91030, 0x100, 12, [⟨0, 32, .ro, false, false, .num⟩]⟩,
  ⟨0x91034, 0x100, 12, [⟨0, 32, .ro, false, false, .num⟩]⟩,
  ⟨0x91038, 0x100, 12, [⟨0, 32, .ro, false, false, .num⟩]⟩,
  ⟨0x9103C, 0x100, 12, [⟨0, 32, .ro, false, false, .num⟩]⟩,
  ⟨0x91040, 0x100, 12, [⟨0, 32, .ro, false, false, .num⟩]⟩]

/-- Register descriptors, part 4. -/
def regsLoop4 : List RegD := [
  ⟨0x91044, 0x100, 12, [⟨0, 32, .ro, false, false, .num⟩]⟩,
  ⟨0x91048, 0x100, 12, [⟨0, 32, .ro, false, false, .num⟩]⟩,
  ⟨0x9104C, 0x100, 12, [⟨0, 32, .ro, false, false, .hw⟩]⟩,
  ⟨0x91050, 0x100, 12, [⟨0, 32, .ro, false, false, .hw⟩]⟩,
  ⟨0x91054, 0x100, 12, [⟨0, 32, .ro, false, false, .num⟩]⟩,
  ⟨0x91058, 0x100, 12, [⟨0, 1, .w1c, false, false, .num⟩, ⟨1, 1, .w1c, false, false, .num⟩, ⟨2, 1, .w1c, false, false, .num⟩, ⟨3, 1, .w1c, false, false, .num⟩, ⟨4, 1, .w1c, false, false, .num⟩, ⟨5, 1, .w1c, false, false, .num⟩, ⟨6, 1, .w1c, false, false, .num⟩, ⟨7, 1, .w1c, false, false, .num⟩, ⟨8, 1, .w1c, false, false, .num⟩]⟩,
  ⟨0x9105C, 0x100, 12, [⟨0, 16, .rw, false, false, .num⟩, ⟨16, 16, .rw, false, false, .num⟩]⟩,
  ⟨0x91060, 0x100, 12, [⟨0, 1, .ro, false, false, .num⟩, ⟨1, 2, .ro, false, false, .num⟩, ⟨3, 3, .ro, false, false, .num⟩, ⟨16, 16, .ro, false, false, .num⟩]⟩,
  ⟨0x91064, 0x100, 12, [⟨0, 32, .ro, false, false, .num⟩]⟩,
  ⟨0x91068, 0x100, 12, [⟨0, 32, .ro, false, false, .num⟩]⟩,
  ⟨0x9106C, 0x100, 12, [⟨0, 32, .ro, false, false, .num⟩]⟩,
  ⟨0x91070, 0x100, 12, [⟨0, 32, .ro, false, false, .num⟩]⟩,
  ⟨0xA0000, 0x0, 1, [⟨0, 1, .w1c, false, false, .num⟩, ⟨1, 1, .w1c, false, false, .num⟩, ⟨2, 1, .w1c, false, false, .num⟩, ⟨3, 1, .w1c, false, false, .num⟩]⟩,
  ⟨0xA0004, 0x0, 1, [⟨0, 12, .wo, true, false, .num⟩]⟩,
  ⟨0xA0008, 0x0, 1, [⟨0, 32, .ro, false, false, .hw⟩]⟩,
  ⟨0xA000C, 0x0, 1, [⟨0, 16, .ro, false, false, .hw⟩, ⟨16, 16, .ro, false, false, .hw⟩]⟩,
  ⟨0xA0010, 0x0, 1, [⟨0, 16, .ro, false, false, .hw⟩, ⟨16, 1, .ro, false, false, .hw⟩, ⟨17, 1, .ro, false, false, .hw⟩, ⟨18, 1, .ro, false, false, .hw⟩]⟩,
  ⟨0xA0014, 0x0, 1, [⟨0, 16, .ro, false, false, .num⟩]⟩,
  ⟨0xA0018, 0x0, 1, [⟨0, 1, .rw, false, false, .img⟩, ⟨1, 7, .rw, false, false, .img⟩, ⟨8, 8, .rw, false, false, .img⟩, ⟨16, 1, .rw, false, false, .img⟩, ⟨20, 4, .rw, false, false, .img⟩, ⟨24, 5, .rw, false, false, .img⟩]⟩,
  ⟨0xA001C, 0x0, 1, [⟨0, 8, .rw, false, false, .img⟩, ⟨8, 8, .rw, false, false, .img⟩, ⟨16, 12, .rw, false, false, .img⟩]⟩,
  ⟨0xA0020, 0x0, 1, [⟨0, 16, .rw, false, false, .num⟩, ⟨16, 16, .rw, false, false, .num⟩]⟩,
  ⟨0xA1000, 0x100, 12, [⟨0, 12, .rw, false, false, .img⟩, ⟨12, 6, .rw, false, false, .img⟩]⟩,
  ⟨0xA1004, 0x100, 12, [⟨0, 16, .rw, false, false, .img⟩, ⟨16, 10, .rw, false, false, .img⟩, ⟨26, 6, .rw, false, false, .img⟩]⟩,
  ⟨0xA1008, 0x100, 12, [⟨0, 16, .rw, false, false, .img⟩]⟩]

/-- Register descriptors, part 5. -/
def regsLoop5 : List RegD := [
  ⟨0xA100C, 0x100, 12, [⟨0, 32, .rw, false, false, .img⟩]⟩,
  ⟨0xA1010, 0x100, 12, [⟨0, 2, .ro, false, false, .num⟩, ⟨2, 2, .ro, false, false, .num⟩, ⟨4, 3, .ro, false, false, .num⟩, ⟨7, 1, .ro, false, false, .hw⟩, ⟨8, 1, .ro, false, false, .hw⟩, ⟨9, 1, .ro, false, false, .hw⟩]⟩,
  ⟨0xA1014, 0x100, 12, [⟨0, 16, .ro, false, false, .hw⟩, ⟨16, 16, .rw, false, false, .num⟩]⟩,
  ⟨0xA1018, 0x100, 12, [⟨0, 12, .ro, false, false, .num⟩, ⟨12, 12, .ro, false, false, .num⟩]⟩,
  ⟨0xA101C, 0x100, 12, [⟨0, 32, .ro, false, false, .num⟩]⟩,
  ⟨0xA1020, 0x100, 12, [⟨0, 12, .ro, false, false, .num⟩, ⟨12, 12, .ro, false, false, .num⟩]⟩,
  ⟨0xA1024, 0x100, 12, [⟨0, 10, .ro, false, false, .num⟩, ⟨10, 10, .ro, false, false, .num⟩]⟩,
  ⟨0xA1028, 0x100, 12, [⟨0, 32, .ro, false, false, .num⟩]⟩,
  ⟨0xA102C, 0x100, 12, [⟨0, 32, .ro, false, false, .num⟩]⟩,
  ⟨0xA1030, 0x100, 12, [⟨0, 32, .ro, false, false, .img⟩]⟩,
  ⟨0xA1034, 0x100, 12, [⟨0, 32, .ro, false, false, .img⟩]⟩,
  ⟨0xA1038, 0x100, 12, [⟨0, 32, .ro, false, false, .img⟩]⟩,
  ⟨0xA103C, 0x100, 12, [⟨0, 32, .ro, false, false, .img⟩]⟩,
  ⟨0xA1040, 0x100, 12, [⟨0, 32, .ro, false, false, .img⟩]⟩,
  ⟨0xA1044, 0x100, 12, [⟨0, 32, .ro, false, false, .num⟩]⟩,
  ⟨0xA1048, 0x100, 12, [⟨0, 32, .ro, false, false, .num⟩]⟩,
  ⟨0xA104C, 0x100, 12, [⟨0, 32, .ro, false, false, .num⟩]⟩,
  ⟨0xA1050, 0x100, 12, [⟨0, 32, .ro, false, false, .num⟩]⟩,
  ⟨0xA1054, 0x100, 12, [⟨0, 32, .ro, false, false, .num⟩]⟩,
  ⟨0xA1058, 0x100, 12, [⟨0, 1, .w1c, false, false, .num⟩, ⟨1, 1, .w1c, false, false, .num⟩, ⟨2, 1, .w1c, false, false, .num⟩, ⟨3, 1, .w1c, false, false, .num⟩, ⟨4, 1, .w1c, false, false, .num⟩]⟩]

/-- Every register descriptor of this file. -/
def regsLoop : List RegD := regsLoop1 ++ regsLoop2 ++ regsLoop3 ++ regsLoop4 ++ regsLoop5

end Sys2Proof.Machine
end

