-- ==== Sys2Proof/Machine/RegsNet.lean ====
section
/-!
DEFINITION. The register fields of ETH, PTP, CJL and TNS (R315, R343, R365), as the spec's
register tables lay them out: one named field per table row, and the descriptor list the bus reads.
A pair `_LO`/`_HI` is two registers.
-/
namespace Sys2Proof.Machine

def ETH_STICKY_WONCE_VIOL : Fld := ⟨0xD0000, 0, 1⟩
def ETH_STICKY_RST_S : Fld := ⟨0xD0000, 1, 1⟩
def ETH_STICKY_QUAD_S : Fld := ⟨0xD0000, 2, 1⟩
def ETH_QUAD_QRATE (n : Nat) : Fld := ⟨0xD0010 + 0x4 * n, 0, 1⟩
def ETH_QUAD_QTXREF (n : Nat) : Fld := ⟨0xD0010 + 0x4 * n, 1, 3⟩
def ETH_QUAD_QTX_LOCK (n : Nat) : Fld := ⟨0xD0010 + 0x4 * n, 4, 1⟩
def ETH_QLMAP_LO_RANK (n : Nat) : Fld := ⟨0xD0020 + 0x8 * n, 0, 32⟩
def ETH_QLMAP_HI_RANK (n : Nat) : Fld := ⟨0xD0024 + 0x8 * n, 0, 32⟩
def ETH_EQL_ECODE (n : Nat) : Fld := ⟨0xD0030 + 0x4 * n, 0, 8⟩
def ETH_EQL_RANK (n : Nat) : Fld := ⟨0xD0030 + 0x4 * n, 8, 4⟩
def ETH_EQL_V (n : Nat) : Fld := ⟨0xD0030 + 0x4 * n, 12, 1⟩
def ETH_CFG_EN (n : Nat) : Fld := ⟨0xD1000 + 0x80 * n, 0, 1⟩
def ETH_CFG_MODE (n : Nat) : Fld := ⟨0xD1000 + 0x80 * n, 1, 2⟩
def ETH_CFG_FEC (n : Nat) : Fld := ⟨0xD1000 + 0x80 * n, 3, 1⟩
def ETH_CFG_AN_EN (n : Nat) : Fld := ⟨0xD1000 + 0x80 * n, 4, 1⟩
def ETH_CFG_SYNCE_EN (n : Nat) : Fld := ⟨0xD1000 + 0x80 * n, 5, 1⟩
def ETH_CFG_ESMC_EN (n : Nat) : Fld := ⟨0xD1000 + 0x80 * n, 6, 1⟩
def ETH_CFG_ESMC_EXT (n : Nat) : Fld := ⟨0xD1000 + 0x80 * n, 7, 1⟩
def ETH_CFG_OPTION (n : Nat) : Fld := ⟨0xD1000 + 0x80 * n, 8, 1⟩
def ETH_CFG_DNU_AUTO (n : Nat) : Fld := ⟨0xD1000 + 0x80 * n, 9, 1⟩
def ETH_CFG_TX_CHAN (n : Nat) : Fld := ⟨0xD1000 + 0x80 * n, 10, 4⟩
def ETH_MAC_LO_MAC (n : Nat) : Fld := ⟨0xD1004 + 0x80 * n, 0, 32⟩
def ETH_MAC_HI_MAC (n : Nat) : Fld := ⟨0xD1008 + 0x80 * n, 0, 16⟩
def ETH_HRATE_HRATE (n : Nat) : Fld := ⟨0xD100C + 0x80 * n, 0, 13⟩
def ETH_TXSSM_TX_SSM (n : Nat) : Fld := ⟨0xD1010 + 0x80 * n, 0, 4⟩
def ETH_TXSSM_TX_ECODE (n : Nat) : Fld := ⟨0xD1010 + 0x80 * n, 8, 8⟩
def ETH_STAT_LINK (n : Nat) : Fld := ⟨0xD1014 + 0x80 * n, 0, 1⟩
def ETH_STAT_PCS_LOCK (n : Nat) : Fld := ⟨0xD1014 + 0x80 * n, 1, 1⟩
def ETH_STAT_AN_DONE (n : Nat) : Fld := ⟨0xD1014 + 0x80 * n, 2, 1⟩
def ETH_STAT_ESMC_OK (n : Nat) : Fld := ⟨0xD1014 + 0x80 * n, 3, 1⟩
def ETH_STAT_RX_SSM (n : Nat) : Fld := ⟨0xD1014 + 0x80 * n, 8, 4⟩
def ETH_STAT_RX_EXT (n : Nat) : Fld := ⟨0xD1014 + 0x80 * n, 12, 1⟩
def ETH_STAT_RX_ECODE (n : Nat) : Fld := ⟨0xD1014 + 0x80 * n, 16, 8⟩
def ETH_STAT_RANK (n : Nat) : Fld := ⟨0xD1014 + 0x80 * n, 24, 4⟩
def ETH_STAT_TX_DNU (n : Nat) : Fld := ⟨0xD1014 + 0x80 * n, 28, 1⟩
def ETH_STICKY_LINK_S (n : Nat) : Fld := ⟨0xD1018 + 0x80 * n, 0, 1⟩
def ETH_STICKY_ESMC_FAIL_S (n : Nat) : Fld := ⟨0xD1018 + 0x80 * n, 1, 1⟩
def ETH_STICKY_QL_CHG_S (n : Nat) : Fld := ⟨0xD1018 + 0x80 * n, 2, 1⟩
def ETH_STICKY_HDROP_S (n : Nat) : Fld := ⟨0xD1018 + 0x80 * n, 3, 1⟩
def ETH_STICKY_RXERR_S (n : Nat) : Fld := ⟨0xD1018 + 0x80 * n, 4, 1⟩
def ETH_CNT_HDROP (n : Nat) : Fld := ⟨0xD101C + 0x80 * n, 0, 16⟩
def ETH_CNT_RXERR (n : Nat) : Fld := ⟨0xD101C + 0x80 * n, 16, 16⟩
def PTP_STICKY_WONCE_VIOL : Fld := ⟨0xE0000, 0, 1⟩
def PTP_STICKY_RST_S : Fld := ⟨0xE0000, 1, 1⟩
def PTP_STICKY_EBEST_S : Fld := ⟨0xE0000, 2, 1⟩
def PTP_STICKY_OVERLOAD_S : Fld := ⟨0xE0000, 3, 1⟩
def PTP_STICKY_CTX_FULL_S : Fld := ⟨0xE0000, 4, 1⟩
def PTP_CLOCK_ID_LO_CLOCK_ID : Fld := ⟨0xE0004, 0, 32⟩
def PTP_CLOCK_ID_HI_CLOCK_ID : Fld := ⟨0xE0008, 0, 32⟩
def PTP_LOCAL_DS0_PRIO1 : Fld := ⟨0xE000C, 0, 8⟩
def PTP_LOCAL_DS0_CLASS : Fld := ⟨0xE000C, 8, 8⟩
def PTP_LOCAL_DS0_ACC : Fld := ⟨0xE000C, 16, 8⟩
def PTP_LOCAL_DS0_PRIO2 : Fld := ⟨0xE000C, 24, 8⟩
def PTP_LOCAL_DS1_VAR : Fld := ⟨0xE0010, 0, 16⟩
def PTP_LOCAL_DS1_TSRC : Fld := ⟨0xE0010, 16, 8⟩
def PTP_LOCAL_DS1_LPRIO : Fld := ⟨0xE0010, 24, 8⟩
def PTP_LOCAL_DS2_SLAVE_ONLY : Fld := ⟨0xE0014, 0, 1⟩
def PTP_LOCAL_DS2_TS : Fld := ⟨0xE0014, 1, 2⟩
def PTP_BMCA_ALG : Fld := ⟨0xE0018, 0, 1⟩
def PTP_BMCA_DOMAIN : Fld := ⟨0xE0018, 8, 8⟩
def PTP_BMCA_EBEST : Fld := ⟨0xE0018, 16, 9⟩
def PTP_BMCA_EBEST_V : Fld := ⟨0xE0018, 25, 1⟩
def PTP_LOAD_EVT_RATE : Fld := ⟨0xE001C, 0, 18⟩
def PTP_LOAD_CTX_OCC : Fld := ⟨0xE001C, 20, 12⟩
def PTP_CTX_HWM_HWM : Fld := ⟨0xE0020, 0, 12⟩
def PTP_DROP_AGG_DROP : Fld := ⟨0xE0024, 0, 16⟩
def PTP_DROP_CTX_DROP : Fld := ⟨0xE0024, 16, 16⟩
def PTP_CLASSMAP_CLASS (n : Nat) : Fld := ⟨0xE0040 + 0x4 * n, 0, 8⟩
def PTP_CLASSMAP_RANK (n : Nat) : Fld := ⟨0xE0040 + 0x4 * n, 8, 4⟩
def PTP_CLASSMAP_V (n : Nat) : Fld := ⟨0xE0040 + 0x4 * n, 12, 1⟩
def PTP_SESS_EVT_PEND (n : Nat) : Fld := ⟨0xE0080 + 0x4 * n, 0, 32⟩
def PTP_GRP_CFG_EN (n : Nat) : Fld := ⟨0xE1000 + 0x40 * n, 0, 1⟩
def PTP_GRP_CFG_MISS_TO (n : Nat) : Fld := ⟨0xE1000 + 0x40 * n, 1, 16⟩
def PTP_GRP_CFG_GMHOLD (n : Nat) : Fld := ⟨0xE1000 + 0x40 * n, 17, 15⟩
def PTP_GRP_GATE_MPD_GATE (n : Nat) : Fld := ⟨0xE1004 + 0x40 * n, 0, 32⟩
def PTP_GRP_STAT_GSTATE (n : Nat) : Fld := ⟨0xE1008 + 0x40 * n, 0, 1⟩
def PTP_GRP_STAT_HOLDING (n : Nat) : Fld := ⟨0xE1008 + 0x40 * n, 1, 1⟩
def PTP_GRP_STAT_RUNNING (n : Nat) : Fld := ⟨0xE1008 + 0x40 * n, 8, 8⟩
def PTP_GRP_STAT_RANK (n : Nat) : Fld := ⟨0xE1008 + 0x40 * n, 16, 4⟩
def PTP_GRP_STAT_GM_CLASS (n : Nat) : Fld := ⟨0xE1008 + 0x40 * n, 24, 8⟩
def PTP_GRP_OFS_LO_OFS (n : Nat) : Fld := ⟨0xE100C + 0x40 * n, 0, 32⟩
def PTP_GRP_OFS_HI_OFS (n : Nat) : Fld := ⟨0xE1010 + 0x40 * n, 0, 32⟩
def PTP_GRP_MPD_MPD (n : Nat) : Fld := ⟨0xE1014 + 0x40 * n, 0, 32⟩
def PTP_GRP_EPOCH_LO_EPOCH (n : Nat) : Fld := ⟨0xE1018 + 0x40 * n, 0, 32⟩
def PTP_GRP_EPOCH_HI_EPOCH (n : Nat) : Fld := ⟨0xE101C + 0x40 * n, 0, 32⟩
def PTP_GRP_PHASE_LO_PHASE (n : Nat) : Fld := ⟨0xE1020 + 0x40 * n, 0, 32⟩
def PTP_GRP_PHASE_HI_PHASE (n : Nat) : Fld := ⟨0xE1024 + 0x40 * n, 0, 32⟩
def PTP_GRP_STICKY_LOSS_S (n : Nat) : Fld := ⟨0xE1028 + 0x40 * n, 0, 1⟩
def PTP_GRP_STICKY_MISS_S (n : Nat) : Fld := ⟨0xE1028 + 0x40 * n, 1, 1⟩
def PTP_GRP_STICKY_GM_CHG_S (n : Nat) : Fld := ⟨0xE1028 + 0x40 * n, 2, 1⟩
def PTP_GRP_CNT_USED (n : Nat) : Fld := ⟨0xE102C + 0x40 * n, 0, 16⟩
def PTP_GRP_CNT_GATED (n : Nat) : Fld := ⟨0xE102C + 0x40 * n, 16, 16⟩
def CJL_STICKY_WONCE_VIOL : Fld := ⟨0xF0000, 0, 1⟩
def CJL_STICKY_RST_S : Fld := ⟨0xF0000, 1, 1⟩
def CJL_STICKY_ID_S : Fld := ⟨0xF0000, 2, 1⟩
def CJL_STICKY_FLOOD_S : Fld := ⟨0xF0000, 3, 1⟩
def CJL_CTL_TXREF : Fld := ⟨0xF0004, 0, 3⟩
def CJL_CTL_ID_MODE : Fld := ⟨0xF0004, 3, 1⟩
def CJL_CTL_HO_RANK : Fld := ⟨0xF0004, 4, 4⟩
def CJL_CTL_TX_LOCK : Fld := ⟨0xF0004, 8, 1⟩
def CJL_NODE_NODE_ID : Fld := ⟨0xF0008, 0, 16⟩
def CJL_NODE_ID_VALID : Fld := ⟨0xF0008, 16, 1⟩
def CJL_NODE_DEPTH : Fld := ⟨0xF0008, 17, 4⟩
def CJL_NODE_TX_RANK : Fld := ⟨0xF0008, 21, 4⟩
def CJL_RANGE_BASE : Fld := ⟨0xF000C, 0, 16⟩
def CJL_RANGE_SIZE : Fld := ⟨0xF000C, 16, 16⟩
def CJL_ROOT_ROOT_ID : Fld := ⟨0xF0010, 0, 16⟩
def CJL_ROOT_UPLINK : Fld := ⟨0xF0010, 16, 3⟩
def CJL_ROOT_UP_V : Fld := ⟨0xF0010, 19, 1⟩
def CJL_FLOOD_TX_CODE : Fld := ⟨0xF0014, 0, 8⟩
def CJL_FLOOD_LAST_ORIGIN : Fld := ⟨0xF0018, 0, 16⟩
def CJL_FLOOD_LAST_CODE : Fld := ⟨0xF0018, 16, 8⟩
def CJL_FLOOD_LAST_HOPS : Fld := ⟨0xF0018, 24, 4⟩
def CJL_FLOOD_CNT_RX : Fld := ⟨0xF001C, 0, 16⟩
def CJL_FLOOD_CNT_FWD : Fld := ⟨0xF001C, 16, 16⟩
def CJL_CFG_ROLE (n : Nat) : Fld := ⟨0xF1000 + 0x80 * n, 0, 2⟩
def CJL_CFG_ECHO_PER (n : Nat) : Fld := ⟨0xF1000 + 0x80 * n, 2, 10⟩
def CJL_CFG_ECHO_RETRY (n : Nat) : Fld := ⟨0xF1000 + 0x80 * n, 12, 4⟩
def CJL_CFG_ECHO_WAIT (n : Nat) : Fld := ⟨0xF1000 + 0x80 * n, 16, 10⟩
def CJL_TL_TO_TL_TO (n : Nat) : Fld := ⟨0xF1004 + 0x80 * n, 0, 32⟩
def CJL_ASYM_ASYM (n : Nat) : Fld := ⟨0xF1008 + 0x80 * n, 0, 32⟩
def CJL_DELEG_BASE (n : Nat) : Fld := ⟨0xF100C + 0x80 * n, 0, 16⟩
def CJL_DELEG_SIZE (n : Nat) : Fld := ⟨0xF100C + 0x80 * n, 16, 16⟩
def CJL_STAT_KSTATE (n : Nat) : Fld := ⟨0xF1010 + 0x80 * n, 0, 2⟩
def CJL_STAT_HSTATE (n : Nat) : Fld := ⟨0xF1010 + 0x80 * n, 2, 2⟩
def CJL_STAT_INIT (n : Nat) : Fld := ⟨0xF1010 + 0x80 * n, 4, 1⟩
def CJL_STAT_TL_OK (n : Nat) : Fld := ⟨0xF1010 + 0x80 * n, 5, 1⟩
def CJL_STAT_HOP_OK (n : Nat) : Fld := ⟨0xF1010 + 0x80 * n, 6, 1⟩
def CJL_STAT_PEER_INIT (n : Nat) : Fld := ⟨0xF1010 + 0x80 * n, 7, 1⟩
def CJL_STAT_RANK (n : Nat) : Fld := ⟨0xF1010 + 0x80 * n, 8, 4⟩
def CJL_STAT_OUTST (n : Nat) : Fld := ⟨0xF1010 + 0x80 * n, 12, 7⟩
def CJL_PEER_PEER_ID (n : Nat) : Fld := ⟨0xF1014 + 0x80 * n, 0, 16⟩
def CJL_PEER_PEER_DEPTH (n : Nat) : Fld := ⟨0xF1014 + 0x80 * n, 16, 4⟩
def CJL_PEER_PEER_RANK (n : Nat) : Fld := ⟨0xF1014 + 0x80 * n, 20, 4⟩
def CJL_PEER_PEER_IDV (n : Nat) : Fld := ⟨0xF1014 + 0x80 * n, 24, 1⟩
def CJL_PEER_PEER_STEPPED (n : Nat) : Fld := ⟨0xF1014 + 0x80 * n, 25, 1⟩
def CJL_PEER_PEER_DNU (n : Nat) : Fld := ⟨0xF1014 + 0x80 * n, 26, 1⟩
def CJL_HOP_D_LO_HOP_D (n : Nat) : Fld := ⟨0xF1018 + 0x80 * n, 0, 32⟩
def CJL_HOP_D_HI_HOP_D (n : Nat) : Fld := ⟨0xF101C + 0x80 * n, 0, 32⟩
def CJL_TOFS_LO_TOFS (n : Nat) : Fld := ⟨0xF1020 + 0x80 * n, 0, 32⟩
def CJL_TOFS_HI_TOFS (n : Nat) : Fld := ⟨0xF1024 + 0x80 * n, 0, 32⟩
def CJL_TURN_TURN (n : Nat) : Fld := ⟨0xF1028 + 0x80 * n, 0, 32⟩
def CJL_TICK_TICK (n : Nat) : Fld := ⟨0xF102C + 0x80 * n, 0, 16⟩
def CJL_TICK_VSTREAK (n : Nat) : Fld := ⟨0xF102C + 0x80 * n, 16, 4⟩
def CJL_TICK_LASTVOID (n : Nat) : Fld := ⟨0xF102C + 0x80 * n, 20, 4⟩
def CJL_CNT_VOIDS (n : Nat) : Fld := ⟨0xF1030 + 0x80 * n, 0, 16⟩
def CJL_CNT_SKIPS (n : Nat) : Fld := ⟨0xF1030 + 0x80 * n, 16, 16⟩
def CJL_CNT2_CRCERR (n : Nat) : Fld := ⟨0xF1034 + 0x80 * n, 0, 16⟩
def CJL_CNT2_DROPS (n : Nat) : Fld := ⟨0xF1034 + 0x80 * n, 16, 16⟩
def CJL_STICKY_LINK_S (n : Nat) : Fld := ⟨0xF1038 + 0x80 * n, 0, 1⟩
def CJL_STICKY_DEG_S (n : Nat) : Fld := ⟨0xF1038 + 0x80 * n, 1, 1⟩
def CJL_STICKY_TL_LOST_S (n : Nat) : Fld := ⟨0xF1038 + 0x80 * n, 2, 1⟩
def CJL_STICKY_GIVEUP_S (n : Nat) : Fld := ⟨0xF1038 + 0x80 * n, 3, 1⟩
def CJL_STICKY_CRC_S (n : Nat) : Fld := ⟨0xF1038 + 0x80 * n, 4, 1⟩
def CJL_STICKY_TNS_DROP_S (n : Nat) : Fld := ⟨0xF1038 + 0x80 * n, 5, 1⟩
def CJL_STICKY_STRAY_S (n : Nat) : Fld := ⟨0xF1038 + 0x80 * n, 6, 1⟩
def CJL_STICKY_ROLE_S (n : Nat) : Fld := ⟨0xF1038 + 0x80 * n, 7, 1⟩
def CJL_STICKY_TIE_S (n : Nat) : Fld := ⟨0xF1038 + 0x80 * n, 8, 1⟩
def CJL_STICKY_MAIL_S (n : Nat) : Fld := ⟨0xF1038 + 0x80 * n, 9, 1⟩
def CJL_STICKY_OFFER_S (n : Nat) : Fld := ⟨0xF1038 + 0x80 * n, 10, 1⟩
def CJL_MAIL_SEND (n : Nat) : Fld := ⟨0xF103C + 0x80 * n, 0, 1⟩
def CJL_MAIL_LEN (n : Nat) : Fld := ⟨0xF103C + 0x80 * n, 8, 6⟩
def CJL_MAIL_RX_LEN (n : Nat) : Fld := ⟨0xF103C + 0x80 * n, 16, 6⟩
def TNS_STICKY_WONCE_VIOL : Fld := ⟨0x100000, 0, 1⟩
def TNS_STICKY_RST_S : Fld := ⟨0x100000, 1, 1⟩
def TNS_STICKY_LATE_S : Fld := ⟨0x100000, 2, 1⟩
def TNS_STICKY_FULL_S : Fld := ⟨0x100000, 3, 1⟩
def TNS_STICKY_REFUSE_S : Fld := ⟨0x100000, 4, 1⟩
def TNS_STICKY_RXREF_S : Fld := ⟨0x100000, 5, 1⟩
def TNS_STICKY_TREF_S : Fld := ⟨0x100000, 6, 1⟩
def TNS_STICKY_SKIP_S : Fld := ⟨0x100000, 7, 1⟩
def TNS_STICKY_JDROP_S : Fld := ⟨0x100000, 8, 1⟩
def TNS_CFG_DOM_PERMIT : Fld := ⟨0x100004, 0, 16⟩
def TNS_EVT_OUT : Fld := ⟨0x100008, 0, 16⟩
def TNS_EVT_IDLE : Fld := ⟨0x100008, 16, 16⟩
def TNS_STAGE_WORD (n : Nat) : Fld := ⟨0x100010 + 0x4 * n, 0, 32⟩
def TNS_INSERT_GO : Fld := ⟨0x10002C, 0, 1⟩
def TNS_INS_STAT_RESULT : Fld := ⟨0x100030, 0, 4⟩
def TNS_INS_STAT_BUSY : Fld := ⟨0x100030, 4, 1⟩
def TNS_INS_STAT_INDEX : Fld := ⟨0x100030, 16, 12⟩
def TNS_CANCEL_INDEX : Fld := ⟨0x100034, 0, 12⟩
def TNS_OCC_PENDING : Fld := ⟨0x100038, 0, 13⟩
def TNS_OCC_HWM : Fld := ⟨0x100038, 16, 13⟩
def TNS_SEQ_LSEQ : Fld := ⟨0x10003C, 0, 16⟩
def TNS_FIRED_FIRED : Fld := ⟨0x100040, 0, 32⟩
def TNS_CNT_REF_LATE : Fld := ⟨0x100044, 0, 16⟩
def TNS_CNT_REF_FULL : Fld := ⟨0x100044, 16, 16⟩
def TNS_CNT_RX_RX : Fld := ⟨0x100048, 0, 16⟩
def TNS_CNT_RX_RXREF : Fld := ⟨0x100048, 16, 16⟩
def TNS_CNT_J_JDROP : Fld := ⟨0x10004C, 0, 16⟩
def TNS_CNT_J_SKIPPED : Fld := ⟨0x10004C, 16, 16⟩
def TNS_MARGIN_MARGIN : Fld := ⟨0x100050, 0, 32⟩

/-- Register descriptors, part 1. -/
def regsNet1 : List RegD := [
  ⟨0xD0000, 0x0, 1, [⟨0, 1, .w1c, false, false, .num⟩, ⟨1, 1, .w1c, false, false, .num⟩, ⟨2, 1, .w1c, false, false, .num⟩]⟩,
  ⟨0xD0010, 0x4, 4, [⟨0, 1, .ro, false, false, .img⟩, ⟨1, 3, .ro, false, false, .img⟩, ⟨4, 1, .ro, false, false, .hw⟩]⟩,
  ⟨0xD0020, 0x8, 2, [⟨0, 32, .rw, false, false, .img⟩]⟩,
  ⟨0xD0024, 0x8, 2, [⟨0, 32, .rw, false, false, .img⟩]⟩,
  ⟨0xD0030, 0x4, 4, [⟨0, 8, .rw, false, false, .img⟩, ⟨8, 4, .rw, false, false, .img⟩, ⟨12, 1, .rw, false, false, .img⟩]⟩,
  ⟨0xD1000, 0x80, 16, [⟨0, 1, .ro, false, false, .img⟩, ⟨1, 2, .ro, false, false, .img⟩, ⟨3, 1, .ro, false, false, .img⟩, ⟨4, 1, .rw, false, false, .img⟩, ⟨5, 1, .rw, false, false, .img⟩, ⟨6, 1, .rw, false, false, .img⟩, ⟨7, 1, .rw, false, false, .img⟩, ⟨8, 1, .rw, false, false, .img⟩, ⟨9, 1, .rw, false, false, .img⟩, ⟨10, 4, .rw, false, false, .img⟩]⟩,
  ⟨0xD1004, 0x80, 16, [⟨0, 32, .rw, false, false, .img⟩]⟩,
  ⟨0xD1008, 0x80, 16, [⟨0, 16, .rw, false, false, .img⟩]⟩,
  ⟨0xD100C, 0x80, 16, [⟨0, 13, .rw, false, false, .img⟩]⟩,
  ⟨0xD1010, 0x80, 16, [⟨0, 4, .rw, false, false, .img⟩, ⟨8, 8, .rw, false, false, .img⟩]⟩,
  ⟨0xD1014, 0x80, 16, [⟨0, 1, .ro, false, false, .hw⟩, ⟨1, 1, .ro, false, false, .hw⟩, ⟨2, 1, .ro, false, false, .hw⟩, ⟨3, 1, .ro, false, false, .hw⟩, ⟨8, 4, .ro, false, false, .hw⟩, ⟨12, 1, .ro, false, false, .hw⟩, ⟨16, 8, .ro, false, false, .hw⟩, ⟨24, 4, .ro, false, false, .hw⟩, ⟨28, 1, .ro, false, false, .hw⟩]⟩,
  ⟨0xD1018, 0x80, 16, [⟨0, 1, .w1c, false, false, .num⟩, ⟨1, 1, .w1c, false, false, .num⟩, ⟨2, 1, .w1c, false, false, .num⟩, ⟨3, 1, .w1c, false, false, .num⟩, ⟨4, 1, .w1c, false, false, .num⟩]⟩,
  ⟨0xD101C, 0x80, 16, [⟨0, 16, .rw, false, false, .num⟩, ⟨16, 16, .rw, false, false, .num⟩]⟩,
  ⟨0xE0000, 0x0, 1, [⟨0, 1, .w1c, false, false, .num⟩, ⟨1, 1, .w1c, false, false, .num⟩, ⟨2, 1, .w1c, false, false, .num⟩, ⟨3, 1, .w1c, false, false, .num⟩, ⟨4, 1, .w1c, false, false, .num⟩]⟩,
  ⟨0xE0004, 0x0, 1, [⟨0, 32, .rw, false, false, .img⟩]⟩,
  ⟨0xE0008, 0x0, 1, [⟨0, 32, .rw, false, false, .img⟩]⟩,
  ⟨0xE000C, 0x0, 1, [⟨0, 8, .rw, false, false, .img⟩, ⟨8, 8, .rw, false, false, .img⟩, ⟨16, 8, .rw, false, false, .img⟩, ⟨24, 8, .rw, false, false, .img⟩]⟩,
  ⟨0xE0010, 0x0, 1, [⟨0, 16, .rw, false, false, .img⟩, ⟨16, 8, .rw, false, false, .img⟩, ⟨24, 8, .rw, false, false, .img⟩]⟩,
  ⟨0xE0014, 0x0, 1, [⟨0, 1, .rw, false, false, .img⟩, ⟨1, 2, .rw, false, false, .img⟩]⟩,
  ⟨0xE0018, 0x0, 1, [⟨0, 1, .rw, false, false, .img⟩, ⟨8, 8, .rw, false, false, .img⟩, ⟨16, 9, .ro, false, false, .hw⟩, ⟨25, 1, .ro, false, false, .hw⟩]⟩,
  ⟨0xE001C, 0x0, 1, [⟨0, 18, .ro, false, false, .hw⟩, ⟨20, 12, .ro, false, false, .hw⟩]⟩,
  ⟨0xE0020, 0x0, 1, [⟨0, 12, .rw, false, false, .num⟩]⟩,
  ⟨0xE0024, 0x0, 1, [⟨0, 16, .rw, false, false, .num⟩, ⟨16, 16, .rw, false, false, .num⟩]⟩,
  ⟨0xE0040, 0x4, 16, [⟨0, 8, .rw, false, false, .img⟩, ⟨8, 4, .rw, false, false, .img⟩, ⟨12, 1, .rw, false, false, .img⟩]⟩]

/-- Register descriptors, part 2. -/
def regsNet2 : List RegD := [
  ⟨0xE0080, 0x4, 16, [⟨0, 32, .ro, false, false, .hw⟩]⟩,
  ⟨0xE1000, 0x40, 32, [⟨0, 1, .ro, false, false, .img⟩, ⟨1, 16, .rw, false, false, .img⟩, ⟨17, 15, .rw, false, false, .img⟩]⟩,
  ⟨0xE1004, 0x40, 32, [⟨0, 32, .rw, false, false, .img⟩]⟩,
  ⟨0xE1008, 0x40, 32, [⟨0, 1, .ro, false, false, .num⟩, ⟨1, 1, .ro, false, false, .hw⟩, ⟨8, 8, .ro, false, false, .num⟩, ⟨16, 4, .ro, false, false, .hw⟩, ⟨24, 8, .ro, false, false, .hw⟩]⟩,
  ⟨0xE100C, 0x40, 32, [⟨0, 32, .ro, false, false, .num⟩]⟩,
  ⟨0xE1010, 0x40, 32, [⟨0, 32, .ro, false, false, .num⟩]⟩,
  ⟨0xE1014, 0x40, 32, [⟨0, 32, .ro, false, false, .num⟩]⟩,
  ⟨0xE1018, 0x40, 32, [⟨0, 32, .ro, false, false, .num⟩]⟩,
  ⟨0xE101C, 0x40, 32, [⟨0, 32, .ro, false, false, .num⟩]⟩,
  ⟨0xE1020, 0x40, 32, [⟨0, 32, .ro, false, false, .num⟩]⟩,
  ⟨0xE1024, 0x40, 32, [⟨0, 32, .ro, false, false, .num⟩]⟩,
  ⟨0xE1028, 0x40, 32, [⟨0, 1, .w1c, false, false, .num⟩, ⟨1, 1, .w1c, false, false, .num⟩, ⟨2, 1, .w1c, false, false, .num⟩]⟩,
  ⟨0xE102C, 0x40, 32, [⟨0, 16, .rw, false, false, .num⟩, ⟨16, 16, .rw, false, false, .num⟩]⟩,
  ⟨0xF0000, 0x0, 1, [⟨0, 1, .w1c, false, false, .num⟩, ⟨1, 1, .w1c, false, false, .num⟩, ⟨2, 1, .w1c, false, false, .num⟩, ⟨3, 1, .w1c, false, false, .num⟩]⟩,
  ⟨0xF0004, 0x0, 1, [⟨0, 3, .ro, false, false, .img⟩, ⟨3, 1, .ro, false, false, .img⟩, ⟨4, 4, .rw, false, false, .img⟩, ⟨8, 1, .ro, false, false, .hw⟩]⟩,
  ⟨0xF0008, 0x0, 1, [⟨0, 16, .rw, false, false, .img⟩, ⟨16, 1, .ro, false, false, .hw⟩, ⟨17, 4, .ro, false, false, .hw⟩, ⟨21, 4, .ro, false, false, .hw⟩]⟩,
  ⟨0xF000C, 0x0, 1, [⟨0, 16, .rw, false, false, .img⟩, ⟨16, 16, .rw, false, false, .img⟩]⟩,
  ⟨0xF0010, 0x0, 1, [⟨0, 16, .ro, false, false, .hw⟩, ⟨16, 3, .ro, false, false, .hw⟩, ⟨19, 1, .ro, false, false, .hw⟩]⟩,
  ⟨0xF0014, 0x0, 1, [⟨0, 8, .wo, false, false, .num⟩]⟩,
  ⟨0xF0018, 0x0, 1, [⟨0, 16, .ro, false, false, .num⟩, ⟨16, 8, .ro, false, false, .num⟩, ⟨24, 4, .ro, false, false, .num⟩]⟩,
  ⟨0xF001C, 0x0, 1, [⟨0, 16, .rw, false, false, .num⟩, ⟨16, 16, .rw, false, false, .num⟩]⟩,
  ⟨0xF1000, 0x80, 8, [⟨0, 2, .ro, false, false, .img⟩, ⟨2, 10, .rw, false, false, .img⟩, ⟨12, 4, .rw, false, false, .img⟩, ⟨16, 10, .rw, false, false, .img⟩]⟩,
  ⟨0xF1004, 0x80, 8, [⟨0, 32, .rw, false, false, .img⟩]⟩,
  ⟨0xF1008, 0x80, 8, [⟨0, 32, .rw, false, false, .img⟩]⟩]

/-- Register descriptors, part 3. -/
def regsNet3 : List RegD := [
  ⟨0xF100C, 0x80, 8, [⟨0, 16, .rw, false, false, .img⟩, ⟨16, 16, .rw, false, false, .img⟩]⟩,
  ⟨0xF1010, 0x80, 8, [⟨0, 2, .ro, false, false, .num⟩, ⟨2, 2, .ro, false, false, .num⟩, ⟨4, 1, .ro, false, false, .hw⟩, ⟨5, 1, .ro, false, false, .hw⟩, ⟨6, 1, .ro, false, false, .hw⟩, ⟨7, 1, .ro, false, false, .hw⟩, ⟨8, 4, .ro, false, false, .hw⟩, ⟨12, 7, .ro, false, false, .hw⟩]⟩,
  ⟨0xF1014, 0x80, 8, [⟨0, 16, .ro, false, false, .num⟩, ⟨16, 4, .ro, false, false, .num⟩, ⟨20, 4, .ro, false, false, .num⟩, ⟨24, 1, .ro, false, false, .num⟩, ⟨25, 1, .ro, false, false, .num⟩, ⟨26, 1, .ro, false, false, .num⟩]⟩,
  ⟨0xF1018, 0x80, 8, [⟨0, 32, .ro, false, false, .num⟩]⟩,
  ⟨0xF101C, 0x80, 8, [⟨0, 32, .ro, false, false, .num⟩]⟩,
  ⟨0xF1020, 0x80, 8, [⟨0, 32, .ro, false, false, .num⟩]⟩,
  ⟨0xF1024, 0x80, 8, [⟨0, 32, .ro, false, false, .num⟩]⟩,
  ⟨0xF1028, 0x80, 8, [⟨0, 32, .ro, false, false, .num⟩]⟩,
  ⟨0xF102C, 0x80, 8, [⟨0, 16, .ro, false, false, .num⟩, ⟨16, 4, .ro, false, false, .num⟩, ⟨20, 4, .ro, false, false, .num⟩]⟩,
  ⟨0xF1030, 0x80, 8, [⟨0, 16, .rw, false, false, .num⟩, ⟨16, 16, .rw, false, false, .num⟩]⟩,
  ⟨0xF1034, 0x80, 8, [⟨0, 16, .rw, false, false, .num⟩, ⟨16, 16, .rw, false, false, .num⟩]⟩,
  ⟨0xF1038, 0x80, 8, [⟨0, 1, .w1c, false, false, .num⟩, ⟨1, 1, .w1c, false, false, .num⟩, ⟨2, 1, .w1c, false, false, .num⟩, ⟨3, 1, .w1c, false, false, .num⟩, ⟨4, 1, .w1c, false, false, .num⟩, ⟨5, 1, .w1c, false, false, .num⟩, ⟨6, 1, .w1c, false, false, .num⟩, ⟨7, 1, .w1c, false, false, .num⟩, ⟨8, 1, .w1c, false, false, .num⟩, ⟨9, 1, .w1c, false, false, .num⟩, ⟨10, 1, .w1c, false, false, .num⟩]⟩,
  ⟨0xF103C, 0x80, 8, [⟨0, 1, .w1s, false, false, .num⟩, ⟨8, 6, .rw, false, false, .num⟩, ⟨16, 6, .ro, false, false, .num⟩]⟩,
  ⟨0x100000, 0x0, 1, [⟨0, 1, .w1c, false, false, .num⟩, ⟨1, 1, .w1c, false, false, .num⟩, ⟨2, 1, .w1c, false, false, .num⟩, ⟨3, 1, .w1c, false, false, .num⟩, ⟨4, 1, .w1c, false, false, .num⟩, ⟨5, 1, .w1c, false, false, .num⟩, ⟨6, 1, .w1c, false, false, .num⟩, ⟨7, 1, .w1c, false, false, .num⟩, ⟨8, 1, .w1c, false, false, .num⟩]⟩,
  ⟨0x100004, 0x0, 1, [⟨0, 16, .rw, false, true, .img⟩]⟩,
  ⟨0x100008, 0x0, 1, [⟨0, 16, .ro, false, false, .img⟩, ⟨16, 16, .rw, false, false, .img⟩]⟩,
  ⟨0x100010, 0x4, 7, [⟨0, 32, .rw, false, false, .num⟩]⟩,
  ⟨0x10002C, 0x0, 1, [⟨0, 1, .wo, false, false, .num⟩]⟩,
  ⟨0x100030, 0x0, 1, [⟨0, 4, .ro, false, false, .num⟩, ⟨4, 1, .ro, false, false, .hw⟩, ⟨16, 12, .ro, false, false, .num⟩]⟩,
  ⟨0x100034, 0x0, 1, [⟨0, 12, .wo, false, false, .num⟩]⟩,
  ⟨0x100038, 0x0, 1, [⟨0, 13, .ro, false, false, .hw⟩, ⟨16, 13, .rw, false, false, .num⟩]⟩,
  ⟨0x10003C, 0x0, 1, [⟨0, 16, .ro, false, false, .num⟩]⟩,
  ⟨0x100040, 0x0, 1, [⟨0, 32, .rw, false, false, .num⟩]⟩,
  ⟨0x100044, 0x0, 1, [⟨0, 16, .rw, false, false, .num⟩, ⟨16, 16, .rw, false, false, .num⟩]⟩]

/-- Register descriptors, part 4. -/
def regsNet4 : List RegD := [
  ⟨0x100048, 0x0, 1, [⟨0, 16, .rw, false, false, .num⟩, ⟨16, 16, .rw, false, false, .num⟩]⟩,
  ⟨0x10004C, 0x0, 1, [⟨0, 16, .rw, false, false, .num⟩, ⟨16, 16, .rw, false, false, .num⟩]⟩,
  ⟨0x100050, 0x0, 1, [⟨0, 32, .rw, false, false, .num⟩]⟩]

/-- Every register descriptor of this file. -/
def regsNet : List RegD := regsNet1 ++ regsNet2 ++ regsNet3 ++ regsNet4

end Sys2Proof.Machine
end

