-- ==== Sys2Proof/Machine/RegsOut.lean ====
section
/-!
DEFINITION. The register fields of SYN and TME (R254, R282), as the spec's
register tables lay them out: one named field per table row, and the descriptor list the bus reads.
A pair `_LO`/`_HI` is two registers.
-/
namespace Sys2Proof.Machine

def SYN_STICKY_WONCE_VIOL : Fld := ⟨0xB0000, 0, 1⟩
def SYN_STICKY_RST_S : Fld := ⟨0xB0000, 1, 1⟩
def SYN_STICKY_XO_LOSS_S : Fld := ⟨0xB0000, 2, 1⟩
def SYN_STICKY_XO_FREQ_S : Fld := ⟨0xB0000, 3, 1⟩
def SYN_XO_CFG_XO_WIN : Fld := ⟨0xB0004, 0, 16⟩
def SYN_XO_CFG_XF_BW : Fld := ⟨0xB0004, 16, 2⟩
def SYN_XO_FREQ_LO_XO_FREQ : Fld := ⟨0xB0008, 0, 32⟩
def SYN_XO_FREQ_HI_XO_FREQ : Fld := ⟨0xB000C, 0, 32⟩
def SYN_XO_STAT_XO_OK : Fld := ⟨0xB0010, 0, 1⟩
def SYN_XO_STAT_XF_LOCK : Fld := ⟨0xB0010, 1, 1⟩
def SYN_XO_STAT_XO_FREQ_BAD : Fld := ⟨0xB0010, 2, 1⟩
def SYN_XO_EPS_LO_EPS : Fld := ⟨0xB0014, 0, 32⟩
def SYN_XO_EPS_HI_EPS : Fld := ⟨0xB0018, 0, 32⟩
def SYN_OSTATE_MAP_STATE (n : Nat) : Fld := ⟨0xB0020 + 0x4 * n, 0, 32⟩
def SYN_SQ_FORCE_SQ_FORCE : Fld := ⟨0xB0030, 0, 24⟩
def SYN_OUT_GO_GO : Fld := ⟨0xB0034, 0, 24⟩
def SYN_GATE_GATE_OFF : Fld := ⟨0xB0038, 0, 24⟩
def SYN_APLL_CFG_EN (n : Nat) : Fld := ⟨0xB0400 + 0x40 * n, 0, 1⟩
def SYN_APLL_CFG_CHAN (n : Nat) : Fld := ⟨0xB0400 + 0x40 * n, 1, 4⟩
def SYN_APLL_CFG_DBL (n : Nat) : Fld := ⟨0xB0400 + 0x40 * n, 5, 1⟩
def SYN_APLL_CFG_RDIV (n : Nat) : Fld := ⟨0xB0400 + 0x40 * n, 6, 4⟩
def SYN_APLL_CFG_LBW (n : Nat) : Fld := ⟨0xB0400 + 0x40 * n, 10, 2⟩
def SYN_APLL_N_LO_N (n : Nat) : Fld := ⟨0xB0404 + 0x40 * n, 0, 32⟩
def SYN_APLL_N_HI_N (n : Nat) : Fld := ⟨0xB0408 + 0x40 * n, 0, 32⟩
def SYN_APLL_NEFF_LO_NEFF (n : Nat) : Fld := ⟨0xB040C + 0x40 * n, 0, 32⟩
def SYN_APLL_NEFF_HI_NEFF (n : Nat) : Fld := ⟨0xB0410 + 0x40 * n, 0, 32⟩
def SYN_APLL_STAT_ASTATE (n : Nat) : Fld := ⟨0xB0414 + 0x40 * n, 0, 2⟩
def SYN_APLL_STAT_LOCK (n : Nat) : Fld := ⟨0xB0414 + 0x40 * n, 2, 1⟩
def SYN_APLL_STAT_BAND (n : Nat) : Fld := ⟨0xB0414 + 0x40 * n, 3, 7⟩
def SYN_APLL_STICKY_UNLOCK_S (n : Nat) : Fld := ⟨0xB0418 + 0x40 * n, 0, 1⟩
def SYN_APLL_STICKY_LOCK_S (n : Nat) : Fld := ⟨0xB0418 + 0x40 * n, 1, 1⟩
def SYN_APLL_STICKY_CALFAIL_S (n : Nat) : Fld := ⟨0xB0418 + 0x40 * n, 2, 1⟩
def SYN_APLL_CNT_UNLOCKS (n : Nat) : Fld := ⟨0xB041C + 0x40 * n, 0, 16⟩
def SYN_APLL_CNT_RECALS (n : Nat) : Fld := ⟨0xB041C + 0x40 * n, 16, 16⟩
def SYN_OUT_CFG_EN (n : Nat) : Fld := ⟨0xB1000 + 0x40 * n, 0, 1⟩
def SYN_OUT_CFG_APLL (n : Nat) : Fld := ⟨0xB1000 + 0x40 * n, 1, 2⟩
def SYN_OUT_CFG_FORMAT (n : Nat) : Fld := ⟨0xB1000 + 0x40 * n, 3, 3⟩
def SYN_OUT_CFG_PULSE (n : Nat) : Fld := ⟨0xB1000 + 0x40 * n, 6, 1⟩
def SYN_OUT_CFG_POL (n : Nat) : Fld := ⟨0xB1000 + 0x40 * n, 7, 1⟩
def SYN_OUT_CFG_POLICY (n : Nat) : Fld := ⟨0xB1000 + 0x40 * n, 8, 2⟩
def SYN_OUT_CFG_SQ_HO (n : Nat) : Fld := ⟨0xB1000 + 0x40 * n, 10, 1⟩
def SYN_OUT_CFG_SQ_LEVEL (n : Nat) : Fld := ⟨0xB1000 + 0x40 * n, 11, 2⟩
def SYN_OUT_CFG_SET (n : Nat) : Fld := ⟨0xB1000 + 0x40 * n, 13, 1⟩
def SYN_OUT_CFG_TS_EN (n : Nat) : Fld := ⟨0xB1000 + 0x40 * n, 14, 1⟩
def SYN_OUT_CFG_TS (n : Nat) : Fld := ⟨0xB1000 + 0x40 * n, 15, 2⟩
def SYN_OUT_CFG_ALIGN_EN (n : Nat) : Fld := ⟨0xB1000 + 0x40 * n, 17, 1⟩
def SYN_OUT_CFG_ALIGN_SQ (n : Nat) : Fld := ⟨0xB1000 + 0x40 * n, 18, 1⟩
def SYN_OUT_DIVA_LO_DIV (n : Nat) : Fld := ⟨0xB1004 + 0x40 * n, 0, 32⟩
def SYN_OUT_DIVB_LO_DIV (n : Nat) : Fld := ⟨0xB1014 + 0x40 * n, 0, 32⟩
def SYN_OUT_DIVA_HI_DIV (n : Nat) : Fld := ⟨0xB1008 + 0x40 * n, 0, 4⟩
def SYN_OUT_DIVA_HI_FRAC (n : Nat) : Fld := ⟨0xB1008 + 0x40 * n, 4, 1⟩
def SYN_OUT_DIVB_HI_DIV (n : Nat) : Fld := ⟨0xB1018 + 0x40 * n, 0, 4⟩
def SYN_OUT_DIVB_HI_FRAC (n : Nat) : Fld := ⟨0xB1018 + 0x40 * n, 4, 1⟩
def SYN_OUT_NUMA_NUM (n : Nat) : Fld := ⟨0xB100C + 0x40 * n, 0, 24⟩
def SYN_OUT_DENA_DEN (n : Nat) : Fld := ⟨0xB1010 + 0x40 * n, 0, 24⟩
def SYN_OUT_NUMB_NUM (n : Nat) : Fld := ⟨0xB101C + 0x40 * n, 0, 24⟩
def SYN_OUT_DENB_DEN (n : Nat) : Fld := ⟨0xB1020 + 0x40 * n, 0, 24⟩
def SYN_OUT_PW_PWIDTH (n : Nat) : Fld := ⟨0xB1024 + 0x40 * n, 0, 32⟩
def SYN_OUT_PHASE_OUT_PHASE (n : Nat) : Fld := ⟨0xB1028 + 0x40 * n, 0, 32⟩
def SYN_OUT_TRIM_TRIM (n : Nat) : Fld := ⟨0xB102C + 0x40 * n, 0, 10⟩
def SYN_OUT_TRIM_ATRIM (n : Nat) : Fld := ⟨0xB102C + 0x40 * n, 16, 10⟩
def SYN_OUT_STAT_OSTATE (n : Nat) : Fld := ⟨0xB1030 + 0x40 * n, 0, 2⟩
def SYN_OUT_STAT_ALIGNED (n : Nat) : Fld := ⟨0xB1030 + 0x40 * n, 2, 1⟩
def SYN_OUT_STAT_TRIMMING (n : Nat) : Fld := ⟨0xB1030 + 0x40 * n, 3, 1⟩
def SYN_OUT_STAT_SET_ACT (n : Nat) : Fld := ⟨0xB1030 + 0x40 * n, 4, 1⟩
def SYN_OUT_STAT_PEND (n : Nat) : Fld := ⟨0xB1030 + 0x40 * n, 5, 1⟩
def SYN_OUT_STAT_SQ_CAUSE (n : Nat) : Fld := ⟨0xB1030 + 0x40 * n, 8, 7⟩
def SYN_OUT_AERR_AERR (n : Nat) : Fld := ⟨0xB1034 + 0x40 * n, 0, 32⟩
def SYN_OUT_ACFG_ALIGN_N (n : Nat) : Fld := ⟨0xB1038 + 0x40 * n, 0, 8⟩
def SYN_OUT_ACFG_ALIGN_LIM (n : Nat) : Fld := ⟨0xB1038 + 0x40 * n, 8, 16⟩
def SYN_OUT_STICKY_SQ_S (n : Nat) : Fld := ⟨0xB103C + 0x40 * n, 0, 1⟩
def SYN_OUT_STICKY_RUN_S (n : Nat) : Fld := ⟨0xB103C + 0x40 * n, 1, 1⟩
def SYN_OUT_STICKY_ALIGN_S (n : Nat) : Fld := ⟨0xB103C + 0x40 * n, 2, 1⟩
def SYN_OUT_STICKY_STEP_S (n : Nat) : Fld := ⟨0xB103C + 0x40 * n, 3, 1⟩
def SYN_OUT_STICKY_TNS_OUT_S (n : Nat) : Fld := ⟨0xB103C + 0x40 * n, 4, 1⟩
def SYN_OUT_STICKY_GATE_S (n : Nat) : Fld := ⟨0xB103C + 0x40 * n, 5, 1⟩
def SYN_OUT_STICKY_TRUNC_S (n : Nat) : Fld := ⟨0xB103C + 0x40 * n, 6, 1⟩
def TME_STICKY_WONCE_VIOL : Fld := ⟨0xC0000, 0, 1⟩
def TME_STICKY_RST_S : Fld := ⟨0xC0000, 1, 1⟩
def TME_CTL_LATCH_ALL : Fld := ⟨0xC0004, 0, 1⟩
def TME_LATCH_COARSE_LO_COARSE : Fld := ⟨0xC0008, 0, 32⟩
def TME_LATCH_COARSE_HI_COARSE : Fld := ⟨0xC000C, 0, 32⟩
def TME_CFG_EN (n : Nat) : Fld := ⟨0xC0100 + 0x80 * n, 0, 1⟩
def TME_CFG_CHAN (n : Nat) : Fld := ⟨0xC0100 + 0x80 * n, 1, 4⟩
def TME_CFG_PRIMARY (n : Nat) : Fld := ⟨0xC0100 + 0x80 * n, 5, 1⟩
def TME_CFG_SLOT (n : Nat) : Fld := ⟨0xC0100 + 0x80 * n, 6, 7⟩
def TME_STAT_STEPPED (n : Nat) : Fld := ⟨0xC0104 + 0x80 * n, 0, 1⟩
def TME_STAT_ARMED (n : Nat) : Fld := ⟨0xC0104 + 0x80 * n, 1, 1⟩
def TME_STAT_RATE_HELD (n : Nat) : Fld := ⟨0xC0104 + 0x80 * n, 2, 1⟩
def TME_STAT_SLEWING (n : Nat) : Fld := ⟨0xC0104 + 0x80 * n, 3, 1⟩
def TME_STAT_RADJ_ACT (n : Nat) : Fld := ⟨0xC0104 + 0x80 * n, 4, 1⟩
def TME_STAT_RADJ_LEFT (n : Nat) : Fld := ⟨0xC0104 + 0x80 * n, 8, 24⟩
def TME_NOW_NS_NS (n : Nat) : Fld := ⟨0xC0108 + 0x80 * n, 0, 32⟩
def TME_NOW_FRAC_FRAC (n : Nat) : Fld := ⟨0xC010C + 0x80 * n, 0, 32⟩
def TME_NOW_SEC_LO_SEC (n : Nat) : Fld := ⟨0xC0110 + 0x80 * n, 0, 32⟩
def TME_NOW_SEC_HI_SEC (n : Nat) : Fld := ⟨0xC0114 + 0x80 * n, 0, 32⟩
def TME_INC_LO_INC (n : Nat) : Fld := ⟨0xC0118 + 0x80 * n, 0, 32⟩
def TME_INC_HI_INC (n : Nat) : Fld := ⟨0xC011C + 0x80 * n, 0, 32⟩
def TME_STEP_SEC_LO_SEC (n : Nat) : Fld := ⟨0xC0120 + 0x80 * n, 0, 32⟩
def TME_STEP_SEC_HI_SEC (n : Nat) : Fld := ⟨0xC0124 + 0x80 * n, 0, 32⟩
def TME_STEP_NS_NS (n : Nat) : Fld := ⟨0xC0128 + 0x80 * n, 0, 32⟩
def TME_STEP_FRAC_FRAC (n : Nat) : Fld := ⟨0xC012C + 0x80 * n, 0, 32⟩
def TME_STEP_GO_GO (n : Nat) : Fld := ⟨0xC0130 + 0x80 * n, 0, 1⟩
def TME_STEP_INFO_STEP_TICK (n : Nat) : Fld := ⟨0xC0134 + 0x80 * n, 0, 16⟩
def TME_STEP_INFO_REJ (n : Nat) : Fld := ⟨0xC0134 + 0x80 * n, 16, 16⟩
def TME_REJ_SEC_LO_SEC (n : Nat) : Fld := ⟨0xC0138 + 0x80 * n, 0, 32⟩
def TME_REJ_SEC_HI_SEC (n : Nat) : Fld := ⟨0xC013C + 0x80 * n, 0, 32⟩
def TME_REJ_NS_NS (n : Nat) : Fld := ⟨0xC0140 + 0x80 * n, 0, 32⟩
def TME_RADJ_RADJ (n : Nat) : Fld := ⟨0xC0144 + 0x80 * n, 0, 32⟩
def TME_RADJ_DUR_DUR (n : Nat) : Fld := ⟨0xC0148 + 0x80 * n, 0, 24⟩
def TME_UTC_UTC_OFS (n : Nat) : Fld := ⟨0xC014C + 0x80 * n, 0, 16⟩
def TME_UTC_UTC_VALID (n : Nat) : Fld := ⟨0xC014C + 0x80 * n, 16, 1⟩
def TME_UTC_LEAP61 (n : Nat) : Fld := ⟨0xC014C + 0x80 * n, 17, 1⟩
def TME_UTC_LEAP59 (n : Nat) : Fld := ⟨0xC014C + 0x80 * n, 18, 1⟩
def TME_LEAP_SEC_LO_LEAP_SEC (n : Nat) : Fld := ⟨0xC0150 + 0x80 * n, 0, 32⟩
def TME_LEAP_SEC_HI_LEAP_SEC (n : Nat) : Fld := ⟨0xC0154 + 0x80 * n, 0, 32⟩
def TME_UTC_COMMIT_COMMIT (n : Nat) : Fld := ⟨0xC0158 + 0x80 * n, 0, 1⟩
def TME_SLOT_NS_NS (n : Nat) : Fld := ⟨0xC015C + 0x80 * n, 0, 32⟩
def TME_SLOT_FRAC_FRAC (n : Nat) : Fld := ⟨0xC0160 + 0x80 * n, 0, 32⟩
def TME_SLOT_SEC_LO_SEC (n : Nat) : Fld := ⟨0xC0164 + 0x80 * n, 0, 32⟩
def TME_SLOT_SEC_HI_SEC (n : Nat) : Fld := ⟨0xC0168 + 0x80 * n, 0, 32⟩
def TME_SLOT_SEQ_SEQ (n : Nat) : Fld := ⟨0xC016C + 0x80 * n, 0, 16⟩
def TME_STICKY_STEP_S (n : Nat) : Fld := ⟨0xC0170 + 0x80 * n, 0, 1⟩
def TME_STICKY_STEP_REJ_S (n : Nat) : Fld := ⟨0xC0170 + 0x80 * n, 1, 1⟩
def TME_STICKY_LEAP_S (n : Nat) : Fld := ⟨0xC0170 + 0x80 * n, 2, 1⟩
def TME_STICKY_RADJ_S (n : Nat) : Fld := ⟨0xC0170 + 0x80 * n, 3, 1⟩
def TME_STICKY_HELD_S (n : Nat) : Fld := ⟨0xC0170 + 0x80 * n, 4, 1⟩
def TME_TICK_TICK (n : Nat) : Fld := ⟨0xC0174 + 0x80 * n, 0, 16⟩
def TME_TICK_HELDS (n : Nat) : Fld := ⟨0xC0174 + 0x80 * n, 16, 16⟩
def TME_EVT_CFG_EN (n : Nat) : Fld := ⟨0xC0800 + 0x20 * n, 0, 1⟩
def TME_EVT_CFG_INV (n : Nat) : Fld := ⟨0xC0800 + 0x20 * n, 1, 1⟩
def TME_EVT_CFG_TS (n : Nat) : Fld := ⟨0xC0800 + 0x20 * n, 2, 2⟩
def TME_EVT_CFG_GW (n : Nat) : Fld := ⟨0xC0800 + 0x20 * n, 4, 11⟩
def TME_EVT_CFG_EVT_TO (n : Nat) : Fld := ⟨0xC0800 + 0x20 * n, 16, 16⟩
def TME_EVT_NS_NS (n : Nat) : Fld := ⟨0xC0804 + 0x20 * n, 0, 32⟩
def TME_EVT_FRAC_FRAC (n : Nat) : Fld := ⟨0xC0808 + 0x20 * n, 0, 32⟩
def TME_EVT_SEC_LO_SEC (n : Nat) : Fld := ⟨0xC080C + 0x20 * n, 0, 32⟩
def TME_EVT_SEC_HI_SEC (n : Nat) : Fld := ⟨0xC0810 + 0x20 * n, 0, 32⟩
def TME_EVT_STAT_SEQ (n : Nat) : Fld := ⟨0xC0814 + 0x20 * n, 0, 16⟩
def TME_EVT_STAT_EVT_S (n : Nat) : Fld := ⟨0xC0814 + 0x20 * n, 16, 1⟩
def TME_EVT_STAT_MISS_S (n : Nat) : Fld := ⟨0xC0814 + 0x20 * n, 17, 1⟩
def TME_EVT_STAT_MASKED (n : Nat) : Fld := ⟨0xC0814 + 0x20 * n, 18, 1⟩
def TME_PORT_CFG_TSPT (n : Nat) : Fld := ⟨0xC1000 + 0x40 * n, 0, 1⟩
def TME_PORT_CFG_TS (n : Nat) : Fld := ⟨0xC1000 + 0x40 * n, 1, 2⟩
def TME_PORT_ADJ_RX_ADJ (n : Nat) : Fld := ⟨0xC1004 + 0x40 * n, 0, 32⟩
def TME_PORT_ADJ_TX_ADJ (n : Nat) : Fld := ⟨0xC1008 + 0x40 * n, 0, 32⟩
def TME_TXQ_ID_ID (n : Nat) : Fld := ⟨0xC100C + 0x40 * n, 0, 16⟩
def TME_TXQ_ID_VALID (n : Nat) : Fld := ⟨0xC100C + 0x40 * n, 16, 1⟩
def TME_TXQ_ID_OCC (n : Nat) : Fld := ⟨0xC100C + 0x40 * n, 17, 5⟩
def TME_TXQ_NS_NS (n : Nat) : Fld := ⟨0xC1010 + 0x40 * n, 0, 32⟩
def TME_TXQ_FRAC_FRAC (n : Nat) : Fld := ⟨0xC1014 + 0x40 * n, 0, 32⟩
def TME_TXQ_SEC_LO_SEC (n : Nat) : Fld := ⟨0xC1018 + 0x40 * n, 0, 32⟩
def TME_TXQ_SEC_HI_SEC (n : Nat) : Fld := ⟨0xC101C + 0x40 * n, 0, 32⟩
def TME_TXQ_STAT_DROP (n : Nat) : Fld := ⟨0xC1020 + 0x40 * n, 0, 16⟩
def TME_TXQ_STAT_OVF_S (n : Nat) : Fld := ⟨0xC1020 + 0x40 * n, 16, 1⟩

/-- Register descriptors, part 1. -/
def regsOut1 : List RegD := [
  ⟨0xB0000, 0x0, 1, [⟨0, 1, .w1c, false, false, .num⟩, ⟨1, 1, .w1c, false, false, .num⟩, ⟨2, 1, .w1c, false, false, .num⟩, ⟨3, 1, .w1c, false, false, .num⟩]⟩,
  ⟨0xB0004, 0x0, 1, [⟨0, 16, .rw, false, false, .img⟩, ⟨16, 2, .rw, false, false, .img⟩]⟩,
  ⟨0xB0008, 0x0, 1, [⟨0, 32, .ro, false, false, .img⟩]⟩,
  ⟨0xB000C, 0x0, 1, [⟨0, 32, .ro, false, false, .img⟩]⟩,
  ⟨0xB0010, 0x0, 1, [⟨0, 1, .ro, false, false, .hw⟩, ⟨1, 1, .ro, false, false, .hw⟩, ⟨2, 1, .ro, false, false, .hw⟩]⟩,
  ⟨0xB0014, 0x0, 1, [⟨0, 32, .ro, false, false, .num⟩]⟩,
  ⟨0xB0018, 0x0, 1, [⟨0, 32, .ro, false, false, .num⟩]⟩,
  ⟨0xB0020, 0x4, 3, [⟨0, 32, .ro, false, false, .num⟩]⟩,
  ⟨0xB0030, 0x0, 1, [⟨0, 24, .rw, false, false, .num⟩]⟩,
  ⟨0xB0034, 0x0, 1, [⟨0, 24, .w1s, false, false, .num⟩]⟩,
  ⟨0xB0038, 0x0, 1, [⟨0, 24, .ro, false, false, .num⟩]⟩,
  ⟨0xB0400, 0x40, 4, [⟨0, 1, .ro, false, false, .img⟩, ⟨1, 4, .ro, false, false, .img⟩, ⟨5, 1, .ro, false, false, .img⟩, ⟨6, 4, .ro, false, false, .img⟩, ⟨10, 2, .rw, false, false, .img⟩]⟩,
  ⟨0xB0404, 0x40, 4, [⟨0, 32, .ro, false, false, .img⟩]⟩,
  ⟨0xB0408, 0x40, 4, [⟨0, 32, .ro, false, false, .img⟩]⟩,
  ⟨0xB040C, 0x40, 4, [⟨0, 32, .ro, false, false, .hw⟩]⟩,
  ⟨0xB0410, 0x40, 4, [⟨0, 32, .ro, false, false, .hw⟩]⟩,
  ⟨0xB0414, 0x40, 4, [⟨0, 2, .ro, false, false, .num⟩, ⟨2, 1, .ro, false, false, .hw⟩, ⟨3, 7, .ro, false, false, .hw⟩]⟩,
  ⟨0xB0418, 0x40, 4, [⟨0, 1, .w1c, false, false, .num⟩, ⟨1, 1, .w1c, false, false, .num⟩, ⟨2, 1, .w1c, false, false, .num⟩]⟩,
  ⟨0xB041C, 0x40, 4, [⟨0, 16, .rw, false, false, .num⟩, ⟨16, 16, .rw, false, false, .num⟩]⟩,
  ⟨0xB1000, 0x40, 24, [⟨0, 1, .ro, false, false, .img⟩, ⟨1, 2, .ro, false, false, .img⟩, ⟨3, 3, .ro, false, false, .img⟩, ⟨6, 1, .ro, false, false, .img⟩, ⟨7, 1, .rw, false, false, .img⟩, ⟨8, 2, .rw, false, false, .img⟩, ⟨10, 1, .rw, false, false, .img⟩, ⟨11, 2, .rw, false, false, .img⟩, ⟨13, 1, .rw, false, false, .img⟩, ⟨14, 1, .ro, false, false, .img⟩, ⟨15, 2, .ro, false, false, .img⟩, ⟨17, 1, .rw, false, false, .img⟩, ⟨18, 1, .rw, false, false, .img⟩]⟩,
  ⟨0xB1004, 0x40, 24, [⟨0, 32, .ro, false, false, .img⟩]⟩,
  ⟨0xB1014, 0x40, 24, [⟨0, 32, .ro, false, false, .img⟩]⟩,
  ⟨0xB1008, 0x40, 24, [⟨0, 4, .ro, false, false, .img⟩, ⟨4, 1, .ro, false, false, .img⟩]⟩,
  ⟨0xB1018, 0x40, 24, [⟨0, 4, .ro, false, false, .img⟩, ⟨4, 1, .ro, false, false, .img⟩]⟩]

/-- Register descriptors, part 2. -/
def regsOut2 : List RegD := [
  ⟨0xB100C, 0x40, 24, [⟨0, 24, .ro, false, false, .img⟩]⟩,
  ⟨0xB1010, 0x40, 24, [⟨0, 24, .ro, false, false, .img⟩]⟩,
  ⟨0xB101C, 0x40, 24, [⟨0, 24, .ro, false, false, .img⟩]⟩,
  ⟨0xB1020, 0x40, 24, [⟨0, 24, .ro, false, false, .img⟩]⟩,
  ⟨0xB1024, 0x40, 24, [⟨0, 32, .rw, false, false, .img⟩]⟩,
  ⟨0xB1028, 0x40, 24, [⟨0, 32, .rw, false, false, .img⟩]⟩,
  ⟨0xB102C, 0x40, 24, [⟨0, 10, .rw, false, false, .img⟩, ⟨16, 10, .ro, false, false, .num⟩]⟩,
  ⟨0xB1030, 0x40, 24, [⟨0, 2, .ro, false, false, .num⟩, ⟨2, 1, .ro, false, false, .hw⟩, ⟨3, 1, .ro, false, false, .hw⟩, ⟨4, 1, .ro, false, false, .hw⟩, ⟨5, 1, .ro, false, false, .hw⟩, ⟨8, 7, .ro, false, false, .hw⟩]⟩,
  ⟨0xB1034, 0x40, 24, [⟨0, 32, .ro, false, false, .num⟩]⟩,
  ⟨0xB1038, 0x40, 24, [⟨0, 8, .rw, false, false, .img⟩, ⟨8, 16, .rw, false, false, .img⟩]⟩,
  ⟨0xB103C, 0x40, 24, [⟨0, 1, .w1c, false, false, .num⟩, ⟨1, 1, .w1c, false, false, .num⟩, ⟨2, 1, .w1c, false, false, .num⟩, ⟨3, 1, .w1c, false, false, .num⟩, ⟨4, 1, .w1c, false, false, .num⟩, ⟨5, 1, .w1c, false, false, .num⟩, ⟨6, 1, .w1c, false, false, .num⟩]⟩,
  ⟨0xC0000, 0x0, 1, [⟨0, 1, .w1c, false, false, .num⟩, ⟨1, 1, .w1c, false, false, .num⟩]⟩,
  ⟨0xC0004, 0x0, 1, [⟨0, 1, .rw, false, false, .num⟩]⟩,
  ⟨0xC0008, 0x0, 1, [⟨0, 32, .ro, false, false, .num⟩]⟩,
  ⟨0xC000C, 0x0, 1, [⟨0, 32, .ro, false, false, .num⟩]⟩,
  ⟨0xC0100, 0x80, 4, [⟨0, 1, .ro, false, false, .img⟩, ⟨1, 4, .ro, false, false, .img⟩, ⟨5, 1, .ro, false, false, .img⟩, ⟨6, 7, .rw, false, false, .img⟩]⟩,
  ⟨0xC0104, 0x80, 4, [⟨0, 1, .ro, false, false, .hw⟩, ⟨1, 1, .ro, false, false, .hw⟩, ⟨2, 1, .ro, false, false, .hw⟩, ⟨3, 1, .ro, false, false, .hw⟩, ⟨4, 1, .ro, false, false, .hw⟩, ⟨8, 24, .ro, false, false, .num⟩]⟩,
  ⟨0xC0108, 0x80, 4, [⟨0, 32, .ro, false, false, .hw⟩]⟩,
  ⟨0xC010C, 0x80, 4, [⟨0, 32, .ro, false, false, .hw⟩]⟩,
  ⟨0xC0110, 0x80, 4, [⟨0, 32, .ro, false, false, .hw⟩]⟩,
  ⟨0xC0114, 0x80, 4, [⟨0, 32, .ro, false, false, .hw⟩]⟩,
  ⟨0xC0118, 0x80, 4, [⟨0, 32, .ro, false, false, .hw⟩]⟩,
  ⟨0xC011C, 0x80, 4, [⟨0, 32, .ro, false, false, .hw⟩]⟩,
  ⟨0xC0120, 0x80, 4, [⟨0, 32, .rw, true, false, .num⟩]⟩]

/-- Register descriptors, part 3. -/
def regsOut3 : List RegD := [
  ⟨0xC0124, 0x80, 4, [⟨0, 32, .rw, true, false, .num⟩]⟩,
  ⟨0xC0128, 0x80, 4, [⟨0, 32, .rw, true, false, .num⟩]⟩,
  ⟨0xC012C, 0x80, 4, [⟨0, 32, .rw, true, false, .num⟩]⟩,
  ⟨0xC0130, 0x80, 4, [⟨0, 1, .wonce, true, false, .num⟩]⟩,
  ⟨0xC0134, 0x80, 4, [⟨0, 16, .ro, false, false, .num⟩, ⟨16, 16, .ro, false, false, .num⟩]⟩,
  ⟨0xC0138, 0x80, 4, [⟨0, 32, .ro, false, false, .num⟩]⟩,
  ⟨0xC013C, 0x80, 4, [⟨0, 32, .ro, false, false, .num⟩]⟩,
  ⟨0xC0140, 0x80, 4, [⟨0, 32, .ro, false, false, .num⟩]⟩,
  ⟨0xC0144, 0x80, 4, [⟨0, 32, .rw, false, false, .num⟩]⟩,
  ⟨0xC0148, 0x80, 4, [⟨0, 24, .wo, false, false, .num⟩]⟩,
  ⟨0xC014C, 0x80, 4, [⟨0, 16, .rw, false, false, .num⟩, ⟨16, 1, .rw, false, false, .num⟩, ⟨17, 1, .rw, false, false, .num⟩, ⟨18, 1, .rw, false, false, .num⟩]⟩,
  ⟨0xC0150, 0x80, 4, [⟨0, 32, .rw, false, false, .num⟩]⟩,
  ⟨0xC0154, 0x80, 4, [⟨0, 32, .rw, false, false, .num⟩]⟩,
  ⟨0xC0158, 0x80, 4, [⟨0, 1, .wo, false, false, .num⟩]⟩,
  ⟨0xC015C, 0x80, 4, [⟨0, 32, .ro, false, false, .num⟩]⟩,
  ⟨0xC0160, 0x80, 4, [⟨0, 32, .ro, false, false, .num⟩]⟩,
  ⟨0xC0164, 0x80, 4, [⟨0, 32, .ro, false, false, .num⟩]⟩,
  ⟨0xC0168, 0x80, 4, [⟨0, 32, .ro, false, false, .num⟩]⟩,
  ⟨0xC016C, 0x80, 4, [⟨0, 16, .ro, false, false, .num⟩]⟩,
  ⟨0xC0170, 0x80, 4, [⟨0, 1, .w1c, false, false, .num⟩, ⟨1, 1, .w1c, false, false, .num⟩, ⟨2, 1, .w1c, false, false, .num⟩, ⟨3, 1, .w1c, false, false, .num⟩, ⟨4, 1, .w1c, false, false, .num⟩]⟩,
  ⟨0xC0174, 0x80, 4, [⟨0, 16, .ro, false, false, .hw⟩, ⟨16, 16, .rw, false, false, .num⟩]⟩,
  ⟨0xC0800, 0x20, 16, [⟨0, 1, .rw, false, false, .img⟩, ⟨1, 1, .rw, false, false, .img⟩, ⟨2, 2, .rw, false, false, .img⟩, ⟨4, 11, .rw, false, false, .img⟩, ⟨16, 16, .rw, false, false, .img⟩]⟩,
  ⟨0xC0804, 0x20, 16, [⟨0, 32, .ro, false, false, .num⟩]⟩,
  ⟨0xC0808, 0x20, 16, [⟨0, 32, .ro, false, false, .num⟩]⟩]

/-- Register descriptors, part 4. -/
def regsOut4 : List RegD := [
  ⟨0xC080C, 0x20, 16, [⟨0, 32, .ro, false, false, .num⟩]⟩,
  ⟨0xC0810, 0x20, 16, [⟨0, 32, .ro, false, false, .num⟩]⟩,
  ⟨0xC0814, 0x20, 16, [⟨0, 16, .ro, false, false, .num⟩, ⟨16, 1, .w1c, false, false, .num⟩, ⟨17, 1, .w1c, false, false, .num⟩, ⟨18, 1, .ro, false, false, .num⟩]⟩,
  ⟨0xC1000, 0x40, 16, [⟨0, 1, .rw, false, false, .img⟩, ⟨1, 2, .rw, false, false, .img⟩]⟩,
  ⟨0xC1004, 0x40, 16, [⟨0, 32, .rw, false, false, .img⟩]⟩,
  ⟨0xC1008, 0x40, 16, [⟨0, 32, .rw, false, false, .img⟩]⟩,
  ⟨0xC100C, 0x40, 16, [⟨0, 16, .ro, false, false, .num⟩, ⟨16, 1, .ro, false, false, .num⟩, ⟨17, 5, .ro, false, false, .hw⟩]⟩,
  ⟨0xC1010, 0x40, 16, [⟨0, 32, .ro, false, false, .num⟩]⟩,
  ⟨0xC1014, 0x40, 16, [⟨0, 32, .ro, false, false, .num⟩]⟩,
  ⟨0xC1018, 0x40, 16, [⟨0, 32, .ro, false, false, .num⟩]⟩,
  ⟨0xC101C, 0x40, 16, [⟨0, 32, .ro, false, false, .num⟩]⟩,
  ⟨0xC1020, 0x40, 16, [⟨0, 16, .rw, false, false, .num⟩, ⟨16, 1, .w1c, false, false, .num⟩]⟩]

/-- Every register descriptor of this file. -/
def regsOut : List RegD := regsOut1 ++ regsOut2 ++ regsOut3 ++ regsOut4

end Sys2Proof.Machine
end

