-- ==== Sys2Proof/Machine/State.lean ====
section
/-!
DEFINITION. The state of the device: every register field, every queue and buffer, and the internal state the
manual names; the faults and refusals; and the state right after the internal reset ends.
-/
namespace Sys2Proof.Machine

/-- Why the device stops: nothing stops it. What the manual calls undefined goes on, with a free next state within the bounds it sets
(R12, R396; `State.misused`, log entry 57); every other access and event has its effect. -/
inductive Fault where
  deriving DecidableEq, Repr

/-- Why a command has no meaning. -/
inductive Refusal where
  /-- No meaning is written for the command. Safe: the model stops. -/
  | notModelled (mnemonic : String)
  deriving DecidableEq, Repr

/-- The state of the device. -/
structure State where
  /-- Commands waiting, first in, first out. -/
  pending : List Instr
  /-- The model's own counter of free values taken (log entry 9). -/
  free    : Nat
  /-- Register fields outside the two banks, by key. -/
  regs    : Tab Nat
  /-- The fields as they stood at the last tick boundary: the values in force of fields whose writes take effect
  there (R105, R132, R175, R403, R426). -/
  inForce : Tab Nat
  /-- Copies of VOTE fields that differ from the first copy: the exclusive-or of the second and third with it (R8, R68). -/
  upset   : Tab (Nat × Nat)
  /-- WONCE fields whose one write is used (R66). -/
  wonce   : List Nat
  /-- The indicative bank and the pending bank (R26). -/
  ind     : Bank
  pend    : Bank
  /-- The active configuration store (R59, R64), and whether an image has been applied since the internal reset. -/
  cfg     : ImageCfg
  applied : Bool
  /-- The 48-bit coarse counter, unwrapped (R88). -/
  coarse  : Nat
  /-- Tick number (R197), time of the next boundary on the primary scale (2^-48 ns), coarse count of the last one. -/
  tick    : Nat
  target  : Nat
  bound   : Nat
  /-- The first step of the primary scale has realigned the tick, and the boundary that reports it is still to come (R23). -/
  stepped : Bool
  realigned : Bool
  sys     : Sys
  hif     : Hif
  gld     : Gld
  otp     : Otp
  flt     : Flt
  obs     : Obs
  refs    : Tab RefSlot
  lanes   : Tab Lane
  /-- The bank queue, oldest first, and the lane it last took a record from (R102). -/
  bankQ   : List Rec
  bankTurn : Nat
  /-- Records delivered and not yet taken: EVT events to TME, echo events to CJL (R101). -/
  evtIn   : List Rec
  echoIn  : List Rec
  cask    : Tab Cask
  csk     : CskG
  syn     : Syn
  eth     : Eth
  ptp     : Ptp
  cjl     : Cjl
  tns     : Tns
  /-- What the present command sends. -/
  wire    : List Wire
  scales  : Tab Scale
  /-- Transmit-timestamp queues by port, oldest first, and entries held for their announcing edge (R278, R390). -/
  txq     : Tab (List TxEntry)
  txHeld  : List (Nat × TxEntry)
  /-- Coarse count from which an EVT pin's missing-event check runs, if it does (R274). -/
  evtFrom : Tab (Option Nat)
  /-- Jobs deferred once, by entry of the schedule (R25); word 3 of each schedule entry (R198). -/
  deferd  : List Nat
  schedEnd : Tab Nat
  /-- Slots of the last tick's subjunctive jobs, undecided (R192). -/
  subjSlots : Tab Nat
  deriving DecidableEq, Repr, Inhabited

/-- No image: an IMG field reads 0 and nothing is declared (R7). -/
def ImageCfg.blank : ImageCfg :=
  { img := [], oscCal := 0, declared := [], sched := [], locks := [], oscId := 0, tickCode := 0, primary := 0, fplan := 0, svn := 0, keyIndex := 0,
    ver := 0, noSwapIn := false, noSwapOut := false, hash := 0, apllFrac := [], apllLd := [], serdes := [], ptpCtx := [], tense := [], cask := [], cjl := false }

/-- A bank at reset. -/
def Bank.blank : Bank := { regs := [], qul := [], chan := [], ts := [], evs := [] }

/-- The host interface at reset: nothing in the window (R381), no message sent, every MSI-X vector masked (log entry 30). -/
def Hif.blank : Hif :=
  { window := [], shadow := [], lastRead := [], indLast := [], indBusy := [], indBy := [], stageBy := none, resp := [], status := [], ur := false, vecLevel := 0,
    vecMask := 4294967295, msgs := [], item := [], running := [], held := [], perst := false, intWant := false, intUp := none }

/-- The loader at reset. -/
def Gld.blank : Gld :=
  { op := none, slotB := false, alternate := false, fromFlash := false, hdr := false, applying := false, sram := [], staging := [],
    next := none, bootRun := false, arbTarget := none }

/-- The one-time-programmable memory before any programming (log entry 31). -/
def Otp.blank : Otp := { keyHash := [], programmed := 0, revoked := 0, arb := 0 }

/-- The fault units at reset (R417). -/
def Flt.blank : Flt :=
  { buckets := [], bucketAt := [], live := [], cyc := [], rstReq := [], hostReq := [], rstLeft := [], shdLeft := [], lineBad := [], missInv := [], kept := [],
    holders := [] }

/-- The device right after the internal reset has ended: power-on, straps open, the boot clock running and the derived
clocks standing (R7, R444, R447, R450 – R452). A field not listed in `regs` holds its reset value. -/
def State.reset : State :=
  { pending := [], free := 0, regs := [], inForce := [], upset := [], wonce := [], ind := Bank.blank, pend := Bank.blank,
    cfg := ImageCfg.blank, applied := false, coarse := 0, tick := 0, target := 0, bound := 0, stepped := false, realigned := false,
    sys := { rstN := false, por := false, pdUp := 16384, pdWait := 0, bankMv := [], clocks := false, locking := false },
    hif := Hif.blank, gld := Gld.blank, otp := Otp.blank, flt := Flt.blank,
    obs := { cnt := [], atB := [], pend := [], wrapped := [] }, refs := [], lanes := [], bankQ := [], bankTurn := 79, evtIn := [], echoIn := [],
    cask := [],
    csk := { base := 0, tUse := 0, tRun := false, lagged := false, tofs := 0, tofsRun := 0, attempts := 0, ext := none, okRun := 0, extAt := none, latch := none },
    syn := { apll := [], out := [], xoRun := false, xoZ := 0, xoInt := 0, xoT := 0 },
    eth := { lvl := [], lvlAt := [], sent := [], esmcTick := [], esmcAt := [], serdes := [], written := [] },
    ptp := { mem := [], sess := [], grp := [], lvl := 8192000000000, lvlAt := 0, evts := 0, bmca := false },
    cjl := { link := [], mail := [], flseq := 0, seen := [] }, tns := { entry := [], busyTo := 0, lastDom := none, pin := [], padj := [] },
    wire := [], scales := [], txq := [], txHeld := [], evtFrom := [], deferd := [], schedEnd := [], subjSlots := [] }

end Sys2Proof.Machine

/-- What undefined behaviour leaves of a state (R12): a free value, by the count of free values taken (log entry 57). -/
opaque Sys2Proof.Config.misuse : Nat → Sys2Proof.Machine.State → Sys2Proof.Machine.State
end

