-- ==== Sys2Proof/Machine/Ops.lean ====
section
/-!
DEFINITION. The named operations over the state: reading and writing register fields, the two banks, saturating and
wrapping counts, the observation counters, the clocks and time scales, the window and the configuration SRAM.
-/
namespace Sys2Proof.Machine
open Sys2Proof

/-! ## Register fields -/

/-- The register address and first bit of a key. -/
def keyAddr (k : Nat) : Nat := k / 32
def keyLo (k : Nat) : Nat := k % 32

/-- What a field reads as after power-on (R7): the table's numeric value, 0 for an IMG field save where its chapter
says otherwise (R444, R456), and for an HW field the value the log names (entry 5). `SQ_CAUSE` has APLL, POLICY and LOAD, which
stand before an image runs (R247, R452). -/
def resetValue (k : Nat) : Nat :=
  let a := keyAddr k
  let lo := keyLo k
  match a / 0x10000 with
  | 0 =>
    if a = 0x00 then (if lo = 0 then 0x9648 else 0x21)
    else if a = 0x14 then (if lo = 6 then 1 else 0)
    else if a = 0x20 then 0x4000
    else if a = 0x28 then (if lo = 0 then 0x1F else if lo = 8 then 0x3F else 0)
    else if a = 0x2C then (if lo = 16 then 115 else 0)
    else 0
  | 1 => if a = 0x10010 then 0x5A else 0
  | 5 =>
    if a = 0x50000 then (if lo = 4 then 0xFF else 0)
    else if a < 0x51E00 ∧ (a - 0x51000) % 0x40 = 0x28 then
      (if lo = 2 ∨ lo = 3 then 1 else if lo = 1 ∧ 0x51828 ≤ a then 1 else 0)
    else 0
  | 6 => if 0x60600 ≤ a ∧ a < 0x60680 ∧ a % 16 = 0 then 0x60 + (a - 0x60600) / 0x10 else 0
  | 8 =>
    if a < 0x81000 ∨ 0x81C00 ≤ a then 0
    else
      let o := (a - 0x81000) % 0x100
      if (o = 0 ∧ lo = 16) ∨ (o = 0x40 ∧ (lo = 8 ∨ lo = 16)) ∨ (o = 0xB8 ∧ lo = 8) then 0x7F else 0
  | 11 => if 0xB1000 ≤ a ∧ (a - 0xB1000) % 0x40 = 0x30 ∧ lo = 8 then 0x43 else 0
  | 12 => if 0xC0100 ≤ a ∧ a < 0xC0300 ∧ (a - 0xC0100) % 0x80 = 4 ∧ lo = 1 then 1 else 0
  | 16 => if a = 0x100050 then 0xFFFFFFFF else 0
  | _ => 0

/-- The fields of the two banks of R26: what DPLL-class jobs commit in QUL, SEL and LPE. -/
def isBanked (k : Nat) : Bool :=
  let a := keyAddr k
  let lo := keyLo k
  match a / 0x10000 with
  | 7 =>
    let o := (a - 0x71000) % 0x80
    decide (0x71000 ≤ a) && (o == 0x48 || (decide (0x50 ≤ o) && decide (o ≤ 0x68))) && !(o == 0x50 && lo == 20)
  | 8 =>
    let o := (a - 0x81000) % 0x100
    decide (0x81000 ≤ a) &&
      ((decide (0x40 ≤ o) && decide (o ≤ 0xAC) && !(o == 0x4C && lo == 16)) || (decide (0xB8 ≤ o) && decide (o ≤ 0xC0)))
  | 9 =>
    let o := (a - 0x91000) % 0x100
    decide (0x91000 ≤ a) &&
      ((decide (0x28 ≤ o) && decide (o ≤ 0x54) && !(o == 0x2C && lo == 16)) || (decide (0x60 ≤ o) && decide (o ≤ 0x70)))
  | _ => false

/-- A register table read at a key. -/
def regGet (t : Tab Nat) (k : Nat) : Nat := tabGet (resetValue k) t k

/-- A register table written at a key. -/
def regPut (t : Tab Nat) (k v : Nat) : Tab Nat := tabPut (resetValue k) t k v

/-- A field's indicative value (R32). -/
def State.get (s : State) (f : Fld) : Nat :=
  if isBanked f.key then regGet s.ind.regs f.key else regGet s.regs f.key

/-- A field's value in the pending bank, which the jobs of the tick read and write (R26). -/
def State.pget (s : State) (f : Fld) : Nat :=
  if isBanked f.key then regGet s.pend.regs f.key else regGet s.regs f.key

/-- A field's value in force since the last tick boundary. -/
def State.inF (s : State) (f : Fld) : Nat := regGet s.inForce f.key

/-- A one-bit field. -/
def State.bit (s : State) (f : Fld) : Bool := s.get f == 1
def State.pbit (s : State) (f : Fld) : Bool := s.pget f == 1
def State.inFb (s : State) (f : Fld) : Bool := s.inF f == 1

/-- A signed field. -/
def State.getS (s : State) (f : Fld) : Int := signed f.len (s.get f)
def State.pgetS (s : State) (f : Fld) : Int := signed f.len (s.pget f)

/-- Writing a field: its low `len` bits; a banked field in both banks. -/
def State.set (s : State) (f : Fld) (v : Nat) : State :=
  if isBanked f.key then
    { s with ind := { s.ind with regs := regPut s.ind.regs f.key (v % 2 ^ f.len) },
             pend := { s.pend with regs := regPut s.pend.regs f.key (v % 2 ^ f.len) } }
  else { s with regs := regPut s.regs f.key (v % 2 ^ f.len) }

/-- Writing a banked field in the pending bank alone (R26). -/
def State.pset (s : State) (f : Fld) (v : Nat) : State :=
  if isBanked f.key then { s with pend := { s.pend with regs := regPut s.pend.regs f.key (v % 2 ^ f.len) } }
  else { s with regs := regPut s.regs f.key (v % 2 ^ f.len) }

def State.setB (s : State) (f : Fld) (b : Bool) : State := s.set f (ofBool b)
def State.psetB (s : State) (f : Fld) (b : Bool) : State := s.pset f (ofBool b)
def State.setS (s : State) (f : Fld) (i : Int) : State := s.set f (unsigned f.len i)
def State.psetS (s : State) (f : Fld) (i : Int) : State := s.pset f (unsigned f.len i)

/-- The largest value of a field. -/
def Fld.max (f : Fld) : Nat := 2 ^ f.len - 1

/-- A saturating count field advanced by `n`. -/
def State.satAdd (s : State) (f : Fld) (n : Nat) : State := s.set f (min (s.get f + n) f.max)

/-- A wrapping count field advanced by `n`. -/
def State.wrapAdd (s : State) (f : Fld) (n : Nat) : State := s.set f (s.get f + n)

/-- A high-water mark raised to `v`. -/
def State.hwm (s : State) (f : Fld) (v : Nat) : State := if s.get f < v then s.set f v else s

/-- A value laid out over a low and a high word. -/
def State.get2 (s : State) (lo hi : Fld) : Nat := s.get lo + 2 ^ 32 * s.get hi
def State.set2 (s : State) (lo hi : Fld) (v : Nat) : State := (s.set lo v).set hi (v / 2 ^ 32)
def State.pget2 (s : State) (lo hi : Fld) : Nat := s.pget lo + 2 ^ 32 * s.pget hi
def State.pset2 (s : State) (lo hi : Fld) (v : Nat) : State := (s.pset lo v).pset hi (v / 2 ^ 32)
def State.getS2 (s : State) (lo hi : Fld) : Int := signed 64 (s.get2 lo hi)
def State.pgetS2 (s : State) (lo hi : Fld) : Int := signed 64 (s.pget2 lo hi)
def State.setS2 (s : State) (lo hi : Fld) (i : Int) : State := s.set2 lo hi (unsigned 64 i)
def State.psetS2 (s : State) (lo hi : Fld) (i : Int) : State := s.pset2 lo hi (unsigned 64 i)

/-- The register fields of a range of addresses, dropped to what reset leaves. -/
def dropRange (t : Tab Nat) (drop : Nat → Bool) : Tab Nat := t.filter (fun e => !drop e.1)

/-! ## Banked channels, and what a job leaves for the commit -/

def Bank.chanOf (b : Bank) (n : Nat) : Chan := tabGet Chan.idle b.chan n
def Bank.setChan (b : Bank) (n : Nat) (c : Chan) : Bank := { b with chan := tabPut Chan.idle b.chan n c }

/-- The channel as the jobs of the tick see it. -/
def State.chan (s : State) (n : Nat) : Chan := s.pend.chanOf n
def State.setChan (s : State) (n : Nat) (c : Chan) : State := { s with pend := s.pend.setChan n c }
def State.modChan (s : State) (n : Nat) (f : Chan → Chan) : State := s.setChan n (f (s.chan n))

/-- A change of banked state outside a job acts on both banks. -/
def State.inBoth (s : State) (f : State → State) : State :=
  let t := f s
  let u := f { s with pend := s.ind }
  { t with ind := { u.pend with ts := s.ind.ts, evs := s.ind.evs } }

/-- Leave an event for the commit, in the name of an owner. -/
def State.emit (s : State) (owner : Nat) (e : Ev) : State :=
  { s with pend := { s.pend with evs := s.pend.evs ++ [(owner, e)] } }
def State.emitAll (s : State) (owner : Nat) (es : List Ev) : State := es.foldl (fun s e => s.emit owner e) s

def Bank.slotOf (b : Bank) (n : Nat) : QSlot := tabGet QSlot.idle b.qul n
def Bank.setSlot (b : Bank) (n : Nat) (q : QSlot) : Bank := { b with qul := tabPut QSlot.idle b.qul n q }

/-- The slot as the jobs of the tick see it. -/
def State.qslot (s : State) (n : Nat) : QSlot := s.pend.slotOf n
def State.setQslot (s : State) (n : Nat) (q : QSlot) : State := { s with pend := s.pend.setSlot n q }

/-- What reaches a slot from outside its jobs reaches it in both banks. -/
def State.noteSlot (s : State) (n : Nat) (f : QSlot → QSlot) : State :=
  { s with ind := s.ind.setSlot n (f (s.ind.slotOf n)), pend := s.pend.setSlot n (f (s.pend.slotOf n)) }

def State.refSlot (s : State) (n : Nat) : RefSlot := tabGet RefSlot.idle s.refs n
def State.setRef (s : State) (n : Nat) (r : RefSlot) : State := { s with refs := tabPut RefSlot.idle s.refs n r }
def State.laneOf (s : State) (l : Nat) : Lane := tabGet Lane.idle s.lanes l
def State.setLane (s : State) (l : Nat) (x : Lane) : State := { s with lanes := tabPut Lane.idle s.lanes l x }

/-! ## Clocks and time scales -/

/-- Nanoseconds and seconds in the 2^-48 ns units of a scale's counter (R258). -/
def nsUnit : Nat := 2 ^ 48
def secUnit : Nat := 1000000000 * 2 ^ 48

/-- The nominal increment, 2.000 ns (R258). -/
def incNominal : Nat := 2 * 2 ^ 48

/-- An unlisted scale: not started, step right as reset. -/
def Scale.idle : Scale :=
  { segs := [], run := false, mark0 := 0, mark := 0, carry := 0, lastPh := 0, step := none, stepAt := none, radj := none, radjNext := none, radjTense := [],
    utcDue := none, utc := ⟨0, false, false, false, 0⟩, secSeen := 0, slew := 0, hold := false }

def State.scale (s : State) (k : Nat) : Scale := tabGet Scale.idle s.scales k
def State.setScale (s : State) (k : Nat) (x : Scale) : State := { s with scales := tabPut Scale.idle s.scales k x }
def State.modScale (s : State) (k : Nat) (f : Scale → Scale) : State := s.setScale k (f (s.scale k))

/-- A stretch's value at a coarse count at or after its start: whole `TCK` edges gone, each adding the increment, the
first `r` one LSB more (R258, R262). -/
def Seg.at (g : Seg) (c : Nat) : Nat :=
  let e := (c - g.c0) / 4
  g.v0 + e * g.inc + min e g.r

/-- The stretch in force at a coarse count. -/
def segFor : List Seg → Nat → Option Seg
  | [], _ => none
  | [g], _ => some g
  | g :: t, c => if g.c0 ≤ c then some g else segFor t c

/-- The scale's value at a coarse count (R271); 0 before it has started. -/
def Scale.at (x : Scale) (c : Nat) : Nat :=
  match segFor x.segs c with
  | none => 0
  | some g => g.at c

/-- The increment in force; nominal before a scale has started. -/
def Scale.inc (x : Scale) : Nat :=
  match x.segs with
  | [] => incNominal
  | g :: _ => g.inc

/-- The increment in force at a coarse count. -/
def Scale.incAt (x : Scale) (c : Nat) : Nat :=
  match segFor x.segs c with
  | none => incNominal
  | some g => g.inc

/-- Begin a new stretch at coarse count `c` from value `v`; the stamps of R271 reach back over the last eight. -/
def Scale.begin (x : Scale) (c v inc r : Nat) : Scale := { x with segs := (⟨c, v, inc, r⟩ :: x.segs).take 8 }

/-- The present value of scale `k`. -/
def State.now (s : State) (k : Nat) : Nat := (s.scale k).at s.coarse

/-- The primary time scale (R22). -/
def State.primary (s : State) : Nat := s.cfg.primary % 4

/-- The stamp of R271 of an instant in 62.5 fs units: the value at the last `TCK` edge at or before it, plus the
rest of it times the increment over 2 ns. In 2^-48 ns, rounded by the free bit. -/
def Scale.stamp (x : Scale) (t : Int) : Nat :=
  let e := t / 32000
  let c := (e * 4).toNat
  let rest := t - e * 32000
  x.at c + (rnd (((rest * (x.incAt c : Int) : Int) : Rat) / 32000)).toNat

/-- A scale value's parts: seconds, nanoseconds, and the top 32 bits of the fraction (R6, R258). -/
def tsSec (v : Nat) : Nat := v / secUnit
def tsNs (v : Nat) : Nat := v % secUnit / nsUnit
def tsFrac (v : Nat) : Nat := v % nsUnit / 2 ^ 16

/-- The tick rate of a code, in ticks per second (R21, R43), and the tick period in 2^-48 ns. -/
def tickRateOf (code : Nat) : Nat := 8000 * 2 ^ (code % 4)
def State.rate (s : State) : Nat := tickRateOf s.cfg.tickCode
def State.period (s : State) : Nat := secUnit / s.rate

/-- Cycles of an issue lane per tick (R183). -/
def State.cycles (s : State) : Nat := 750000000 / s.rate

/-- The tick index within the second of the primary scale (R22), of the tick the last boundary began. -/
def State.tickIndex (s : State) : Nat := ((s.target - s.period) % secUnit) / s.period

/-- Edges from value `v0` until a counter adding `inc`, and one more on the first `r` edges, reaches `t`. -/
def edgesTo (v0 inc r t : Nat) : Nat :=
  if t ≤ v0 then 0
  else if inc = 0 then 0
  else
    let d := t - v0
    let e1 := (d + inc) / (inc + 1)
    if e1 ≤ r then e1 else (d - r + inc - 1) / inc

/-- The coarse count of the next tick boundary: the first `TCK` edge at which the primary scale reaches or passes its
target (R22). -/
def State.nextBoundary (s : State) : Nat :=
  match (s.scale s.primary).segs with
  | [] => s.coarse
  | g :: _ => Nat.max s.coarse (g.c0 + 4 * edgesTo g.v0 g.inc g.r s.target)

/-- A coarse count falls in the present tick, or before it: what was timed for it is due. -/
def State.dueBy (s : State) (c : Nat) : Bool := decide (c < s.nextBoundary)

/-- The first multiple of the tick period above a value of the primary scale. -/
def State.nextMultiple (s : State) (v : Nat) : Nat := (v / s.period + 1) * s.period

/-- The low 16 bits of the tick number. -/
def State.tick16 (s : State) : Nat := s.tick % 65536

/-- The present instant in 62.5 fs units. -/
def State.instant (s : State) : Int := (s.coarse : Int) * 8000

/-! ## Observation counters (R424 – R427, R433) -/

/-- Add occurrences to an observation counter. A passage of 2^48 - 1 continues from the remainder; the sampler named
for the counter reloads it and owes a capture (R433). The overflow bit is set when the command's faults settle. -/
def State.obsAdd (s : State) (k n : Nat) : State :=
  let c := tabGet 0 s.obs.cnt k + n
  if c < 2 ^ 48 then { s with obs := { s.obs with cnt := tabPut 0 s.obs.cnt k c } }
  else
    let r := c % 2 ^ 48
    let smp := (List.range 4).find? (fun i => s.bit (OBS_SMP_CFG_EN i) && s.get (OBS_SMP_CFG_CNT i) == k)
    match smp with
    | none => { s with obs := { s.obs with cnt := tabPut 0 s.obs.cnt k r, wrapped := s.obs.wrapped ++ [k] } }
    | some i =>
      let p := Nat.max 1 (s.get (OBS_SMP_PER_PERIOD i))
      { s with obs := { s.obs with cnt := tabPut 0 s.obs.cnt k ((2 ^ 48 - p + r) % 2 ^ 48), wrapped := s.obs.wrapped ++ [k],
                                   pend := if s.obs.pend.contains i then s.obs.pend else s.obs.pend ++ [i] } }

/-! ## The passage of time -/

/-- The longest of some queues. -/
def longest (l : List Nat) : Nat := l.foldl Nat.max 0

/-- Message contexts of PTP held (R303). -/
def State.ctxHeld (s : State) : Nat := s.ptp.sess.foldl (fun a e => a + e.2.syncs.length + e.2.dreqs.length) 0

/-- The queues and pools whose occupancies counters 88–90 and 92–95 watch (R426): the bank queue, the longest TDL and vernier lane
queues, PTP message contexts, pending tense entries, the longest transmit-timestamp queue and tense queue of a link. The tags of
a tick, counter 91, are known at its end. -/
def State.occupied (s : State) (i : Nat) : Nat :=
  match i with
  | 0 => s.bankQ.length
  | 1 => longest ((s.lanes.filter (fun e => decide (e.1 < 64))).map (·.2.queue.length))
  | 2 => longest ((s.lanes.filter (fun e => decide (64 ≤ e.1))).map (·.2.queue.length))
  | 4 => s.ctxHeld
  | 5 => s.tns.entry.length
  | 6 => longest (s.txq.map (·.2.length))
  | 7 => longest (s.cjl.link.map (·.2.tenses.length))
  | _ => 0

/-- `n` HCLK cycles pass at the present occupancies (R39, R426): the bank queue's full cycles, and the counters whose threshold in
force is exceeded. -/
def State.countCycles (s : State) (n : Nat) : State :=
  let s := if s.bankQ.length < 1024 then s else s.satAdd TIM_BANKFULL_CNT_CYCLES n
  [0, 1, 2, 4, 5, 6, 7].foldl (fun t i => if s.inF (OBS_THR_N i) < s.occupied i then t.obsAdd (88 + i) n else t) s

/-- Time runs on to a coarse count; HCLK has an edge at every eighth. -/
def State.advance (s : State) (c : Nat) : State :=
  { (if c / 8 = s.coarse / 8 then s else s.countCycles (c / 8 - s.coarse / 8)) with coarse := c }

/-! ## Bytes of the window and of the configuration SRAM -/

/-- Bytes from an address upward as entries of a table: those that are not 0. -/
def byteEntries (a : Nat) : List Byte → Tab Byte
  | [] => []
  | b :: r => if b = 0 then byteEntries (a + 1) r else (a, b) :: byteEntries (a + 1) r

/-- Store bytes from an address upward. -/
def putBytes (t : Tab Byte) (a : Nat) (l : List Byte) : Tab Byte :=
  t.filter (fun e => decide (e.1 < a)) ++ byteEntries a l ++ t.filter (fun e => decide (a + l.length ≤ e.1))

/-- Read `n` bytes from an address upward. -/
def getBytes (t : Tab Byte) (a : Nat) : Nat → List Byte
  | 0 => []
  | n + 1 => tabGet 0 t a :: getBytes t (a + 1) n

/-- A little-endian word of bytes. -/
def getWord (t : Tab Byte) (a : Nat) : Nat := leNat (getBytes t a 4)
def putWord (t : Tab Byte) (a v : Nat) : Tab Byte := putBytes t a (leBytes 4 v)

/-- The block sends something out. -/
def State.emitWire (s : State) (w : Wire) : State := { s with wire := s.wire ++ [w] }

/-- A free value (log entry 9): the step takes one and advances the counter. -/
def State.fresh (s : State) : Nat := Config.freeValue s.free
def State.took (s : State) : State := { s with free := s.free + 1 }

/-! ## Reset units -/

/-- Reset units 0–16 are the blocks by code, 17–23 the sub-units TDLA, TDLB, VERN and ETH quads 0–3 (R421). -/
def unitBlock (u : Nat) : Nat := if u < 17 then u else if u < 20 then 6 else 13

/-- A unit is in reset, or in reset or reset-shadow. -/
def State.unitInRst (s : State) (u : Nat) : Bool := decide (0 < tabGet 0 s.flt.rstLeft u)
def State.unitInShadow (s : State) (u : Nat) : Bool := decide (0 < tabGet 0 s.flt.rstLeft u) || decide (0 < tabGet 0 s.flt.shdLeft u)

/-- The units that lie in a block. -/
def unitsOf (b : Nat) : List Nat := if b = 6 then [6, 17, 18, 19] else if b = 13 then [13, 20, 21, 22, 23] else [b]

/-- The block or one of its sub-units is in reset, or in reset or reset-shadow. -/
def State.blockInRst (s : State) (b : Nat) : Bool := s.unitInRst b
def State.blockInShadow (s : State) (b : Nat) : Bool := (unitsOf b).any s.unitInShadow

/-- A measurement lane's sub-unit: TDLA, TDLB or VERN. -/
def laneUnit (l : Nat) : Nat := if l < 32 then 17 else if l < 64 then 18 else 19

/-- The lane's bank, or the whole of TIM, is in reset; or in reset or reset-shadow. -/
def State.laneInRst (s : State) (l : Nat) : Bool := s.unitInRst 6 || s.unitInRst (laneUnit l)
def State.laneInShadow (s : State) (l : Nat) : Bool := s.unitInShadow 6 || s.unitInShadow (laneUnit l)

/-- A power domain is on and released; an output bank's also needs its supply in range (R443). -/
def State.domainUp (s : State) (d : Nat) : Bool :=
  bitAt s.sys.pdUp d && (!(4 ≤ d && d ≤ 6) || bitAt (s.get SYS_SUP_STAT_SUP_PGOOD) (d - 4))

end Sys2Proof.Machine
end

