-- ==== Sys2Proof/Machine/Flags.lean ====
section
/-!
DEFINITION. Sticky bits, event sources and fault units: which source a sticky bit stands behind, how a setting event
is counted in the source's window, when a source becomes severe and what reactions it takes, the first-source
capture, and the pin driver of `FAULT_N` (R397 – R416).
-/
namespace Sys2Proof.Machine
open Sys2Proof

/-- The `n`th source of a list. -/
def srcPick (l : List (Option Nat)) (n : Nat) : Option Nat := (l[n]?).join

/-- The event source behind the sticky bit `lo` of the register at `a` (R109, R135, R167, R199, R227, R256, R283,
R316, R345, R367, R391, R422, R440, R459). -/
def sourceOf (a lo : Nat) : Option Nat :=
  match a / 0x10000 with
  | 0 => if a = 0x0C then srcPick [some 127, some 126, some 123, some 124, some 124, some 125, some 125] lo else none
  | 1 =>
    if a = 0x10000 then srcPick [some 109, some 109, some 108, some 109, some 108] lo
    else if a = 0x10304 then
      if lo < 8 then srcPick [some 104, some 105, some 110, some 106, some 106, some 106, some 106, some 106] lo
      else if lo < 16 then some 107
      else if lo = 17 then some 105 else if lo = 18 then some 110 else none
    else none
  | 2 => if a = 0x20090 then srcPick [some 111, some 110, some 110, some 111, some 111, some 111, some 110, some 110] lo else none
  | 3 => if a = 0x30000 then srcPick [some 112, some 113, some 114, some 115, some 116, some 117, some 118, some 119, some 119] lo else none
  | 4 =>
    if a = 0x40000 then srcPick [some 127, some 126, some 121, some 122, some 122] lo
    else if 0x40010 ≤ a ∧ a ≤ 0x40018 then some 120
    else if 0x40020 ≤ a ∧ a ≤ 0x40028 then some 121
    else none
  | 5 =>
    if a = 0x50000 then (if 12 ≤ lo then some 5 else none)
    else if a = 0x50004 then srcPick [some 14, some 15] lo
    else if 0x51000 ≤ a ∧ a < 0x51E00 ∧ (a - 0x51000) % 0x40 = 0x28 then
      (if lo < 16 then none else srcPick [some 0, some 1, some 2, some 3, some 4] (lo - 16))
    else none
  | 6 => if a = 0x6001C then srcPick [some 13, some 6, some 7, some 8, some 9, some 10, some 11, some 12] lo else none
  | 7 =>
    if a = 0x70000 then srcPick [some 31, some 30] lo
    else if 0x71000 ≤ a ∧ (a - 0x71000) % 0x80 = 0x4C then
      srcPick [some 16, some 17, some 18, some 19, some 20, some 21, some 22, some 23, some 24, some 25, some 26, some 27,
        some 28, some 29, some 29] lo
    else none
  | 8 =>
    if a = 0x80000 then srcPick [some 39, some 38] lo
    else if 0x81000 ≤ a ∧ (a - 0x81000) % 0x100 = 0xB0 then
      srcPick [some 32, some 33, some 34, some 35, some 36, some 37, some 37, some 32] lo
    else none
  | 9 =>
    if a = 0x90000 then srcPick [some 47, some 47, some 41, some 46, some 46] lo
    else if 0x91000 ≤ a ∧ (a - 0x91000) % 0x100 = 0x58 then
      srcPick [some 40, some 42, some 42, some 43, some 43, some 44, some 44, some 45, some 45] lo
    else none
  | 10 =>
    if a = 0xA0000 then srcPick [some 55, some 54, some 52, some 53] lo
    else if 0xA1000 ≤ a ∧ (a - 0xA1000) % 0x100 = 0x58 then srcPick [some 48, some 49, some 50, some 50, some 51] lo
    else none
  | 11 =>
    if a = 0xB0000 then srcPick [some 63, some 62, some 58, some 58] lo
    else if 0xB0400 ≤ a ∧ a < 0xB0500 ∧ (a - 0xB0400) % 0x40 = 0x18 then srcPick [some 56, some 57, some 56] lo
    else if 0xB1000 ≤ a ∧ (a - 0xB1000) % 0x40 = 0x3C then
      srcPick [some 59, some 60, some 61, some 61, some 61, some 60, some 60] lo
    else none
  | 12 =>
    if a = 0xC0000 then srcPick [some 71, some 70] lo
    else if 0xC0100 ≤ a ∧ a < 0xC0300 ∧ (a - 0xC0100) % 0x80 = 0x70 then
      srcPick [some 64, some 65, some 69, some 69, some 69] lo
    else if 0xC0800 ≤ a ∧ a < 0xC0A00 ∧ (a - 0xC0800) % 0x20 = 0x14 then
      (if lo = 16 then some 66 else if lo = 17 then some 67 else none)
    else if 0xC1000 ≤ a ∧ (a - 0xC1000) % 0x40 = 0x20 then (if lo = 16 then some 68 else none)
    else none
  | 13 =>
    if a = 0xD0000 then srcPick [some 79, some 78, some 77] lo
    else if 0xD1000 ≤ a ∧ (a - 0xD1000) % 0x80 = 0x18 then srcPick [some 72, some 73, some 74, some 75, some 76] lo
    else none
  | 14 =>
    if a = 0xE0000 then srcPick [some 87, some 86, some 84, some 85, some 85] lo
    else if 0xE0080 ≤ a ∧ a < 0xE00C0 then some 80
    else if 0xE1000 ≤ a ∧ (a - 0xE1000) % 0x40 = 0x28 then srcPick [some 81, some 82, some 83] lo
    else none
  | 15 =>
    if a = 0xF0000 then srcPick [some 95, some 94, some 92, some 91] lo
    else if 0xF1000 ≤ a ∧ (a - 0xF1000) % 0x80 = 0x38 then
      srcPick [some 88, some 89, some 90, some 89, some 93, some 93, some 93, some 92, some 92, some 91, some 92] lo
    else none
  | 16 =>
    if a = 0x100000 then srcPick [some 103, some 102, some 96, some 97, some 98, some 99, some 100, some 101, some 101] lo
    else none
  | _ => none

/-- The fault unit that judges a source, by block code, and the source's local index there (R397). -/
def unitOfSource (n : Nat) : Nat × Nat :=
  if n < 6 then (5, n) else if n < 14 then (6, n - 6) else if n < 16 then (5, n - 8)
  else if n < 32 then (7, n - 16) else if n < 40 then (8, n - 32) else if n < 48 then (9, n - 40)
  else if n < 56 then (10, n - 48) else if n < 64 then (11, n - 56) else if n < 72 then (12, n - 64)
  else if n < 80 then (13, n - 72) else if n < 88 then (14, n - 80) else if n < 96 then (15, n - 88)
  else if n < 104 then (16, n - 96) else if n < 110 then (1, n - 104) else if n < 112 then (2, n - 110)
  else if n < 120 then (3, n - 112) else if n < 123 then (4, n - 120) else (0, (n - 123) % 5)

/-- Sources of a block's fault unit (R397). -/
def unitSources (b : Nat) : Nat :=
  match b with
  | 0 => 5 | 1 => 6 | 2 => 2 | 4 => 3 | 7 => 16 | _ => 8

/-- The global number of source `j` of block `b`'s unit. -/
def sourceNumber (b j : Nat) : Nat :=
  match b with
  | 0 => 123 + j | 1 => 104 + j | 2 => 110 + j | 3 => 112 + j | 4 => 120 + j
  | 5 => if j < 6 then j else 8 + j
  | 6 => 6 + j | 7 => 16 + j | 8 => 32 + j | 9 => 40 + j | 10 => 48 + j | 11 => 56 + j | 12 => 64 + j
  | 13 => 72 + j | 14 => 80 + j | 15 => 88 + j | _ => 96 + j

/-- The condition-type sources (R399). -/
def conditionSources : List Nat := [0, 1, 2, 3, 5, 20, 21, 22, 23, 24, 25, 26, 27, 52, 58, 73, 77, 90, 112, 117, 123, 125]

/-- The producers whose reset-shadow masks a consumer's events (R414). -/
def producersOf (b : Nat) : List Nat :=
  match b with
  | 5 => [13, 15] | 6 => [5, 13, 15] | 7 => [5, 6, 13, 15, 14] | 8 => [7, 16] | 9 => [6, 7, 8, 10, 14]
  | 10 => [9] | 11 => [6, 9, 16] | 12 => [6, 9] | 14 => [13, 9, 12] | 15 => [6, 9, 12, 16] | 16 => [12, 15] | _ => []

/-- Events in a source's window, saturating (R400). -/
def State.wcount (s : State) (src : Nat) : Nat := min ((tabGet [] s.flt.buckets src).foldl (· + ·) 0) 65535

/-- One event more in the present bucket. -/
def bucketAdd (l : List Nat) : List Nat :=
  match l with
  | [] => [1]
  | n :: t => (n + 1) :: t

/-- Bits set in a mask. -/
def bitsSet (w n : Nat) : List Nat := (List.range w).filter (fun i => bitAt n i)

/-- Enter an event of a `CAP` source in the capture of its unit (R407): the first one with its source, tick and
primary time; a later one sets `OVF`, counts, and is answered with the sticky bit to set. -/
def State.capture (s : State) (b src : Nat) : State × List Fld :=
  if s.bit (BLK_FLT_FIRST_V b) then
    ((s.set (BLK_FLT_FIRST_OVF b) 1).satAdd (BLK_FLT_FIRST_OVF_CNT b) 1, [FLT_STICKY_CAPOVF_S])
  else
    let v := s.now s.primary
    ((((((s.set (BLK_FLT_FIRST_SRC b) src).set (BLK_FLT_FIRST_V b) 1).set (BLK_FLT_FIRST_TICK b) s.tick).set
      (BLK_FLT_FIRST_NS b) (tsNs v)).set (BLK_FLT_FIRST_SEC_LO b) (tsSec v)).set (BLK_FLT_FIRST_SEC_HI b) (tsSec v / 2 ^ 32), [])

/-- Declare a source severe and take its reactions (R401, R404, R405): `SEV`, and the sticky bits to set next. A
reset reaction is remembered for the next tick boundary. -/
def State.declareSevere (s : State) (b j : Nat) : State × List Fld :=
  let s := (s.set (BLK_FLT_SEV b j) 1).obsAdd 82 1
  let rInt := s.inFb (BLK_FLT_CFG_R_INT b j)
  let rSq := s.inFb (BLK_FLT_CFG_R_SQ b j)
  let rHo := s.inFb (BLK_FLT_CFG_R_HO b j)
  let s := if s.inFb (BLK_FLT_CFG_R_RST b j) then
      { s with flt := { s.flt with rstReq := s.flt.rstReq ++ [(b, s.inF (BLK_FLT_CFG_RSUB b j))] } }
    else s
  (s, (if rInt then [FLT_STICKY_SEV_S] else []) ++ (if rSq || rHo then [FLT_STICKY_SQHO_S] else []))

/-- A fault event of a source (R398 – R401, R414): masked in a producer's shadow when `SHM` is set; else counted in
`TOTAL`, and, once an image's limits are in force, in the window, the capture and the judgement. -/
def State.faultEvent (s : State) (src : Nat) : State × List Fld :=
  let b := (unitOfSource src).1
  let j := (unitOfSource src).2
  let s := if conditionSources.contains src || s.flt.live.contains src then s
    else { s with flt := { s.flt with live := s.flt.live ++ [src] } }
  if s.inFb (BLK_FLT_CFG_SHM b j) && (producersOf b).any s.blockInShadow then
    ((s.satAdd (BLK_FLT_MASKED b) 1).obsAdd 81 1, [])
  else
    let s := (s.satAdd (BLK_FLT_TOTAL b j) 1).obsAdd 80 1
    let thr := s.inF (BLK_FLT_CFG_THR b j)
    if thr = 0 then (s, [])
    else
      let s := { s with flt := { s.flt with buckets := tabPut [] s.flt.buckets src (bucketAdd (tabGet [] s.flt.buckets src)) } }
      let s := s.hwm (BLK_FLT_CNT_PEAK b j) (s.wcount src)
      let r1 := if s.inFb (BLK_FLT_CFG_CAP b j) then s.capture b src else (s, [])
      if thr ≤ r1.1.wcount src && !r1.1.bit (BLK_FLT_SEV b j) then
        let r2 := r1.1.declareSevere b j
        (r2.1, r1.2 ++ r2.2)
      else r1

/-- The setting event of a sticky bit: the bit is set, and its source counts once in an HCLK cycle (R398). -/
def State.stickyEvent (s : State) (f : Fld) : State × List Fld :=
  let s := s.set f 1
  match sourceOf f.addr f.lo with
  | none => (s, [])
  | some src =>
    if s.flt.cyc.contains src then (s, [])
    else ({ s with flt := { s.flt with cyc := s.flt.cyc ++ [src] } }).faultEvent src

/-! ## The pin driver -/

/-- A block's severe indication as its line would show it: a source with `R_PIN` has `SEV` (R409). -/
def State.severeLine (s : State) (b : Nat) : Bool :=
  (List.range (unitSources b)).any (fun j => s.bit (BLK_FLT_SEV b j) && s.inFb (BLK_FLT_CFG_R_PIN b j))

/-- The true and the complement rail of a block's line (R409); FLT drives none. -/
def State.rails (s : State) (b : Nat) : Bool × Bool :=
  if s.blockInShadow b then (true, true) else if s.severeLine b then (true, false) else (false, true)

/-- The indication the pin driver takes: kept through a reset and its shadow (R415). -/
def State.severeTaken (s : State) (b : Nat) : Bool :=
  match s.flt.kept.find? (fun e => e.1 == b) with
  | some e => e.2
  | none => s.severeLine b

/-- No image runs and a load has failed: the built-in reaction (R411). -/
def State.noImageFault (s : State) : Bool := !s.bit GLD_STAT_IMG_VALID && s.bit GLD_STICKY_LOAD_FAIL

/-- Why a block holds `FAULT_N` low, the first of line fault, escalation, severe, no image (R411, R412). -/
def State.holdKind (s : State) (b : Nat) : Option Nat :=
  if s.bit (FLT_LINE_S_BLK b) then some 1
  else if s.bit (FLT_ESC_BLK b) then some 2
  else if s.severeTaken b then some 0
  else if b = 2 ∧ s.noImageFault then some 3
  else none

/-- The blocks that hold the pin; while FLT is in reset the pin driver keeps its last level (R417). -/
def State.pinHolders (s : State) : List Nat :=
  if s.unitInRst 3 then s.flt.holders else (List.range 17).filter (fun b => (s.holdKind b).isSome)

/-- Take the pin's new holders: the first-block latch and what it sets (R411, R412). -/
def State.pinUpdate (s : State) : State × List Fld :=
  let h := s.pinHolders
  let new := h.filter (fun b => !s.flt.holders.contains b)
  let fall := s.flt.holders.isEmpty && !h.isEmpty
  let s := { s with flt := { s.flt with holders := h } }
  match new with
  | [] => (s, [])
  | b :: rest =>
    if s.bit FLT_PIN_FIRST_V then
      if new.any (· != s.get FLT_PIN_FIRST_BLK) then
        (s.set FLT_PIN_FIRST_OVF 1, [FLT_STICKY_CAPOVF_S] ++ (if fall then [FLT_STICKY_PIN_S] else []))
      else (s, if fall then [FLT_STICKY_PIN_S] else [])
    else
      let s := (((s.set FLT_PIN_FIRST_V 1).set FLT_PIN_FIRST_BLK b).set FLT_PIN_FIRST_KIND ((s.holdKind b).getD 0)).set FLT_PIN_FIRST_TICK s.tick
      ((if rest.isEmpty then s else s.set FLT_PIN_FIRST_OVF 1), (if fall then [FLT_STICKY_PIN_S] else []))

/-- Work off setting events until none is left: those given, those the fault units' reactions set, the overflow bits
of counters that wrapped, and what the pin driver sets. Each FLT source counts once in the cycle, so the work ends. -/
def settle : Nat → List Fld → State → State
  | 0, _, s => s
  | n + 1, f :: t, s => let r := s.stickyEvent f; settle n (r.2 ++ t) r.1
  | n + 1, [], s =>
    match s.obs.wrapped with
    | k :: t => settle n [OBS_OVF_OVF (k / 32 % 3) (k % 32)] { s with obs := { s.obs with wrapped := t } }
    | [] =>
      if s.pinHolders = s.flt.holders then s
      else let r := s.pinUpdate; settle n r.2 r.1

/-- Set sticky bits, with all that follows. -/
def State.raiseAll (s : State) (fs : List Fld) : State := settle (64 + 16 * fs.length) fs (fs.foldl (fun s f => s.set f 1) s)
def State.raise (s : State) (f : Fld) : State := s.raiseAll [f]
def State.raiseIf (s : State) (c : Bool) (f : Fld) : State := if c then s.raise f else s

/-- A fault event that no sticky bit carries, such as a FLOOD handed to FLT (R398). -/
def State.eventOnly (s : State) (src : Nat) : State :=
  if s.flt.cyc.contains src then s
  else
    let r := ({ s with flt := { s.flt with cyc := s.flt.cyc ++ [src] } }).faultEvent src
    r.1.raiseAll r.2

/-- The lower-level report that an upper-level timeout of the same tick took as its cause (R37, R408). -/
def State.captureCause (s : State) (b lower : Nat) : State :=
  if s.bit (BLK_FLT_FIRST_V b) then (s.set (BLK_FLT_FIRST_CAUSE_SRC b) lower).set (BLK_FLT_FIRST_CAUSE_V b) 1 else s

/-! ## Reactions that are held -/

/-- A channel is forced into holdover: a source mapping it has `SEV` (R404, R405). -/
def State.forcedHo (s : State) (c : Nat) : Bool :=
  (List.range 17).any (fun b => bitAt (s.inF (BLK_FLT_HO_MASK b)) c &&
    (List.range (unitSources b)).any (fun j => s.bit (BLK_FLT_SEV b j) && s.inFb (BLK_FLT_CFG_R_HO b j)))

/-- An output is squelched by a fault reaction (R404). -/
def State.forcedSq (s : State) (o : Nat) : Bool :=
  (List.range 17).any (fun b => bitAt (s.inF (BLK_FLT_SQ_MASK b)) o &&
    (List.range (unitSources b)).any (fun j => s.bit (BLK_FLT_SEV b j) && s.inFb (BLK_FLT_CFG_R_SQ b j)))

/-! ## Interrupt vectors (R392) -/

/-- The sources asserted: each has a sticky bit set. -/
def State.assertedSources (s : State) : List Nat :=
  s.regs.filterMap (fun e => if e.2 = 0 then none else sourceOf (keyAddr e.1) (keyLo e.1))

/-- A source is enabled in `HIF_EV_EN_k`, and the vector it is mapped to. -/
def State.sourceEnabled (s : State) (n : Nat) : Bool := bitAt (s.get (HIF_EV_EN_EN (n / 32))) (n % 32)
def State.sourceVector (s : State) (n : Nat) : Nat := s.get (HIF_EV_VEC_VEC (n / 4) (n % 4))

/-- The asserted vectors, as a 32-bit mask. -/
def State.vectors (s : State) : Nat :=
  s.assertedSources.foldl (fun v n => if s.sourceEnabled n then setBitAt v (s.sourceVector n) else v) 0

/-- A vector that `INT_N` shows is asserted. -/
def State.intAsked (s : State) : Bool := (s.vectors &&& s.get HIF_VEC_INT_EN_INT_EN) != 0

/-- `INT_N` has been high for the 128 ns after it last rose (R392). -/
def State.intHeld (s : State) : Bool := match s.hif.intUp with | none => true | some c => decide (c + 256 ≤ s.coarse)

/-- `INT_N` is low. -/
def State.intLow (s : State) : Bool := s.intAsked && s.intHeld

/-- Evaluate the vectors: a message for each unmasked vector that has risen, and the instant at which `INT_N` rises (R392). -/
def State.vectorUpdate (s : State) : State :=
  let v := s.vectors
  let rise := (bitsSet 32 v).filter (fun i => !bitAt s.hif.vecLevel i && !bitAt s.hif.vecMask i)
  { s with hif := { s.hif with vecLevel := v, msgs := (s.hif.msgs ++ rise), intWant := s.intAsked,
                               intUp := if s.hif.intWant && s.intHeld && !s.intAsked then some s.coarse else s.hif.intUp } }

/-! ## A command's frame -/

/-- A command begins: a fresh HCLK cycle for the fault units, no message sent and no bus answer yet. -/
def State.begin (s : State) : State :=
  { s with wire := [], flt := { s.flt with cyc := [] }, hif := { s.hif with msgs := [], resp := [], status := [], ur := false } }

/-- A command ends: wrapped counters and the pin settle, and the vectors are evaluated. -/
def State.finish (s : State) : State := (settle 64 [] s).vectorUpdate

/-- The state a command leaves: what it does, settled, with the queue as the step handed it over. -/
def State.close (s t : State) : State := { t.finish with pending := s.pending }

/-- A command whose effect the manual gives in every state. -/
def run (f : State → State) (s : State) : Host.Outcome State Fault Refusal := .next (s.close (f s.begin))

end Sys2Proof.Machine
end

