-- ==== Sys2Proof/Machine/Rings.lean ====
section
/-!
DEFINITION. The rings of the shared window: an item posted to a device-to-host ring, a descriptor taken from and
returned to a host-to-device ring, FRAME_RX items held for an announcing edge, and the sampler's captures
(R381 – R390, R433 – R436).
-/
namespace Sys2Proof.Machine
open Sys2Proof

/-- Descriptors of ring `r` (R386): 0 acts as 1, more than 4,096 as 4,096. -/
def State.ringSize (s : State) (r : Nat) : Nat := min 4096 (Nat.max 1 (s.get (HIF_RING_CFG_SIZE r)))

/-- Window offset of descriptor `i` of ring `r` (R383); bits [3:0] of `BASE` count as zero. -/
def State.descAt (s : State) (r i : Nat) : Nat := (s.get (HIF_RING_BASE_BASE r) / 16 * 16 + 16 * i) % 2 ^ 20

/-- A word of the window. -/
def State.winWord (s : State) (a : Nat) : Nat := getWord s.hif.window a
def State.putWin (s : State) (a v : Nat) : State := { s with hif := { s.hif with window := putWord s.hif.window a v } }
def State.putWinBytes (s : State) (a : Nat) (l : List Byte) : State := { s with hif := { s.hif with window := putBytes s.hif.window a l } }

/-- The descriptor at window offset `a` is the device's. -/
def State.ownAt (s : State) (a : Nat) : Bool := bitAt (s.winWord a) 31

/-- The device's index on the ring, kept within its size. -/
def State.ringIdx (s : State) (r : Nat) : Nat := s.get (HIF_RING_IDX_IDX r) % s.ringSize r

/-- Return the descriptor at the index: words 2 and 3 and then word 0, the index past it, `RSEQ` counting it
(R383, R384). `w0` is word 0 without `ERR`, `STATUS` and `OWN`. -/
def State.returnDesc (s : State) (r w0 w2 status : Nat) : State :=
  let a := s.descAt r (s.ringIdx r)
  let seq := (s.get (HIF_RING_IDX_RSEQ r) + 1) % 65536
  let s := (s.putWin (a + 8) w2).putWin (a + 12) (s.tick16 + 65536 * seq)
  let s := s.putWin a (w0 + status * 2 ^ 16 + (if status = 0 then 0 else 2 ^ 30))
  (s.set (HIF_RING_IDX_IDX r) ((s.ringIdx r + 1) % s.ringSize r)).set (HIF_RING_IDX_RSEQ r) seq

/-- A dropped item (R384). -/
def State.ringDrop (s : State) (r : Nat) : State :=
  ((s.satAdd (HIF_RING_CNT_DROPS r) 1).obsAdd 79 1).raise (HIF_RING_STICKY_DROP_S r)

/-- Post an item to a device-to-host ring (R384, R386); the answer says whether it was written. -/
def State.ringPost (s : State) (it : RingItem) : State × Bool :=
  let r := it.ring
  if !s.bit (HIF_RING_CFG_RING_EN r) then (s, false)
  else
    let a := s.descAt r (s.ringIdx r)
    let w0 := s.winWord a
    if !bitAt w0 31 then (s.ringDrop r, false)
    else
      let buf := s.winWord (a + 4) % 2 ^ 20 / 16 * 16
      let room := w0 % 65536
      if 2 ^ 20 < buf + room ∨ room < it.bytes.length then
        (((s.returnDesc r (it.port * 2 ^ 24) 0 3).ringDrop r).raise (HIF_RING_STICKY_ERR_S r), false)
      else
        let s := (s.putWinBytes buf it.bytes).putWin (a + 4) buf
        let s := (s.returnDesc r (it.port * 2 ^ 24 + it.bytes.length) 0 0).obsAdd 78 1
        (s.raise (HIF_RING_STICKY_DONE_S r), true)

/-- Post an item where the answer does not matter. -/
def State.post (s : State) (r : Nat) (words : List Nat) : State := (s.ringPost ⟨r, 0, wordsBytes words⟩).1

/-- The four words of a stamp: `NS`, `FRAC`, `SEC_LO`, `SEC_HI`. -/
def stampWords (v : Nat) : List Nat := [tsNs v, tsFrac v, tsSec v % 2 ^ 32, tsSec v / 2 ^ 32]

/-- The port's stamps are of the announcing edge (R276). -/
def State.portAnnounce (s : State) (p : Nat) : Bool := s.bit (TME_PORT_CFG_TSPT p)

/-- An item for a device-to-host ring: on FRAME_RX one of a port with `TSPT` 1, and any behind a held one, is held
(R390); the host-to-device rings 1 and 2 take none. -/
def State.postItem (s : State) (it : RingItem) : State :=
  if it.ring = 1 ∨ it.ring = 2 then s
  else if it.ring = 0 ∧ (s.portAnnounce it.port ∨ s.hif.held ≠ []) then
    if !s.bit (HIF_RING_CFG_RING_EN 0) then s
    else if s.ownAt (s.descAt 0 ((s.ringIdx 0 + s.hif.held.length) % s.ringSize 0)) then
      { s with hif := { s.hif with held := s.hif.held ++ [it] } }
    else s.ringDrop 0
  else (s.ringPost it).1

/-- A received host frame goes to FRAME_RX, its bytes begun by the stamp (R382). -/
def State.postFrameRx (s : State) (port : Nat) (stamp : Nat) (frame : List Byte) : State :=
  s.postItem ⟨0, port, wordsBytes (stampWords stamp) ++ frame⟩

/-- A held item with the stamp of the announcing edge, where its port has `TSPT` 1. -/
def announceItem (s : State) (stamp : Nat → Nat) (it : RingItem) : RingItem :=
  if s.portAnnounce it.port then { it with bytes := wordsBytes (stampWords (stamp it.port)) ++ it.bytes.drop 16 } else it

/-- Release the held items in order (R390). -/
def State.releaseHeld (s : State) (stamp : Nat → Nat) : State :=
  let l := s.hif.held
  l.foldl (fun s it => (s.ringPost (announceItem s stamp it)).1) { s with hif := { s.hif with held := [] } }

/-- Take the descriptor at the index of a host-to-device ring, if the device owns it (R385). -/
def State.takeDesc (s : State) (r : Nat) : State :=
  let i := s.ringIdx r
  let a := s.descAt r i
  let w0 := s.winWord a
  if s.bit (HIF_RING_CFG_RING_EN r) && bitAt w0 31 then
    let w2 := s.winWord (a + 8)
    let d : Desc := { idx := i, tsreq := bitAt w0 29, port := bitsAt w0 24 4, len := w0 % 65536,
                      buf := s.winWord (a + 4) % 2 ^ 20, id := w2 % 65536, sramOfs := w2 % 2 ^ 21 }
    { s with hif := { s.hif with item := tabPut none s.hif.item r (some d), running := tabPut false s.hif.running r true } }
  else { s with hif := { s.hif with item := tabPut none s.hif.item r none, running := tabPut false s.hif.running r false } }

/-- A doorbell for a ring (R385): ignored while `RING_EN` reads 0; a ring already running goes on. -/
def State.doorbell (s : State) (r : Nat) : State :=
  if !s.bit (HIF_RING_CFG_RING_EN r) then s
  else if (tabGet none s.hif.item r).isSome then s
  else s.takeDesc r

/-- The item a host-to-device ring has in progress. -/
def State.itemOf (s : State) (r : Nat) : Option Desc := tabGet none s.hif.item r

/-- The bytes of an item's buffer. -/
def State.itemBytes (s : State) (d : Desc) : List Byte := getBytes s.hif.window (d.buf / 16 * 16) d.len

/-- The lowest non-zero of the statuses a descriptor fails (R383). -/
def firstStatus : List (Bool × Nat) → Nat
  | [] => 0
  | (true, n) :: _ => n
  | (false, _) :: t => firstStatus t

/-- The item's buffer does not lie wholly inside the window. -/
def Desc.badBuf (d : Desc) : Bool := decide (2 ^ 20 < d.buf / 16 * 16 + d.len)

/-- Complete the item in progress with a status, and go on to the next descriptor (R385). -/
def State.completeItem (s : State) (r : Nat) (d : Desc) (status : Nat) : State :=
  let a := s.descAt r d.idx
  let w0 := s.winWord a
  let s := (s.returnDesc r (bitsAt w0 24 6 * 2 ^ 24 % 2 ^ 30 + d.len) (s.winWord (a + 8)) status).obsAdd 78 1
  let s := s.raiseAll ([HIF_RING_STICKY_DONE_S r] ++ (if status = 0 then [] else [HIF_RING_STICKY_ERR_S r]))
  s.takeDesc r

/-- The captured slot falls in the present tick or, across a boundary, in the new one; the record gives the tick the
device counts. -/
def sampleWords (smp cnt seq tick : Nat) (c : SampleAt) : List Nat :=
  let job := c.starve.val == 0
  [1 + 16 * smp + 256 * cnt + 65536 * seq, tick % 2 ^ 32, tick / 2 ^ 32 % 65536,
   c.cycle % 2 ^ 17 + 2 ^ 17 * c.issue.val + 2 ^ 19 * c.skid.val + 2 ^ 24 * c.starve.val,
   (if job then c.jkind.val + 16 * c.cls.val + 64 * ofBool c.subj + 256 * c.tag.val + 65536 * c.target.val else 0), 0, 0, 0]

/-- Sampler `i` captures (R433, R434, R437): nothing unless a wrap is due; no record while OBS is in reset or its
shadow; a disabled ring drops it and reports nothing (R386, log entry 34). -/
def State.samplerCapture (s : State) (i : Nat) (c : SampleAt) : State :=
  if !s.obs.pend.contains i then s
  else
    let s := { s with obs := { s.obs with pend := s.obs.pend.filter (· != i) } }
    if s.blockInShadow 4 then s
    else
      let seq := s.get OBS_SMP_SEQ_SEQ
      let r := s.ringPost ⟨7, 0, wordsBytes (sampleWords i (s.get (OBS_SMP_CFG_CNT i)) seq s.tick c)⟩
      if r.2 then ((r.1.set OBS_SMP_SEQ_SEQ (seq + 1)).obsAdd 87 1).raise OBS_STICKY_SMP_S
      else if !s.bit (HIF_RING_CFG_RING_EN 7) then r.1
      else r.1.raise OBS_STICKY_SMP_DROP_S

/-- A counter snapshot of group `g` (R436): the counters as latched at the last boundary. -/
def State.snapshotWords (s : State) (g : Nat) : List Nat :=
  let ks := (List.range 8).map (fun i => 8 * g + i)
  let bits (f : Nat → Nat → Fld) : Nat := (ks.foldr (fun k n => 2 * n + s.get (f (k / 32) (k % 32))) 0)
  let v := (ks.foldr (fun k n => n * 2 ^ 48 + tabGet 0 s.obs.atB k) 0)
  [2 + 16 * g + 65536 * ((s.tick16 + 65535) % 65536), bits OBS_OVF_OVF + 256 * bits OBS_COLLIDE_COLLIDE]
    ++ (List.range 12).map (fun i => v / 2 ^ (32 * i) % 2 ^ 32) ++ [0, 0]

/-- The snapshot job of a group: its record waits for the commit (R20); a target above 11 writes nothing. -/
def State.snapshotJob (s : State) (g : Nat) : State := if g ≤ 11 then s.emit (116 + g) (.post 7 (s.snapshotWords g)) else s

/-- The export record of a channel (R388): the values committed at the boundary that opened the tick. -/
def State.exportWords (s : State) (c : Nat) : List Nat :=
  [c + 16 + 256 * s.get (LPE_SUBJ_SUBJ c) + 512 * s.get (LPE_STAT_LSTATE c) + 4096 * s.get (SEL_STAT_SSTATE c)
     + 32768 * s.get (LPE_STAT_MISSING c) + 65536 * s.get (LPE_TICK_TICK c),
   s.get (LPE_FW_LO_FW c), s.get (LPE_FW_HI_FW c), s.get (LPE_PH_PH c), s.get (LPE_PERR_LO_PERR c), s.get (LPE_PERR_HI_PERR c),
   s.get (SEL_STAT_CUR c) + 256 * s.get (SEL_STAT_TGT c) + 65536 * s.get (CSK_STAT_GRADE c) + 2 ^ 20 * s.get (SEL_STAT_MEMBERS c), 0,
   s.get (LPE_SUBJ_FW_LO_FWP c), s.get (LPE_SUBJ_FW_HI_FWP c), s.get (LPE_SUBJ_PH_LO_DPH c), s.get (LPE_SUBJ_PH_HI_DPH c),
   s.get (SEL_SUBJ_SUBJ c) + 2 * s.get (SEL_SUBJ_KIND c) + 256 * s.get (SEL_SUBJ_PTGT c)
     + 65536 * s.get (SEL_SUBJ_PMASK c), 0, 0, 0]

/-- The export job of a channel (R387): its record waits for the commit (R20). -/
def State.exportJob (s : State) (c : Nat) : State := s.emit (104 + c) (.post 3 (s.exportWords c))

end Sys2Proof.Machine
end

