-- ==== Sys2Proof/Machine/Jrn.lean ====
section
/-!
DEFINITION. The tense journal: one record for every refused insert and every outcome of a stored entry (R362, R363).
-/
namespace Sys2Proof.Machine
open Sys2Proof

/-- What an entry's record says of the entry and of the instant `v` (2^-48 ns) of its outcome; words 1 and 3 take the
outcome and the tick when it is known. -/
def journalRec (w : List Nat) (index v : Nat) : List Nat :=
  [w.getD 0 0, index, w.getD 6 0 / 65536 + 65536 * (w.getD 7 0 / 65536), w.getD 6 0 % 65536, tsSec v % 2 ^ 32, tsSec v / 2 ^ 32, tsNs v]

/-- Write a journal record with its outcome, and set what the outcome sets in TNS. A record that finds no device-owned
descriptor is dropped (R39); on a disabled ring without a count (R386, log entry 34). A host action has no record. -/
def State.journal (s : State) (rec : List Nat) (outcome : Nat) : State :=
  match rec with
  | [e0, i, o, tag, lo, hi, ns] =>
    let s := if outcome = 0x11 then s.raise TNS_STICKY_TREF_S
      else if 0x12 ≤ outcome then (s.satAdd TNS_CNT_J_SKIPPED 1).raise TNS_STICKY_SKIP_S
      else s
    let r := s.ringPost ⟨6, 0, wordsBytes [e0, outcome + 256 * i, o, tag + 65536 * s.tick16, lo, hi, ns, 0]⟩
    if r.2 || !s.bit (HIF_RING_CFG_RING_EN 6) then r.1 else (r.1.satAdd TNS_CNT_J_JDROP 1).raise TNS_STICKY_JDROP_S
  | _ => s

end Sys2Proof.Machine
end

