-- ==== Sys2Proof/Machine/Sess.lean ====
section
/-!
DEFINITION. Session contexts and session groups as other blocks see them (R298, R307, R311).
-/
namespace Sys2Proof.Machine
open Sys2Proof

/-- A word of a session's context, and a field of one. -/
def State.ctxWord (s : State) (n w : Nat) : Nat := tabGet 0 s.ptp.mem (n * 64 + w)
def State.setCtxWord (s : State) (n w v : Nat) : State := { s with ptp := { s.ptp with mem := tabPut 0 s.ptp.mem (n * 64 + w) (v % 2 ^ 32) } }
def State.ctxFld (s : State) (n w lo len : Nat) : Nat := bitsAt (s.ctxWord n w) lo len
def State.setCtxFld (s : State) (n w lo len v : Nat) : State :=
  let o := s.ctxWord n w
  s.setCtxWord n w (o - bitsAt o lo len * 2 ^ lo + v % 2 ^ len * 2 ^ lo)

def State.sess (s : State) (n : Nat) : Sess := tabGet Sess.idle s.ptp.sess n
def State.setSess (s : State) (n : Nat) (x : Sess) : State := { s with ptp := { s.ptp with sess := tabPut Sess.idle s.ptp.sess n x } }
def State.modSess (s : State) (n : Nat) (f : Sess → Sess) : State := s.setSess n (f (s.sess n))
def State.grp (s : State) (g : Nat) : Grp := tabGet Grp.idle s.ptp.grp g
def State.setGrp (s : State) (g : Nat) (x : Grp) : State := { s with ptp := { s.ptp with grp := tabPut Grp.idle s.ptp.grp g x } }

/-- A configuration field as the engine read it when `VALID` rose. -/
def Sess.fld (x : Sess) (w lo len : Nat) : Nat := bitsAt (x.w.getD w 0) lo len
def Sess.flag (x : Sess) (w lo : Nat) : Bool := x.fld w lo 1 == 1
def Sess.role (x : Sess) : Nat := x.fld 0 1 2
def Sess.profile (x : Sess) : Nat := x.fld 0 3 2
def Sess.port (x : Sess) : Nat := x.fld 0 12 4
def Sess.group (x : Sess) : Nat := x.fld 0 24 5

/-- A grant of the type is held or given at a coarse count (R301). -/
def Sess.granted (x : Sess) (type now : Nat) : Bool := x.grants.any (fun g => g.type == type && decide (now < g.till))

/-- The session's state code (R299), its grandmaster. -/
def State.sstate (s : State) (n : Nat) : Nat := s.ctxFld n 12 0 3
def State.gmId (s : State) (n : Nat) : Nat := s.ctxWord n 18 * 2 ^ 32 + s.ctxWord n 19

def ssnDisabled : Nat := 0
def ssnNegotiating : Nat := 1
def ssnWait : Nat := 2
def ssnRunning : Nat := 3
def ssnLost : Nat := 4

/-- Sessions that are enabled, by number. -/
def State.openSess (s : State) : List Nat := (s.ptp.sess.filter (fun e => e.2.on)).map (·.1)

/-- Members of group `g` that are RUNNING: enabled SLAVEs with `GRP_EN` (R307). -/
def State.grpRunning (s : State) (g : Nat) : List Nat :=
  s.openSess.filter (fun n =>
    let x := s.sess n
    x.role == 0 && x.flag 0 29 && x.group == g && s.sstate n == ssnRunning)

/-- The RUNNING members that share the grandmaster of the lowest-numbered one. -/
def State.contributing (s : State) (g : Nat) : List Nat :=
  match s.grpRunning g with
  | [] => []
  | n :: t => (n :: t).filter (fun m => s.gmId m == s.gmId n)

/-- A port's quad, or ETH, is in reset or reset-shadow. -/
def State.portFrozen (s : State) (p : Nat) : Bool := s.unitInShadow 13 || s.unitInShadow (20 + p / 4)

/-- A session's timers are frozen (R311). -/
def State.sessFrozen (s : State) (n : Nat) : Bool := s.unitInShadow 14 || s.portFrozen (s.sess n).port

/-- Every contributing member's port is in reset or reset-shadow (R311). -/
def State.groupFrozen (s : State) (g : Nat) : Bool :=
  let l := s.contributing g
  decide (l ≠ []) && l.all (fun n => s.portFrozen (s.sess n).port)

end Sys2Proof.Machine
end

