-- ==== Sys2Proof/Machine/Tim.lean ====
section
/-!
DEFINITION. The measurement array: lanes, calibration, records, lane queues and the bank queue (R88 – R106).
-/
namespace Sys2Proof.Machine
open Sys2Proof

/-- What a lane measures, by the code of its `SRC` field: TDL lanes 0–63, vernier lanes 64–79 (R97, R107). -/
def State.laneSrc (s : State) (l : Nat) : Nat :=
  if l < 64 then s.inF (TIM_TDL_CFG_SRC l) else if l < 72 then 0x60 + (l - 64) else s.inF (TIM_VRN_CFG_SRC (l - 64))

/-- The lane has a source, its domain is on, and it is in no reset. A lane the image never assigned reads source 0
with `RPT` 0 and is off. -/
def State.laneOn (s : State) (l : Nat) : Bool :=
  s.applied && !s.laneInRst l && s.domainUp (if l < 32 then 7 else if l < 64 then 8 else 9)
    && (if l < 64 then s.inF (TIM_TDL_CFG_SRC l) != 0xFF && s.inF (TIM_TDL_CFG_RPT l) != 0
        else if l < 72 then true else s.inF (TIM_VRN_CFG_SRC (l - 64)) != 0xFF)

/-- The lane of a source code among TDL lanes and among vernier lanes 8–15. -/
def State.tdlOf (s : State) (src : Nat) : Option Nat := (List.range 64).find? (fun l => s.laneOn l && s.laneSrc l == src)
def State.vrnOf (s : State) (src : Nat) : Option Nat :=
  ((List.range 8).map (· + 72)).find? (fun l => s.laneOn l && s.laneSrc l == src)

/-- The slot a lane's source code names, and the kind of its records (R98, R101). -/
def srcSlot (l src : Nat) : Nat := if 64 ≤ l then (if src < 0x20 then src else 127) else if src < 0x38 then src else 127
def srcKind (l src : Nat) : Nat :=
  if 64 ≤ l then (if src < 0x20 then 1 else if src < 0x60 then 2 else 3)
  else if src < 32 then 0 else if src < 48 then 5 else if src < 56 then 4 else 6
def srcIdx (l src : Nat) : Nat :=
  if 64 ≤ l then (if src < 0x20 then 0 else if src < 0x60 then src - 0x40 else src - 0x60)
  else if 48 ≤ src ∧ src < 56 then src - 48 else if 0x80 ≤ src then src - 0x80 else 0

/-- The unit whose reset-shadow marks records of a source `MASKED` beside the lane's own (R104). -/
def State.srcInShadow (s : State) (l src : Nat) : Bool :=
  if 64 ≤ l then (if src < 0x20 then s.unitInShadow 5 else if src < 0x60 then false else s.unitInShadow 15)
  else if src < 32 then s.unitInShadow 5
  else if src < 48 then s.unitInShadow 5 || s.unitInShadow (20 + (src - 32) / 4) || s.unitInShadow 13
  else if src < 56 then s.unitInShadow 5 || s.unitInShadow 15
  else s.unitInShadow 11

/-! ## Calibration (R94, R95) -/

/-- Nominal gain in 62.5 fs units: 2.2 ps per tap is 35.2, 0.25 ps per step is 4. -/
def gainNom (l : Nat) : Rat := if l < 64 then 176 / 5 else 4

/-- Gain and offset of a calibration, 62.5 fs units. Equal raw results give no gain. -/
def Cal.gain (c : Cal) : Rat := 8000 / (((c.m2 : Int) - (c.m1 : Int) : Int) : Rat)
def Cal.ofs (c : Cal) : Rat := 8000 - c.gain * (c.m1 : Rat)

/-- A signed 8-bit report: ±127. -/
def sat127 (q : Rat) : Int := clampInt (-127) 127 (rndNear q)

/-- `CAL_GERR` and `CAL_OFS` of a calibration (R94); equal raw results span no tap, which saturates the gain and
leaves the offset to a free value `fv` (log entry 9). DESIGN CHOICE: the offset goes to the nearest unit, as R94 rounds
the gain (log entry 55). -/
def Cal.gerr (l : Nat) (c : Cal) : Int := if c.m1 = c.m2 then 127 else sat127 ((c.gain / gainNom l - 1) * 256)
def Cal.cofs (l : Nat) (fv : Nat) (c : Cal) : Int :=
  if c.m1 = c.m2 then signed 8 fv else sat127 ((c.ofs - (Config.laneFactoryOffset l : Rat)) / 8)

/-- The conditions of R95. -/
def State.calFails (s : State) (l : Nat) (c : Cal) (gerr ofs : Int) : Bool :=
  decide ((s.inF TIM_CTL_GERR_LIM : Int) < gerr.natAbs) || decide ((s.inF TIM_CTL_OFS_LIM : Int) < ofs.natAbs)
    || (decide (l < 64) && decide (255 < (c.m2 : Int) - (c.m1 : Int))) || c.m1 == c.m2

/-- A calibration completes: its result, whether it failed, and the last good one (R94, R95). The reports of the
status register are kept beside it. -/
def State.calibrate (s : State) (l : Nat) (c : Cal) : State :=
  let ge := c.gerr l
  let co := c.cofs l s.fresh
  let s := if c.m1 = c.m2 then s.took else s
  let bad := s.calFails l c ge co
  let x := s.laneOf l
  let s := s.setLane l { x with cal := some c, calBad := bad, good := if bad then x.good else some c }
  let s := if l < 64 then (s.setS (TIM_TDL_STAT_GERR l) ge).setS (TIM_TDL_STAT_OFS l) co
    else (s.setS (TIM_VRN_STAT_GERR (l - 64)) ge).setS (TIM_VRN_STAT_OFS (l - 64)) co
  if bad then
    ((s.satAdd (if l < 64 then TIM_TDL_CNT_CALFAILS l else TIM_VRN_CNT_CALFAILS (l - 64)) 1).obsAdd 18 1).raise TIM_STICKY_CALFAIL
  else s

/-- The scaling of a record whose edge comes now: the last calibration that completed before it, or where that one
failed the last good one (R94, R95). -/
def State.scalingNow (s : State) (l : Nat) : Scaling :=
  let x := s.laneOf l
  { cal := if x.calBad then x.good else x.cal, fail := x.calBad,
    gerr := if l < 64 then s.getS (TIM_TDL_STAT_GERR l) else s.getS (TIM_VRN_STAT_GERR (l - 64)),
    ofs := if l < 64 then s.getS (TIM_TDL_STAT_OFS l) else s.getS (TIM_VRN_STAT_OFS (l - 64)) }

/-- A raw result converted, in 62.5 fs units; by the nominal values where no calibration was good (R94, R95). -/
def Scaling.convert (l : Nat) (x : Scaling) (raw : Nat) : Rat :=
  match x.cal with
  | some c => c.gain * (raw : Rat) + c.ofs
  | none => gainNom l * (raw : Rat) + (Config.laneFactoryOffset l : Rat)

/-! ## Sample instants and captures -/

/-- Coarse count of sample instant `k` of a lane that takes `rpt` records per tick (R91). -/
def State.sampleInstant (s : State) (rpt k : Nat) : Nat := s.bound + (k * 2000000000 + s.rate * rpt - 1) / (s.rate * rpt)

/-- A TDL lane reaches sample instant `k`: it calibrates for 8 MCLK periods and arms (R91); a decimating lane keeps
every 2^`DFACT`-th instant (R103). An instant ends the wait of the one before. DESIGN CHOICE: an `RPT` above 8, which
R91 gives no meaning, acts as 8 (log entry 55). -/
def State.sampleAt (s : State) (l k : Nat) (c : Cal) : State :=
  let rpt := min 8 (s.inF (TIM_TDL_CFG_RPT l))
  if !s.laneOn l || decide (rpt ≤ k) then s
  else
    let s := s.calibrate l c
    let x := s.laneOf l
    if x.phase % 2 ^ x.dfact = 0 then
      s.setLane l { x with armed := some ((s.sampleInstant rpt k + 8) * 8000), phase := x.phase + 1 }
    else s.setLane l { x with armed := none, phase := x.phase + 1 }

/-- A conditioned edge at time `t` reaches a TDL lane: it counts, and an armed lane captures it. -/
def State.tdlEdge (s : State) (l t : Nat) : State :=
  let x := s.laneOf l
  let x := { x with edges := x.edges + 1 }
  match x.armed, x.cap with
  | some a, none =>
    if a ≤ t then s.setLane l { x with armed := none, cap := some ⟨t, x.edges, none, false, false, none, s.scalingNow l⟩ } else s.setLane l x
  | _, _ => s.setLane l x

/-- A pulse's leading edge reaches a vernier lane: a busy lane counts it and does not measure it (R93); a decimating
lane keeps every 2^`DFACT`-th (R103). -/
def State.vrnEdge (s : State) (l t : Nat) (win : Bool) : State :=
  let x := s.laneOf l
  let x := { x with edges := x.edges + 1 }
  if x.busy || x.cap.isSome then
    ((s.setLane l x).satAdd (TIM_VRN_SEQ_BUSY_MISS (l - 64)) 1 |>.obsAdd 21 1).raise TIM_STICKY_BUSY_MISS
  else if x.phase % 2 ^ x.dfact = 0 then
    s.setLane l { x with busy := true, phase := x.phase + 1, cap := some ⟨t, x.edges, none, win, false, none, s.scalingNow l⟩ }
  else s.setLane l { x with phase := x.phase + 1 }

/-! ## Records -/

/-- The register fields of a lane's counts. -/
def laneDecimUp (l : Nat) : Fld := if l < 64 then TIM_TDL_CNT_DECIM_UP l else TIM_VRN_CNT_DECIM_UP (l - 64)
def laneDrop (l : Nat) : Fld := if l < 64 then TIM_TDL_SEQ_DROP l else TIM_VRN_SEQ_DROP (l - 64)
def laneSeq (l : Nat) : Fld := if l < 64 then TIM_TDL_SEQ_SEQ l else TIM_VRN_SEQ_SEQ (l - 64)

/-- The lane's record of a capture whose converted time is `time`, in 62.5 fs units. -/
def State.formRecord (s : State) (l : Nat) (c : Capture) (time : Nat) : Rec :=
  let x := s.laneOf l
  let src := s.laneSrc l
  let coarse := time / 8000
  { slot := srcSlot l src, lane := l, kind := srcKind l src, dfact := x.dfact,
    calGerr := c.scaling.gerr,
    seq := s.get (laneSeq l),
    ovf := match x.prev with | some p => decide (2 ^ 48 ≤ coarse - p) | none => false,
    decim := decide (0 < x.dfact), calfail := c.scaling.fail, masked := s.laneInShadow l || s.srcInShadow l src,
    first := x.prev.isNone, win := c.win, pwf := c.pwf,
    calOfs := c.scaling.ofs,
    coarse := coarse % 2 ^ 48, fine := time % 8000, phase := (time : Int), edges := c.edges % 2 ^ 32,
    width := c.width.getD 0, tick := 0, srcidx := srcIdx l src }

/-- Enter a record in its lane queue (R102, R103): a full queue raises `DFACT`, and at `DFACT` 12 drops the record. -/
def State.enterLane (s : State) (l : Nat) (c : Capture) (time : Nat) : State :=
  let x := { s.laneOf l with cap := none }
  if 32 ≤ x.queue.length then
    if x.dfact < 12 then
      (((s.setLane l { x with dfact := x.dfact + 1 }).satAdd (laneDecimUp l) 1).obsAdd 19 1).raise TIM_STICKY_DECIM
    else (((s.setLane l x).satAdd (laneDrop l) 1).obsAdd 20 1).raise TIM_STICKY_LANE_DROP
  else
    let r := s.formRecord l c time
    let s := s.setLane l { x with queue := x.queue ++ [r], edges := x.edges - c.edges, prev := some (time / 8000) }
    let s := s.wrapAdd (laneSeq l) 1
    let s := if r.masked then s.obsAdd 22 1 else s
    if r.ovf then (s.obsAdd 23 1).raise TIM_STICKY_OVF else s

/-- Time less the board delay of the lane's slot (R79), and for a Conjunction Link's slot the hop delay in force (R332),
not before the coarse counter's start. -/
def State.lessDelay (s : State) (l : Nat) (t : Int) : Nat :=
  let n := srcSlot l (s.laneSrc l)
  let hop : Int := if 48 ≤ n ∧ n < 56 then s.getS2 (CJL_HOP_D_LO_HOP_D (n - 48)) (CJL_HOP_D_HI_HOP_D (n - 48)) else 0
  (t - (if n < 56 then signed 32 (s.inF (REF_DLY_DLY n)) else 0) - hop).toNat

/-- A TDL lane forms the record of the edge it captured, 16 MCLK periods after it, from the raw fine value (R90). -/
def State.formTdl (s : State) (l raw : Nat) : State :=
  let x := s.laneOf l
  match x.cap with
  | none => s
  | some c => s.enterLane l c (s.lessDelay l ((c.t / 8000 * 8000 : Nat) + rnd (c.scaling.convert l raw)))

/-- A vernier lane's record is formed once its conversion and, for a pulse slot, its width are both known (R84, R92). -/
def State.formVrn (s : State) (l : Nat) : State :=
  match (s.laneOf l).cap with
  | none => s
  | some c =>
    match c.conv with
    | none => s
    | some t => if srcKind l (s.laneSrc l) = 1 ∧ c.width = none then s else s.enterLane l c t

/-- A conversion ends: S is the MCLK edge `sCoarse`, falling when `fall`, and `n` ring cycles lie between D and S
(R92). -/
def State.vrnConverted (s : State) (l sCoarse : Nat) (fall : Bool) (n : Nat) : State :=
  let x := s.laneOf l
  match x.cap with
  | none => s
  | some c =>
    if c.conv.isSome then s
    else
      let tS : Int := ((sCoarse * 8000 + (if fall then 4000 else 0) : Nat) : Int)
      let t := s.lessDelay l (tS - rnd (c.scaling.convert l n) - 32000)
      (s.setLane l { x with cap := some { c with conv := some t } }).formVrn l

/-- The active width of the pulse whose leading edge came at `lead` is known: `WIDTH` and `PWF` of its own record, if the
lane measured it (R84). -/
def State.vrnWidth (s : State) (l lead width : Nat) (pwf : Bool) : State :=
  let x := s.laneOf l
  match x.cap with
  | some c => if c.t = lead then (s.setLane l { x with cap := some { c with width := some width, pwf := pwf } }).formVrn l else s
  | none => s

/-- A vernier calibration completes; the lane accepts edges again once the conversion before it is done (R93). -/
def State.vrnCalibrated (s : State) (l : Nat) (c : Cal) : State :=
  if !s.laneOn l then s
  else
    let x := s.laneOf l
    let done := match x.cap with | none => true | some k => k.conv.isSome
    if x.busy && !done then s
    else (s.setLane l { x with busy := false }).calibrate l c

/-- The eight words of a record (R98). -/
def Rec.words (r : Rec) : List Nat :=
  let pk := r.kind == 8
  let ph := unsigned 64 r.phase
  [r.slot + 2 ^ 8 * r.lane + 2 ^ 16 * r.kind + 2 ^ 20 * r.dfact + 2 ^ 24 * unsigned 8 r.calGerr,
   r.seq + 2 ^ 16 * ofBool r.ovf + 2 ^ 17 * ofBool r.decim + 2 ^ 18 * ofBool r.calfail + 2 ^ 19 * ofBool r.masked
     + 2 ^ 20 * ofBool r.first + 2 ^ 21 * ofBool r.win + 2 ^ 22 * ofBool r.pwf + 2 ^ 24 * unsigned 8 r.calOfs,
   if pk then ph % 2 ^ 32 else r.coarse % 2 ^ 32,
   if pk then ph / 2 ^ 32 else r.coarse / 2 ^ 32 + 2 ^ 16 * r.fine,
   r.edges, r.width, r.tick + 2 ^ 16 * r.srcidx, 0]

/-- The lane whose turn it is: the first after the one last served, in a circle of 80, that holds a record (R102). -/
def State.laneTurn (s : State) : Option Nat :=
  ((List.range 80).map (fun i => (s.bankTurn + 1 + i) % 80)).find? (fun l => !(s.laneOf l).queue.isEmpty)

/-- A lane's oldest record moves to the bank queue, of 1,024 records, when the lane's turn has come (R39, R102); a
clock-type record takes the frequency-window result in force as it enters (R106). -/
def State.laneToBank (s : State) (l : Nat) : State :=
  let x := s.laneOf l
  match x.queue with
  | [] => s
  | r :: q =>
    if s.laneTurn ≠ some l then s
    else if 1024 ≤ s.bankQ.length then s.raise TIM_STICKY_BANK_FULL
    else
      let r := { r with tick := s.tick16, win := if r.kind = 1 then r.win else if r.slot < 56 then (s.refSlot r.slot).gateBad else false }
      let s := s.setLane l { x with queue := q }
      let s := { s with bankQ := s.bankQ ++ [r], bankTurn := l }
      let s := (s.hwm TIM_QSTAT_HWM s.bankQ.length).obsAdd (if l < 64 then 16 else 17) 1
      s.raiseIf (decide (1024 ≤ s.bankQ.length)) TIM_STICKY_BANK_FULL

/-- A decimating lane whose queue holds 8 records or fewer at a tick boundary takes one step back (R103). -/
def State.decimDown (s : State) : State :=
  (List.range 80).foldl (fun s l =>
    let x := s.laneOf l
    if x.dfact = 0 ∨ 8 < x.queue.length then s else s.setLane l { x with dfact := x.dfact - 1 }) s

/-- Hand a record of a slot to the loop engine: it waits for the slot's qualify job. -/
def State.toSlot (s : State) (r : Rec) : State :=
  if r.slot < 88 then s.noteSlot r.slot (fun q => { q with inbox := q.inbox ++ [r] }) else s

end Sys2Proof.Machine
end

