-- ==== Sys2Proof/Machine/Ref.lean ====
section
/-!
DEFINITION. The reference front end: bank supplies, level detectors, the conditioning chain and its monitors
(R72 – R87).
-/
namespace Sys2Proof.Machine
open Sys2Proof

/-! ## Bank supplies (R74, R443) -/

/-- The class whose band holds a supply in mV (R462): 0 for 1.8 V, 1 for 2.5 V, 2 for 3.3 V, 3 for none. -/
def supplyClass (mv : Nat) : Nat :=
  if 1620 ≤ mv ∧ mv ≤ 1980 then 0 else if 2250 ≤ mv ∧ mv ≤ 2750 then 1 else if 2970 ≤ mv ∧ mv ≤ 3630 then 2 else 3

/-- The latched class of a bank after its supply moved: none once below the lowest band (R74). -/
def classAfter (mv cls : Nat) : Nat := if mv < 1620 then 3 else cls

/-- `PGOOD` of a latched class at a supply. -/
def supplyGood (mv cls : Nat) : Bool := decide (cls ≠ 3) && supplyClass mv == cls

/-- A two-bit part of a packed class field, and the field with it replaced. -/
def classOf (v bank : Nat) : Nat := v / 4 ^ bank % 4
def putClass (v bank c : Nat) : Nat := v - classOf v bank * 4 ^ bank + c % 4 * 4 ^ bank

/-- A mask with bit `i` as given. -/
def putBit (v i : Nat) (b : Bool) : Nat := if b then setBitAt v i else clearBitAt v i

/-- A REFIN bank's supply moves (R74). Supplies are kept under keys 3–6. -/
def State.refSupply (s : State) (bank mv : Nat) : State :=
  let cls := classOf (s.get REF_BANK_STAT_CLASS) bank
  let was := bitAt (s.get REF_BANK_STAT_PGOOD) bank
  let good := supplyGood mv cls
  let s := { s with sys := { s.sys with bankMv := tabPut 0 s.sys.bankMv (3 + bank) mv } }
  let s := s.set REF_BANK_STAT_CLASS (putClass (s.get REF_BANK_STAT_CLASS) bank (classAfter mv cls))
  let s := s.set REF_BANK_STAT_PGOOD (putBit (s.get REF_BANK_STAT_PGOOD) bank good)
  s.raiseIf (was && !good) (REF_BANK_STAT_PFAIL_S bank)

/-- The bank's supply has stayed in a band for 2 ms: a bank whose class reads none takes it (R74). -/
def State.refClassLatch (s : State) (bank : Nat) : State :=
  let cls := classOf (s.get REF_BANK_STAT_CLASS) bank
  let c := supplyClass (tabGet 0 s.sys.bankMv (3 + bank))
  if cls = 3 ∧ c ≠ 3 then
    (s.set REF_BANK_STAT_CLASS (putClass (s.get REF_BANK_STAT_CLASS) bank c)).set REF_BANK_STAT_PGOOD
      (putBit (s.get REF_BANK_STAT_PGOOD) bank true)
  else s

/-! ## The chain -/

/-- The slot is enabled, REF is not in reset, and, for a pin, its bank is good. -/
def State.refLive (s : State) (n : Nat) : Bool :=
  s.inFb (REF_CFG_EN n) && !s.unitInRst 5 && (decide (32 ≤ n) || bitAt (s.get REF_BANK_STAT_PGOOD) (n / 8))

/-- The pin delivers edges: its level passes too (R75). -/
def State.refDelivers (s : State) (n : Nat) : Bool := s.refLive n && (decide (32 ≤ n) || s.bit (REF_STAT_LEVEL_OK n))

/-- The glitch filter's width in 62.5 fs units (R77). -/
def State.glitchWidth (s : State) (n : Nat) : Nat :=
  let gw := s.inF (REF_GLITCH_GW n)
  if gw = 0 then 0
  else if s.inF (REF_GLITCH_GW_UNIT n) = 0 then min 20 gw * 1600
  else min 2000 (Nat.max 4 gw) * 8000

/-- The expected frequency in units of 2^-16 Hz (R80). -/
def State.refFreq (s : State) (n : Nat) : Nat := s.inF (REF_FREQ_LO_FREQ n) + 2 ^ 32 * s.inF (REF_FREQ_HI_FREQ n)

/-- A pulse-type slot (R84). -/
def State.isPulse (s : State) (n : Nat) : Bool := s.inFb (REF_CFG_TYPE n)

/-- The expected period after the pre-divider, in 62.5 fs units; 0 where no frequency is declared. -/
def State.refPeriod (s : State) (n : Nat) : Rat :=
  let f := s.refFreq n
  if f = 0 then 0 else (16000000000000 * 65536 : Rat) / (f : Rat)

/-- Lost activity is held while an unpinned reference's source is not locked (R85, R86). -/
def State.srcLocked (s : State) (n : Nat) : Bool :=
  if n < 32 then true else if n < 48 then s.bit (ETH_STAT_LINK (n - 32)) else s.get (CJL_STAT_KSTATE (n - 48)) == 2

/-- `ACT`: the level passes and activity is not lost, nor held lost by its source. -/
def State.refAct (s : State) (n : Nat) : Bool :=
  (decide (32 ≤ n) || s.bit (REF_STAT_LEVEL_OK n)) && !s.bit (REF_STAT_LOST n) && s.srcLocked n

/-- The period of the activity monitor, in 62.5 fs units, and its edge tolerance τ (R82). -/
def State.monPeriod (s : State) (n : Nat) : Rat :=
  (if s.isPulse n then 1 else ((Nat.max 1 (s.inF (REF_ACT_ACT_DIV n)) : Nat) : Rat)) * s.refPeriod n
def State.edgeTol (s : State) (n : Nat) : Rat :=
  let p := s.monPeriod n
  min (p / 4) (p * (s.inF (REF_WIN_WIN_PPM n) : Rat) / 1000000 + 1600000)

/-- The instant e + k · P + τ at which missing edge k, the next one, is declared (R82). -/
def State.missInstant (s : State) (n : Nat) : Rat :=
  let r := s.refSlot n
  (r.lastMon : Rat) + ((r.missed + 1 : Nat) : Rat) * s.monPeriod n + s.edgeTol n

/-- An instant in 62.5 fs units lies in the present tick, or before it. -/
def State.inTick (s : State) (t : Rat) : Bool := decide (t < ((s.nextBoundary * 8000 : Nat) : Rat))

/-- A window failure (R81). -/
def State.winFail (s : State) (n : Nat) : State :=
  (((s.set (REF_STAT_WIN_OK n) 0).satAdd (REF_CNT_WIN_FAIL n) 1).obsAdd 26 1).raise (REF_STAT_WIN_S n)

/-- A monitored edge ends the run of missing edges (R82); a pulse's interval still counts them (R81). -/
def State.monitored (s : State) (n t : Nat) : State :=
  let r := s.refSlot n
  let s := s.setRef n { r with lastMon := t, missed := if s.isPulse n then r.missed else 0 }
  let s := s.set (REF_STAT_MISSING n) 0
  if s.srcLocked n then s.set (REF_STAT_LOST n) 0 else s

/-- The pulse window check (R81): the interval against k expected periods; the first pulse is not judged. -/
def State.pulseWindow (s : State) (n t : Nat) : State × Bool :=
  let r := s.refSlot n
  let w := s.inF (REF_WIN_WIN_PPM n)
  let s1 := s.setRef n { r with lastPulse := some t, missed := 0 }
  match r.lastPulse with
  | none => (s1, false)
  | some p =>
    if w = 0 then (s1, false)
    else
      let kp := ((r.missed + 1 : Nat) : Rat) * s.refPeriod n
      let d := absRat ((((t : Int) - (p : Int) : Int) : Rat) - kp)
      if d > kp * (w : Rat) / 1000000 + 160000 then (s1.winFail n, true) else (s1.set (REF_STAT_WIN_OK n) 1, false)

/-- An edge out of the pre-divider: gate count, activity monitor, pulse window, and the lane. -/
def State.dividedEdge (s : State) (n t : Nat) : State :=
  let r := s.refSlot n
  if s.isPulse n then
    let s := s.monitored n t
    let w := s.pulseWindow n t
    let s := w.1.setRef n { w.1.refSlot n with lead := some t, pulseWin := w.2 }
    match s.vrnOf n with
    | some l => s.vrnEdge l t w.2
    | none => s
  else
    let d := Nat.max 1 (s.inF (REF_ACT_ACT_DIV n))
    let mon := r.actPh + 1 == d
    let s := s.setRef n { r with gateEdges := r.gateEdges + 1, actPh := if mon then 0 else (r.actPh + 1) % d }
    let s := if mon then s.monitored n t else s
    match s.tdlOf n with
    | some l => s.tdlEdge l t
    | none => s

/-- A leading edge reaches the pre-divider (R78). -/
def State.leadingEdge (s : State) (n t : Nat) : State :=
  let d := Nat.max 1 (s.inF (REF_DIV_DIV n))
  let r := s.refSlot n
  let pass := r.divPh + 1 == d
  let s := s.setRef n { r with divPh := if pass then 0 else (r.divPh + 1) % d }
  if pass then s.dividedEdge n t else s

/-- A pulse's width against its limits (R84), for the pulse whose leading edge came at `lead`: `WIDTH` saturates at the upper
limit plus one. -/
def State.pulseWidth (s : State) (n lead periods : Nat) : State :=
  let hi := s.inF (REF_PW_MAX_PW n)
  let w := min periods (hi + 1)
  let bad := decide (w < s.inF (REF_PW_MIN_PW n)) || decide (hi < w)
  let s := s.setRef n { s.refSlot n with lead := none }
  let s := if bad then
      (((s.set (REF_STAT_PW_OK n) 0).satAdd (REF_CNT_PW_FAIL n) 1).obsAdd 27 1).raise (REF_STAT_PW_S n)
    else s.set (REF_STAT_PW_OK n) 1
  match s.vrnOf n with
  | some l => s.vrnWidth l lead w bad
  | none => s

/-- A reference edge at the ball at time `t` (62.5 fs units), rising or falling, whose phase lasts `hold` as the
glitch filter sees it (R76, R77): a phase too short is removed with the edges that bound it. DESIGN CHOICE: a width
that is no whole number of MCLK periods counts its whole periods (R84, log entry 55). -/
def State.refEdge (s : State) (n t : Nat) (rise : Bool) (hold : Nat) : State :=
  if !s.refDelivers n then s
  else
    let r := s.refSlot n
    if decide (n < 32) && r.skip then s.setRef n { r with skip := false }
    else if n < 32 ∧ hold < s.glitchWidth n then
      (((s.setRef n { r with skip := true }).satAdd (REF_CNT_GLITCHES n) 1).obsAdd 24 1).raise (REF_STAT_GLITCH_S n)
    else
      let leading := if decide (n < 32) && s.inFb (REF_CFG_INV n) then !rise else rise
      if leading then s.leadingEdge n t
      else
        match r.lead with
        | some t0 => if s.isPulse n then s.pulseWidth n t0 ((t - t0) / 8000) else s
        | none => s

/-- A pulse has lasted `REF_PW_MAX_n` + 1 MCLK periods with no trailing edge (R84); nothing where that time does not fall in
the present tick. -/
def State.widthTimeout (s : State) (n : Nat) : State :=
  match (s.refSlot n).lead with
  | some t0 =>
    let w := s.inF (REF_PW_MAX_PW n) + 1
    if s.isPulse n && s.inTick ((t0 + w * 8000 : Nat) : Rat) then s.pulseWidth n t0 w else s
  | none => s

/-- The running image declares the slot. -/
def State.declared (s : State) (n : Nat) : Bool := s.applied && s.cfg.declared.contains n

/-- A lower-level loss report of the time `t` reaches the qualifier (R121). -/
def State.lowerLoss (s : State) (n : Nat) (t : Int) : State :=
  if !s.declared n || s.unitInRst 7 then s
  else ((s.noteSlot n (fun q => { q with lowTick := some s.tick, lowAt := t })).setB (QUL_STAT_LOW_REP n) true).set
    (QUL_STAT_CAUSE_LOW n) (if n < 56 then 1 else 2)

/-- Report the loss of a slot's activity at an instant (R82): `LOST`, its sticky bit, and the report of R36. -/
def State.refLoss (s : State) (n : Nat) (t : Int) : State :=
  if s.bit (REF_STAT_LOST n) then s
  else ((s.set (REF_STAT_LOST n) 1).raise (REF_STAT_LOST_S n)).lowerLoss n t

/-- The source of an unpinned reference is no longer locked (R85, R86): activity is lost, not before the last monitored
edge. -/
def State.srcLoss (s : State) (n : Nat) : State :=
  if s.inFb (REF_CFG_EN n) && !s.unitInRst 5 then s.refLoss n (max ((s.coarse : Int) * 8000) ((s.refSlot n).lastMon : Int)) else s

/-- A slot learns of a declaration of a missing edge (R186, R188). -/
def State.noteMissing (s : State) (n : Nat) (t : Int) : State := s.noteSlot n (fun q => { q with missAt := some t, missNow := true })

/-- A missing edge is declared at its instant (R82), if that falls in the present tick. An edge given before, of the same MCLK
period too, has moved the instant on (R83; log entry 56). -/
def State.missingEdge (s : State) (n : Nat) : State :=
  let d := s.missInstant n
  if !s.inFb (REF_CFG_EN n) || s.unitInRst 5 || decide (s.refPeriod n = 0) || !s.inTick d then s
  else
    let m := min 255 (s.get (REF_STAT_MISSING n) + 1)
    let s := s.setRef n { s.refSlot n with missed := (s.refSlot n).missed + 1 }
    let s := (((s.set (REF_STAT_MISSING n) m).satAdd (REF_CNT_MISSING n) 1).obsAdd 25 1).raise (REF_STAT_MISS_S n)
    let s := s.noteMissing n (rndUp d)
    if m = s.inF (REF_ACT_MISS_TOL n) then s.refLoss n (rndUp d) else s

/-- A clock-type slot's gate of 2^`GATE` ticks ends: its edge count against the declared frequency (R81). -/
def State.windowGate (s : State) (n : Nat) : State :=
  let r := s.refSlot n
  let g := 2 ^ s.inF (REF_WIN_GATE n)
  let w := s.inF (REF_WIN_WIN_PPM n)
  if s.isPulse n || !s.inFb (REF_CFG_EN n) || w == 0 || decide (r.gateTicks < g + 1) then s
  else
    let nExp : Rat := (s.refFreq n : Rat) / 65536 * (g : Rat) / (s.rate : Rat)
    let bad := decide (absRat ((r.gateEdges : Rat) - nExp) > nExp * (w : Rat) / 1000000 + 1)
    let s := s.setRef n { r with gateEdges := 0, gateTicks := 1, gateBad := bad }
    if bad then s.winFail n else s.set (REF_STAT_WIN_OK n) 1

/-- A tick boundary starts a clock-type slot's gate or counts toward it; without a window no gate runs. DESIGN CHOICE: a
gate that failed before `WIN_PPM` was written 0 keeps flagging records until a gate passes (R81, log entry 55). -/
def State.refBoundary (s : State) (n : Nat) : State :=
  let r := s.refSlot n
  if s.isPulse n || !s.inFb (REF_CFG_EN n) || s.unitInRst 5 then s
  else if s.inF (REF_WIN_WIN_PPM n) = 0 then s.setRef n { r with gateTicks := 0, gateEdges := 0 }
  else s.setRef n { r with gateTicks := r.gateTicks + 1, gateEdges := if r.gateTicks = 0 then 0 else r.gateEdges }

/-- The level of an enabled pin input falls below, or passes, its threshold for 1 µs (R75). -/
def State.levelLoss (s : State) (n : Nat) : State :=
  if s.inFb (REF_CFG_EN n) && s.bit (REF_STAT_LEVEL_OK n) then (s.set (REF_STAT_LEVEL_OK n) 0).raise (REF_STAT_LEVEL_S n) else s
def State.levelRestore (s : State) (n : Nat) : State :=
  if s.inFb (REF_CFG_EN n) then s.set (REF_STAT_LEVEL_OK n) 1 else s

/-- A slot is enabled, or REF leaves reset: the dividers and the monitor start afresh (R78, R81, R82); a source that is not
locked holds activity lost (R85, R86). -/
def State.refStart (s : State) (n : Nat) : State :=
  let s := (((s.setRef n { RefSlot.idle with lastMon := s.coarse * 8000 }).set (REF_STAT_WIN_OK n) 1).set (REF_STAT_MISSING n) 0).set (REF_STAT_LOST n) 0
  if s.srcLocked n then s else s.srcLoss n

end Sys2Proof.Machine
end

