-- ==== Sys2Proof/Machine/Qul.lean ====
section
/-!
DEFINITION. The qualifier: monitors, conditions, transitions, and the estimators of the statistics class
(R111 – R133).
-/
namespace Sys2Proof.Machine
open Sys2Proof

/-- The codes of R111. -/
def qAbsent : Nat := 0
def qSteeping : Nat := 1
def qQualified : Nat := 2
def qSuspect : Nat := 3
def qDisq : Nat := 4
def qForced : Nat := 5

/-- The lane the image gives a slot, whatever its state. -/
def State.slotLane (s : State) (n : Nat) : Option Nat :=
  match (List.range 64).find? (fun l => s.inF (TIM_TDL_CFG_SRC l) == n && s.inF (TIM_TDL_CFG_RPT l) != 0) with
  | some l => some l
  | none => ((List.range 8).map (· + 72)).find? (fun l => s.inF (TIM_VRN_CFG_SRC (l - 64)) == n)

/-- The slot is in reset-shadow (R130). -/
def State.slotInShadow (s : State) (n : Nat) : Bool :=
  if 56 ≤ n then s.unitInShadow 14
  else
    s.unitInShadow 5
      || (match s.slotLane n with | some l => s.laneInShadow l | none => s.unitInShadow 6)
      || (if n < 32 then false else if n < 48 then s.unitInShadow 13 || s.unitInShadow (20 + (n - 32) / 4) else s.unitInShadow 15)

/-- The quality rank evaluated for the tick (R122). -/
def State.slotRank (s : State) (n : Nat) : Nat :=
  if n < 32 then s.inF (QUL_FADE_QL_PIN n)
  else if n < 48 then s.get (ETH_STAT_RANK (n - 32))
  else if n < 56 then s.get (CJL_STAT_RANK (n - 48))
  else s.get (PTP_GRP_STAT_RANK (n - 56))

/-- The committed frequency word of a channel, in units of 2^-48, and its indicative phase against the device time
base at an instant, extrapolated from the last boundary (R115, R170). -/
def State.chanFw (s : State) (c : Nat) : Int := s.getS2 (LPE_FW_LO_FW c) (LPE_FW_HI_FW c)
def State.chanPhase (s : State) (c : Nat) (t : Int) : Rat :=
  (((s.ind.chanOf c).x : Int) : Rat) / (2 ^ 48 : Rat)
    + ((s.chanFw c : Int) : Rat) / (2 ^ 48 : Rat) * ((t - (s.bound : Int) * 8000 : Int) : Rat)

/-- A fractional offset measured against the time base, against the base of R115. DESIGN CHOICE: with `BASE` 1 a second's
mean offset is held against the channel's frequency word in force when tick 0 evaluates the second (log entry 55). -/
def State.baseOfs (s : State) (n : Nat) (y : Rat) : Rat :=
  if s.inFb (QUL_CFG_BASE n) then
    (1 + y) / (1 + ((s.chanFw (s.inF (QUL_CFG_CHAN n)) : Int) : Rat) / (2 ^ 48 : Rat)) - 1
  else (1 + y) * (1 + ((s.cfg.oscCal : Int) : Rat) / (2 ^ 48 : Rat)) - 1

/-- A phase point against the base of R115 (R128): a constant offset of the base drops out of the second difference. -/
def State.basePoint (s : State) (n : Nat) (t : Int) (x : Rat) : Rat :=
  if s.inFb (QUL_CFG_BASE n) then x - s.chanPhase (s.inF (QUL_CFG_CHAN n)) t
  else
    let δ : Rat := ((s.cfg.oscCal : Int) : Rat) / (2 ^ 48 : Rat)
    x * (1 + δ) + δ * ((t : Int) : Rat)

/-! ## Records and samples (R114, R120) -/

/-- A confirmed record. -/
def Rec.confirms (r : Rec) : Bool :=
  !r.masked && !(r.win && decide (r.kind ≠ 8)) && !r.pwf && (decide (r.kind ≠ 8) || decide (0 < r.edges))

/-- A record that yields a phase sample. -/
def Rec.samples (r : Rec) : Bool := !r.masked && !r.calfail && !r.win && !r.pwf

/-- The instant of a record in 62.5 fs units: its edge, or for a packet record the present boundary. -/
def State.recTime (s : State) (r : Rec) : Int := if r.kind = 8 then (s.bound : Int) * 8000 else r.phase

/-- The sample of a record: the nominal periods of all edges since the sample before on from it; a broken series starts
anew at its instant modulo the nominal period (R114, R187). -/
def State.sampleOf (s : State) (q : QSlot) (r : Rec) : Samp :=
  let t := s.recTime r
  if r.kind = 8 then ⟨t, ((r.phase : Int) : Rat)⟩
  else
    let p := s.refPeriod r.slot
    match q.last with
    | some a => ⟨t, a.x + ((q.edges + r.edges : Nat) : Rat) * p - ((t - a.t : Int) : Rat)⟩
    | none => ⟨t, if p = 0 then 0 else ((rndDown (((t : Int) : Rat) / p) : Int) : Rat) * p - ((t : Int) : Rat)⟩

/-- The phase points of the boundaries up to an instant are not formed. -/
def QSlot.noPoints (q : QSlot) (t : Int) : QSlot :=
  { q with newPts := q.newPts ++ (q.ptDue.filter (fun tb => decide (tb ≤ t))).map (fun _ => none), ptDue := q.ptDue.filter (fun tb => decide (t < tb)) }

/-- A break of the phase series at an instant (R114): windows, wander and points restart. -/
def QSlot.break (q : QSlot) (t : Int) : QSlot :=
  QSlot.noPoints { q with series := q.series + 1, last := none, before := none, got := [], secSamp := [], secPrev := none, secs := [],
                          winAge := [0, 0, 0, 0], wander := [], fit := none } t

/-- Interpolate the phase points of the second boundaries that lie between two samples. -/
def pointsDue (s : State) (n : Nat) (q : QSlot) (a b : Samp) : QSlot :=
  let now := q.ptDue.filter (fun tb => decide (tb ≤ b.t))
  let f (tb : Int) : Option (Nat × Rat) :=
    if tb < a.t then none
    else
      let x := if b.t = a.t then b.x else a.x + (b.x - a.x) * (((tb - a.t : Int) : Rat) / ((b.t - a.t : Int) : Rat))
      some (q.series, s.basePoint n tb x)
  { q with newPts := q.newPts ++ now.map f, ptDue := q.ptDue.filter (fun tb => decide (b.t < tb)) }

/-- The residual of a sample against the fitted line, in ps (R117). -/
def residual (q : QSlot) (t : Int) (d : Rat) : Rat :=
  match q.fit with
  | some ln => absRat (d - ln.at t) / 16
  | none => 0

/-- What one record does to the monitors of its slot. -/
def State.takeRecord (s : State) (n : Nat) (shadow : Bool) (q : QSlot) (r : Rec) : QSlot :=
  let t := s.recTime r
  let q := if r.masked then { q with gotMasked := true, lastMasked := true } else { q with gotOk := true, lastMasked := false }
  let q := if r.confirms then { q with confirmed := true, lastConf := t, frozen := 0, lossOut := false } else q
  let q := if decide (r.kind ≠ 1) && decide (r.kind ≠ 8) && !shadow && !r.masked then { q with winBad := r.win } else q
  let q := if r.ovf || (r.first && decide (r.kind ≠ 8)) then q.break t else q
  if !r.samples then { q with edges := q.edges + r.edges }
  else
    let p := s.sampleOf q r
    let q := match q.last with
      | some a => pointsDue s n q a p
      | none => q.noPoints p.t
    let d := p.x - s.chanPhase (s.inF (QUL_CFG_CHAN n)) p.t
    let res := residual q p.t d
    let near (f : Fld) : Bool := s.inF f != 0 && decide ((s.inF f : Rat) * 15 / 16 ≤ res)
    { q with last := some p, before := q.last, edges := 0, got := q.got ++ [p], secSamp := p :: q.secSamp, wander := ⟨p.t, d⟩ :: q.wander,
             resid := if q.resid < res then res else q.resid, tickRes := if q.tickRes < res then res else q.tickRes,
             softAge := if near (QUL_WSOFT_LIM n) then 0 else q.softAge, hardAge := if near (QUL_WHARD_LIM n) then 0 else q.hardAge }

/-- Records whose edge lies before the job's edge horizon (R184): vernier and packet records are not held to it. -/
def State.horizon (s : State) (kind target : Nat) : Rat :=
  let ofs := match s.cfg.sched.find? (fun j => j.kind == kind && j.target == target) with | some j => j.offset | none => 0
  (((s.bound : Int) * 8000 - 16000000 : Int) : Rat) + ((ofs * 64000 : Nat) : Rat) / 3

/-- The record is one that a job with this horizon takes. -/
def Rec.before (r : Rec) (hz : Rat) : Bool := decide (64 ≤ r.lane) || decide (((r.phase : Int) : Rat) < hz)

/-! ## Second evaluation (R116, R117) -/

/-- A residual of this tick reaches the slot's soft or hard wander limit (R117, R188). -/
def State.phaseJump (s : State) (n : Nat) : Bool :=
  let r := (s.qslot n).tickRes
  let hit (f : Fld) : Bool := s.inF f != 0 && decide ((s.inF f : Rat) ≤ r)
  hit (QUL_WSOFT_LIM n) || hit (QUL_WHARD_LIM n)

/-- A signed 32-bit saturating report. -/
def sat32 (q : Rat) : Int := clampInt (-(2 ^ 31)) (2 ^ 31 - 1) (rnd q)

/-- The mean of the first `w` seconds, if the window of that length is full. -/
def windowMean (q : QSlot) (i w : Nat) : Option Rat :=
  if w = 0 ∨ q.winAge.getD i 0 ≤ w ∨ q.secs.length < w then none else some (meanRat (q.secs.take w))

/-- The drift of R116 over `dw` seconds, if that window is full, per second. -/
def windowDrift (q : QSlot) (dw : Nat) : Option Rat :=
  let h := dw / 2
  if h = 0 ∨ q.winAge.getD 3 0 ≤ dw ∨ q.secs.length < dw then none
  else some ((meanRat (q.secs.take h) - meanRat ((q.secs.drop h).take h)) / (h : Rat))

/-- Close the second that ended at the boundary `tb` (R116, R119): its mean offset enters the series, unless it held
no unmasked sample. The part of a second in which a window restarted is no whole second of it. -/
def State.closeSecond (s : State) (n : Nat) (tb : Int) (q : QSlot) : QSlot × Bool :=
  let ages (held : Bool) : List Nat := q.winAge.map (fun a => if a = 0 ∨ held then a + 1 else a)
  let old := q.secSamp.filter (fun p => decide (p.t < tb))
  let new := q.secSamp.filter (fun p => decide (tb ≤ p.t))
  match old with
  | [] => ({ q with secSamp := new, secPrev := none, winAge := ages false }, false)
  | b :: _ =>
    let a := match q.secPrev with | some a => a | none => old.getLastD b
    if b.t = a.t then ({ q with secSamp := new, secPrev := some b, winAge := ages false }, false)
    else
      let y := (b.x - a.x) / ((b.t - a.t : Int) : Rat)
      ({ q with secSamp := new, secPrev := some b, secs := (s.baseOfs n y :: q.secs).take 65535,
                winAge := ages true }, true)

/-- The wander fit over the last `WW` seconds (R117); a line needs two samples. -/
def State.refit (s : State) (n : Nat) (tb : Int) (q : QSlot) : QSlot :=
  let w := q.wander.filter (fun p => decide (tb - (s.inF (QUL_TIMES_WW n) : Int) * 16000000000000 ≤ p.t))
  { q with wander := w, fit := if w.length < 2 then none else fitLine tb w, resid := 0 }

/-- The integrator takes the offset of a second (R118), in units of 10^-14 s. -/
def excAdd (e f base : Int) : Int := max 0 (e + ((f.natAbs : Int) - base))

/-- Tick 0 of a second for a slot: reports, windows and the integrator E, once (R116 – R119); 1 ps is 100 units of E. -/
def State.secondEval (s : State) (n : Nat) (q : QSlot) : State × QSlot :=
  if q.secDone || decide (s.tickIndex ≠ 0) then (s, q)
  else
    let tb : Int := (s.bound : Int) * 8000
    let s := s.pset (QUL_WANDER_WANDER n) (clampInt 0 (2 ^ 32 - 1) (rnd q.resid)).toNat
    let c := s.closeSecond n tb q
    let q := { (s.refit n tb c.1) with secDone := true }
    if c.2 then
      let f (i w : Nat) : Int := match windowMean q i w with | some y => sat32 (y * 100000000000000) | none => 0
      let f0 := f 0 (s.inF (QUL_FWIN_W0 n))
      let d : Int := match windowDrift q (s.inF (QUL_FWIN2_DW n)) with | some y => sat32 (y * 1000000000000000) | none => 0
      let s := (((s.psetS (QUL_FOFS0_FOFS n) f0).psetS (QUL_FOFS1_FOFS n) (f 1 (s.inF (QUL_FWIN_W1 n)))).psetS
        (QUL_FOFS2_FOFS n) (f 2 (s.inF (QUL_FWIN2_W2 n)))).psetS (QUL_DRIFT_DRIFT n) d
      let e := if s.inFb (QUL_CFG_INT_EN n) then excAdd q.exc f0 (s.inF (QUL_INT_BASE_INT_BASE n) : Nat) else q.exc
      (s.pset (QUL_EXCESS_EXCESS n) (min (e / 100).toNat (2 ^ 32 - 1)), { q with exc := e })
    else (s, q)

/-! ## Conditions (R113) -/

/-- Raise at the limit, clear below 15/16 of it, else hold; a limit of 0 is off. -/
def hyst (prev : Bool) (vs : List (Nat × Nat)) : Bool :=
  if vs.any (fun v => decide (v.2 ≠ 0) && decide (v.2 ≤ v.1)) then true
  else if vs.all (fun v => v.2 == 0 || decide (16 * v.1 < 15 * v.2)) then false
  else prev

/-- The live conditions of a slot. -/
structure Conds where
  fsoft : Bool
  fhard : Bool
  dsoft : Bool
  dhard : Bool
  wsoft : Bool
  whard : Bool
  excess : Bool
  loss : Bool
  window : Bool
  ql : Bool
  hostDq : Bool
  deriving DecidableEq, Repr

def Conds.soft (c : Conds) : Bool := c.fsoft || c.dsoft || c.wsoft || c.excess
def Conds.hard (c : Conds) : Bool := c.fhard || c.dhard || c.whard || c.loss || c.window || c.ql || c.hostDq
def Conds.none (c : Conds) : Bool := !c.soft && !c.hard

/-- The conditions as the registers show them. -/
def State.condsNow (s : State) (n : Nat) : Conds :=
  { fsoft := s.pbit (QUL_STAT_FSOFT n), fhard := s.pbit (QUL_STAT_FHARD n), dsoft := s.pbit (QUL_STAT_DSOFT n),
    dhard := s.pbit (QUL_STAT_DHARD n), wsoft := s.pbit (QUL_STAT_WSOFT n), whard := s.pbit (QUL_STAT_WHARD n),
    excess := s.pbit (QUL_STAT_EXCESS n), loss := s.pbit (QUL_STAT_LOSS n), window := s.pbit (QUL_STAT_WINDOW n),
    ql := s.pbit (QUL_STAT_QL_BAD n), hostDq := s.bit (QUL_CFG_HOST_DQ n) && !s.inFb (QUL_CFG_FORCE n) }

/-- The offset and drift conditions that some limits raise or clear against the values held (R113, R132); the others
stay. DESIGN CHOICE: a window that is not full reports 0, and that 0 lets a raised condition clear (R116, log entry 55). -/
def State.judgeOffsets (s : State) (n : Nat) (of_ : Fld → Bool) (c : Conds) : Conds :=
  let m (f : Fld) : Nat := (s.pgetS f).natAbs
  let h (old : Bool) (l : List (Fld × Fld)) : Bool :=
    if l.any (fun v => of_ v.2) then hyst old (l.map (fun v => (m v.1, s.inF v.2))) else old
  { c with
    fsoft := h c.fsoft [(QUL_FOFS0_FOFS n, QUL_FSOFT0_LIM n), (QUL_FOFS1_FOFS n, QUL_FSOFT1_LIM n), (QUL_FOFS2_FOFS n, QUL_FSOFT2_LIM n)],
    fhard := h c.fhard [(QUL_FOFS0_FOFS n, QUL_FHARD0_LIM n), (QUL_FOFS1_FOFS n, QUL_FHARD1_LIM n), (QUL_FOFS2_FOFS n, QUL_FHARD2_LIM n)],
    dsoft := h c.dsoft [(QUL_DRIFT_DRIFT n, QUL_DSOFT_LIM n)], dhard := h c.dhard [(QUL_DRIFT_DRIFT n, QUL_DHARD_LIM n)] }

/-- The excess condition (R113, R118): neither raised nor held while the integrator is off. -/
def State.judgeExcess (s : State) (n : Nat) (q : QSlot) (old : Bool) : Bool :=
  let lim : Int := (s.inF (QUL_INT_LIM_INT_LIM n) : Nat)
  if !s.inFb (QUL_CFG_INT_EN n) || decide (lim = 0) then false
  else if lim * 100 ≤ q.exc then true else if q.exc ≤ lim * 50 then false else old

/-- Evaluate the conditions of a slot that is not in reset-shadow: those of a second at tick 0, the others in every tick. -/
def State.evalConds (s : State) (n : Nat) (q : QSlot) : Conds :=
  let tick0 := decide (s.tickIndex = 0)
  let c := s.judgeOffsets n (fun _ => tick0) (s.condsNow n)
  let ww := s.inF (QUL_TIMES_WW n) * s.rate
  let w (prev : Bool) (lim age : Nat) : Bool :=
    if lim = 0 then false else if (lim : Rat) ≤ q.tickRes then true else if ww ≤ age then false else prev
  { c with
    wsoft := w c.wsoft (s.inF (QUL_WSOFT_LIM n)) q.softAge, whard := w c.whard (s.inF (QUL_WHARD_LIM n)) q.hardAge,
    excess := if tick0 then s.judgeExcess n q c.excess else c.excess, loss := q.lossOut, window := q.winBad,
    ql := s.inFb (QUL_CFG_QL_EN n) && decide (s.inF (QUL_CFG_QL_MAX n) < s.pget (QUL_STEEP_QL_RANK n)) }

/-- The first offset window that has reached its soft, or its hard, limit (R125); the last that did where none does now. -/
def State.reachedWin (s : State) (n : Nat) (hard : Bool) (was : Nat) : Nat :=
  let at_ (v lim : Fld) : Bool := s.inF lim != 0 && decide (s.inF lim ≤ (s.pgetS v).natAbs)
  if at_ (QUL_FOFS0_FOFS n) (if hard then QUL_FHARD0_LIM n else QUL_FSOFT0_LIM n) then 0
  else if at_ (QUL_FOFS1_FOFS n) (if hard then QUL_FHARD1_LIM n else QUL_FSOFT1_LIM n) then 1
  else if at_ (QUL_FOFS2_FOFS n) (if hard then QUL_FHARD2_LIM n else QUL_FSOFT2_LIM n) then 2 else was

/-- The first cause of R125, and `CAUSE_W`. -/
def causeOf (q : QSlot) (c : Conds) : Nat × Nat :=
  let win := if c.hard then q.hardWin else q.softWin
  if c.hostDq then (1, 0) else if c.loss then (2, 0) else if c.window then (3, 0) else if c.ql then (4, 0)
  else if (if c.hard then c.fhard else c.fsoft) then (if win < 2 then (5, win) else (6, 0))
  else if (if c.hard then c.dhard else c.dsoft) then (7, 0) else if (if c.hard then c.whard else c.wsoft) then (8, 0)
  else if c.excess then (9, 0) else (0, 0)

/-- Sticky bits of conditions that rise. -/
def condStickies (n : Nat) (a b : Conds) : List Fld :=
  (if b.fsoft && !a.fsoft then [QUL_STICKY_FSOFT_S n] else [])
    ++ (if b.fhard && !a.fhard then [QUL_STICKY_FHARD_S n] else [])
    ++ (if (b.dsoft && !a.dsoft) || (b.dhard && !a.dhard) then [QUL_STICKY_DRIFT_S n] else [])
    ++ (if (b.wsoft && !a.wsoft) || (b.whard && !a.whard) then [QUL_STICKY_WANDER_S n] else [])
    ++ (if b.excess && !a.excess then [QUL_STICKY_EXCESS_S n] else [])
    ++ (if b.ql && !a.ql then [QUL_STICKY_QL_S n] else [])
    ++ (if b.window && !a.window then [QUL_STICKY_WIN_S n] else [])

/-- Write the live conditions to the pending bank. -/
def State.putConds (s : State) (n : Nat) (c : Conds) : State :=
  (((((((((s.psetB (QUL_STAT_FSOFT n) c.fsoft).psetB (QUL_STAT_FHARD n) c.fhard).psetB (QUL_STAT_DSOFT n) c.dsoft).psetB
    (QUL_STAT_DHARD n) c.dhard).psetB (QUL_STAT_WSOFT n) c.wsoft).psetB (QUL_STAT_WHARD n) c.whard).psetB
    (QUL_STAT_LOSS n) c.loss).psetB (QUL_STAT_WINDOW n) c.window).psetB (QUL_STAT_QL_BAD n) c.ql).psetB (QUL_STAT_EXCESS n) c.excess

/-! ## Transitions (R123) -/

/-- Ticks of a time in seconds. -/
def State.secTicks (s : State) (sec : Nat) : Nat := sec * s.rate

/-- Enter a state: the sticky bit, `TRANS` where it differs, and the observation counters (R425). -/
def State.enter (s : State) (n st : Nat) (sticky : Option Fld) : State :=
  let old := s.pget (QUL_STAT_STATE n)
  let es := (match sticky with | some f => [Ev.raise f] | none => [])
    ++ (if st = old then [] else [.count (QUL_CNT_TRANS n) 1, .obs 28 1])
    ++ (if st = qDisq ∧ old ≠ qDisq then [.obs 29 1] else []) ++ (if st = qSuspect ∧ old ≠ qSuspect then [.obs 30 1] else [])
  (s.pset (QUL_STAT_STATE n) st).emitAll (16 + n) es

/-- Set the cause fields on an entry to SUSPECT or DISQUALIFIED. -/
def State.setCause (s : State) (n : Nat) (q : QSlot) (c : Conds) : State :=
  (s.pset (QUL_STAT_CAUSE n) (causeOf q c).1).pset (QUL_STAT_CAUSE_W n) (causeOf q c).2

/-- A timer of R126 as it is loaded: the tick that loads it is counted off at its boundary. -/
def State.loadTimer (s : State) (sec : Nat) : Nat := s.secTicks sec + 1

/-- Enter DISQUALIFIED or SUSPECT. -/
def State.enterDisq (s : State) (n : Nat) (q : QSlot) (c : Conds) : State := (s.setCause n q c).enter n qDisq (some (QUL_STICKY_DQ_S n))
def State.enterSus (s : State) (n : Nat) (q : QSlot) (c : Conds) : State × QSlot :=
  ((s.setCause n q c).enter n qSuspect (some (QUL_STICKY_SUS_S n)), { q with srec := s.loadTimer (s.inF (QUL_TIMES_SREC n)) })

/-- The estimator's registers, cleared at the commit. -/
def adevClear (n : Nat) : List Ev :=
  [.put (QUL_STEEP_ADEV_OK n) 0, .put (QUL_ADEV1S_ADEV n) 0, .put (QUL_ADEV10S_ADEV n) 0, .put (QUL_ADEV100S_ADEV n) 0, .put (QUL_ADEV1KS_ADEV n) 0]

/-- Enter STEEPING: the timer loads, all windows start, E clears (R116, R118, R126), the cause of a past loss clears
(R121); from ABSENT the Allan estimators start from zero (R129). -/
def State.enterSteep (s : State) (n : Nat) (q : QSlot) : State × QSlot :=
  let fresh := s.pget (QUL_STAT_STATE n) == qAbsent
  let s := (s.enter n qSteeping (some (QUL_STICKY_STEEP_S n))).pset (QUL_STAT_CAUSE_LOW n) 0
  let s := if fresh then s.emitAll (16 + n) (adevClear n) else s
  let q := { q with steep := s.loadTimer (s.inF (QUL_CFG_SOAK n)), winAge := [0, 0, 0, 0], wander := [], fit := none, exc := 0 }
  (s.pset (QUL_EXCESS_EXCESS n) 0,
    if fresh then { q with allan := QSlot.idle.allan, pts := [], ptCount := 0, newPts := [], ptDue := [] } else q)

/-- The slot is undeclared: everything clears (R123, first row). -/
def State.undeclared (s : State) (n : Nat) : State :=
  let s := ((s.enter n qAbsent none).emitAll (16 + n) (adevClear n)).setQslot n { QSlot.idle with series := (s.qslot n).series + 1 }
  let s := s.putConds n ⟨false, false, false, false, false, false, false, false, false, false, false⟩
  let s := (((s.pset (QUL_STAT_CAUSE n) 0).pset (QUL_STAT_CAUSE_W n) 0).psetB (QUL_STAT_LOW_REP n) false).pset (QUL_STAT_CAUSE_LOW n) 0
  let s := (((s.pset (QUL_FOFS0_FOFS n) 0).pset (QUL_FOFS1_FOFS n) 0).pset (QUL_FOFS2_FOFS n) 0).pset (QUL_DRIFT_DRIFT n) 0
  ((s.pset (QUL_WANDER_WANDER n) 0).pset (QUL_EXCESS_EXCESS n) 0).pset (QUL_STEEP_STEEP_LEFT n) 0

/-- The transition of R123 for a declared slot; `soft` and `hard` are the conditions of the tick. -/
def State.transit (s : State) (n : Nat) (shadow : Bool) (q : QSlot) (c : Conds) : State × QSlot :=
  let st := s.pget (QUL_STAT_STATE n)
  let force := s.inFb (QUL_CFG_FORCE n)
  if force then
    if st = qForced then (s, q) else (s.enter n qForced (some (QUL_STICKY_FORCE_S n)), q)
  else if st = qForced then
    if !q.confirmed then (s.enter n qAbsent none, q)
    else if c.hard then (s.enterDisq n q c, q)
    else if c.soft then s.enterSus n q c
    else (s.enter n qQualified (some (QUL_STICKY_QUAL_S n)), q)
  else if shadow then
    if c.hostDq && (st == qSteeping || st == qQualified || st == qSuspect) then (s.enterDisq n q c, q) else (s, q)
  else if st = qAbsent then
    if q.confirmed then s.enterSteep n q else (s, q)
  else if st = qSteeping then
    if c.hard then (s.enterDisq n q c, q)
    else if c.soft then
      (if q.softPrev then s else s.emit (16 + n) (.raise (QUL_STICKY_STEEP_S n)), { q with steep := s.loadTimer (s.inF (QUL_CFG_SOAK n)) })
    else if q.steep ≤ 1 then (s.enter n qQualified (some (QUL_STICKY_QUAL_S n)), q)
    else (s, q)
  else if st = qQualified then
    if c.hard then (s.enterDisq n q c, q) else if c.soft then s.enterSus n q c else (s, q)
  else if st = qSuspect then
    if c.hard then (s.enterDisq n q c, q)
    else if c.soft then (s, { q with srec := s.loadTimer (s.inF (QUL_TIMES_SREC n)) })
    else if q.srec ≤ 1 then (s.enter n qQualified (some (QUL_STICKY_QUAL_S n)), q)
    else (s, q)
  else if st = qDisq then
    if c.hard then (s, q) else s.enterSteep n q
  else (s, q)

/-- Masked records of a list. -/
def maskedCount (l : List Rec) : Nat := (l.filter (·.masked)).length

/-- The records before the qualify job's horizon go to the monitors (R184). A confirmed record clears the lower-level
report it follows (R121); masked ones are counted (R130). -/
def State.takeInbox (s : State) (n : Nat) : State :=
  let q := s.qslot n
  let hz := s.horizon 0 n
  let rs := q.inbox.filter (·.before hz)
  let q := { q with inbox := q.inbox.filter (fun r => !r.before hz) }
  let q := rs.foldl (s.takeRecord n (s.slotInShadow n)) q
  let m := maskedCount rs
  let s := if 0 < m then s.emitAll (16 + n) [.count (QUL_CNT_MASKED n) m, .raise (QUL_STICKY_MASK_S n)] else s
  let s := if rs.any Rec.confirms && decide (q.lowAt < q.lastConf) then
      let s := s.psetB (QUL_STAT_LOW_REP n) false
      if s.pget (QUL_STAT_STATE n) = qDisq ∧ s.pget (QUL_STAT_CAUSE n) = 2 then s else s.pset (QUL_STAT_CAUSE_LOW n) 0
    else s
  s.setQslot n q

/-- The qualify job of a slot (R112, R123): records, monitors, conditions, transition; once in a tick. -/
def State.qualifyJob (s : State) (n : Nat) : State :=
  if !s.declared n then
    if s.pget (QUL_STAT_STATE n) = qAbsent ∧ (s.qslot n).inbox = [] then s else s.undeclared n
  else if (s.qslot n).judged then s
  else
    let shadow := s.slotInShadow n
    let s := s.takeInbox n
    let e := s.secondEval n (s.qslot n)
    let s := e.1
    let old := s.condsNow n
    let c := if shadow then old else s.evalConds n e.2
    let q := { e.2 with judged := true, missTick := e.2.missNow, missNow := false,
                        softWin := s.reachedWin n false e.2.softWin, hardWin := s.reachedWin n true e.2.hardWin }
    let s := (s.putConds n c).emitAll (16 + n) (if shadow then [] else (condStickies n old c).map .raise)
    let r := s.transit n shadow q c
    r.1.setQslot n { r.2 with softPrev := c.soft }

/-- STEEP_TIMER_EXPIRY: the timer of a STEEPING slot is in its last tick; the slot's job of the tick finds it out, and makes
the slot QUALIFIED if nothing in the tick speaks against it (R123, R133). -/
def State.steepExpiry (s : State) (n : Nat) : State :=
  if s.pget (QUL_STAT_STATE n) = qSteeping ∧ (s.qslot n).steep ≤ 1 then s.qualifyJob n else s

/-- SREC_EXPIRY: the same for the recovery timer of a SUSPECT slot. -/
def State.srecExpiry (s : State) (n : Nat) : State :=
  if s.pget (QUL_STAT_STATE n) = qSuspect ∧ (s.qslot n).srec ≤ 1 then s.qualifyJob n else s

/-! ## The loss timeout (R120) -/

/-- The report of a slot's lower level that falls in the same tick as a timeout at the boundary that begins the present
one (R37, R408): its source number. -/
def State.lowReport (s : State) (n : Nat) : Option Nat :=
  match (s.qslot n).lowTick with
  | some t => if t = s.tick ∨ t + 1 = s.tick then some (if n < 56 then 0 else 81) else none
  | none => none

/-- `LOSS_TO` has passed at the last tick boundary since the slot's last confirmed record, time in reset-shadow not
counted (R120, R130). -/
def State.lossDue (s : State) (n : Nat) : Bool :=
  let q := s.qslot n
  decide (q.lastConf + q.frozen + (s.inF (QUL_LOSS_TO_LOSS_TO n) : Nat) * 16000000 ≤ (s.bound : Int) * 8000)

/-- The loss timeout of a slot expires (R120, R124): `LOSS` is raised, and a report of the same tick is its cause
(R37, R408). A confirmed record that waits for the slot's job counts (R133). -/
def State.lossTimeout (s : State) (n : Nat) : State :=
  let q := s.qslot n
  if !s.declared n || !q.confirmed || q.lossOut || q.inbox.any Rec.confirms || s.slotInShadow n || !s.lossDue n then s
  else
    let s := (s.noteSlot n (fun q => { q with lossOut := true })).setB (QUL_STAT_LOSS n) true
    let was := s.bit (BLK_FLT_FIRST_V 7)
    let s := s.raise (QUL_STICKY_LOSS_S n)
    match s.lowReport n with
    | some src => if !was && s.get (BLK_FLT_FIRST_SRC 7) == 20 then s.captureCause 7 src else s
    | none => s

/-! ## Statistics jobs -/

/-- The drift and excess integrators of a slot (R118): at tick 0, before the slot's qualify job has run, the second is
evaluated and `EXCESS` judged; that job finds it done, and does it itself where this one has not. -/
def State.driftIntJob (s : State) (n : Nat) : State :=
  if !s.declared n || (s.qslot n).judged || decide (s.tickIndex ≠ 0) then s
  else
    let s := s.takeInbox n
    let e := s.secondEval n (s.qslot n)
    let s := e.1.setQslot n e.2
    if s.slotInShadow n then s
    else
      let old := s.pbit (QUL_STAT_EXCESS n)
      let new := s.judgeExcess n e.2 old
      let s := s.psetB (QUL_STAT_EXCESS n) new
      if new && !old then s.emit (16 + n) (.raise (QUL_STICKY_EXCESS_S n)) else s

/-- The sample of an estimator at spacing `τ` whose newest point is the first of the list, squared and over 2τ², in
seconds² / seconds² (R128). -/
def allanSample (pts : List (Option (Nat × Rat))) (τ : Nat) : Option Rat :=
  match pts[0]?, pts[τ]?, pts[2 * τ]? with
  | some (some (a, x2)), some (some (b, x1)), some (some (c, x0)) =>
    if a = b ∧ b = c then
      let d := (x2 - 2 * x1 + x0) / 16000000000000
      some (d * d / (2 * (τ : Rat) * (τ : Rat)))
    else none
  | _, _, _ => none

/-- The four spacings. -/
def allanTaus : List Nat := [1, 10, 100, 1000]

/-- Take one phase point: where as many seconds as a spacing counts have passed since the first point of the series, or a
multiple of them, a sample of that spacing whose points exist (R128, R129); the last 64 samples count. -/
def takePoint (q : QSlot) (p : Option (Nat × Rat)) : QSlot × Nat :=
  match p with
  | none => (if q.ptCount = 0 then q else { q with pts := (none :: q.pts).take 2001, ptCount := q.ptCount + 1 }, 0)
  | some (a, _) =>
    let same := match q.pts.find? Option.isSome with | some (some (b, _)) => a == b | _ => false
    let i := if same then q.ptCount else 0
    let pts := if same then (p :: q.pts).take 2001 else [p]
    let ss := allanTaus.map (fun τ => if i % τ = 0 then allanSample pts τ else none)
    let al := (q.allan.zip ss).map (fun (a, x) => match x with | some v => ⟨(v :: a.sq).take 64⟩ | none => a)
    ({ q with pts := pts, ptCount := i + 1, allan := al }, (ss.filter Option.isSome).length)

/-- The reported deviation, units of 10^-16, saturating. -/
def adevReport (a : Allan) : Nat :=
  if a.sq.length < 8 then 0
  else min (2 ^ 32 - 1) (isqrt (rndDown (meanRat a.sq * (10 ^ 32 : Nat))).toNat)

/-- The Allan deviation job of a slot (R128, R129). -/
def State.adevJob (s : State) (n : Nat) : State :=
  if !s.declared n then s
  else
    let q := s.qslot n
    let r := q.newPts.foldl (fun (a : QSlot × Nat) p => let x := takePoint a.1 p; (x.1, a.2 + x.2)) (q, 0)
    let q := { r.1 with newPts := [] }
    let s := (s.setQslot n q).obsAdd 31 r.2
    let rep (i : Nat) : Nat := adevReport (q.allan.getD i ⟨[]⟩)
    let ok := (List.range 4).foldl (fun m i => if 8 ≤ (q.allan.getD i ⟨[]⟩).sq.length then setBitAt m i else m) 0
    let was := s.get (QUL_STEEP_ADEV_OK n)
    let s := (((s.set (QUL_ADEV1S_ADEV n) (rep 0)).set (QUL_ADEV10S_ADEV n) (rep 1)).set (QUL_ADEV100S_ADEV n) (rep 2)).set
      (QUL_ADEV1KS_ADEV n) (rep 3)
    (s.set (QUL_STEEP_ADEV_OK n) ok).raiseIf ((List.range 4).any (fun i => bitAt ok i && !bitAt was i)) (QUL_STICKY_ADEV_S n)

/-! ## At a tick boundary -/

/-- What a boundary does to a slot's timers and per-tick flags (R126, R130, R132); `dt` is the length of the tick that ends in
MCLK periods, `sec` that a second begins. -/
def QSlot.boundary (q : QSlot) (shadow sec : Bool) (dt tb : Nat) : QSlot :=
  let wander := q.restart.contains 4
  { q with got := [], gotMasked := false, gotOk := false, tickRes := 0, missTick := false, secDone := false, judged := false, restart := [],
           winAge := (q.winAge.zipIdx).map (fun (a, i) => if q.restart.contains i then 0 else a),
           steep := if shadow then q.steep else q.steep - 1, srec := if shadow then q.srec else q.srec - 1,
           frozen := if shadow then q.frozen + dt * 8000 else q.frozen,
           softAge := q.softAge + 1, hardAge := q.hardAge + 1,
           wander := if wander then [] else q.wander, fit := if wander then none else q.fit,
           ptDue := if sec then q.ptDue ++ [(tb : Int) * 8000] else q.ptDue }

/-- A declared slot at a boundary; its loss timeout is judged there (R120). -/
def State.qulBoundary (s : State) (sec : Bool) (dt n : Nat) : State :=
  if !s.declared n then s
  else
    let shadow := s.slotInShadow n
    let s := s.noteSlot n (fun q => q.boundary shadow sec dt s.bound)
    let left := if s.get (QUL_STAT_STATE n) = qSteeping then ((s.qslot n).steep + s.rate - 1) / s.rate else 0
    (s.set (QUL_STEEP_STEEP_LEFT n) left).lossTimeout n

/-- The rank in force is the one the tick now beginning is evaluated with (R122). -/
def State.rankBoundary (s : State) (n : Nat) : State := if s.declared n then s.set (QUL_STEEP_QL_RANK n) (s.slotRank n) else s

/-- Limits that a boundary brings into force are held against the values held (R132); `old` is what was in force. -/
def State.limitsTaken (s : State) (old : Tab Nat) (n : Nat) : State :=
  let new (f : Fld) : Bool := regGet old f.key != s.inF f
  if !s.declared n || s.slotInShadow n then s
  else
    let c := s.condsNow n
    let d := s.judgeOffsets n new c
    let d := if new (QUL_INT_LIM_INT_LIM n) then { d with excess := s.judgeExcess n (s.qslot n) c.excess } else d
    if d = c then s else (s.inBoth (fun s => s.putConds n d)).raiseAll (condStickies n c d)

/-- A host write of window lengths restarts the windows named at the next boundary (R132). -/
def State.restartWindows (s : State) (n : Nat) (l : List Nat) : State :=
  s.noteSlot n (fun q => { q with restart := q.restart ++ l })

end Sys2Proof.Machine
end

