-- ==== Sys2Proof/Machine/Sel.lean ====
section
/-!
DEFINITION. The selector: candidates, transitions and build-out, the ensemble, host and tense requests
(R137 – R165). Phases are relative to the device time base, in 62.5 fs units.
-/
namespace Sys2Proof.Machine
open Sys2Proof

/-! ## Registers by index -/

/-- List entry `i` of a channel's priority list (R137): its slot, or none. -/
def State.listEntry (s : State) (c i : Nat) : Option Nat :=
  let a := 0x81004 + 0x100 * c + 4 * (i / 4)
  if s.inF ⟨a, 8 * (i % 4) + 7, 1⟩ = 1 then some (s.inF ⟨a, 8 * (i % 4), 7⟩) else none

/-- Member `j`: its slot and bias, or none. A bias that a tense action has set in the job of this tick comes first (R161). -/
def State.memberEntry (s : State) (c j : Nat) : Option (Nat × Nat) :=
  let a := 0x81020 + 0x100 * c + 4 * (j / 2)
  if s.inF ⟨a, 16 * (j % 2) + 7, 1⟩ = 1 then
    some (s.inF ⟨a, 16 * (j % 2), 7⟩,
      (((s.chan c).biases.find? (fun e => e.1 == j)).map (·.2)).getD (s.inF ⟨a, 16 * (j % 2) + 8, 8⟩))
  else none

/-- The `BIAS` field of member `j`. -/
def memBias (c j : Nat) : Fld := ⟨0x81020 + 0x100 * c + 4 * (j / 2), 16 * (j % 2) + 8, 8⟩

/-- The weight, held, in, fade and deviation fields of member `j`. -/
def wtW (c j : Nat) : Fld := ⟨0x81070 + 0x100 * c + 4 * j, 0, 17⟩
def wtHeld (c j : Nat) : Fld := ⟨0x81070 + 0x100 * c + 4 * j, 17, 1⟩
def wtIn (c j : Nat) : Fld := ⟨0x81070 + 0x100 * c + 4 * j, 18, 1⟩
def wtF (c j : Nat) : Fld := ⟨0x81070 + 0x100 * c + 4 * j, 19, 13⟩
def mdD (c j : Nat) : Fld := ⟨0x81090 + 0x100 * c + 4 * j, 0, 32⟩

/-- Selector states (R141). -/
def ssOff : Nat := 0
def ssNoRef : Nat := 1
def ssTracking : Nat := 2
def ssTransition : Nat := 3
def ssCombining : Nat := 4

/-- Slot code 127 means none. -/
def noSlot : Nat := 127

/-- The channel runs: the image enables it. -/
def State.chanEn (s : State) (c : Nat) : Bool := s.applied && s.inFb (SEL_CTL_EN c)

/-- ENSEMBLE mode; the other codes are the single-reference modes. -/
def State.ensemble (s : State) (c : Nat) : Bool := s.inF (SEL_CTL_MODE c) == 2

/-- The field that names a slot: `PRIMARY` in MANUAL_FALLBACK, `OVR_SLOT` in AUTO_PRIORITY (R139). -/
def State.namedFld (s : State) (c : Nat) : Fld := if s.inF (SEL_CTL_MODE c) = 0 then SEL_CTL_PRIMARY c else SEL_CTL_OVR_SLOT c

/-- The named slot: as a tense action in the job of this tick has it (R159), else as the field in force. -/
def State.named (s : State) (c : Nat) : Nat := (s.chan c).names.getD (s.inF (s.namedFld c))

/-! ## Slot states as the selector sees them (R138, R163) -/

/-- A carried slot's entry. -/
def Chan.carriedOf (ch : Chan) (n : Nat) : Option Carried := (ch.carried.find? (fun e => e.1 == n)).map (·.2)

/-- The state of a slot as the selector takes it. A FORCED slot whose loss timeout has run out is lost all the same (R124,
log entry 55). -/
def State.slotState (s : State) (n : Nat) : Nat :=
  let st := s.pget (QUL_STAT_STATE n)
  if st = qForced ∧ s.pbit (QUL_STAT_LOSS n) then qAbsent else st

/-- The state of a slot in a role it already has: a carried slot counts as SUSPECT or QUALIFIED. -/
def State.roleState (s : State) (c n : Nat) : Nat :=
  let st := s.pget (QUL_STAT_STATE n)
  match (s.chan c).carriedOf n with
  | some e =>
    if st = qAbsent ∨ st = qSteeping then (if e.was = qSuspect ∨ (s.condsNow n).soft then qSuspect else qQualified) else s.slotState n
  | none => s.slotState n

/-- QUALIFIED or FORCED; usable. -/
def isGood (st : Nat) : Bool := st == qQualified || st == qForced
def isUsable (st : Nat) : Bool := isGood st || st == qSuspect

/-- QUL is in reset or reset-shadow: the selector holds its ground (R163). -/
def State.qulAway (s : State) : Bool := s.unitInShadow 7

/-! ## Phases -/

/-- A line's slope as the committed word gives it. -/
def fwRat (fw : Int) : Rat := ((fw : Int) : Rat) / (2 ^ 48 : Rat)

/-- The instant of the boundary that started the tick, and of the one that will end it. -/
def State.t0 (s : State) : Int := (s.bound : Int) * 8000
def State.t1 (s : State) : Int := ((s.nextBoundary : Nat) : Int) * 8000

/-- φ_out of a channel at the boundary that starts the tick. -/
def State.phiOut (s : State) (c : Nat) : Rat := (((s.chan c).x : Int) : Rat) / (2 ^ 48 : Rat)

def Chan.useOf (ch : Chan) (n : Nat) : Option SlotUse := tabGet none ch.uses n

/-- The whole periods a channel adds to a slot's samples. -/
def Chan.resolved (ch : Chan) (n : Nat) : Rat := match ch.useOf n with | some u => u.ofs | none => 0

/-- A slot's phase at an instant: its last sample since a break, advanced at the channel's committed frequency. -/
def State.slotPhase (s : State) (c n : Nat) (t : Int) : Option Rat :=
  match (s.qslot n).last with
  | none => none
  | some p => some (p.x + (s.chan c).resolved n + fwRat (s.chanFw c) * ((t - p.t : Int) : Rat))

/-- A slot's last resolved sample, whatever has broken since, advanced to an instant; the estimate where there is none. -/
def State.lastPhase (s : State) (c n : Nat) (t : Int) : Option Rat :=
  match s.slotPhase c n t with
  | some x => some x
  | none => (((s.chan c).useOf n).bind (·.last)).map (fun p => p.x + fwRat (s.chanFw c) * ((t - p.t : Int) : Rat))

/-- The last estimate formed, advanced to an instant. -/
def State.lastEstAt (s : State) (c : Nat) (t : Int) : Rat :=
  (s.chan c).lastEst + fwRat (s.chanFw c) * ((t - (s.chan c).lastAt : Int) : Rat)

/-- The value of a source side at an instant (R145). -/
def State.sideAt (s : State) (c : Nat) (sd : Side) (t : Int) : Rat :=
  match sd with
  | .slot n o => match s.lastPhase c n t with | some x => x - o | none => s.lastEstAt c t
  | .hold th x fw => x + fwRat fw * ((t - th : Int) : Rat)

/-- The estimate of the tick, for the boundary that started it. -/
def State.putEst (s : State) (c : Nat) (e : Option Rat) : State :=
  s.modChan c (fun ch => match e with | some v => { ch with est := e, lastEst := v, lastAt := s.t0 } | none => { ch with est := none })

/-! ## Candidates (R139, R140) -/

/-- A candidate: slot, whether it is the named one, rank, list index. -/
structure Cand where
  slot  : Nat
  named : Bool
  rank  : Nat
  idx   : Nat
  deriving DecidableEq, Repr

/-- `a` comes before `b` in the order of R139. -/
def Cand.before (a b : Cand) : Bool :=
  if a.named != b.named then a.named
  else if a.rank ≠ b.rank then decide (a.rank < b.rank) else decide (a.idx < b.idx)

/-- The rank that enters the order: only in AUTO_PRIORITY with `QL_FIRST`. -/
def State.orderRank (s : State) (c n : Nat) : Nat :=
  if s.inF (SEL_CTL_MODE c) = 1 ∧ s.inFb (SEL_CTL_QL_FIRST c) then s.pget (QUL_STEEP_QL_RANK n) else 0

/-- Position of a slot in the channel's order; a slot that is not listed comes last. -/
def State.candOf (s : State) (c n : Nat) : Cand :=
  ⟨n, s.named c == n, s.orderRank c n, ((List.range 16).find? (fun i => s.listEntry c i == some n)).getD 16⟩

/-- The slots of a channel's list entries. -/
def State.entries (s : State) (c : Nat) : List Nat := (List.range 16).filterMap (s.listEntry c)

/-- The slots a channel lists, and its named slot. -/
def State.listed (s : State) (c : Nat) : List Nat :=
  let l := s.entries c
  let n := s.named c
  (if n = noSlot ∨ l.contains n then l else n :: l).filter (fun n => decide (n < 88))

/-- Insert by order. -/
def candInsert (a : Cand) : List Cand → List Cand
  | [] => [a]
  | b :: t => if a.before b then a :: b :: t else b :: candInsert a t

/-- A slot can be fitted: it has a phase sample since its last break (R143). -/
def State.hasSample (s : State) (n : Nat) : Bool := (s.qslot n).last.isSome

/-- The candidates in order. SUSPECT slots other than the named one count only where no other candidate is QUALIFIED
or FORCED (R138); a carried slot is no new candidate (R163). -/
def State.candidates (s : State) (c : Nat) : List Cand :=
  let l := (s.listed c).filter s.hasSample
  let st (n : Nat) : Nat := s.slotState n
  let good := l.filter (fun n => isGood (st n))
  let ok (n : Nat) : Bool := isGood (st n) || (st n == qSuspect && (good.isEmpty || s.named c == n))
  ((l.filter ok).map (s.candOf c)).foldl (fun acc a => candInsert a acc) []

/-- The first candidate outside a list of slots. -/
def State.firstCand (s : State) (c : Nat) (not : List Nat) : Option Nat :=
  ((s.candidates c).find? (fun a => !not.contains a.slot)).map (·.slot)

/-- The slot a switch goes to (R139, R140): the first candidate outside a list of slots, or a carried prepared target
that comes before it (R163). -/
def State.nextTarget (s : State) (c : Nat) (not : List Nat) : Option Nat :=
  let f := s.firstCand c not
  match (s.chan c).prep with
  | none => f
  | some p =>
    if p.kind = 1 && ((s.chan c).carriedOf p.tgt).isSome && isUsable (s.roleState c p.tgt) && (s.listed c).contains p.tgt
        && s.hasSample p.tgt && !not.contains p.tgt then
      (match f with
       | none => some p.tgt
       | some n => if (s.candOf c p.tgt).before (s.candOf c n) then some p.tgt else some n)
    else f

/-! ## Uses of slots: resolution and deviations (R143, R187) -/

/-- Every slot whose series the channel follows: listed and named slots, tracked slot, target, members. -/
def State.followed (s : State) (c : Nat) : List Nat :=
  let ms := (List.range 8).filterMap (fun j => (s.memberEntry c j).map (·.1))
  let l := s.listed c ++ ms ++ [s.pget (SEL_STAT_CUR c), s.pget (SEL_STAT_TGT c)]
  l.foldl (fun acc n => if acc.contains n ∨ 88 ≤ n then acc else acc ++ [n]) []

/-- A role's offset of a slot in the channel, where it holds one (R187). -/
def State.roleOfs (s : State) (c n : Nat) : Option Rat :=
  let ch := s.chan c
  if s.pget (SEL_STAT_CUR c) = n then some ch.curOfs
  else if s.pget (SEL_STAT_TGT c) = n then some ch.tgtOfs
  else match ch.prep with
    | some p => if p.kind = 1 ∧ p.tgt = n then some p.ofs else (ch.members.find? (fun m => m.slot == n && m.inn)).map (·.ofs)
    | none => (ch.members.find? (fun m => m.slot == n && m.inn)).map (·.ofs)

/-- The whole number of periods that brings a value nearest to zero, as an offset. -/
def nearestPeriods (v p : Rat) : Rat := if p = 0 then 0 else -(((rndNear (v / p) : Int) : Rat) * p)

/-- Follow the series of a slot: at the first sample after a break a slot in a role is resolved against φ_out, and any
other starts its deviations anew. -/
def State.followSlot (s : State) (c n : Nat) : State :=
  let q := s.qslot n
  let put (u : SlotUse) : State := s.modChan c (fun ch => { ch with uses := tabPut none ch.uses n (some u) })
  match q.last with
  | none => s
  | some p =>
    match (s.chan c).useOf n with
    | none => put ⟨q.series, 0, false, [], some p⟩
    | some u =>
      if u.series = q.series then put { u with last := some ⟨p.t, p.x + u.ofs⟩ }
      else
        let o : Rat := match s.roleOfs c n with
          | some ofs => if n < 56 then nearestPeriods (p.x - ofs - (s.phiOut c + fwRat (s.chanFw c) * ((p.t - s.t0 : Int) : Rat))) (s.refPeriod n) else 0
          | none => 0
        put ⟨q.series, o, (s.roleOfs c n).isSome, [], some ⟨p.t, p.x + o⟩⟩

/-- At the first sample of a series that a channel uses, the whole periods that bring it nearest to φ_out (R187); the
deviations gathered so far go with it. -/
def State.useSlot (s : State) (c n : Nat) : State :=
  match (s.qslot n).last, (s.chan c).useOf n with
  | some p, some u =>
    if u.used || decide (56 ≤ n) then s
    else
      let o := nearestPeriods (p.x + u.ofs - (s.phiOut c + fwRat (s.chanFw c) * ((p.t - s.t0 : Int) : Rat))) (s.refPeriod n)
      let u : SlotUse := { u with ofs := u.ofs + o, used := true, last := some ⟨p.t, p.x + u.ofs + o⟩,
                                    devs := u.devs.map (fun d => { d with x := d.x + o }) }
      s.modChan c (fun ch => { ch with uses := tabPut none ch.uses n (some u) })
  | _, _ => s

/-- The estimate at an instant, from its value at the boundary that started the tick; φ_out where there is none. -/
def State.estAt (s : State) (c : Nat) (t : Int) : Rat :=
  let ch := s.chan c
  (match ch.est with | some e => e | none => s.phiOut c) + fwRat (s.chanFw c) * ((t - s.t0 : Int) : Rat)

/-- Take the tick's samples of a slot into its deviations; those older than `W0` seconds go (R143). A channel with no
indicative phase yet has no estimate to hold them against. -/
def State.takeDevs (s : State) (c n : Nat) : State :=
  let ch := s.chan c
  match ch.useOf n with
  | none => s
  | some u =>
    if !s.bit (LPE_STAT_HAS_PHASE c) then s.setChan c { ch with uses := tabPut none ch.uses n (some { u with devs := [] }) }
    else
    let new := ((s.qslot n).got.map (fun p => (⟨p.t, p.x + u.ofs - s.estAt c p.t⟩ : Samp))).reverse
    let lim := s.t0 - (s.inF (QUL_FWIN_W0 n) : Int) * 16000000000000
    s.setChan c { ch with uses := tabPut none ch.uses n (some { u with devs := (new ++ u.devs).filter (fun p => decide (lim ≤ p.t)) }) }

/-- The build-out fit of a slot at an instant (R143): its contribution against the estimate, and Δf. -/
def State.buildOut (s : State) (c n : Nat) (t : Int) : Option (Rat × Rat) :=
  match (s.chan c).useOf n with
  | none => none
  | some u =>
    match fitLine t u.devs with
    | some ln => some (ln.a, ln.b)
    | none =>
      match s.slotPhase c n t with
      | some x => some (x - s.estAt c t, 0)
      | none => none

/-! ## Transitions -/

/-- `XLEN` (R144); `FSLOPE` in 10^-12 per second. -/
def State.xlen (s : State) (c : Nat) (df : Rat) : Nat :=
  let fs := s.inF (SEL_FSLOPE_FSLOPE c)
  let t := if fs = 0 then 0 else (rndUp (absRat df * (s.rate : Rat) * (10 ^ 12 : Nat) / (fs : Rat))).toNat
  min (2 ^ 24 - 1) (Nat.max (s.inF (SEL_XFER_XFER c)) t)

/-- An offset in a pair of registers. -/
def State.psetOfs (s : State) (lo hi : Fld) (o : Rat) : State := s.psetS2 lo hi (rnd o)

/-- The subjunctive view of R32, R140, R155. -/
def State.showPrep (s : State) (c : Nat) (p : Option Prep) : State :=
  let s := s.modChan c (fun ch => { ch with prep := p })
  match p with
  | none => (((s.pset (SEL_SUBJ_SUBJ c) 0).pset (SEL_SUBJ_KIND c) 0).pset (SEL_SUBJ_PTGT c) noSlot).pset (SEL_SUBJ_PMASK c) 0
      |>.psetOfs (SEL_SUBJ_LO_SOFS c) (SEL_SUBJ_HI_SOFS c) 0
  | some p => (((s.pset (SEL_SUBJ_SUBJ c) 1).pset (SEL_SUBJ_KIND c) p.kind).pset (SEL_SUBJ_PTGT c) p.tgt).pset (SEL_SUBJ_PMASK c) p.pmask
      |>.psetOfs (SEL_SUBJ_LO_SOFS c) (SEL_SUBJ_HI_SOFS c) p.ofs

/-- Begin a transition to a slot (R142, R143): `due` 0 for a tracked source side, 1 for a hold from φ_out, 2 for a hold
from the blend. Nothing begins where the slot cannot be fitted. -/
def State.beginTransition (s : State) (c n : Nat) (side : Side) (due : Nat) (redirect : Bool) : State :=
  let s := s.useSlot c n
  match s.buildOut c n s.t1 with
  | none => s
  | some (a, df) =>
    let raw := if due = 1 then a + s.estAt c s.t1 else a
    let ch := s.chan c
    let s := (s.setChan c { ch with tgtOfs := raw, side := side, sideDue := due, asked := false }).showPrep c none
    let s := ((s.pset (SEL_STAT_SSTATE c) ssTransition).pset (SEL_STAT_TGT c) n).pset (SEL_PROG_K c) 0
    let s := ((s.pset (SEL_XLEN_XLEN c) (s.xlen c df)).psetS (SEL_DF_DF c) (sat32 (df * 100000000000000))).psetB (SEL_STAT_ABSORBING c) false
    s.emitAll c ([.raise (SEL_STICKY_SW_S c), .count (SEL_TICK_SWITCHES c) 1, .obs 32 1]
      ++ (if redirect then [.raise (SEL_STICKY_RED_S c), .count (SEL_CNT_REDIRECTS c) 1, .obs 33 1] else []))

/-- Track a slot with an offset. -/
def State.track (s : State) (c n : Nat) (o : Rat) : State :=
  let s := s.modChan c (fun ch => { ch with curOfs := o, tgtOfs := 0, sideDue := 0 })
  let s := ((s.pset (SEL_STAT_SSTATE c) ssTracking).pset (SEL_STAT_CUR c) n).pset (SEL_STAT_TGT c) noSlot
  let s := s.psetOfs (SEL_BO_LO_OFS c) (SEL_BO_HI_OFS c) o
  if s.named c = n then s.psetB (SEL_STAT_REQ_PEND c) false else s

/-- A member out of the combination: what it weighs is kept (R150). -/
def Member.out (m : Member) : Member := { m with ofs := 0, f := 0, fading := false, inn := false, d := 0, held := false, w := 0 }

/-- Write the members' registers. -/
def State.showMembers (s : State) (c : Nat) (ms : List Member) : State :=
  let s := s.modChan c (fun ch => { ch with members := ms })
  let s := ms.zipIdx.foldl (fun s (m, j) =>
    ((((s.pset (wtW c j) m.w).psetB (wtHeld c j) m.held).psetB (wtIn c j) m.inn).pset (wtF c j) (rndDown (m.f * 4096)).toNat).psetS
      (mdD c j) (sat32 m.d)) s
  s.pset (SEL_STAT_MEMBERS c) (ms.filter (fun m => decide (0 < m.w))).length

/-- Enter NO_REF (R142). -/
def State.enterNoRef (s : State) (c : Nat) : State :=
  let s := (s.showPrep c none).showMembers c ((s.chan c).members.map Member.out)
  let s := ((s.pset (SEL_STAT_SSTATE c) ssNoRef).pset (SEL_STAT_CUR c) noSlot).pset (SEL_STAT_TGT c) noSlot
  (s.psetB (SEL_STAT_ABSORBING c) false).emitAll c [.raise (SEL_STICKY_NOREF_S c), .obs 35 1]

/-- A transition completes (R142, R146). -/
def State.complete (s : State) (c : Nat) : State :=
  let ch := s.chan c
  let s := s.track c (s.pget (SEL_STAT_TGT c)) ch.tgtOfs
  let s := if s.inFb (SEL_CTL_BO_MODE c) && decide (ch.tgtOfs ≠ 0) then s.psetB (SEL_STAT_ABSORBING c) true else s
  s.emit c (.raise (SEL_STICKY_DONE_S c))

/-- TRANSITION_COMPLETE: a transition whose `K` has reached `XLEN`. -/
def State.transitionComplete (s : State) (c : Nat) : State :=
  if s.pget (SEL_STAT_SSTATE c) = ssTransition ∧ s.pget (SEL_XLEN_XLEN c) ≤ s.pget (SEL_PROG_K c) then s.complete c else s

/-- One tick of absorption of an offset at `PSLOPE` ps per second (R146). -/
def State.absorbStep (s : State) (c : Nat) (o : Rat) : Rat :=
  let step : Rat := (s.inF (SEL_PSLOPE_PSLOPE c) : Rat) * 16 / (s.rate : Rat)
  if absRat o ≤ step then 0 else if o > 0 then o - step else o + step

/-- ABSORB_COMPLETE: the offset has reached 0. -/
def State.absorbComplete (s : State) (c : Nat) : State :=
  let ch := s.chan c
  let o := if s.pget (SEL_STAT_SSTATE c) = ssCombining then ch.ebo else ch.curOfs
  if s.pbit (SEL_STAT_ABSORBING c) && decide (o = 0) then s.psetB (SEL_STAT_ABSORBING c) false else s

/-- Absorption in the selection job. -/
def State.absorb (s : State) (c : Nat) : State :=
  if !s.pbit (SEL_STAT_ABSORBING c) then s
  else
    let ch := s.chan c
    let s := if s.pget (SEL_STAT_SSTATE c) = ssCombining then
        let e := s.absorbStep c ch.ebo
        (s.setChan c { ch with ebo := e }).psetOfs (SEL_EBO_LO_OFS c) (SEL_EBO_HI_OFS c) e
      else
        let o := s.absorbStep c ch.curOfs
        (s.setChan c { ch with curOfs := o }).psetOfs (SEL_BO_LO_OFS c) (SEL_BO_HI_OFS c) o
    s.absorbComplete c

/-- Form the prepared target (R140). -/
def State.prepare (s : State) (c : Nat) (not : List Nat) : State :=
  match s.nextTarget c not with
  | none => s.showPrep c none
  | some n =>
    let s := s.useSlot c n
    match s.buildOut c n s.t1 with
    | none => s.showPrep c none
    | some (o, df) => s.showPrep c (some ⟨1, n, o, df, 0⟩)

/-- The first candidate that a request or a revertive return prefers to a slot (R142, R147). A request counts until it is
served, one that names the tracked slot in the job that follows it. -/
def State.preferred (s : State) (c n : Nat) : Option Nat :=
  let named := s.named c
  let cs := s.candidates c
  if (s.pbit (SEL_STAT_REQ_PEND c) || (s.chan c).asked) && decide (named ≠ n) && cs.any (fun a => a.slot == named) then some named
  else if s.inFb (SEL_CTL_REVERT c) then
    (cs.find? (fun a => decide (a.slot ≠ n) && isGood (s.slotState a.slot) && a.before (s.candOf c n))).map (·.slot)
  else none

/-- NO_REF in a single-reference mode. -/
def State.selNoRef (s : State) (c : Nat) : State :=
  match s.firstCand c [] with
  | none => s
  | some n =>
    if s.pbit (LPE_STAT_HAS_PHASE c) then s.beginTransition c n (.hold 0 0 0) 1 false
    else ((s.useSlot c n).track c n 0).emit c (.raise (SEL_STICKY_SW_S c))

/-- The estimate in TRACKING (R141). -/
def State.trackEstimate (s : State) (c : Nat) : State :=
  let s := s.absorb c
  s.putEst c ((s.slotPhase c (s.pget (SEL_STAT_CUR c)) s.t0).map (· - (s.chan c).curOfs))

/-- TRACKING (R142): what the slot's state, the list and the requests call for. -/
def State.selTracking (s : State) (c : Nat) : State :=
  let n := s.pget (SEL_STAT_CUR c)
  let here : Side := .slot n (s.chan c).curOfs
  if s.qulAway then s
  else if !isUsable (s.roleState c n) then
    match s.nextTarget c [n] with
    | some t => s.beginTransition c t (.hold 0 0 0) 1 false
    | none => s.enterNoRef c
  else if (s.chan c).cut.contains n then
    match s.nextTarget c [n] with
    | some t => s.beginTransition c t here 0 false
    | none => s.enterNoRef c
  else
    match s.preferred c n with
    | some t => s.beginTransition c t here 0 false
    | none => s

/-- The blend of R145, one tick on. -/
def State.blendEstimate (s : State) (c : Nat) : State :=
  let xl := s.pget (SEL_XLEN_XLEN c)
  let k := min xl (s.pget (SEL_PROG_K c) + 1)
  let ch := s.chan c
  let xT : Rat := match s.lastPhase c (s.pget (SEL_STAT_TGT c)) s.t0 with | some x => x - ch.tgtOfs | none => s.lastEstAt c s.t0
  let w : Rat := if xl = 0 then 1 else (k : Rat) / (xl : Rat)
  (s.putEst c (some ((1 - w) * s.sideAt c ch.side s.t0 + w * xT))).pset (SEL_PROG_K c) k

/-- A source-side slot that becomes unusable leaves a hold from the source side (R142). -/
def State.keepSide (s : State) (c : Nat) : State :=
  match (s.chan c).side with
  | .slot n o =>
    if isUsable (s.roleState c n) then s
    else s.modChan c (fun ch => { ch with side := .hold s.t1 (s.sideAt c (.slot n o) s.t1) (s.chanFw c), sideDue := 2 })
  | .hold _ _ _ => s

/-- TRANSITION (R142, R147). A transition under way completes through a QUL shadow, but nothing is switched there (R163). -/
def State.selTransition (s : State) (c : Nat) : State :=
  let tgt := s.pget (SEL_STAT_TGT c)
  let done := decide (s.pget (SEL_XLEN_XLEN c) ≤ s.pget (SEL_PROG_K c))
  if s.qulAway then (if done then s.complete c else s)
  else
    let tgtOk := isUsable (s.roleState c tgt) && !(s.chan c).cut.contains tgt
    match (if tgtOk then s.preferred c tgt else s.nextTarget c [tgt]) with
    | some t => s.beginTransition c t (.hold s.t1 (s.estAt c s.t1) (s.chanFw c)) 2 true
    | none => if !tgtOk then s.enterNoRef c else if done then s.complete c else s.keepSide c

/-! ## The ensemble -/

/-- A blank member of a slot. -/
def Member.new (slot : Nat) : Member := ⟨slot, none, 0, 0, 0, 0, 0, false, false, 0, false, 0⟩

/-- The Allan deviation that weighs a member (R149), units of 10^-16. -/
def State.sigmaOf (s : State) (c n : Nat) : Nat :=
  let k := s.inF (SEL_CTL_WTAU c)
  if bitAt (s.get (QUL_STEEP_ADEV_OK n)) k then s.get ⟨0x7106C + 0x80 * n + 4 * k, 0, 32⟩
  else s.inF ⟨0x81030 + 0x100 * c + 4 * k, 0, 32⟩

/-- The raw weight b ÷ σ² in units of (10^-16)^-2; a σ of 0 leaves it to a free value `fv` (log entry 9). -/
def State.rawWeight (s : State) (c n bias fv : Nat) : Rat :=
  let σ := s.sigmaOf c n
  if σ = 0 then (fv : Rat) else (bias : Rat) / 16 / ((σ : Rat) * (σ : Rat))

/-- Recompute a member's raw weight at tick 0 or after a bias change, and where none has been formed yet, and move ρ
(R149, R150). -/
def State.weighMember (s : State) (c j : Nat) (m : Member) : Member :=
  match s.memberEntry c j with
  | none => m
  | some (n, b) =>
    let again := decide (s.tickIndex = 0) || decide (m.bias ≠ some b)
    let m := if again then { m with bias := some b, rhoTo := s.rawWeight c n b s.fresh, rhoT := s.rate } else m
    if m.rhoT = 0 then m else { m with rho := m.rho + (m.rhoTo - m.rho) / (m.rhoT : Rat), rhoT := m.rhoT - 1 }

/-- The members as the registers list them; index by index. A member whose entry has changed is replaced; one in the
combination is first lost (R155). -/
def State.memberList (s : State) (c : Nat) : List Member :=
  let ms := (s.chan c).members
  (List.range 8).map (fun j =>
    match s.memberEntry c j with
    | some (n, _) => (match ms[j]? with | some m => (if m.slot = n ∨ m.inn then m else Member.new n) | none => Member.new n)
    | none => (match ms[j]? with | some m => m | none => Member.new noSlot))

/-- The raw weights of an ensemble in every tick, in the combination or out of it (R149, R150). -/
def State.weigh (s : State) (c : Nat) : State :=
  let ms := (s.memberList c).zipIdx.map (fun (m, j) => s.weighMember c j m)
  let s := s.modChan c (fun ch => { ch with members := ms })
  if s.tickIndex = 0 then s.took else s

/-- The member stays: its register entry is still its slot, and the slot is usable in its role. -/
def State.memberOk (s : State) (c j : Nat) (m : Member) : Bool :=
  (match s.memberEntry c j with | some (n, _) => n == m.slot | none => false) && isUsable (s.roleState c m.slot)

/-- What a fade factor moves by in a tick (R151). -/
def State.fadeUnit (s : State) (n : Nat) : Rat := 1 / ((Nat.max 1 (s.inF (QUL_FADE_FADE n)) * s.rate : Nat) : Rat)

/-- A member's fade was due to reach 0 in this tick: it was SUSPECT at the last commit, one step from 0 (R165). -/
def State.fadesOut (s : State) (c : Nat) (m : Member) : Bool :=
  ({ s with pend := s.ind } : State).roleState c m.slot == qSuspect && decide (m.f ≤ s.fadeUnit m.slot)

/-- Fade factor of a member after a tick (R151). -/
def State.fadeStep (s : State) (c : Nat) (m : Member) : Rat :=
  let st := s.roleState c m.slot
  let step := s.fadeUnit m.slot
  if !m.inn then m.f
  else if st = qSuspect then (if m.f ≤ step then 0 else m.f - step)
  else if isGood st then (if 1 ≤ m.f + step then 1 else m.f + step) else m.f

/-- Normalised weights in 2^-16 (R152): rounded down, the rest to the largest, the lowest index among equals. -/
def normalise (gs : List Rat) : List Nat :=
  let tot := sumRat gs
  if tot ≤ 0 then gs.map (fun _ => 0)
  else
    let ws := gs.map (fun g => (rndDown (g / tot * 65536)).toNat)
    let top := ws.foldl Nat.max 0
    let rest := 65536 - ws.foldl (· + ·) 0
    match ws.findIdx? (· == top) with
    | some i => ws.zipIdx.map (fun (w, k) => if k = i then w + rest else w)
    | none => ws

/-- The weight a member brings: fᵢρᵢ in the combination. -/
def Member.g (m : Member) : Rat := if m.inn then m.f * m.rho else 0

/-- Σ W x over a list of pairs, weights in 2^-16. -/
def wsum (l : List (Nat × Rat)) : Rat := sumRat (l.map (fun p => (p.1 : Rat) / 65536 * p.2))

/-- The compensation of R155 for the members leaving, with the weights and deviations of the last estimate. -/
def compensation (ms : List (Member × Bool)) : Rat :=
  let gone := ms.filter (fun p => p.2)
  let stay := ms.filter (fun p => !p.2)
  let wk : Nat := (gone.map (fun p => p.1.w)).foldl (· + ·) 0
  if wk = 0 then 0
  else if wk < 65536 then wsum (gone.map (fun p => (p.1.w, p.1.d))) / (1 - (wk : Rat) / 65536)
  else
    let back := wsum ((normalise (stay.map (fun p => p.1.g))).zip (stay.map (fun p => p.1.d)))
    0 - back

/-- The entry offset of a member (R143, R153): its contribution equals the estimate at the entry boundary. -/
def State.entryOfs (s : State) (c n : Nat) : Option Rat := (s.buildOut c n s.t1).map (·.1)

/-- Entry from NO_REF (R153): every QUALIFIED or FORCED member with a sample enters with f = 1 and ρ = r; e restarts
at 0; with no phase yet the lowest index defines the estimate. DESIGN CHOICE: where every raw weight is 0 the channel stays
in NO_REF, as R156 would return it there (log entry 55). -/
def State.combineEnter (s : State) (c : Nat) : State :=
  let can (j : Nat) (m : Member) : Bool :=
    (s.memberEntry c j).isSome && isGood (s.slotState m.slot) && s.hasSample m.slot
  let ms := (s.chan c).members
  match (ms.zipIdx).find? (fun (m, j) => can j m) with
  | none => s
  | some (first, _) =>
    let s := ms.zipIdx.foldl (fun s (m, j) => if can j m then s.useSlot c m.slot else s) s
    let hasPh := s.pbit (LPE_STAT_HAS_PHASE c)
    let x0 := (s.slotPhase c first.slot s.t1).getD 0
    let ms := ms.zipIdx.map (fun (m, j) =>
      if can j m then
        let o : Rat := if hasPh then (s.entryOfs c m.slot).getD 0 else (s.slotPhase c m.slot s.t1).getD 0 - x0
        { m with inn := true, f := 1, fading := false, rho := m.rhoTo, rhoT := 0, ofs := o, d := 0, held := false }
      else m)
    let ws := normalise (ms.map Member.g)
    if ws.all (· == 0) then s
    else
      let s := s.modChan c (fun ch => { ch with ebo := 0 })
      let s := (s.pset (SEL_STAT_SSTATE c) ssCombining).psetOfs (SEL_EBO_LO_OFS c) (SEL_EBO_HI_OFS c) 0
      s.showMembers c ((ms.zip ws).map (fun (m, w) => { m with w := w }))

/-- The estimate of R152 and the deviations, with held members keeping theirs (R154); none where every weighted member is
held, when the others deviate from the last estimate, advanced (log entry 55). -/
def State.combine (s : State) (c : Nat) (ms : List Member) (ebo : Rat) : Option Rat × List Member :=
  let x (m : Member) : Option Rat := if (s.qslot m.slot).got = [] then none else (s.slotPhase c m.slot s.t0).map (· - m.ofs)
  let live := ms.filter (fun m => m.inn && (x m).isSome)
  let dead := ms.filter (fun m => m.inn && (x m).isNone)
  let wl : Nat := (live.map (·.w)).foldl (· + ·) 0
  let num := wsum (live.map (fun m => (m.w, (x m).getD 0))) + wsum (dead.map (fun m => (m.w, m.d)))
  let mean := if wl = 0 then s.lastEstAt c s.t0 - ebo else num / ((wl : Rat) / 65536)
  (if wl = 0 then none else some (mean + ebo), ms.map (fun m =>
    match x m with
    | some v => if m.inn then { m with d := v - mean, held := false } else { m with held := false }
    | none => { m with held := m.inn }))

/-- Members with weight that are SUSPECT or no longer good, and the preview of their loss (R31, R155). -/
def State.reweightPreview (s : State) (c : Nat) (ms : List Member) : Option Prep :=
  let bad := ms.map (fun m => m.inn && decide (0 < m.w) && !isGood (s.roleState c m.slot))
  if bad.all (!·) then none
  else
    let mask := (bad.zipIdx).foldl (fun a (b, j) => if b then setBitAt a j else a) 0
    some ⟨2, noSlot, compensation (ms.zip bad), 0, mask⟩

/-- The members after those that `gone` marks have left: what each weighs stays with the entry (R150). -/
def State.dropMembers (s : State) (c : Nat) (ms : List (Member × Bool)) : List Member :=
  ms.zipIdx.map (fun ((m, g), j) =>
    if g then (match s.memberEntry c j with | some (n, _) => (if n = m.slot then m.out else Member.new n) | none => Member.new noSlot)
    else m)

/-- Members that are lost with weight, and the compensation (R155): made only where weight remains. One whose fade was due
to end in this tick is no loss (R165). -/
def State.loseMembers (s : State) (c : Nat) (gone : List Bool) : State :=
  let ms := ((s.chan c).members.zip gone).filter (fun p => !(p.2 && s.fadesOut c p.1))
  let lost := (ms.filter (fun p => p.2 && decide (0 < p.1.w))).length
  let stay := sumRat ((ms.filter (fun p => !p.2)).map (fun p => p.1.g))
  let all := s.dropMembers c ((s.chan c).members.zip gone)
  let s := s.modChan c (fun ch => { ch with members := all })
  if lost = 0 then s
  else
    let s := s.emit c (.raise (SEL_STICKY_LOSS_S c))
    if stay ≤ 0 then s
    else
      let ebo := (s.chan c).ebo + compensation ms
      let s := s.emitAll c [.count (SEL_CNT_LOSSES c) lost, .obs 34 lost]
      let s := (s.modChan c (fun ch => { ch with ebo := ebo })).psetOfs (SEL_EBO_LO_OFS c) (SEL_EBO_HI_OFS c) ebo
      if s.inFb (SEL_CTL_BO_MODE c) && decide (ebo ≠ 0) then s.psetB (SEL_STAT_ABSORBING c) true else s

/-- A tick of the fades (R151): a fade-out that begins is reported. -/
def State.fadeMembers (s : State) (c : Nat) : State :=
  let ms := (s.chan c).members
  let out (m : Member) : Bool := m.inn && s.roleState c m.slot == qSuspect && (m.fading || decide (0 < m.f))
  let s := if ms.any (fun m => out m && !m.fading) then s.emit c (.raise (SEL_STICKY_FADE_S c)) else s
  s.modChan c (fun ch => { ch with members := ms.map (fun m => { m with f := s.fadeStep c m, fading := out m }) })

/-- COMBINING (R151 – R156): losses, fades, weights, and the estimate; NO_REF where no weight is left. In a QUL shadow no
member is removed and no fade steps (R163). -/
def State.ensembleEstimate (s : State) (c : Nat) : State :=
  let s := s.absorb c
  let away := s.qulAway
  let gone := (s.chan c).members.zipIdx.map (fun (m, j) => !away && m.inn && !s.memberOk c j m)
  let s := s.loseMembers c gone
  let left := sumRat ((s.chan c).members.map Member.g)
  let s := if away || (gone.any id && decide (left ≤ 0)) then s else s.fadeMembers c
  let ws := normalise ((s.chan c).members.map Member.g)
  let ms := ((s.chan c).members.zip ws).map (fun (m, w) => { m with w := w })
  if ws.all (· == 0) then (s.putEst c none).enterNoRef c
  else
    let r := s.combine c ms (s.chan c).ebo
    (s.putEst c r.1).modChan c (fun ch => { ch with members := r.2 })

/-- Members enter a combination (R153) at fade factor 0 with the estimate's phase, so that they deviate by e. -/
def State.ensembleEntries (s : State) (c : Nat) : State :=
  let away := s.qulAway
  let ms := (s.chan c).members
  let enters (j : Nat) (m : Member) : Bool :=
    !away && !m.inn && (s.memberEntry c j).isSome && isGood (s.slotState m.slot) && s.hasSample m.slot
  let s := ms.zipIdx.foldl (fun s (m, j) => if enters j m then s.useSlot c m.slot else s) s
  let e := (s.chan c).ebo
  let ms := ms.zipIdx.map (fun (m, j) =>
    if enters j m then
      (match s.entryOfs c m.slot with
       | some o => { m with inn := true, f := 0, fading := false, ofs := o, d := e, held := false, w := 0 }
       | none => m)
    else m)
  (s.showMembers c ms).showPrep c (s.reweightPreview c ms)

/-- FADE_COMPLETE: a member's fade factor has reached 0, and its weight with it (R151, R152). -/
def State.fadeComplete (s : State) (c j : Nat) : State :=
  match (s.chan c).members[j]? with
  | some m =>
    if m.inn ∧ s.roleState c m.slot = qSuspect ∧ m.f = 0 then
      s.showMembers c ((s.chan c).members.zipIdx.map (fun (m, k) => if k = j then { m with w := 0 } else m))
    else s
  | none => s

/-! ## The selection job -/

/-- The slot has a role in the channel: tracked, target, source side, prepared target or member. -/
def State.hasRole (s : State) (c n : Nat) : Bool :=
  let ch := s.chan c
  s.pget (SEL_STAT_CUR c) == n || s.pget (SEL_STAT_TGT c) == n
    || (match ch.prep with | some p => p.kind == 1 && p.tgt == n | none => false)
    || (match ch.side with | .slot k _ => s.pget (SEL_STAT_SSTATE c) == ssTransition && k == n | .hold _ _ _ => false)
    || ch.members.any (fun m => m.inn && m.slot == n)

/-- A carried slot one tick on (R163): it stays so while ABSENT, for its `LOSS_TO` from the end of the shadow, then through
one STEEPING. -/
def State.carryStep (s : State) (n : Nat) (e : Carried) : Option Carried :=
  let st := s.pget (QUL_STAT_STATE n)
  if st = qSteeping then some { e with steeped := true }
  else if st = qAbsent ∧ !e.steeped then
    let since := e.since.getD s.tick
    if (s.tick - since) * 1000000 < s.inF (QUL_LOSS_TO_LOSS_TO n) * s.rate then some { e with since := some since } else none
  else none

/-- The carried slots of a channel move on once the shadow has ended. -/
def State.dropCarried (s : State) (c : Nat) : State :=
  if s.qulAway then s
  else s.modChan c (fun ch => { ch with carried := ch.carried.filterMap (fun e => (s.carryStep e.1 e.2).map (fun k => (e.1, k))) })

/-- A slot that has left its roles is no longer carried; `CARRY` and `CARRY_S` show the rest. -/
def State.carryShow (s : State) (c : Nat) : State :=
  if s.qulAway then s
  else
    let l := (s.chan c).carried.filter (fun e => s.hasRole c e.1)
    let s := if !l.isEmpty && !s.pbit (SEL_STAT_CARRY c) then s.emit c (.raise (SEL_STICKY_CARRY_S c)) else s
    (s.modChan c (fun ch => { ch with carried := l })).psetB (SEL_STAT_CARRY c) (!l.isEmpty)

/-- Apply a tense reference switch or weight change (R159, R161); the answer is false where it is refused. The field is
written with the commit. -/
def State.applyTense (s : State) (c : Nat) (r : TnsReq) : State × Bool :=
  if r.weight then
    match s.memberEntry c r.arg with
    | some _ =>
      ((s.modChan c (fun ch => { ch with biases := (r.arg, r.bias % 256) :: ch.biases })).emit c (.put (memBias c r.arg) r.bias), true)
    | none => (s.emit c (.raise (SEL_STICKY_TNS_REF_S c)), false)
  else if s.ensemble c || !s.chanEn c || !isUsable (s.roleState c r.arg) then (s.emit c (.raise (SEL_STICKY_TNS_REF_S c)), false)
  else
    let s := (s.modChan c (fun ch => { ch with names := some r.arg, asked := true })).emit c (.put (s.namedFld c) r.arg)
    (s.psetB (SEL_STAT_REQ_PEND c) (decide (s.pget (SEL_STAT_CUR c) ≠ r.arg)), true)

/-- The channel is not enabled: OFF, with its offsets, weights and deviations cleared (R142). -/
def State.selOff (s : State) (c : Nat) : State :=
  let s := s.modChan c (fun ch => { ch with est := none, lastEst := 0, lastAt := 0, curOfs := 0, tgtOfs := 0, side := .hold 0 0 0, sideDue := 0,
                                            ebo := 0, members := [], uses := [], carried := [], reqDue := false, asked := false, cut := [] })
  let s := (s.showMembers c ((List.range 8).map (fun _ => Member.new noSlot))).showPrep c none
  let s := (s.psetOfs (SEL_BO_LO_OFS c) (SEL_BO_HI_OFS c) 0).psetOfs (SEL_EBO_LO_OFS c) (SEL_EBO_HI_OFS c) 0
  let s := (((s.pset (SEL_STAT_CUR c) noSlot).pset (SEL_STAT_TGT c) noSlot).pset (SEL_PROG_K c) 0).pset (SEL_XLEN_XLEN c) 0
  (((s.pset (SEL_STAT_SSTATE c) ssOff).psetB (SEL_STAT_REQ_PEND c) false).psetB (SEL_STAT_ABSORBING c) false).psetB (SEL_STAT_CARRY c) false

/-- The same for an enabled channel that a SEL reset or a mode change returns to NO_REF (R62, R164). -/
def State.selRestart (s : State) (c : Nat) : State := (s.selOff c).pset (SEL_STAT_SSTATE c) (if s.chanEn c then ssNoRef else ssOff)

/-- A tense action is refused for a reset of SEL (R159): `TNS_REF_S` is set when the reset has ended. -/
def Chan.refuse (ch : Chan) : Chan := { ch with refused := true }

/-- The tense requests of earlier ticks are applied or refused, in firing order (R158, R355). -/
def State.takeTense (s : State) (c : Nat) : State :=
  let l := (s.chan c).tns
  let s := s.modChan c (fun ch => { ch with tns := l.filter (fun r => decide (s.tick ≤ r.tick)) })
  (l.filter (fun r => decide (r.tick < s.tick))).foldl (fun s r =>
    let a := if s.unitInRst 8 then (s.modChan c Chan.refuse, false)
      else if s.unitInShadow 8 then (s.emit c (.raise (SEL_STICKY_TNS_REF_S c)), false) else s.applyTense c r
    a.1.emit c (.journal r.record (if a.2 then 0x10 else 0x11))) s

/-- The estimate a selector state calls for (R141). -/
def State.estimate (s : State) (c : Nat) : State :=
  let st := s.pget (SEL_STAT_SSTATE c)
  if st = ssTracking then s.trackEstimate c
  else if st = ssTransition then s.blendEstimate c
  else if st = ssCombining then s.ensembleEstimate c
  else s.putEst c none

/-- The move of R142 from the state `st`; a COMBINING channel that has just lost its estimate has made its move. -/
def State.selMove (s : State) (c st : Nat) : State :=
  if st = ssTracking then s.selTracking c
  else if st = ssTransition then s.selTransition c
  else if st = ssCombining then (if s.pget (SEL_STAT_SSTATE c) = ssCombining then s.ensembleEntries c else s)
  else if s.qulAway then s
  else if s.ensemble c then s.combineEnter c else s.selNoRef c

/-- What the job prepares for the state it leaves (R140), and the end of what only this job answers. -/
def State.selPrepare (s : State) (c : Nat) : State :=
  if s.qulAway then s
  else
    let s := s.modChan c (fun ch => { ch with asked := false, cut := [] })
    let st := s.pget (SEL_STAT_SSTATE c)
    if st = ssTracking ∨ st = ssTransition then s.prepare c [s.pget (SEL_STAT_CUR c), s.pget (SEL_STAT_TGT c)] else s

/-- The selection of a tick: the series are followed, the estimate formed, the fits fed with it, and the move made (R142).
A channel forced into holdover is handed no estimate (R405). -/
def State.selectTick (s : State) (c : Nat) : State :=
  let st := s.pget (SEL_STAT_SSTATE c)
  let l := s.followed c
  let s := (l.foldl (fun s n => s.followSlot c n) s).dropCarried c
  let s := if s.ensemble c then s.weigh c else s
  let s := if s.forcedHo c then s.putEst c none else s.estimate c
  let s := l.foldl (fun s n => s.takeDevs c n) s
  let s := if s.forcedHo c then (if st = ssNoRef then s else s.enterNoRef c) else (s.selMove c st).selPrepare c
  s.carryShow c

/-- The selection job of a channel (R142). -/
def State.selectJob (s : State) (c : Nat) : State :=
  let s := s.takeTense c
  if !s.chanEn c then (if s.pget (SEL_STAT_SSTATE c) = ssOff then s else s.selOff c)
  else if s.pget (SEL_STAT_SSTATE c) = ssOff then s.pset (SEL_STAT_SSTATE c) ssNoRef
  else if s.unitInShadow 8 then s.putEst c none
  else s.selectTick c

/-! ## Host writes -/

/-- A write of `PRIMARY` or `OVR_SLOT`: the request is judged at the boundary that brings the field into force
(R158, R160). Both banks take the mark. -/
def State.requestNamed (s : State) (c : Nat) : State :=
  let mark (b : Bank) : Bank := b.setChan c { b.chanOf c with reqDue := true }
  { s with ind := mark s.ind, pend := mark s.pend }

/-- A tense request fires: it waits for the selection job of the next tick, in both banks. -/
def State.askTense (s : State) (c : Nat) (r : TnsReq) : State :=
  let put (b : Bank) : Bank := b.setChan c { b.chanOf c with tns := (b.chanOf c).tns ++ [r] }
  { s with ind := put s.ind, pend := put s.pend }

/-- A tense action whose firing edge falls in a reset or reset-shadow of SEL is refused: `TNS_REF_S` is set now, or when the
reset ends (R159). -/
def State.refuseTense (s : State) (c : Nat) : State :=
  if s.unitInRst 8 then s.inBoth (fun s => s.modChan c Chan.refuse) else s.raise (SEL_STICKY_TNS_REF_S c)

/-- The end of a reset of SEL reports what was refused in it (R159). -/
def State.selRelease (s : State) (c : Nat) : State :=
  let r := (s.chan c).refused
  (s.inBoth (fun s => s.modChan c (fun ch => { ch with refused := false }))).raiseIf r (SEL_STICKY_TNS_REF_S c)

/-- Tracked slot and target of a channel that a list no longer holds are to be left (R62, R162). -/
def State.cutSlots (s : State) (c : Nat) (off : Nat → Bool) : State :=
  let l := [s.pget (SEL_STAT_CUR c), s.pget (SEL_STAT_TGT c)].filter (fun n => decide (n < 88) && off n)
  if l = [] then s else s.modChan c (fun ch => { ch with cut := ch.cut ++ l })

/-- At a tick boundary: what a tense action named is in its field; a named-slot request becomes pending, or goes where the slot
is tracked or none is named (R160). -/
def State.selBoundary (s : State) (c : Nat) : State :=
  let ch := s.chan c
  let n := s.inF (s.namedFld c)
  if !ch.reqDue then (if ch.names.isNone && ch.biases.isEmpty then s else s.setChan c { ch with names := none, biases := [] })
  else
    let s := s.setChan c { ch with reqDue := false, asked := decide (n ≠ noSlot), names := none, biases := [] }
    s.psetB (SEL_STAT_REQ_PEND c) (decide (n ≠ noSlot) && decide (s.pget (SEL_STAT_CUR c) ≠ n))

end Sys2Proof.Machine
end

