-- ==== Sys2Proof/Machine/Csk.lean ====
section
/-!
DEFINITION. The cask: history rings, temperature, the oscillator model, grades and the prediction (R201 – R226).
Frequencies are in units of 2^-48, temperatures in 1/128 °C.
-/
namespace Sys2Proof.Machine
open Sys2Proof

def State.caskOf (s : State) (c : Nat) : Cask := tabGet Cask.idle s.cask c
def State.setCask (s : State) (c : Nat) (k : Cask) : State := { s with cask := tabPut Cask.idle s.cask c k }
def State.modCask (s : State) (c : Nat) (f : Cask → Cask) : State := s.setCask c (f (s.caskOf c))

/-- Cask time: `MCLK` periods of the device time base from power-on (R210), at present and at the boundary that began the tick. -/
def State.cskTime (s : State) : Nat := s.csk.base + s.coarse
def State.cskTick (s : State) : Nat := s.csk.base + s.bound

/-- A second of cask time, and the whole seconds in a cask time. -/
def cskUnit : Nat := 2000000000
def cskSecOf (t : Nat) : Nat := t / cskUnit % 2 ^ 32

/-- `CSK_SEC`: seconds of the device time base from power-on (R210). -/
def State.cskSec (s : State) : Nat := cskSecOf s.cskTime

/-- The second of the primary scale the present tick lies in. -/
def State.primarySec (s : State) : Nat := (s.target - s.period) / secUnit

/-! ## Temperature (R206 – R208) -/

/-- The on-die reading of tick 0, 1/128 °C, and the temperature in use as reported. -/
def State.tDie (s : State) : Int := s.getS CSK_TEMP_T_DIE
def State.tUseRaw (s : State) : Int := s.getS CSK_TUSE_T_USE

/-- The raw temperature (R208). -/
def State.rawTemp (s : State) : Rat :=
  if s.bit CSK_TUSE_SRC then ((s.csk.ext.getD 0 : Int) : Rat)
  else if s.bit CSK_TUSE_FALLBACK && s.bit CSK_TUSE_TOFS_OK then ((s.tDie : Int) : Rat) + s.csk.tofs
  else ((s.tDie : Int) : Rat)

/-- The lag of one second toward the raw temperature, once in a second (R208). -/
def State.lagTemp (s : State) : State :=
  if s.csk.lagged then s
  else
    let τ := s.inF CSK_SNS_LIM_TLAG
    let raw := s.rawTemp
    let t := if τ = 0 ∨ !s.csk.tRun then raw else s.csk.tUse + (raw - s.csk.tUse) / (τ : Rat)
    ({ s with csk := { s.csk with tUse := t, tRun := true, lagged := true } }).setS CSK_TUSE_T_USE (clampInt (-32768) 32767 (rnd t))

/-- The read transaction of the external sensor goes out (R206). -/
def State.sensorAsk (s : State) : State :=
  s.emitWire (.sensor (s.inF CSK_SNS_CFG_ADDR) (s.inF CSK_SNS_CFG_PTR) (s.inFb CSK_SNS_CFG_SPEED))

/-- The sensor master reads at tick 0 (R206): the on-die sensor, and the first attempt at an external one. Until a reading has
been accepted `SNS_TO` counts from the first such attempt (R207, log entry 56). -/
def State.sensorRead (s : State) : State :=
  if s.unitInRst 10 then s
  else
    let s := s.set CSK_TEMP_T_DIE (s.get SYS_TEMP_T_DIE)
    let en := s.inFb CSK_SNS_CFG_SNS_EN
    let from_ := if !en then none else match s.csk.extAt with | none => some s.cskTime | some c => some c
    let s := { s with csk := { s.csk with attempts := if en then 1 else 0, lagged := false, extAt := from_ } }
    let s := if en then s.sensorAsk else s.set CSK_TUSE_SRC 0
    if s.bit CSK_TUSE_SRC then s else s.lagTemp

/-- A failed attempt (R207): at most three in a second. -/
def State.sensorAttemptFail (s : State) : State :=
  if s.csk.attempts = 0 then s
  else
    let last := decide (3 ≤ s.csk.attempts)
    let s := { s with csk := { s.csk with attempts := if last then 0 else s.csk.attempts + 1 } }
    let s := s.satAdd CSK_SNS_CNT_NAK 1
    if !last then s.sensorAsk else if s.bit CSK_TUSE_SRC then s.lagTemp else s

/-- The reading of a 16-bit word, 1/128 °C, exact (R206). -/
def State.sensorValue (s : State) (w : BitVec 16) : Rat :=
  let sh := 16 - min 16 (s.inF CSK_SNS_CFG_WIDTH)
  ((w.toInt / (2 : Int) ^ sh : Int) : Rat) * 128 / (2 ^ s.inF CSK_SNS_CFG_FRAC : Nat)

/-- A read completes (R207, R208): rejected out of range or by its step; else accepted, and the offset to the die
learned. -/
def State.sensorReadDone (s : State) (w : BitVec 16) : State :=
  if s.csk.attempts = 0 then s
  else
    let s := { s with csk := { s.csk with attempts := 0 } }
    let v := s.sensorValue w
    let far := match s.csk.ext with
      | some e => decide (absRat (v - ((e : Int) : Rat)) > (s.inF CSK_SNS_LIM_SNS_STEP : Rat) * 128 / 10)
      | none => false
    if decide (v < -7040) || decide (v > 19200) || far then
      let s := { s with csk := { s.csk with okRun := 0 } }
      let s := (s.satAdd CSK_SNS_CNT_REJ 1).raise CSK_STICKY_SNS_REJ_S
      if s.bit CSK_TUSE_SRC then s.lagTemp else s
    else
      let e := rnd v
      let diff : Rat := ((e : Int) : Rat) - ((s.tDie : Int) : Rat)
      let o : Rat := if s.csk.tofsRun = 0 then diff else s.csk.tofs + (diff - s.csk.tofs) / 3600
      let s := { s with csk := { s.csk with ext := some e, okRun := s.csk.okRun + 1, extAt := some s.cskTime, tofs := o, tofsRun := s.csk.tofsRun + 1 } }
      let s := (s.setS CSK_TEMP_T_EXT e).setS CSK_TOFS_TOFS (clampInt (-32768) 32767 (rnd o))
      let back := s.bit CSK_TUSE_FALLBACK
      let s := if back && decide (10 ≤ s.csk.okRun) then (s.set CSK_TUSE_FALLBACK 0).set CSK_TUSE_SRC 1
        else if back then s else s.set CSK_TUSE_SRC 1
      if s.bit CSK_TUSE_SRC then s.lagTemp else s

/-- `SNS_TO` seconds have gone since the last accepted reading, in the present tick or before (R207). -/
def State.sensorDue (s : State) : Bool :=
  match s.csk.extAt with
  | none => false
  | some c => decide (c + s.inF CSK_SNS_LIM_SNS_TO * cskUnit < s.csk.base + s.nextBoundary)

/-- `SNS_TO` expires: fall back to the on-die sensor (R207). -/
def State.sensorTimeout (s : State) : State :=
  if s.inFb CSK_SNS_CFG_SNS_EN && !s.bit CSK_TUSE_FALLBACK && !s.unitInRst 10 && s.sensorDue then
    (({ s with csk := { s.csk with okRun := 0 } }.set CSK_TUSE_FALLBACK 1).set CSK_TUSE_SRC 0).raise CSK_STICKY_SNS_FB_S
  else s

/-- The average has run for 1 h. -/
def State.tofsLearned (s : State) : State := if 3600 ≤ s.csk.tofsRun then s.set CSK_TUSE_TOFS_OK 1 else s

/-! ## Ring words (R204) -/

def mkEntry (freq : Int) (v part hold outl : Bool) (temp : Int) : Nat :=
  unsigned 44 freq + 2 ^ 44 * ofBool v + 2 ^ 45 * ofBool part + 2 ^ 46 * ofBool hold + 2 ^ 47 * ofBool outl
    + 2 ^ 48 * unsigned 16 temp
def entryFreq (w : Nat) : Int := signed 44 w
def entryV (w : Nat) : Bool := bitAt w 44
def entryTemp (w : Nat) : Int := signed 16 (w / 2 ^ 48)
def clearV (w : Nat) : Nat := clearBitAt w 44

/-- Mean of integers, rounded by the free bit. -/
def meanInt (sum : Int) (n : Nat) : Int := if n = 0 then 0 else rnd (((sum : Int) : Rat) / (n : Rat))

/-! ## The model (R209 – R212) -/

/-- The image's initial coefficient `k` and its uncertainty, in 2^-48 units, from the words of the CASK section:
f0 in 2^-48, a in 10^-20/s, c1 in 10^-15/°C, c2 in 10^-17/°C². -/
def coefScale (k : Nat) : Rat :=
  if k = 0 then 1
  else if k = 1 then (2 ^ 48 : Rat) / (10 ^ 20 : Nat) else if k = 2 then (2 ^ 48 : Rat) / (10 ^ 15 : Nat) else (2 ^ 48 : Rat) / (10 ^ 17 : Nat)
def State.imageCoef (s : State) (c k : Nat) : Rat := ((signed 64 (tabGet 0 s.cfg.cask (c * 8 + k)) : Int) : Rat) * coefScale k
def State.imageUnc (s : State) (c k : Nat) : Rat := ((signed 64 (tabGet 0 s.cfg.cask (c * 8 + 4 + k)) : Int) : Rat) * coefScale k

/-- The model at its image values, f0 alone free. -/
def State.imageFit (s : State) (c : Nat) : Fit :=
  { θ := (List.range 4).map (s.imageCoef c),
    P := (List.range 4).map (fun i => (List.range 4).map (fun j => if i = 0 ∧ j = 0 then s.imageUnc c 0 * s.imageUnc c 0 else 0)),
    res := [], tc := false, age := false }

/-- The regressors at a temperature and time: °C from T0, seconds from the epoch. -/
def State.regressors (s : State) (c : Nat) (temp t : Rat) : List Rat :=
  let d := (temp - ((s.getS (CSK_T0_T0 c) : Int) : Rat)) / 128
  [1, t, d, d * d]

def dot (a b : List Rat) : Rat := sumRat ((a.zip b).map (fun p => p.1 * p.2))
def Fit.at (f : Fit) (φ : List Rat) : Rat := dot f.θ φ

/-- One step of recursive least squares over the free coefficients with forgetting factor λ (R211). -/
def Fit.absorb (f : Fit) (lam : Rat) (φ : List Rat) (y : Rat) : Fit :=
  let free (i : Nat) : Bool := i == 0 || (i == 1 && f.age) || (decide (2 ≤ i) && f.tc)
  let h := φ.zipIdx.map (fun (v, i) => if free i then v else 0)
  let ph := f.P.map (fun row => dot row h)
  let den := lam + dot h ph
  let e := y - f.at φ
  if den = 0 then f
  else
    { f with θ := (f.θ.zip ph).map (fun p => p.1 + p.2 / den * e),
             P := (f.P.zip ph).map (fun (row, pi) => (row.zip ph).map (fun (v, pj) => (v - pi * pj / den) / lam)) }

/-- Free a coefficient: it starts from its held value with the image's uncertainty. -/
def Fit.free (f : Fit) (s : State) (c : Nat) (ks : List Nat) : Fit :=
  { f with P := f.P.zipIdx.map (fun (row, i) => row.zipIdx.map (fun (v, j) =>
      if ks.contains i ∧ i = j then s.imageUnc c i * s.imageUnc c i else v)) }

/-- The temperature bin of a reading (R209): 0.625 °C is 80 units, −40 °C is −5,120. -/
def binOf (temp : Int) : Nat := (clampInt 0 255 ((temp + 5120) / 80)).toNat

/-- The temperature span over bins with `COUNT` of 10 or more, in bins. -/
def Cask.span (k : Cask) : Nat :=
  let full := (k.bins.filter (fun e => decide (10 ≤ e.2 / 2 ^ 32 % 65536))).map (·.1)
  match full with
  | [] => 0
  | a :: _ => full.foldl Nat.max a - full.foldl min a + 1

/-- Reported RMS of the last residuals, in 2^-48 (R212). -/
def rmsSq (l : List Rat) : Rat := meanRat (l.map (fun x => x * x))

/-- Report the model and the residual. -/
def State.showFit (s : State) (c : Nat) (f : Fit) : State :=
  let rep (k : Nat) : Int := clampInt (-(2 ^ 31)) (2 ^ 31 - 1) (rnd (f.θ.getD k 0 / coefScale k))
  let s := s.setS2 (CSK_F0_LO_F0 c) (CSK_F0_HI_F0 c) (rnd (f.θ.getD 0 0))
  let s := ((s.setS (CSK_AGE_COEF c) (rep 1)).setS (CSK_C1_COEF c) (rep 2)).setS (CSK_C2_COEF c) (rep 3)
  let s := (s.setB (CSK_STAT_TC_FIT c) f.tc).setB (CSK_STAT_AGE_FIT c) f.age
  s.set (CSK_RESID_RESID c) (min (2 ^ 32 - 1) (isqrt (rndDown (rmsSq f.res * (10 ^ 30 : Nat) / (2 ^ 96 : Nat))).toNat))

/-- A valid M entry is absorbed by the fit, or marked an outlier (R211, R212); the answer is the entry's `OUTL`. -/
def State.fitPoint (s : State) (c : Nat) (freq temp : Int) (mid : Nat) : State × Bool :=
  let k := s.caskOf c
  let φ := s.regressors c ((temp : Int) : Rat) ((((mid : Int) - (k.epoch : Int)) : Int) : Rat)
  let e := ((freq : Int) : Rat) - k.fit.at φ
  let out := decide (60 ≤ k.fit.res.length) && decide (e * e > 64 * rmsSq k.fit.res)
  let res := (e :: k.fit.res).take 60
  if out then
    let f := { k.fit with res := res }
    (((s.setCask c { k with fit := f }).showFit c f).obsAdd 39 1, true)
  else
    let lam : Rat := 1 - 1 / ((60 * Nat.max 1 (s.inF (CSK_CFG2_FORGET c)) : Nat) : Rat)
    let b := binOf temp
    let w : Nat := tabGet 0 k.bins b
    let cnt : Nat := w / 2 ^ 32 % 65536
    let sum : Rat × Nat := tabGet (0, 0) k.sums b
    let sum : Rat × Nat := (sum.1 + e, sum.2 + 1)
    let mean : Rat := sum.1 / (sum.2 : Rat)
    let w' := unsigned 32 (clampInt (-(2 ^ 31)) (2 ^ 31 - 1) (rnd mean)) + 2 ^ 32 * min 65535 (cnt + 1)
    let f := { (k.fit.absorb lam φ ((freq : Int) : Rat)) with res := res }
    let k := { k with bins := tabPut 0 k.bins b w', sums := tabPut (0, 0) k.sums b sum }
    let n := s.get (CSK_FIT_MIN_FIT_MIN c) + 1
    let s := s.satAdd (CSK_FIT_MIN_FIT_MIN c) 1
    let tc := !f.tc && decide (1440 ≤ n) && decide (s.inF (CSK_CFG2_TSPAN c) ≤ k.span)
    let age := !f.age && decide (4320 ≤ n)
    let f := if tc then { (f.free s c [2, 3]) with tc := true } else f
    let f := if age then { (f.free s c [1]) with age := true } else f
    let s := ((s.setCask c { k with fit := f }).showFit c f).obsAdd 38 1
    (s.raiseAll ((if tc then [CSK_STICKY_TC_S c] else []) ++ (if age then [CSK_STICKY_AGE_S c] else [])), false)

/-! ## Closing entries (R202, R203) -/

/-- Valid entries of a ring. -/
def validS (k : Cask) : Nat := (k.ringS.filter (fun e => entryV e.2.1)).length
def validT (t : Tab Nat) : Nat := (t.filter (fun e => entryV e.2)).length

/-- The next index of a ring of length `len` whose newest is `head`; an empty ring begins at 0. -/
def nextIdx (len head : Nat) (empty : Bool) : Nat := if empty then 0 else (head + 1) % len

/-- The frequency and temperature of an entry written in HOLDOVER (R204). -/
def HoldAcc.freq (a : HoldAcc) : Int := meanInt a.fw a.n
def HoldAcc.temp (a : HoldAcc) : Int := meanInt a.t a.n
def HoldAcc.add (a : HoldAcc) (b : SecAcc) : HoldAcc := ⟨a.n + b.hn, a.fw + b.hfw, a.t + b.ht⟩

/-- Close an hour: ring H from the valid M entries. -/
def State.closeHour (s : State) (c : Nat) (hold : Bool) : State :=
  let k := s.caskOf c
  let n := k.openH.length
  let v := decide (30 ≤ n) && !hold
  let f := if hold then k.holdH.freq else meanInt ((k.openH.map (·.1)).foldl (· + ·) 0) n
  let t := if hold then k.holdH.temp else meanInt ((k.openH.map (·.2)).foldl (· + ·) 0) n
  let i := nextIdx 720 (s.get (CSK_HEAD2_H_HEAD c)) k.ringH.isEmpty
  let k := { k with ringH := tabPut 0 k.ringH i (mkEntry f v (v && decide (n < 60)) hold false t), openH := [], holdH := ⟨0, 0, 0⟩ }
  ((s.setCask c k).set (CSK_HEAD2_H_HEAD c) i).set (CSK_HEAD2_H_VALID c) (validT k.ringH)

/-- Close a minute that ended at a cask time: ring M from the valid S entries, and the fit. -/
def State.closeMinute (s : State) (c sec : Nat) (hold : Bool) : State :=
  let k := s.caskOf c
  let n := k.openM.length
  let v := decide (30 ≤ n) && !hold
  let f := if hold then k.holdM.freq else meanInt ((k.openM.map (·.1)).foldl (· + ·) 0) n
  let t := if hold then k.holdM.temp else meanInt ((k.openM.map (fun e => e.2.1)).foldl (· + ·) 0) n
  let s := s.setCask c { k with openM := [], holdM := ⟨0, 0, 0⟩ }
  let r := if v then s.fitPoint c f t (sec / cskUnit - 30) else (s, false)
  let s := r.1
  let k := s.caskOf c
  let i := nextIdx 2880 (s.get (CSK_HEAD_M_HEAD c)) k.ringM.isEmpty
  let k := { k with ringM := tabPut 0 k.ringM i (mkEntry f v (v && decide (n < 60)) hold r.2 t),
                    openH := if v then k.openH ++ [(f, t)] else k.openH }
  ((s.setCask c k).set (CSK_HEAD_M_HEAD c) i).set (CSK_FILL_M_VALID c) (validT k.ringM)

/-- Close an open second: ring S, and the minute and hour it ends (R203, R218, R222). -/
def State.closeSec (s : State) (c : Nat) (a : SecAcc) : State :=
  let k := s.caskOf c
  let hold := decide (0 < a.hn)
  let v := decide (s.rate ≤ 2 * a.n) && !hold && !a.bad && !s.unitInShadow 10
  let f := if hold then meanInt a.hfw a.hn else meanInt a.fw a.n
  let t := if hold ∨ a.n = 0 then meanInt a.t a.tn else meanInt a.ct a.n
  let i := nextIdx 3600 (s.get (CSK_HEAD_S_HEAD c)) k.ringS.isEmpty
  let k := { k with ringS := tabPut (0, 0) k.ringS i (mkEntry f v (v && decide (a.n < s.rate)) hold false t, a.sec),
                    openM := if v then k.openM ++ [(f, t, a.sec)] else k.openM, holdM := k.holdM.add a, holdH := k.holdH.add a }
  let s := ((s.setCask c k).set (CSK_HEAD_S_HEAD c) i).set (CSK_FILL_S_VALID c) (validS k)
  let s := if a.min then s.closeMinute c a.sec hold else s
  if a.hour then s.closeHour c hold else s

/-- A tick contributes to the open second of a channel (R201, R218); called at the boundary that commits it. -/
def State.contribute (s : State) (c : Nat) (overran : Bool) : State :=
  let ls := s.get (LPE_STAT_LSTATE c)
  let fw := s.getS2 (LPE_FW_LO_FW c) (LPE_FW_HI_FW c)
  let ss := s.get (SEL_STAT_SSTATE c)
  let ok := ls == 3 && !s.bit (LPE_STAT_MISSING c) && !overran && (ss == ssTracking || ss == ssCombining) && !s.bit (SEL_STAT_ABSORBING c)
  if ls = 0 ∨ s.unitInRst 10 then s
  else s.modCask c (fun k =>
    let a := k.cur
    let a := { a with tn := a.tn + 1, t := a.t + s.tUseRaw }
    let a := if ok then { a with n := a.n + 1, fw := a.fw + fw, ct := a.ct + s.tUseRaw } else a
    { k with cur := if ls = 4 then { a with hn := a.hn + 1, hfw := a.hfw + fw, ht := a.ht + s.tUseRaw } else a })

/-- A second of the primary scale ends (R202, R203): its accumulation waits for the job; a fifth that waits, and one that ends
in a reset or reset-shadow of CSK, is invalid (R222). -/
def State.endSecond (s : State) (c sec : Nat) : State :=
  if s.get (LPE_STAT_LSTATE c) = 0 then s
  else s.modCask c (fun k =>
    let a := { k.cur with sec := s.cskTime, min := (sec + 1) % 60 == 0, hour := (sec + 1) % 3600 == 0,
                          bad := k.cur.bad || decide (4 ≤ k.opn.length) || s.unitInShadow 10 }
    { k with cur := SecAcc.zero, opn := k.opn ++ [a] })

/-- The seconds left open at a reset are invalid (R222). -/
def SecAcc.spoil (a : SecAcc) : SecAcc := { a with bad := true }
def Cask.resetOpen (k : Cask) : Cask := { k with cur := k.cur.spoil, opn := k.opn.map SecAcc.spoil }
def State.spoilOpen (s : State) : State := (List.range 12).foldl (fun s c => s.modCask c Cask.resetOpen) s

/-! ## Grade and prediction (R213 – R216) -/

/-- The free-run word −δ ÷ (1 + δ) (R179, R446). -/
def State.freeRun (s : State) : Int :=
  let δ : Rat := ((s.cfg.oscCal : Int) : Rat) / (2 ^ 48 : Rat)
  if 1 + δ = 0 then 0 else rnd (-(((s.cfg.oscCal : Int) : Rat)) / (1 + δ))

/-- The grade whose condition holds. -/
def State.gradeNow (s : State) (c : Nat) : Nat :=
  let n := s.get (CSK_FIT_MIN_FIT_MIN c)
  if 4320 ≤ n then 3 else if 1440 ≤ n then 2 else if 900 ≤ s.get (CSK_FILL_S_VALID c) then 1 else 0

/-- The prediction source of a grade (R213). -/
def State.psrcOf (s : State) (c grade : Nat) : Nat :=
  if 2 ≤ grade then 3 else if grade = 1 then 2
  else if s.inF (CSK_CFG2_MIN_LOCK c) ≤ s.get (LPE_LOCKED_T_LOCKED_T c) then 1 else 0

/-- The entries of ring S, newest first. -/
def newestFirst (l : Tab (Nat × Nat)) (head : Nat) : List (Nat × Nat) :=
  ((l.filter (fun e => decide (e.1 ≤ head))).reverse ++ (l.filter (fun e => decide (head < e.1))).reverse).map (·.2)

/-- The valid S entries, newest first, of the recent-mean window that ends at cask time `last` (R215): `avg` seconds, or as
far back as 60 valid entries lie or the ring reaches; with the time the window starts. -/
def recentWindow (es : List (Nat × Nat)) (avg last : Nat) : List (Nat × Nat) × Nat :=
  let vs := es.filter (fun e => entryV e.1 && decide (e.2 ≤ last))
  let win := vs.filter (fun e => decide (last < e.2 + avg * cskUnit))
  if 60 ≤ win.length then (win, last - avg * cskUnit)
  else
    let far := if 60 ≤ vs.length then (vs.take 60).getLastD (0, last) else es.getLastD (0, last)
    (vs.take 60, min (last - avg * cskUnit) (far.2 - cskUnit))

/-- The recent mean of the window that ends `HO_GUARD` seconds before a start condition (R215); nothing where it holds no
valid entry. -/
def State.recentAt (s : State) (c start : Nat) : Option Recent :=
  let last := start - s.inF (CSK_CFG_HO_GUARD c) * cskUnit
  let w := recentWindow (newestFirst (s.caskOf c).ringS (s.get (CSK_HEAD_S_HEAD c))) (s.inF (CSK_CFG_HO_AVG c)) last
  let n := w.1.length
  if n = 0 then none
  else some
    { m := (((w.1.map (fun e => entryFreq e.1)).foldl (· + ·) 0 : Int) : Rat) / (n : Rat),
      tb := (((w.1.map (fun e => entryTemp e.1)).foldl (· + ·) 0 : Int) : Rat) / (n : Rat),
      tm := ((w.2 + last : Nat) : Rat) / (2 * cskUnit : Nat) }

/-- The regressors of the present temperature and second. -/
def State.regressorsNow (s : State) (c : Nat) : List Rat :=
  s.regressors c s.csk.tUse ((((s.cskSec : Int) - ((s.caskOf c).epoch : Int)) : Int) : Rat)

/-- A number of 2^-48 in 2^-64. -/
def to64 (x : Rat) : Int := rnd (x * 65536)

/-- The recent mean extrapolated (R215, `PSRC` 2), 2^-64; a window with no valid entry leaves it to a free value (log entry 9). -/
def State.meanNow (s : State) (c : Nat) (r : Option Recent) : Int :=
  match r with
  | none => (s.fresh : Int)
  | some r =>
    let k := s.caskOf c
    let bar := s.regressors c r.tb (r.tm - (k.epoch : Rat))
    to64 (r.m + dot k.fit.θ (((s.regressorsNow c).zip bar).map (fun p => p.1 - p.2)))

/-- The prediction of a source (R213, R215), 2^-64. -/
def State.predictOf (s : State) (c psrc : Nat) (r : Option Recent) : Int :=
  if psrc = 3 then to64 ((s.caskOf c).fit.at (s.regressorsNow c))
  else if psrc = 2 then s.meanNow c r
  else if psrc = 1 then s.getS2 (LPE_INT_LO_INT c) (LPE_INT_HI_INT c) * 65536
  else s.freeRun * 65536

/-- The source and recent mean that the evaluation serves: a holdover's or live preview's, else those of the present grade. -/
def State.predBasis (s : State) (c : Nat) : Nat × Option Recent :=
  let ch := s.chan c
  if s.pget (LPE_STAT_LSTATE c) = 4 then (ch.hoPsrc, ch.hoMean)
  else match ch.preview with
    | some p => (p.psrc, p.mean)
    | none => let src := s.psrcOf c (s.get (CSK_STAT_GRADE c)); (src, if src = 2 then s.recentAt c s.cskTick else none)

/-- A prediction in the units of `FW`. -/
def word48 (p : Int) : Int := rndNear (((p : Int) : Rat) / 65536)

/-- Evaluate the prediction, once in a second, from its tick 0 on: part of the DPLL-class jobs that use it (R202, R215). A
frozen one stays, and none is evaluated in a reset or reset-shadow of CSK (R221, R222). -/
def State.predictEval (s : State) (c : Nat) : State :=
  let ch := s.chan c
  let sec := s.primarySec
  if ch.predAt = some sec ∨ ch.frozen ∨ s.unitInShadow 10 then s
  else
    let b := s.predBasis c
    let live := s.pget (LPE_STAT_LSTATE c) == 4 || ch.preview.isSome
    let v := if live && decide (b.1 < 2) then ch.pred else s.predictOf c b.1 b.2
    let w := unsigned 64 (word48 v)
    (s.setChan c { ch with pred := v, prev := ch.pred, predAt := some sec }).emitAll c
      [.put (CSK_PRED_LO_PRED c) w, .put (CSK_PRED_HI_PRED c) (w / 2 ^ 32)]

/-- Clear the cask of a channel at tick 0 (R221). In HOLDOVER the prediction is frozen, and its source kept. -/
def State.caskClear (s : State) (c : Nat) : State :=
  if !(s.caskOf c).clear || decide (s.tickIndex ≠ 0) then s
  else
    let ho := s.get (LPE_STAT_LSTATE c) == 4
    let k := { Cask.idle with fit := s.imageFit c, epoch := s.cskSec, clear := false }
    let s := ((s.setCask c k).showFit c k.fit).set (CSK_EPOCH_EPOCH c) s.cskSec
    let s := (((s.set (CSK_FIT_MIN_FIT_MIN c) 0).set (CSK_FILL_S_VALID c) 0).set (CSK_FILL_M_VALID c) 0).set (CSK_HEAD2_H_VALID c) 0
    let s := (s.raiseIf (decide (s.get (CSK_STAT_GRADE c) ≠ 0)) (CSK_STICKY_GRADE_S c)).set (CSK_STAT_GRADE c) 0
    let s := if ho then s.inBoth (fun s => s.modChan c (fun ch => { ch with frozen := true })) else s.set (CSK_STAT_PSRC c) 0
    s.raise (CSK_STICKY_CLR_S c)

/-- A clear of a channel's cask is asked for. -/
def State.askClear (s : State) (c : Nat) : State := s.modCask c (fun k => { k with clear := true })

/-- The cask history and model job of a channel (R202, R203, R213). -/
def State.caskJob (s : State) (c : Nat) : State :=
  if s.unitInRst 10 then s
  else
    let l := (s.caskOf c).opn
    let s := s.modCask c (fun k => { k with opn := [] })
    let s := l.foldl (fun s a => s.closeSec c a) s
    if s.tickIndex = 0 ∨ l ≠ [] then
      let g := s.gradeNow c
      let was := s.get (CSK_STAT_GRADE c)
      let s := (s.set (CSK_STAT_GRADE c) g).raiseIf (decide (g ≠ was)) (CSK_STICKY_GRADE_S c)
      s.set (CSK_STAT_PSRC c) (if s.get (LPE_STAT_LSTATE c) = 4 then (s.chan c).hoPsrc else s.psrcOf c g)
    else s

/-- A promoted preview takes its guard out of the history (R205): the S entries of the seconds that end after the instant
`HO_GUARD` seconds before the start condition, those of the open minute, and those that wait for the job or are running. -/
def State.guardClear (s : State) (c start : Nat) : State :=
  let lim := start - s.inF (CSK_CFG_HO_GUARD c) * cskUnit
  let k := s.caskOf c
  let k := { k with ringS := k.ringS.map (fun e => if lim < e.2.2 then (e.1, (clearV e.2.1, e.2.2)) else e),
                    openM := k.openM.filter (fun e => decide (e.2.2 ≤ lim)),
                    opn := k.opn.map (fun a => if lim < a.sec then a.spoil else a), cur := k.cur.spoil }
  (s.setCask c k).set (CSK_FILL_S_VALID c) (validS k)

/-- Time in HOLDOVER reaches `HO_LIMIT` (R218). -/
def State.hoLimit (s : State) (c : Nat) : State :=
  let lim := s.inF (CSK_HO_LIMIT_HO_LIMIT c)
  if s.get (LPE_STAT_LSTATE c) = 4 ∧ lim ≠ 0 ∧ lim * s.rate ≤ (s.chan c).hoDur then s.raise (CSK_STICKY_HOLIM_S c) else s

/-- A field of CSK that shows the cask's history or model of a channel: it stays where the cask does (R222, R451). -/
def caskField (k : Nat) : Bool :=
  let a := keyAddr k
  let o := (a - 0xA1000) % 0x100
  decide (k / 32 / 0x10000 = 10) && decide (0xA1000 ≤ a) &&
    ((decide (0x18 ≤ o) && decide (o < 0x25)) || (decide (0x30 ≤ o) && decide (o < 0x4C)) || (o == 0x10 && (keyLo k == 7 || keyLo k == 8)))

/-- A word of the cask's indirect space (R225). -/
def State.caskWord (s : State) (a : Nat) : Nat :=
  let c := a / 0x10000
  let o := a % 0x10000
  let k := s.caskOf c
  let w : Nat :=
    if o < 0x7080 then (tabGet (0, 0) k.ringS (o / 8)).1
    else if 0x8000 ≤ o ∧ o < 0xDA00 then tabGet 0 k.ringM ((o - 0x8000) / 8)
    else if 0xE000 ≤ o ∧ o < 0xF680 then tabGet 0 k.ringH ((o - 0xE000) / 8)
    else if 0xF800 ≤ o then tabGet 0 k.bins ((o - 0xF800) / 8)
    else 0
  if 12 ≤ c then 0 else if o % 8 < 4 then w % 2 ^ 32 else w / 2 ^ 32

/-- A read of the cask's indirect space: word 0 of an entry latches its word 1, and the next read of that word returns the copy
(R226). -/
def State.caskRead (s : State) (a : Nat) : State × Nat :=
  if a % 8 < 4 then ({ s with csk := { s.csk with latch := some (a, s.caskWord (a + 4)) } }, s.caskWord a)
  else match s.csk.latch with
    | some (b, v) => if b + 4 = a then ({ s with csk := { s.csk with latch := none } }, v) else (s, s.caskWord a)
    | none => (s, s.caskWord a)

end Sys2Proof.Machine
end

