-- ==== Sys2Proof/Machine/Lpe.lean ====
section
/-!
DEFINITION. The loop engine: the filter, slope limits, channel states, jam, coasting and holdover previews, and what
a tick boundary does to a channel (R169 – R196).
-/
namespace Sys2Proof.Machine
open Sys2Proof

/-- Channel states (R179). -/
def lsOff : Nat := 0
def lsFreerun : Nat := 1
def lsAcquire : Nat := 2
def lsLocked : Nat := 3
def lsHoldover : Nat := 4

/-! ## Gains (R173) -/

/-- π to 40 decimal places. -/
def piRat : Rat := 31415926535897932384626433832795028841971 / ((10 ^ 40 : Nat) : Rat)

/-- The square root of a rational, to 2^-96. -/
def ratSqrt (q : Rat) : Rat := ((isqrt (rndDown (q * ((2 ^ 192 : Nat) : Rat))).toNat : Nat) : Rat) / ((2 ^ 96 : Nat) : Rat)

/-- ζ of a damping code (R173); a reserved code leaves it to a free value (log entry 9). -/
def zetaOf (code fv : Nat) : Rat :=
  match code with
  | 0 => 1 / 2 | 1 => 7071 / 10000 | 2 => 1 | 3 => 2 | 4 => 5 | _ => (fv : Rat)

/-- The −3 dB condition of a type 3 loop for y = (ω ÷ ωn)², with a = 2ζ + 1: y³ − (a² + 2a)y² + (2a − a²)y − 1. -/
def type3Poly (a y : Rat) : Rat := ((y - (a * a + 2 * a)) * y + (2 * a - a * a)) * y - 1

/-- The positive root of the condition, by halving an interval that holds it. -/
def type3Root (a : Rat) : Nat → Rat → Rat → Rat
  | 0, lo, _ => lo
  | n + 1, lo, hi => let m := (lo + hi) / 2; if type3Poly a m ≤ 0 then type3Root a n m hi else type3Root a n lo m

/-- ωn for a bandwidth in 0.1 mHz, rad/s, as a multiple of 2^-64 (R173). -/
def wnOf (type3 : Bool) (ζ : Rat) (bw : Nat) : Rat :=
  let ω := 2 * piRat * (bw : Rat) / 10000
  let k := if type3 then let a := 2 * ζ + 1; ratSqrt (type3Root a 128 0 (2 * (a * a + a + 1)))
    else let b := 1 + 2 * ζ * ζ; ratSqrt (b + ratSqrt (b * b + 1))
  if k = 0 then 0 else ((rnd (ω / k * ((2 ^ 64 : Nat) : Rat)) : Int) : Rat) / ((2 ^ 64 : Nat) : Rat)

/-- The channel's loop type is 3. -/
def State.isType3 (s : State) (c : Nat) : Bool := s.inF (LPE_CTL_TYPE c) == 1
def State.zeta (s : State) (c : Nat) : Rat := zetaOf (s.inF (LPE_CTL_DAMP c)) s.fresh

/-- ωn in force: at `FBW` while the channel acquires, else at `BW` (R174). -/
def State.wn (s : State) (c : Nat) (fast : Bool) : Rat :=
  wnOf (s.isType3 c) (s.zeta c) (if fast then s.inF (LPE_FBW_FBW c) else s.inF (LPE_BW_BW c))

/-! ## Slope limits (R176) -/

/-- The phase-slope limit in ps/s and the frequency-slope limit in 10^-12/s; 0 is no limit. Codes 6 and 7 leave them
to free values. -/
def State.slopes (s : State) (c : Nat) : Nat × Nat :=
  match s.inF (LPE_CTL_MASK c) with
  | 0 => (s.inF (LPE_PHSLOPE_PHSLOPE c), s.inF (LPE_FRSLOPE_FRSLOPE c))
  | 1 => (7500000, 10000) | 2 => (7500000, 2000) | 3 => (1000000, 1000) | 4 => (10000, 1000) | 5 => (50000, 100)
  | _ => (s.fresh, Config.freeValue (s.free + 1))

/-- A frequency in units of 10^-12, as a number. -/
def ppt (n : Nat) : Rat := (n : Rat) / ((10 ^ 12 : Nat) : Rat)

/-- A term held to a limit, 0 being no limit, and whether it was changed. -/
def limited (lim q : Rat) : Rat × Bool := if lim = 0 then (q, false) else (clampRat lim q, decide (clampRat lim q ≠ q))

/-- `FRANGE` as a number, and in 2^-48. -/
def State.frange (s : State) (c : Nat) : Rat := ppt (s.inF (LPE_FRANGE_FRANGE c))
def State.frange48 (s : State) (c : Nat) : Int := rndDown (s.frange c * ((2 ^ 48 : Nat) : Rat))

/-- A frequency word held within `FRANGE` (R169). -/
def State.clampFw (s : State) (c : Nat) (fw : Int) : Int := clampInt (-(s.frange48 c)) (s.frange48 c) fw

/-! ## Words -/

def State.pFw (s : State) (c : Nat) : Int := s.pgetS2 (LPE_FW_LO_FW c) (LPE_FW_HI_FW c)
def State.putFw (s : State) (c : Nat) (fw : Int) : State := s.psetS2 (LPE_FW_LO_FW c) (LPE_FW_HI_FW c) fw

/-- Report the integrator in 2^-48. -/
def State.showInt (s : State) (c : Nat) : State :=
  s.psetS2 (LPE_INT_LO_INT c) (LPE_INT_HI_INT c) (rnd ((((s.chan c).int : Int) : Rat) / 65536))

/-- Commit a frequency of 2^-64 units: rounded to 2^-48, the error carried into the next tick (R171). -/
def State.commitFreq (s : State) (c : Nat) (f64 : Int) : State :=
  let ch := s.chan c
  let tot := f64 + ch.carry
  let fw := rndNear (((tot : Int) : Rat) / 65536)
  let held := s.clampFw c fw
  let s := s.setChan c { ch with carry := if held = fw then tot - fw * 65536 else 0 }
  let s := if held = fw then s else s.psetB (LPE_STAT_RCLAMP c) true
  (s.putFw c held).showInt c

/-- Move the integrator toward a frequency of 2^-64 units at the frequency-slope limit, and commit it (R177, R216). -/
def State.slewFreq (s : State) (c : Nat) (target : Int) : State :=
  let ch := s.chan c
  let lim := ppt (s.slopes c).2 / (s.rate : Rat) * ((2 ^ 64 : Nat) : Rat)
  let d := (((target - ch.int : Int)) : Rat)
  let m := limited lim d
  let s := s.setChan c { ch with int := ch.int + (if m.2 then (if 0 < d then rndDown m.1 else -(rndDown (-m.1))) else target - ch.int), int2 := 0 }
  let s := if m.2 then s.psetB (LPE_STAT_FCLAMP c) true else s
  s.commitFreq c (s.chan c).int

/-! ## The state a tick sees -/

/-- The slot a single-reference channel follows: tracked, or the target of a transition (log entry 20). -/
def State.followedSlot (s : State) (c : Nat) : Option Nat :=
  let ss := s.get (SEL_STAT_SSTATE c)
  if ss = ssTracking then some (s.get (SEL_STAT_CUR c)) else if ss = ssTransition then some (s.get (SEL_STAT_TGT c)) else none

/-- Slots of the weighted members of an ensemble. -/
def State.weightedSlots (s : State) (c : Nat) : List Nat :=
  ((s.chan c).members.filter (fun m => m.inn && decide (0 < m.w))).map (·.slot)

/-- A slot's records are masked by a reset or reset-shadow (R188), or its group reports it so (R311). -/
def State.slotMasked (s : State) (n : Nat) : Bool :=
  (s.qslot n).gotMasked || s.slotInShadow n || (decide (56 ≤ n) && s.groupFrozen (n - 56))

/-- A clock-type slot delivered nothing unmasked before a channel's filter horizon in the tick (R186): neither to its qualify
job nor among the records that job has left. -/
def State.nothingCame (s : State) (c n : Nat) : Bool :=
  let q := s.qslot n
  !q.gotOk && !q.inbox.any (fun r => !r.masked && r.before (s.horizon 2 c))

/-- A pulse-type or packet slot: REF has declared a missing edge since its last confirmed record, or its newest record is
masked (R186). -/
def State.pulseMissing (s : State) (n : Nat) : Bool :=
  let q := s.qslot n
  q.lastMasked || (match q.missAt with | some t => decide (q.lastConf < t) | none => false)

/-- Missing input in the tick (R186). -/
def State.missingInput (s : State) (c : Nat) : Bool :=
  (s.chan c).est.isNone || s.pget (SEL_STAT_SSTATE c) == ssNoRef ||
  (match s.followedSlot c with
   | none => false
   | some n => if 56 ≤ n ∨ s.isPulse n then s.pulseMissing n else s.nothingCame c n)

/-- The start condition of a preview: the highest-numbered that holds, missing input only alone; 0 for none (R188). -/
def State.previewCause (s : State) (c : Nat) : Nat :=
  let miss := s.missingInput c
  if s.get (SEL_STAT_SSTATE c) = ssCombining then
    let ws := s.weightedSlots c
    if ws ≠ [] ∧ ws.all s.slotMasked then 4 else if miss then 1 else 0
  else match s.followedSlot c with
    | none => if miss then 1 else 0
    | some n =>
      let q := s.qslot n
      let soft := s.inF (QUL_WSOFT_LIM n)
      if s.pbit (QUL_STAT_LOW_REP n) then 5
      else if s.slotMasked n then 4
      else if soft ≠ 0 ∧ (soft : Rat) ≤ q.tickRes then 3
      else if q.missTick then 2
      else if miss then 1 else 0

/-- A confirmed phase sample of the tracked slot or of a weighted member arrived (R190). -/
def State.confirmedSample (s : State) (c : Nat) : Bool :=
  if s.get (SEL_STAT_SSTATE c) = ssCombining then (s.weightedSlots c).any (fun n => decide ((s.qslot n).got ≠ []))
  else match s.followedSlot c with
    | none => false
    | some n => decide ((s.qslot n).got ≠ [])

/-! ## Jam (R181) -/

/-- A line through two samples: its slope in 2^-48. -/
def slope48 (a b : Samp) : Option Int :=
  if a.t = b.t then none else some (rnd ((b.x - a.x) / ((b.t - a.t : Int) : Rat) * ((2 ^ 48 : Nat) : Rat)))

/-- A slot's frequency, 2^-48: over the tick's samples of a clock-type slot, else over its two most recent ones of the
series; the free-run word where only one exists. -/
def State.slotFreq (s : State) (n : Nat) : Int :=
  let q := s.qslot n
  let r := if n < 56 ∧ !s.isPulse n ∧ 2 ≤ q.got.length then
      (match q.got.head?, q.got.getLast? with | some a, some b => slope48 a b | _, _ => none)
    else (match q.last, q.before with | some b, some a => slope48 a b | _, _ => none)
  r.getD s.freeRun

/-- The frequency of a first estimate. -/
def State.jamFreq (s : State) (c : Nat) : Int :=
  if s.ensemble c then
    let ms := (s.chan c).members.filter (fun m => m.inn && decide (0 < m.w))
    if ms = [] then s.freeRun
    else rnd (wsum (ms.map (fun m => (m.w, ((s.slotFreq m.slot : Int) : Rat)))))
  else match s.followedSlot c with
    | some n => s.slotFreq n
    | none => s.freeRun

/-! ## The filter job -/

/-- Clear the live bits of the tick. -/
def State.clearClamps (s : State) (c : Nat) : State :=
  ((s.psetB (LPE_STAT_PCLAMP c) false).psetB (LPE_STAT_FCLAMP c) false).psetB (LPE_STAT_RCLAMP c) false

/-- OFF: words and integrators cleared, `HAS_PHASE` 0 (R180); the cask is cleared (R221). -/
def State.loopOff (s : State) (c : Nat) : State :=
  let s := s.modChan c (fun ch => { ch with x := 0, int := 0, int2 := 0, carry := 0, lockT := 0, inLock := 0, above := false, jam := none, phFrac := 0,
                                            hoDur := 0, hoPred := 0, hoPsrc := 0, hoMean := none })
  let s := ((s.putFw c 0).showInt c).pset (LPE_PH_PH c) 0
  let s := (s.psetS2 (LPE_PERR_LO_PERR c) (LPE_PERR_HI_PERR c) 0).pset (LPE_LOCKED_T_LOCKED_T c) 0
  let s := (((s.clearClamps c).psetB (LPE_STAT_MISSING c) false).psetB (LPE_STAT_LOL c) false).psetB (LPE_STAT_FAST c) false
  let s := ((s.psetB (LPE_STAT_HAS_PHASE c) false).psetB (SEL_STAT_HAS_PHASE c) false).psetB (LPE_STAT_SLEWING c) false
  s.pset (LPE_STAT_LSTATE c) lsOff

/-- `PH` moves toward `PADJ` (R178), by the allowance of one tick; what is left of it below 0.1 ps adds to the next (log
entry 55). -/
def State.slewPh (s : State) (c : Nat) : State :=
  let padj := s.getS (LPE_PADJ_PADJ c)
  let ph := s.pgetS (LPE_PH_PH c)
  let ch := s.chan c
  if padj = ph then (s.setChan c { ch with phFrac := 0 }).psetB (LPE_STAT_SLEWING c) false
  else
    let lim := (s.slopes c).1
    let room := ch.phFrac + (lim : Rat) * 10 / (s.rate : Rat)
    let step := rndDown room
    let d := padj - ph
    let mv := if lim = 0 then d else clampInt (-step) step d
    let s := s.setChan c { ch with phFrac := if lim = 0 then 0 else room - ((step : Int) : Rat) }
    let s := if lim ≠ 0 ∧ mv ≠ d then s.psetB (LPE_STAT_PCLAMP c) true else s
    (s.psetS (LPE_PH_PH c) (ph + mv)).psetB (LPE_STAT_SLEWING c) (decide (ph + mv ≠ padj))

/-- The lock conditions on |e| in ps (R180, R196): `UNLOCK_S` each time |e| reaches `UNLOCK_PH`, `LOL` until it falls below
`LOCK_PH`. -/
def State.lockLogic (s : State) (c : Nat) (e : Rat) : State :=
  let ps := absRat e / 16
  let unl := decide ((s.inF (LPE_UNLOCK_PH_UNLOCK_PH c) : Rat) ≤ ps)
  let lk := decide (ps < (s.inF (LPE_LOCK_PH_LOCK_PH c) : Rat))
  let ch := s.chan c
  let s := if lk then s.psetB (LPE_STAT_LOL c) false else s
  if s.pget (LPE_STAT_LSTATE c) = lsAcquire then
    let n := if lk && !unl then ch.lockT + 1 else 0
    let s := s.setChan c { ch with lockT := n, above := false }
    if 0 < n ∧ s.inF (LPE_LOCK_T_LOCK_T c) * s.rate ≤ n then
      ((s.pset (LPE_STAT_LSTATE c) lsLocked).psetB (LPE_STAT_LOL c) false).emit c (.raise (LPE_STICKY_LOCK_S c))
    else s
  else
    let s := s.setChan c { ch with above := unl }
    if !unl then s
    else if s.inFb (LPE_CTL_REACQ c) then
      ((s.modChan c (fun ch => { ch with lockT := 0, above := false })).pset (LPE_STAT_LSTATE c) lsAcquire).emit c (.raise (LPE_STICKY_UNLOCK_S c))
    else
      let s := s.psetB (LPE_STAT_LOL c) true
      if ch.above then s else s.emit c (.raise (LPE_STICKY_UNLOCK_S c))

/-- One update of the filter (R172). `e62` is the phase error in 62.5 fs units. -/
def State.filterUpdate (s : State) (c : Nat) (e62 : Rat) : State :=
  let ch := s.chan c
  let e := e62 / 16000000000000
  let t : Rat := 1 / (s.rate : Rat)
  let ω := s.wn c (s.pget (LPE_STAT_LSTATE c) == lsAcquire)
  let a := 2 * s.zeta c + 1
  let t3 := s.isType3 c
  let int2 := if t3 then ch.int2 + ω * ω * ω * t * e else ch.int2
  let d0 := if t3 then a * ω * ω * t * e + int2 * t else ω * ω * t * e
  let kp := if t3 then a * ω else (a - 1) * ω
  let sl := s.slopes c
  let d := limited (ppt sl.2 / (s.rate : Rat)) d0
  let p := limited (ppt sl.1) (kp * e)
  let one : Rat := ((2 ^ 64 : Nat) : Rat)
  let cur : Rat := ((ch.int : Int) : Rat) / one
  let fits := decide (absRat (cur + d.1 + p.1) ≤ s.frange c)
  let int := if fits then ch.int + rnd (d.1 * one) else ch.int
  let f := clampRat (s.frange c) (((int : Int) : Rat) / one + p.1)
  let r := decide (f ≠ ((int : Int) : Rat) / one + p.1)
  let s := s.setChan c { ch with int := int, int2 := int2 }
  let s := ((s.psetB (LPE_STAT_FCLAMP c) d.2).psetB (LPE_STAT_PCLAMP c) p.2).psetB (LPE_STAT_RCLAMP c) r
  let s := s.psetS2 (LPE_PERR_LO_PERR c) (LPE_PERR_HI_PERR c) (rnd e62)
  (s.commitFreq c (rnd (f * one))).lockLogic c e62

/-- FREERUN with a first estimate: ACQUIRE, by jam or by slewing (R181). -/
def State.acquire (s : State) (c : Nat) (est : Rat) : State :=
  let jam := !s.inFb (LPE_CTL_ACQ_MODE c) && !s.pbit (LPE_STAT_HAS_PHASE c)
  let s := ((s.pset (LPE_STAT_LSTATE c) lsAcquire).psetB (LPE_STAT_HAS_PHASE c) true).psetB (SEL_STAT_HAS_PHASE c) true
  let s := s.modChan c (fun ch => { ch with lockT := 0 })
  if jam then
    let fw := s.clampFw c (s.jamFreq c)
    let s := s.modChan c (fun ch => { ch with int := fw * 65536, int2 := 0, carry := 0, jam := some est })
    ((s.putFw c fw).showInt c).emitAll c [.raise (LPE_STICKY_JAM_S c), .obs 13 1]
  else s

/-- The state's part of the filter job. -/
def State.filterState (s : State) (c : Nat) : State :=
  let ls := s.get (LPE_STAT_LSTATE c)
  let ch := s.chan c
  if ls = lsFreerun then
    match ch.est with
    | some e => s.acquire c e
    | none => let fw := s.clampFw c s.freeRun
              ((s.setChan c { ch with int := fw * 65536, carry := 0 }).putFw c fw).showInt c
  else if ls = lsHoldover then
    if ch.est.isSome ∧ s.pget (SEL_STAT_SSTATE c) ≠ ssNoRef then
      let fw := s.chanFw c
      let s := s.setChan c { ch with int := fw * 65536, int2 := 0, carry := 0 }
      ((s.showInt c).pset (LPE_STAT_LSTATE c) lsLocked).emit c (.raise (LPE_STICKY_HOEXIT_S c))
    else
      let p := if 2 ≤ ch.hoPsrc ∧ !s.unitInShadow 10 then ch.pred else ch.hoPred
      (s.setChan c { ch with hoPred := p }).slewFreq c p
  else if s.missingInput c then s.commitFreq c ch.int
  else
    match ch.est with
    | none => s
    | some e => s.filterUpdate c (((rnd ((e - s.phiOut c) * 65536) : Int) : Rat) / 65536)

/-- A clamp bit that becomes 1 is reported, and the tick counted (R172, R425). -/
def State.reportClamps (s : State) (c : Nat) : State :=
  let fs := [LPE_STAT_PCLAMP c, LPE_STAT_FCLAMP c, LPE_STAT_RCLAMP c]
  let s := if fs.any (fun f => s.pbit f && !s.bit f) then s.emit c (.raise (LPE_STICKY_CLAMP_S c)) else s
  if fs.any s.pbit then s.emit c (.obs 14 1) else s

/-- The filter job of a channel (R172, R180). It does nothing while LPE is in reset (R193). -/
def State.filterJob (s : State) (c : Nat) : State :=
  if s.unitInRst 9 then s
  else
    let ls := s.get (LPE_STAT_LSTATE c)
    if !s.chanEn c then (if ls = lsOff then s else s.loopOff c)
    else if ls = lsOff then
      let fw := s.clampFw c s.freeRun
      let s := s.modChan c (fun ch => { ch with int := fw * 65536, int2 := 0, carry := 0 })
      (((s.putFw c fw).showInt c).pset (LPE_STAT_LSTATE c) lsFreerun).slewPh c
    else
      let s := if ls = lsHoldover then s.predictEval c else s
      let s := s.clearClamps c
      let miss := s.missingInput c
      let s := s.filterState c
      let s := s.slewPh c
      let s := s.psetB (LPE_STAT_MISSING c) miss
      let s := if miss then s.emit c (.obs 15 1) else s
      let s := s.psetB (LPE_STAT_FAST c) (s.pget (LPE_STAT_LSTATE c) == lsAcquire)
      let s := s.pset2 (LPE_WN_LO_WN c) (LPE_WN_HI_WN c)
        (rnd (s.wn c (s.pget (LPE_STAT_LSTATE c) == lsAcquire) * ((2 ^ 32 : Nat) : Rat))).toNat
      (s.reportClamps c).took

/-- LOCK_TIMER_EXPIRY: a channel in ACQUIRE whose lock timer has run `LOCK_T` seconds enters LOCKED (R180). -/
def State.lockTimerExpiry (s : State) (c : Nat) : State :=
  if s.pget (LPE_STAT_LSTATE c) = lsAcquire ∧ 0 < (s.chan c).lockT ∧
      s.inF (LPE_LOCK_T_LOCK_T c) * s.rate ≤ (s.chan c).lockT then
    ((s.pset (LPE_STAT_LSTATE c) lsLocked).psetB (LPE_STAT_LOL c) false).emit c (.raise (LPE_STICKY_LOCK_S c))
  else s

/-- `SLEWING` in the pending bank: `PH` differs from `PADJ` (R178). -/
def State.padjShow (s : State) (c : Nat) : State :=
  if s.pget (LPE_STAT_LSTATE c) = lsOff then s
  else s.psetB (LPE_STAT_SLEWING c) (decide (s.pget (LPE_PH_PH c) ≠ s.get (LPE_PADJ_PADJ c)))

/-- After a write of `PADJ`: with no phase-slope limit, `PH` follows at the next boundary (R178); in a reset of LPE the
words stand (R193). -/
def State.padjFollow (s : State) (c : Nat) : State :=
  if s.unitInRst 9 || s.pget (LPE_STAT_LSTATE c) = lsOff || decide ((s.slopes c).1 ≠ 0) then s
  else (s.pset (LPE_PH_PH c) (s.get (LPE_PADJ_PADJ c))).psetB (LPE_STAT_SLEWING c) false

/-- `PADJ` has been written: `SLEWING` follows in both banks at once, `PH` in the pending one (R178). -/
def State.padjWritten (s : State) (c : Nat) : State := (s.inBoth (fun s => s.padjShow c)).padjFollow c

/-- `PADJ` has been written by the host: a tense action of the same tick applies after the write (R196). -/
def State.padjHost (s : State) (c : Nat) : State :=
  match s.tns.padj.find? (fun e => e.1 == c) with
  | some e => (s.set (LPE_PADJ_PADJ c) e.2).padjWritten c
  | none => s.padjWritten c

/-! ## Holdover previews -/

/-- A new preview: source and grade as committed before the tick, the prediction of the second of the tick before
(R188, R213, R214, R216, R223). -/
def State.newPreview (s : State) (c cause : Nat) : Preview :=
  let ch := s.chan c
  let g := s.inF (CSK_STAT_GRADE c)
  let src := s.psrcOf c g
  let last := if s.tickIndex = 0 ∧ ch.predAt = some s.primarySec then ch.prev else ch.pred
  let fwp := if src < 2 then s.predictOf c src none else last
  { fwp := fwp, x := ch.x, due := 0, cause := cause, start := s.tick16, sec := s.cskTick, grade := g, psrc := src,
    mean := if src = 2 then s.recentAt c s.cskTick else none }

/-- The selector begins a transition in this tick (R190). -/
def State.beginsTransition (s : State) (c : Nat) : Bool :=
  s.pget (SEL_STAT_SSTATE c) == ssTransition &&
    (s.get (SEL_STAT_SSTATE c) != ssTransition || s.pget (SEL_STAT_TGT c) != s.get (SEL_STAT_TGT c))

/-- The holdover preview job (R188, R190, R202): the cask's prediction, then start, refresh, or mark for the discard of the
next boundary. -/
def State.previewJob (s : State) (c : Nat) : State :=
  let ls := s.get (LPE_STAT_LSTATE c)
  let s := if s.unitInRst 9 || ls == lsOff || ls == lsHoldover then s else s.predictEval c
  if s.unitInRst 9 || (ls != lsAcquire && ls != lsLocked) then s
  else
    let cause := s.previewCause c
    let ch := s.chan c
    match ch.preview with
    | none =>
      if cause = 0 then s
      else
        let s := s.setChan c { ch with preview := some (s.newPreview c cause), cancel := s.beginsTransition c }
        s.emitAll c [.raise (LPE_STICKY_PREV_S c), .count (LPE_CNT_PREVIEWS c) 1, .obs 10 1]
    | some p =>
      let p := if 2 ≤ p.psrc ∧ !s.unitInShadow 10 then { p with fwp := ch.pred } else p
      s.setChan c { ch with preview := some p, cancel := (decide (cause = 0) && s.confirmedSample c) || s.beginsTransition c }

/-! ## At a tick boundary -/

/-- The registers of the preview with none live (R191). -/
def State.clearPreview (s : State) (c : Nat) : State :=
  let s := (((s.psetB (LPE_SUBJ_SUBJ c) false).pset (LPE_SUBJ_KIND c) 0).pset (LPE_SUBJ_CAUSE c) 0).pset (LPE_SUBJ_START c) 0
  (s.psetS2 (LPE_SUBJ_FW_LO_FWP c) (LPE_SUBJ_FW_HI_FWP c) 0).psetS2 (LPE_SUBJ_PH_LO_DPH c) (LPE_SUBJ_PH_HI_DPH c) 0

/-- Discard a live preview (R190). -/
def State.discardPreview (s : State) (c : Nat) : State :=
  if (s.chan c).preview.isNone then s
  else ((s.modChan c (fun ch => { ch with preview := none, cancel := false })).clearPreview c).emitAll c
    [.raise (LPE_STICKY_DISCARD_S c), .count (LPE_CNT_DISCARDS c) 1, .obs 12 1]

/-- The selector has committed NO_REF: the preview is promoted and the channel enters HOLDOVER (R189, R205, R214). -/
def State.enterHoldover (s : State) (c : Nat) : State :=
  let ch := s.chan c
  let p := ch.preview.getD (s.newPreview c 0)
  let fw := s.chanFw c
  let s := s.setChan c { ch with preview := none, cancel := false, hoPred := p.fwp, hoPsrc := p.psrc, hoMean := p.mean, hoDur := 0,
                                 pred := if p.psrc < 2 then p.fwp else ch.pred, lockT := 0, inLock := 0, above := false,
                                 int := fw * 65536, int2 := 0, carry := 0 }
  let s := ((s.pset (LPE_STAT_LSTATE c) lsHoldover).psetB (LPE_STAT_LOL c) false).psetB (LPE_STAT_FAST c) false
  let s := s.slewFreq c p.fwp
  let s := ((s.set (CSK_STAT_GRADE_HO c) p.grade).set (CSK_STAT_PSRC c) p.psrc).satAdd (CSK_TICK_HOLDOVERS c) 1
  (s.guardClear c p.sec).emitAll c ([.raise (LPE_STICKY_HO_S c), .obs 36 1] ++ (if ch.preview.isSome then [.obs 11 1] else []))

/-- The offset a channel leaving HOLDOVER was built out by (R219). -/
def State.exitOffset (s : State) (c : Nat) : Rat :=
  let ch := s.chan c
  if s.ensemble c then wsum ((ch.members.filter (fun m => m.inn)).map (fun m => (m.w, m.ofs)))
  else if s.pget (SEL_STAT_SSTATE c) = ssTransition then ch.tgtOfs else ch.curOfs

/-- At the boundary where a channel leaves HOLDOVER the cask logs it (R219, R221). -/
def State.exitHoldover (s : State) (c : Nat) : State :=
  let s := s.set (CSK_HOLOG_DUR_HOLOG_DUR c) (min (2 ^ 32 - 1) ((s.chan c).hoDur / s.rate))
  let s := s.setS2 (CSK_HOLOG_PH_LO_HOLOG_PH c) (CSK_HOLOG_PH_HI_HOLOG_PH c) (rnd (s.exitOffset c))
  s.modChan c (fun ch => { ch with inLock := 0, frozen := false })

/-- Write the snapshot of a live preview, or clear it (R191). A promoted one leaves its word and phase difference (R189). -/
def State.showPreview (s : State) (c : Nat) (promoted : Bool) : State :=
  let ch := s.chan c
  match ch.preview with
  | some p =>
    let d := p.x - ch.x
    let on := decide (word48 p.fwp ≠ s.pFw c) || decide (d ≠ 0)
    let s := (((s.psetB (LPE_SUBJ_SUBJ c) on).pset (LPE_SUBJ_KIND c) 1).pset (LPE_SUBJ_CAUSE c) p.cause).pset (LPE_SUBJ_START c) p.start
    (s.psetS2 (LPE_SUBJ_FW_LO_FWP c) (LPE_SUBJ_FW_HI_FWP c) (word48 p.fwp)).psetS2 (LPE_SUBJ_PH_LO_DPH c) (LPE_SUBJ_PH_HI_DPH c)
      (rnd (((d : Int) : Rat) / ((2 ^ 48 : Nat) : Rat)))
  | none => if promoted then (s.psetB (LPE_SUBJ_SUBJ c) false).pset (LPE_SUBJ_KIND c) 0 else s.clearPreview c

/-- Seconds in LOCKED, and in HOLDOVER, from what the channel was to what it becomes; `LOCKED_T` moves with the commits of its
group (R33). -/
def State.countState (s : State) (c was : Nat) (ran : Bool) : State :=
  let ls := s.pget (LPE_STAT_LSTATE c)
  let s := s.modChan c (fun ch => { ch with inLock := if ls = lsLocked ∧ was = lsLocked then ch.inLock + 1 else 0 })
  let s := if ran then s.pset (LPE_LOCKED_T_LOCKED_T c) (min (2 ^ 32 - 1) ((s.chan c).inLock / s.rate)) else s
  if was = lsHoldover then
    let s := s.modChan c (fun ch => { ch with hoDur := ch.hoDur + 1 })
    if (s.chan c).hoDur % s.rate = 0 then s.emit c (.obs 37 1) else s
  else s

/-- A tick's advance of the preview's phase at its word; one that overran adds nothing until a commit (R195). -/
def Preview.advance (p : Preview) (dt : Int) (ran : Bool) : Preview :=
  if ran then { p with x := p.x + word48 p.fwp * (p.due + dt), due := 0 } else { p with due := p.due + dt }

/-- What the boundary that ends a tick does to a channel's pending state before the banks swap; `te` is the boundary's
instant in 62.5 fs units, `ran` that the channel's jobs ran and did not overrun. A jam sets φ_out to the estimate, which is
the one of the boundary before, carried over the tick at the frequency jammed with it (R181, log entry 55). -/
def State.lpeBoundary (s : State) (c : Nat) (te : Int) (ran : Bool) : State :=
  let was := s.get (LPE_STAT_LSTATE c)
  let busy := was == lsAcquire || was == lsLocked
  let fw0 := s.chanFw c
  let promote := ran && busy && s.pget (SEL_STAT_SSTATE c) == ssNoRef && s.pget (LPE_STAT_LSTATE c) != lsOff
  let s := if promote then s.enterHoldover c else s
  let now := s.pget (LPE_STAT_LSTATE c)
  let s := if ran && ((s.chan c).cancel || (now != lsAcquire && now != lsLocked)) then s.discardPreview c else s
  let dt := te - s.t0
  let ch := s.chan c
  let x := match ch.jam with
    | some e => rnd (e * ((2 ^ 48 : Nat) : Rat)) + s.pFw c * dt
    | none => ch.x + fw0 * dt
  let s := s.setChan c { ch with x := if now = lsOff then 0 else x, jam := none, preview := ch.preview.map (fun p => p.advance dt ran) }
  let s := s.countState c was ran
  let s := if was = lsHoldover ∧ now = lsLocked then s.exitHoldover c else s
  let s := if was ≠ lsOff ∧ now = lsOff then s.askClear c else s
  let s := if ran then (s.showPreview c promote).pset (LPE_TICK_TICK c) s.tick16 else s
  s.setB (CSK_STAT_IN_HO c) (now == lsHoldover)

/-- After a reset of LPE each integrator reloads from the committed word (R193). -/
def State.reloadLoop (s : State) (c : Nat) : State :=
  let fw := s.chanFw c
  (s.modChan c (fun ch => { ch with int := fw * 65536, int2 := 0, carry := 0, inLock := 0 })).showInt c

end Sys2Proof.Machine
end

