-- ==== Sys2Proof/Machine/Tme.lean ====
section
/-!
DEFINITION. The time engine: the counters and their increments, the one step, rate adjustments, UTC data, stamps, EVT
inputs and the transmit-timestamp queues (R258 – R281).
-/
namespace Sys2Proof.Machine
open Sys2Proof

/-- The image enables scale `k`; its bound channel. -/
def State.scaleEn (s : State) (k : Nat) : Bool := s.applied && s.bit (TME_CFG_EN k)
def State.scaleChan (s : State) (k : Nat) : Nat := s.get (TME_CFG_CHAN k)

/-- Units of carry in one 2^-48 ns, and in 0.1 ps. -/
def carryUnit : Int := 10000
def phUnit : Int := 2 ^ 48

/-! ## Increments (R261 – R264) -/

/-- The rate update job of scale `k` is done for the tick (R261). It does nothing while LPE or TME is in reset. -/
def State.tsRateUpdateJob (s : State) (k : Nat) : State :=
  if s.unitInRst 9 || s.unitInRst 12 || !s.scaleEn k || s.pend.ts.contains k then s
  else { s with pend := { s.pend with ts := s.pend.ts ++ [k] } }

/-- The advance owed at the end of a window: what the channel's frequency `fw` asks over its edges, less what the
counter made. -/
def Scale.owed (x : Scale) (c0 : Nat) (fw : Int) : Int :=
  let n : Int := ((c0 - x.mark0) / 4 : Nat)
  x.carry + carryUnit * (2 * n * (2 ^ 48 + fw) - ((x.at c0 : Int) - x.mark))

/-- The part of a reset difference removed in one tick, at the phase-slope limit in ps/s (R280). -/
def slewPart (slew : Int) (lim rate : Nat) : Int :=
  if lim = 0 then slew else clampInt (-(lim * 10 * 2 ^ 48 / rate : Nat)) (lim * 10 * 2 ^ 48 / rate : Nat) slew

/-- Begin the increment of the coming tick at coarse count `c0`: `INC` rounded down, one LSB more on the first r edges
(R262). -/
def Scale.beginInc (x : Scale) (c0 n0 : Nat) (fw owed : Int) : Scale :=
  let adv := ((carryUnit * (2 * (n0 : Int) * (2 ^ 48 + fw)) + owed) / carryUnit).toNat
  { x.begin c0 (x.at c0) (adv / n0) (adv % n0) with mark0 := c0, mark := x.at c0, carry := owed, run := true }

/-- The commit of a tick for scale `k` at boundary B: the increment that acts from B + 16 ns. `fw0` is the frequency
word that was in force, `done` that the rate update job has finished, `ovr` that it overran. After a full load a running scale
keeps its increment until its channel locks, with no account of what the channel did before (R59). -/
def State.rateCommit (s : State) (k : Nat) (fw0 : Int) (done ovr : Bool) : State :=
  let x := s.scale k
  let c0 := s.coarse + 32
  if !s.scaleEn k then
    if !x.run then s
    else s.setScale k { x.begin c0 (x.at c0) incNominal 0 with run := false, carry := 0, slew := 0 }
  else
    let c := s.scaleChan k
    let ph := s.getS (LPE_PH_PH c)
    let owed := if x.run then x.owed c0 fw0 else 0
    let s := s.setB (TME_STAT_RATE_HELD k) ovr
    if x.hold && x.run && s.get (LPE_STAT_LSTATE c) != lsLocked then
      s.setScale k { x with mark0 := c0, mark := x.at c0, carry := 0, lastPh := ph }
    else if !done then
      let s := s.setScale k { x with mark0 := c0, mark := x.at c0, carry := owed, run := true, lastPh := if x.run then x.lastPh else ph }
      if ovr then ((s.satAdd (TME_TICK_HELDS k) 1).obsAdd 44 1).raise (TME_STICKY_HELD_S k) else s
    else
      let part := slewPart x.slew (s.slopes c).1 s.rate
      let owed := (if x.run then owed + phUnit * (ph - x.lastPh) else 0) + part
      let x := { x with lastPh := ph, slew := x.slew - part, hold := false }
      (s.setScale k (x.beginInc c0 (500000000 / s.rate) (s.chanFw c) owed)).set (TME_TICK_TICK k) s.tick16

/-- A scale bound to another channel goes on without a step (R62): what the old channel's `PH` has moved is owed, and the new
one's counts from where it stands. -/
def State.scaleRebind (s : State) (k old : Nat) : State :=
  let x := s.scale k
  if s.scaleChan k = old ∨ !x.run then s
  else s.setScale k { x with carry := x.carry + phUnit * (s.getS (LPE_PH_PH old) - x.lastPh), lastPh := s.getS (LPE_PH_PH (s.scaleChan k)) }

/-- After a TME reset the difference between the advance made and the advance due is removed by slewing (R280). -/
def State.scaleResume (s : State) (k : Nat) : State :=
  let x := s.scale k
  if !x.run then s
  else
    let ph := s.getS (LPE_PH_PH (s.scaleChan k))
    s.setScale k { x with slew := x.slew + x.carry + phUnit * (ph - x.lastPh), carry := 0, lastPh := ph }

/-! ## The step (R265 – R267) -/

/-- The delta of the step registers, 2^-48 ns. -/
def State.stepDelta (s : State) (k : Nat) : Int :=
  s.getS2 (TME_STEP_SEC_LO_SEC k) (TME_STEP_SEC_HI_SEC k) * (secUnit : Int) + s.getS (TME_STEP_NS_NS k) * (nsUnit : Int)
    + (s.get (TME_STEP_FRAC_FRAC k) : Int) * 2 ^ 16

/-- A write of `GO` 1 while the right is armed: the step waits for the first `TCK` edge 32 ns or more on (R265). A
scale the image does not enable accepts no step (R259); a write during a TME reset is dropped (R280). -/
def State.stepGo (s : State) (k : Nat) : State :=
  if s.unitInRst 12 then s.raise TME_STICKY_RST_S
  else if !s.scaleEn k then s
  else s.setScale k { s.scale k with step := some (s.stepDelta k, (s.coarse + 67) / 4 * 4) }

/-- A later write of `GO` 1 (R266); the violation of R67 is the bus's. -/
def State.stepReject (s : State) (k : Nat) : State :=
  let s := s.satAdd (TME_STEP_INFO_REJ k) 1
  let s := ((s.set (TME_REJ_SEC_LO_SEC k) (s.get (TME_STEP_SEC_LO_SEC k))).set (TME_REJ_SEC_HI_SEC k) (s.get (TME_STEP_SEC_HI_SEC k))).set
    (TME_REJ_NS_NS k) (s.get (TME_STEP_NS_NS k))
  s.raise (TME_STICKY_STEP_REJ_S k)

/-- Judge a scale's leap second: the seconds field has reached `LEAP_SEC` since it was last judged (R270). -/
def State.leapCheck (s : State) (k : Nat) : State :=
  let x := s.scale k
  let sec := tsSec (s.now k)
  let u := x.utc
  if (u.leap61 || u.leap59) && decide (x.secSeen < u.sec) && decide (u.sec ≤ sec) then
    let o := u.ofs + (if u.leap61 then 1 else 0) - (if u.leap59 then 1 else 0)
    let s := s.setScale k { x with secSeen := sec, utc := { u with ofs := o, leap61 := false, leap59 := false } }
    let s := ((s.setS (TME_UTC_UTC_OFS k) o).set (TME_UTC_LEAP61 k) 0).set (TME_UTC_LEAP59 k) 0
    s.raise (TME_STICKY_LEAP_S k)
  else s.setScale k { x with secSeen := sec }

/-- Realign the tick to the stepped primary scale (R23): the first boundary on the stepped time, the one after it
where it lies less than half a period away. -/
def State.realign (s : State) : State :=
  let v := s.now s.primary
  let t := s.nextMultiple v
  { s with target := if 2 * (t - v) < s.period then t + s.period else t, stepped := true, realigned := true }

/-- A waiting step is made at its edge S, if no tick boundary comes first or with it (R265, R281). The answer says whether it was
made, and the value before it. -/
def State.stepApply (s : State) (k : Nat) : State × Option Nat :=
  match (s.scale k).step with
  | none => (s, none)
  | some (d, due) =>
    if !s.dueBy due ∧ s.applied then (s, none)
    else
      let s := s.advance (Nat.max s.coarse due)
      let x := s.scale k
      let v : Nat := x.at s.coarse
      let v' := ((v : Int) + d).toNat
      let (r, inc) := match segFor x.segs s.coarse with
        | some g => (g.r - (s.coarse - g.c0) / 4, g.inc)
        | none => (0, incNominal)
      let s := s.setScale k { x.begin s.coarse v' inc r with step := none, stepAt := some s.coarse, mark := x.mark + ((v' : Int) - (v : Int)) }
      let s := (((s.set (TME_STAT_STEPPED k) 1).set (TME_STAT_ARMED k) 0).set (TME_STEP_INFO_STEP_TICK k) s.tick16).raise (TME_STICKY_STEP_S k)
      let s := if k = s.primary ∧ !s.stepped ∧ s.applied then s.realign else s
      (s.leapCheck k, some v)

/-! ## Rate adjustments (R268) -/

/-- The host asks for a rate adjustment; it starts at the next boundary, in place of one that waits. A duration of 0, or a
scale the image does not enable, starts none (log entry 21). -/
def State.radjAsk (s : State) (k : Nat) (rate : Int) (dur : Nat) : State :=
  if dur = 0 || !s.scaleEn k then s else s.setScale k { s.scale k with radjNext := some (rate, dur) }

/-- A tense rate change asks for one: it starts at the first boundary 16 ns or more on (R268). -/
def State.radjAskTense (s : State) (k : Nat) (rate : Int) (dur : Nat) (rec : List Nat) : State :=
  s.modScale k (fun x => { x with radjTense := x.radjTense ++ [⟨rate, dur, s.coarse + 32, rec⟩] })

/-- The host's waiting adjustment starts. -/
def State.radjStart (s : State) (k : Nat) : State :=
  let x := s.scale k
  match x.radjNext with
  | none => s
  | some (rate, dur) => s.setScale k { x with radjNext := none, radj := some ⟨rate, dur, 0⟩ }

/-- An adjustment that has run its ticks ends. -/
def State.radjDone (s : State) (k : Nat) : State :=
  let x := s.scale k
  match x.radj with
  | some a => if a.left = 0 then (s.setScale k { x with radj := none }).raise (TME_STICKY_RADJ_S k) else s
  | none => s

/-- A running adjustment moves `PADJ` of the bound channel at a boundary. -/
def State.radjTick (s : State) (k : Nat) : State :=
  let x := s.scale k
  match x.radj with
  | none => s
  | some a =>
    let c := s.scaleChan k
    let rem := a.rem + 10 * a.rate
    let mv := rem / (s.rate : Int)
    let s := s.setScale k { x with radj := some { a with left := a.left - 1, rem := rem - mv * (s.rate : Int) } }
    let s := s.setS (LPE_PADJ_PADJ c) (clampInt (-(2 ^ 31)) (2 ^ 31 - 1) (s.getS (LPE_PADJ_PADJ c) + mv))
    s.padjWritten c

/-- The tense rate changes whose time has come start, each in place of the one before; their records are written (R281, R355). -/
def State.radjTenseStart (s : State) (k : Nat) : State :=
  let l := (s.scale k).radjTense
  let s := s.modScale k (fun x => { x with radjTense := l.filter (fun a => decide (s.coarse < a.since)) })
  (l.filter (fun a => decide (a.since ≤ s.coarse))).foldl (fun s a => (s.modScale k (fun x => { x with radj := some ⟨a.rate, a.dur, 0⟩ })).journal a.entry 0x10) s

/-- A TME reset drops the waiting tense rate changes: each is refused. -/
def State.radjRefuse (s : State) (k : Nat) : State :=
  (s.scale k).radjTense.foldl (fun s a => s.journal a.entry 0x11) (s.modScale k (fun x => { x with radjTense := [] }))

/-- What a boundary does to the adjustments of scale `k`: a running one moves and may end, a waiting one replaces it, the host's
before a tense one (R281). -/
def State.radjBoundary (s : State) (k : Nat) : State :=
  if s.unitInRst 12 then s else (((s.radjTick k).radjDone k).radjStart k).radjTenseStart k

/-! ## UTC data (R269) -/

/-- The committed UTC fields take effect. -/
def State.utcApply (s : State) (k : Nat) : State :=
  let x := s.scale k
  match x.utcDue with
  | none => s
  | some u => s.setScale k { x with utcDue := none, utc := u }

/-- A write of `COMMIT` 1: the fields as they stand wait for the next tick boundary. -/
def State.utcCommit (s : State) (k : Nat) : State :=
  s.setScale k { s.scale k with utcDue := some { ofs := s.getS (TME_UTC_UTC_OFS k), valid := s.bit (TME_UTC_UTC_VALID k), leap61 := s.bit (TME_UTC_LEAP61 k),
                                                 leap59 := s.bit (TME_UTC_LEAP59 k), sec := s.get2 (TME_LEAP_SEC_LO_LEAP_SEC k) (TME_LEAP_SEC_HI_LEAP_SEC k) } }

/-! ## Stamps (R271 – R279) -/

/-- The stamp of an instant on scale `k`. -/
def State.stampOf (s : State) (k : Nat) (t : Int) : Nat := (s.scale k).stamp t

/-- Put a stamp in a group of four registers. -/
def State.putStamp (s : State) (ns fr lo hi : Fld) (v : Nat) : State :=
  (((s.set ns (tsNs v)).set fr (tsFrac v)).set lo (tsSec v)).set hi (tsSec v / 2 ^ 32)

/-- The missing-event check of pin `i` runs from a coarse count, or stands; a pin with `EN` and an `EVT_TO` has one (R274). -/
def State.evtCheck (s : State) (i : Nat) (c : Option Nat) : State := { s with evtFrom := tabPut none s.evtFrom i c }
def State.evtWatched (s : State) (i : Nat) : Bool := s.bit (TME_EVT_CFG_EN i) && s.get (TME_EVT_CFG_EVT_TO i) != 0

/-- Pins that the registers now watch and did not in `was` begin their check. -/
def State.evtStart (s was : State) : State :=
  (List.range 16).foldl (fun t i => if s.evtWatched i && !was.evtWatched i then t.evtCheck i (some s.coarse) else t) s

/-- Stamp the oldest record of EVT pin `i` (R273, R274); a scale the image does not enable serves no stamp (R259). -/
def State.evtStamp (s : State) (i : Nat) : State :=
  match s.evtIn.find? (fun r => r.srcidx == i) with
  | none => s
  | some r =>
    let s := { s with evtIn := s.evtIn.erase r }
    let k := s.get (TME_EVT_CFG_TS i)
    if !s.bit (TME_EVT_CFG_EN i) || !s.scaleEn k then s
    else
      let v := s.stampOf k r.phase
      let m := r.masked || r.calfail
      let s := s.putStamp (TME_EVT_NS_NS i) (TME_EVT_FRAC_FRAC i) (TME_EVT_SEC_LO_SEC i) (TME_EVT_SEC_HI_SEC i) v
      let s := ((s.wrapAdd (TME_EVT_STAT_SEQ i) 1).setB (TME_EVT_STAT_MASKED i) m).obsAdd 45 1
      let s := s.evtCheck i (some s.coarse)
      let s := s.raise (TME_EVT_STAT_EVT_S i)
      s.post 5 ([i + 16 * k + 256 * ofBool m + 65536 * s.get (TME_EVT_STAT_SEQ i)] ++ stampWords v ++ [0, 0, 0])

/-- A pin has given no stamp for `EVT_TO` ms (R274), in the present tick or before; the check runs again from the next stamp. -/
def State.evtTimeout (s : State) (i : Nat) : State :=
  match tabGet none s.evtFrom i with
  | none => s
  | some c =>
    if !s.evtWatched i || s.unitInRst 12 || !s.dueBy (c + s.get (TME_EVT_CFG_EVT_TO i) * 2000000) then s
    else (s.evtCheck i none).raise (TME_EVT_STAT_MISS_S i)

/-- A pulse record of a slot that a scale names is kept as the scale's slot stamp (R275). -/
def State.slotStamp (s : State) (r : Rec) (k : Nat) : State :=
  if !s.scaleEn k || s.get (TME_CFG_SLOT k) != r.slot || r.kind != 1 || r.masked || r.calfail || r.win || r.pwf then s
  else (s.putStamp (TME_SLOT_NS_NS k) (TME_SLOT_FRAC_FRAC k) (TME_SLOT_SEC_LO_SEC k) (TME_SLOT_SEC_HI_SEC k) (s.stampOf k r.phase)).set
    (TME_SLOT_SEQ_SEQ k) r.seq
def State.slotStamps (s : State) (r : Rec) : State := (List.range 4).foldl (fun s k => s.slotStamp r k) s

/-- A transmit-timestamp queue and its occupancy. -/
def State.txQueue (s : State) (p : Nat) : List TxEntry := tabGet [] s.txq p

/-- An entry for a port's queue; the seventeenth is dropped (R278). -/
def State.txqPush (s : State) (p : Nat) (e : TxEntry) : State :=
  let q := s.txQueue p
  if 16 ≤ q.length then ((s.satAdd (TME_TXQ_STAT_DROP p) 1).obsAdd 47 1).raise (TME_TXQ_STAT_OVF_S p)
  else { s with txq := tabPut [] s.txq p (q ++ [e]) }.obsAdd 46 1

/-- An entry with a stamp. -/
def TxEntry.mk' (id v : Nat) : TxEntry := ⟨id % 65536, tsSec v, tsNs v, tsFrac v⟩

/-- A stamped frame's entry: at once for a MAC-point port; held for the announcing edge of source 105 for the other
kind (R278, R390). -/
def State.txEntry (s : State) (p id stamp : Nat) : State :=
  if s.portAnnounce p then { s with txHeld := s.txHeld ++ [(p, TxEntry.mk' id stamp)] } else s.txqPush p (TxEntry.mk' id stamp)

/-- The held entries enter their queues with the stamp of the announcing edge (R390). -/
def State.releaseTx (s : State) (stamp : Nat → Nat) : State :=
  s.txHeld.foldl (fun s e => s.txqPush e.1 (TxEntry.mk' e.2.id (stamp e.1))) { s with txHeld := [] }

/-- Pop the oldest entry of a port's queue into the port's registers (R279). -/
def State.txqPop (s : State) (p : Nat) : State :=
  let q := s.txQueue p
  let s := s.set (TME_TXQ_ID_OCC p) q.length
  match q with
  | [] =>
    let s := ((((s.set (TME_TXQ_ID_VALID p) 0).set (TME_TXQ_NS_NS p) 0).set (TME_TXQ_FRAC_FRAC p) 0).set (TME_TXQ_SEC_LO_SEC p) 0)
    s.set (TME_TXQ_SEC_HI_SEC p) 0
  | e :: t =>
    let s := { s with txq := tabPut [] s.txq p t }
    let s := (((s.set (TME_TXQ_ID_ID p) e.id).set (TME_TXQ_ID_VALID p) 1).set (TME_TXQ_NS_NS p) e.ns).set (TME_TXQ_FRAC_FRAC p) e.frac
    (s.set (TME_TXQ_SEC_LO_SEC p) e.sec).set (TME_TXQ_SEC_HI_SEC p) (e.sec / 2 ^ 32)

end Sys2Proof.Machine
end

