-- ==== Sys2Proof/Machine/Syn.lean ====
section
/-!
DEFINITION. Output synthesis: the analogue PLLs and the XO follower, the outputs and their squelch and enable rules,
alignment, and tense actions on outputs (R229 – R253).
-/
namespace Sys2Proof.Machine
open Sys2Proof

def State.apll (s : State) (m : Nat) : Apll := tabGet Apll.idle s.syn.apll m
def State.setApll (s : State) (m : Nat) (a : Apll) : State := { s with syn := { s.syn with apll := tabPut Apll.idle s.syn.apll m a } }
def State.out (s : State) (j : Nat) : Out := tabGet Out.idle s.syn.out j
def State.setOut (s : State) (j : Nat) (o : Out) : State := { s with syn := { s.syn with out := tabPut Out.idle s.syn.out j o } }
def State.modOut (s : State) (j : Nat) (f : Out → Out) : State := s.setOut j (f (s.out j))

/-- SYN is in reset, or in reset or reset-shadow. -/
def State.synAway (s : State) : Bool := s.unitInShadow 11

/-! ## Frequencies -/

/-- N_nom of an APLL in 2^-64 (R229, R254). -/
def State.nNom (s : State) (m : Nat) : Nat :=
  s.get (SYN_APLL_N_HI_N m) % 2 ^ 26 * 2 ^ 48 + s.get (SYN_APLL_N_LO_N m) * 2 ^ 16 + tabGet 0 s.cfg.apllFrac m % 2 ^ 16

/-- The nominal VCO frequency, Hz (R229). -/
def State.fVco (s : State) (m : Nat) : Rat :=
  let xo : Rat := (s.get2 SYN_XO_FREQ_LO_XO_FREQ SYN_XO_FREQ_HI_XO_FREQ : Rat) / 65536
  let pfd := if s.bit (SYN_APLL_CFG_DBL m) then xo * 2 else xo / ((s.get (SYN_APLL_CFG_RDIV m) + 1 : Nat) : Rat)
  pfd * (s.nNom m : Rat) / ((2 ^ 64 : Nat) : Rat)

/-- The ratio of an output's set: A (false) or B (R236). -/
def State.ratio (s : State) (j : Nat) (b : Bool) : Rat :=
  let div : Nat := if b then s.get (SYN_OUT_DIVB_LO_DIV j) + 2 ^ 32 * s.get (SYN_OUT_DIVB_HI_DIV j)
    else s.get (SYN_OUT_DIVA_LO_DIV j) + 2 ^ 32 * s.get (SYN_OUT_DIVA_HI_DIV j)
  let frac := s.bit (if b then SYN_OUT_DIVB_HI_FRAC j else SYN_OUT_DIVA_HI_FRAC j)
  let num : Nat := s.get (if b then SYN_OUT_NUMB_NUM j else SYN_OUT_NUMA_NUM j)
  let den : Nat := s.get (if b then SYN_OUT_DENB_DEN j else SYN_OUT_DENA_DEN j)
  (div : Rat) + (if frac then (num : Rat) / (den : Rat) else 0)

/-- A set is declared: its `DIV` is not 0 (R237). -/
def State.setDeclared (s : State) (j : Nat) (b : Bool) : Bool :=
  if b then s.get (SYN_OUT_DIVB_LO_DIV j) + s.get (SYN_OUT_DIVB_HI_DIV j) != 0
  else s.get (SYN_OUT_DIVA_LO_DIV j) + s.get (SYN_OUT_DIVA_HI_DIV j) != 0

/-- The output's source APLL. -/
def State.outApll (s : State) (j : Nat) : Nat := s.get (SYN_OUT_CFG_APLL j)

/-- The nominal VCO period of an output's APLL and the output's nominal period, in 2^-48 ns (R236, R239). -/
def State.tVco (s : State) (j : Nat) : Rat := let f := s.fVco (s.outApll j); if f = 0 then 0 else (secUnit : Rat) / f
def State.outPeriod (s : State) (j : Nat) : Rat := s.ratio j (s.out j).setB * s.tVco j

/-- The first epoch instant of an output's grid at or after a value of its time scale (R242). -/
def State.epochAfter (s : State) (j v : Nat) : Rat :=
  let p := s.outPeriod j
  let o := (((s.out j).phase : Int) : Rat) * s.tVco j
  if p = 0 then (v : Rat) else ((rndUp (((v : Rat) - o) / p) : Int) : Rat) * p + o

/-! ## The analogue PLLs (R233) -/

/-- APLL states. -/
def apOff : Nat := 0
def apCal : Nat := 1
def apAcq : Nat := 2
def apLocked : Nat := 3

def State.astate (s : State) (m : Nat) : Nat := s.get (SYN_APLL_STAT_ASTATE m)
/-- The APLL enters a state; the times of R233 run from here. -/
def State.setAstate (s : State) (m st : Nat) : State :=
  ((s.setApll m { s.apll m with since := s.coarse }).set (SYN_APLL_STAT_ASTATE m) st).setB (SYN_APLL_STAT_LOCK m) (st == apLocked)

/-- An APLL that was LOCKED leaves it. -/
def State.unlocked (s : State) (m : Nat) : State :=
  ((s.satAdd (SYN_APLL_CNT_UNLOCKS m) 1).obsAdd 40 1).raise (SYN_APLL_STICKY_UNLOCK_S m)

/-! ## Output states (R246 – R248) -/

/-- OSTATE codes. -/
def osOff : Nat := 0
def osSquelched : Nat := 1
def osRunning : Nat := 2
def osGated : Nat := 3

/-- The output is gated off by a tense action. -/
def State.gatedOff (s : State) (j : Nat) : Bool := bitAt (s.get SYN_GATE_GATE_OFF) j

/-- A full load has passed its last check and its apply step has not ended, or no image is loaded (R247, R250). -/
def State.loadCause (s : State) : Bool := !s.bit GLD_STAT_IMG_VALID || (s.gld.applying && s.gld.op == some .full)

/-- The `SQ_CAUSE` bits of an output (R247). -/
def State.sqCause (s : State) (j : Nat) : Nat :=
  let m := s.outApll j
  let o := s.out j
  ofBool (s.astate m != apLocked || !s.bit SYN_XO_STAT_XO_OK || s.bit SYN_XO_STAT_XO_FREQ_BAD || !s.bit SYN_XO_STAT_XF_LOCK)
    + 2 * ofBool (!o.met) + 4 * ofBool (s.forcedSq j) + 8 * ofBool (bitAt (s.get SYN_SQ_FORCE_SQ_FORCE) j)
    + 16 * ofBool o.ho + 32 * ofBool (s.bit (SYN_OUT_CFG_ALIGN_SQ j) && o.bad) + 64 * ofBool s.loadCause

/-- The power domain of an output's bank. -/
def outDomain (j : Nat) : Nat := 4 + j / 8

/-- What puts an output OFF. -/
def State.outIsOff (s : State) (j : Nat) : Bool :=
  !s.bit (SYN_OUT_CFG_EN j) || !s.domainUp (outDomain j) || s.astate (s.outApll j) == apOff

/-- Arm an output (R248). -/
def State.arm (s : State) (j : Nat) : State :=
  (s.modOut j (fun o => { o with met := false })).set SYN_OUT_GO_GO (clearBitAt (s.get SYN_OUT_GO_GO) j)

/-- Arm every output: a full load (R248). -/
def State.armAll (s : State) : State := (List.range 24).foldl (fun s j => s.arm j) s

/-- Take the registers' values on leaving SQUELCHED (R250). A `TRIM` that the image wrote is in force at once; one that the host
wrote moves on by 1 ps per tick (R239). -/
def State.takeValues (s : State) (j : Nat) : State :=
  let v := if s.bit (SYN_OUT_CFG_TS_EN j) then s.now (s.get (SYN_OUT_CFG_TS j)) else 0
  let t := s.getS (SYN_OUT_TRIM_TRIM j)
  let s := s.modOut j (fun o => { o with phase := s.getS (SYN_OUT_PHASE_OUT_PHASE j), setB := s.bit (SYN_OUT_CFG_SET j),
                                         trim := if o.trimTo = t then o.trim else t, trimTo := t, clearAt := v })
  (s.set (SYN_OUT_STAT_SET_ACT j) (s.get (SYN_OUT_CFG_SET j))).set (SYN_OUT_STAT_PEND j) 0

/-- `PEND`: a RUNNING or GATED output keeps values other than the registers hold (R250). -/
def State.showPend (s : State) (j : Nat) : State :=
  let st := s.get (SYN_OUT_STAT_OSTATE j)
  let o := s.out j
  let differs := decide (o.phase ≠ s.getS (SYN_OUT_PHASE_OUT_PHASE j)) || o.setB != s.bit (SYN_OUT_CFG_SET j) || decide (o.trimTo ≠ s.getS (SYN_OUT_TRIM_TRIM j))
  s.setB (SYN_OUT_STAT_PEND j) ((st == osRunning || st == osGated) && differs)

/-- The state an output takes from its causes (R246); `sqCause` has been written. -/
def State.outNext (s : State) (j cause : Nat) : State :=
  let st := s.get (SYN_OUT_STAT_OSTATE j)
  if s.outIsOff j then
    if st = osOff then s
    else ((s.set (SYN_OUT_STAT_OSTATE j) osOff).arm j).modOut j (fun o => { o with drive := .unpowered, acts := [] })
  else if st = osOff then ((s.set (SYN_OUT_STAT_OSTATE j) osSquelched).arm j).modOut j (fun o => { o with drive := .static })
  else if st = osSquelched then
    if cause ≠ 0 then s
    else if s.gatedOff j then (s.takeValues j).set (SYN_OUT_STAT_OSTATE j) osGated
    else ((s.takeValues j).set (SYN_OUT_STAT_OSTATE j) osRunning).raise (SYN_OUT_STICKY_RUN_S j)
  else if cause = 0 then s
  else ((s.set (SYN_OUT_STAT_OSTATE j) osSquelched).obsAdd 41 1).raise (SYN_OUT_STICKY_SQ_S j)

/-- A cause of an output may have changed: its bits and its state (R246). SYN sees nothing while it is in reset; an output
that loses its power or its APLL is OFF even so. -/
def State.evalOutput (s : State) (j : Nat) : State :=
  if s.unitInRst 11 then (if s.outIsOff j then s.outNext j 0 else s)
  else
    let c := s.sqCause j
    let s := (s.set (SYN_OUT_STAT_SQ_CAUSE j) c).outNext j c
    -- an output just armed on leaving OFF carries cause POLICY
    s.set (SYN_OUT_STAT_SQ_CAUSE j) (s.sqCause j)

def State.evalOutputs (s : State) : State := (List.range 24).foldl (fun s j => s.evalOutput j) s

/-- An APLL's state from its power, enable and XO (R233), and the outputs that follow. -/
def State.apllEval (s : State) (m : Nat) : State :=
  let st := s.astate m
  if !s.domainUp m || !s.bit (SYN_APLL_CFG_EN m) then (if st = apOff then s else s.setAstate m apOff)
  else if st = apOff then (if s.bit SYN_XO_STAT_XO_OK then s.setAstate m apCal else s)
  else if s.bit SYN_XO_STAT_XO_OK || st == apCal then s
  else
    let s := if st = apLocked then s.unlocked m else s
    s.setAstate m apCal
def State.apllEvals (s : State) : State := ((List.range 4).foldl (fun s m => s.apllEval m) s).evalOutputs

/-- The band search finds a band (R233). -/
def State.bandFound (s : State) (m band tune : Nat) : State :=
  if s.astate m = apCal ∧ s.bit SYN_XO_STAT_XO_OK then
    let s := (s.set (SYN_APLL_STAT_BAND m) band).setApll m { s.apll m with tune := tune % 65536 }
    (s.setAstate m apAcq).evalOutputs
  else s

/-- No band is found within 3 ms, which end in the present tick or before: the search restarts. -/
def State.calTimeout (s : State) (m : Nat) : State :=
  if s.astate m = apCal ∧ s.bit SYN_XO_STAT_XO_OK ∧ s.dueBy ((s.apll m).since + 6000000) then
    ((s.setApll m { s.apll m with since := (s.apll m).since + 6000000 }).satAdd (SYN_APLL_CNT_RECALS m) 1).raise (SYN_APLL_STICKY_CALFAIL_S m)
  else s

/-- The detector finds lock. -/
def State.lockDetect (s : State) (m : Nat) : State :=
  if s.astate m = apAcq then ((s.setAstate m apLocked).raise (SYN_APLL_STICKY_LOCK_S m)).evalOutputs else s

/-- Not LOCKED 2 ms after entering ACQ, which end in the present tick or before. -/
def State.acqTimeout (s : State) (m : Nat) : State :=
  if s.astate m = apAcq ∧ s.dueBy ((s.apll m).since + 4000000) then (s.setAstate m apCal).satAdd (SYN_APLL_CNT_RECALS m) 1 else s

/-- The detector finds the lock lost. -/
def State.unlockDetect (s : State) (m : Nat) : State :=
  if s.astate m = apLocked then ((s.setAstate m apAcq).unlocked m).evalOutputs else s

/-- No XO edge for 100 ns (R234). -/
def State.xoLoss (s : State) : State :=
  if !s.bit SYN_XO_STAT_XO_OK then s
  else ((s.set SYN_XO_STAT_XO_OK 0).raise SYN_STICKY_XO_LOSS_S).apllEvals

/-- 1 ms of XO edges. An APLL held in CAL begins its search. -/
def State.xoRestore (s : State) : State :=
  if s.bit SYN_XO_STAT_XO_OK then s
  else
    let s := s.set SYN_XO_STAT_XO_OK 1
    ((List.range 4).foldl (fun s m => if s.astate m = apCal then s.setAstate m apCal else s) s).apllEvals

/-! ## The XO follower (R231, R234) -/

/-- The follower's bandwidth in 0.1 mHz; the reserved code leaves it to a free value. -/
def State.xfBw (s : State) : Nat :=
  match s.get SYN_XO_CFG_XF_BW with | 0 => 10000 | 1 => 100000 | 2 => 1000000 | _ => s.fresh

/-- The follower's lock: its error has stayed below 1 ns for 1 s. -/
def State.xfLock (s : State) : State :=
  if s.bit SYN_XO_STAT_XF_LOCK || s.syn.xoT < s.rate then s else (s.set SYN_XO_STAT_XF_LOCK 1).evalOutputs

/-- The XO's offset against its window. -/
def State.xoWindow (s : State) (eps : Int) : State :=
  let win := s.get SYN_XO_CFG_XO_WIN
  let bad := s.bit SYN_XO_STAT_XF_LOCK && win != 0 && decide ((win : Rat) / 1000000 ≤ ((eps.natAbs : Nat) : Rat) / ((2 ^ 48 : Nat) : Rat))
  let was := s.bit SYN_XO_STAT_XO_FREQ_BAD
  (s.setB SYN_XO_STAT_XO_FREQ_BAD bad).raiseIf (bad && !was) SYN_STICKY_XO_FREQ_S

/-- The next XO edge is timed at a boundary, `edge` 62.5 fs units after it; `dt` is the length of the tick that begins,
nominally. -/
def State.xoUpdate (s : State) (edge : Nat) : State :=
  let f := s.get2 SYN_XO_FREQ_LO_XO_FREQ SYN_XO_FREQ_HI_XO_FREQ
  if f = 0 then s
  else
    let p : Rat := 16000000000000 * 65536 / (f : Rat)
    let t : Rat := ((s.t0 + (edge : Int) : Int) : Rat)
    let y := s.syn
    let dt : Rat := 16000000000000 / (s.rate : Rat)
    let meas (z : Rat) : Rat := ((rndNear ((z + t) / p) : Int) : Rat) * p - t
    let r16 (q : Rat) : Rat := ((rnd (q * 65536) : Int) : Rat) / 65536
    if !y.xoRun then { s with syn := { y with xoRun := true, xoZ := r16 (meas 0), xoInt := 0, xoT := 0 } }
    else
      let e := meas y.xoZ - y.xoZ
      let es := e / 16000000000000
      let ω := wnOf false 1 s.xfBw
      let one : Rat := ((2 ^ 64 : Nat) : Rat)
      let int := y.xoInt + rnd (ω * ω / (s.rate : Rat) * es * one)
      let eps := ((int : Int) : Rat) / one + 2 * ω * es
      let s := { s with syn := { y with xoZ := r16 (y.xoZ + eps * dt), xoInt := int, xoT := if absRat e < 16000 then y.xoT + 1 else 0 } }
      let s := s.xfLock
      let v := if s.bit SYN_XO_STAT_XF_LOCK then rnd (eps * ((2 ^ 48 : Nat) : Rat)) else 0
      (s.setS2 SYN_XO_EPS_LO_EPS SYN_XO_EPS_HI_EPS v).xoWindow v

/-! ## Steering (R232, R241) -/

/-- The ratio that a frequency word and the XO's offset call for. -/
def State.nEffOf (s : State) (m : Nat) (fw : Int) : Nat :=
  let one : Int := 2 ^ 48
  let eps := s.getS2 SYN_XO_EPS_LO_EPS SYN_XO_EPS_HI_EPS
  if one + eps = 0 then 0 else (rnd ((((s.nNom m : Int) * (one + fw) : Int) : Rat) / ((one + eps : Int) : Rat))).toNat

/-- Show the ratio in force. -/
def State.showNeff (s : State) (m n : Nat) : State :=
  (s.set (SYN_APLL_NEFF_LO_NEFF m) (n / 2 ^ 16)).set (SYN_APLL_NEFF_HI_NEFF m) (n / 2 ^ 48)

/-- Add a phase in 62.5 fs units to the feedback divider, to 2^-16 VCO period. -/
def State.addPhase (s : State) (m : Nat) (u : Rat) (a : Apll) : Apll :=
  let q := a.frac + u * s.fVco m * 65536 / 16000000000000
  { a with phase := a.phase + rndDown q, frac := q - ((rndDown q : Int) : Rat) }

/-- Steer an APLL at a commit; `dt` is the length of the tick that ended, in 62.5 fs. While SYN is in reset the ratio
stays, and the phase difference is owed; afterwards it is removed at the channel's phase-slope limit (R250). -/
def State.steer (s : State) (m : Nat) (dt : Int) : State :=
  let a := s.apll m
  let c := s.get (SYN_APLL_CFG_CHAN m)
  if s.astate m = apOff then s
  else if 12 ≤ c then
    if s.unitInRst 11 then s
    else let n := s.nEffOf m 0; (s.setApll m { a with nEff := n, fw := 0 }).showNeff m n
  else
    let x := (s.ind.chanOf c).x
    let ph := s.getS (LPE_PH_PH c)
    let step : Rat := (((x - (a.lastX + a.fw * dt) : Int)) : Rat) / ((2 ^ 48 : Nat) : Rat) + ((ph - a.lastPh : Int) : Rat) * 8 / 5
    let a := { a with lastX := x, lastPh := ph }
    if s.unitInRst 11 then s.setApll m { a with owe := a.owe + step }
    else
      let lim := (s.slopes c).1
      let room : Rat := (lim : Rat) * 16 / (s.rate : Rat)
      let part := if lim = 0 then a.owe else clampRat room a.owe
      let fw := s.chanFw c
      let n := s.nEffOf m fw
      (s.setApll m { s.addPhase m (step + part) a with owe := a.owe - part, nEff := n, fw := fw }).showNeff m n

/-- Begin to steer from a channel's present words, when an image binds the APLL. -/
def State.bindApll (s : State) (m : Nat) : State :=
  let c := s.get (SYN_APLL_CFG_CHAN m)
  let a := { s.apll m with ld := tabGet 0 s.cfg.apllLd m, owe := 0 }
  if 12 ≤ c then s.setApll m { a with fw := 0, nEff := s.nEffOf m 0 }
  else s.setApll m { a with lastX := (s.ind.chanOf c).x, lastPh := s.getS (LPE_PH_PH c), fw := s.chanFw c, nEff := s.nEffOf m (s.chanFw c) }

/-! ## Enable policy and the tick -/

/-- The policy's condition on indicative state (R248). -/
def State.policyHolds (s : State) (j : Nat) : Bool :=
  let m := s.outApll j
  let c := s.get (SYN_APLL_CFG_CHAN m)
  let p := s.get (SYN_OUT_CFG_POLICY j)
  s.astate m == apLocked &&
    (p == 0 || (decide (c < 12) &&
      (if p = 1 then s.bit (LPE_STAT_HAS_PHASE c)
       else s.get (LPE_STAT_LSTATE c) == lsLocked && (p == 2 || bitAt (s.get SYN_OUT_GO_GO) j))))

/-- One picosecond toward a target. -/
def toward (a b : Int) : Int := if a < b then a + 1 else if b < a then a - 1 else a

/-- `ALIGNED` rises once the error is within its limit and `ATRIM` stands on its target (R244). -/
def State.alignedCheck (s : State) (j : Nat) : State :=
  let o := s.out j
  if o.good && decide (s.getS (SYN_OUT_TRIM_ATRIM j) = o.atrimTo) then s.set (SYN_OUT_STAT_ALIGNED j) 1 else s

/-- A commit reaches an output: policy, holdover, and the fine delays (R239, R244, R247, R248). -/
def State.outTick (s : State) (j : Nat) : State :=
  if s.unitInRst 11 then s
  else
    let o := s.out j
    let c := s.get (SYN_APLL_CFG_CHAN (s.outApll j))
    let ho := s.bit (SYN_OUT_CFG_SQ_HO j) && decide (c < 12) && s.get (LPE_STAT_LSTATE c) == lsHoldover
    let at_ := toward (s.getS (SYN_OUT_TRIM_ATRIM j)) o.atrimTo
    let tr := toward o.trim o.trimTo
    let s := s.setOut j { o with met := o.met || s.policyHolds j, ho := ho, trim := tr }
    let s := (s.setS (SYN_OUT_TRIM_ATRIM j) at_).setB (SYN_OUT_STAT_TRIMMING j) (decide (tr ≠ o.trimTo) || decide (at_ ≠ o.atrimTo))
    (s.alignedCheck j).showPend j

/-- What a commit does in SYN: the follower, the ratios, the outputs. -/
def State.synTick (s : State) (edge : Option Nat) (dt : Int) : State :=
  let s := match edge with
    | some e => if s.bit SYN_XO_STAT_XO_OK && !s.unitInRst 11 then s.xoUpdate e else s
    | none => s
  let s := (List.range 4).foldl (fun s m => s.steer m dt) s
  ((List.range 24).foldl (fun s j => s.outTick j) s).evalOutputs

/-- The delay an output's edges carry beside its phase, in ps (R239). -/
def State.fineDelay (s : State) (j : Nat) : Int := clampInt (-511) 511 ((s.out j).trim + s.getS (SYN_OUT_TRIM_ATRIM j))

/-! ## The pins (R235, R238, R246) -/

/-- The two legs at a logic level, by `FORMAT`. -/
def State.legsAt (s : State) (j : Nat) (level : Bool) : Leg × Leg :=
  let leg (b : Bool) : Leg := if b then .high else .low
  match s.get (SYN_OUT_CFG_FORMAT j) with
  | 4 => (leg level, leg level)
  | 6 => (leg level, .hiZ)
  | 7 => Config.reservedLegs j level
  | _ => (leg level, leg (!level))

/-- The legs of an output whose divider is in its active phase, or is not: high impedance without power, the level of `SQ_LEVEL`
when held static (R246), else the waveform's, whose active phase is low with `POL` (R238). -/
def State.outLegs (s : State) (j : Nat) (active : Bool) : Leg × Leg :=
  match (s.out j).drive with
  | .unpowered => (.hiZ, .hiZ)
  | .static =>
    match s.get (SYN_OUT_CFG_SQ_LEVEL j) with
    | 0 => s.legsAt j false
    | 1 => s.legsAt j true
    | 2 => (.hiZ, .hiZ)
    | _ => Config.reservedLegs j active
  | .active => s.legsAt j (active != (s.bit (SYN_OUT_CFG_PULSE j) && s.bit (SYN_OUT_CFG_POL j)))

/-- `PWIDTH` for a pulse that began at a coarse count: a change applies from the next pulse (R238). -/
def State.widthFrom (s : State) (j start : Nat) : Nat :=
  match (s.out j).widths.find? (fun e => decide (start < e.1)) with
  | some e => e.2
  | none => s.get (SYN_OUT_PW_PWIDTH j)

/-- Length of the active phase that began at a coarse count, in 2^-48 ns: `PWIDTH` VCO periods of a pulse (R238), half the period of
a clock (R236). -/
def State.activeLen (s : State) (j start : Nat) : Rat :=
  if s.bit (SYN_OUT_CFG_PULSE j) then (s.widthFrom j start : Rat) * s.tVco j else s.outPeriod j / 2

/-- `PWIDTH` has changed from `old`. Changes older than a period, before which no pulse in progress began, are forgotten. -/
def State.widthChanged (s : State) (j old : Nat) : State :=
  let young (e : Nat × Nat) : Bool := decide (((s.coarse - e.1 : Nat) : Rat) * (nsUnit / 2 : Nat) < s.outPeriod j)
  s.modOut j (fun o => { o with widths := o.widths.filter young ++ [(s.coarse, old)] })

/-- The widths that an image has changed; `was` is the state before. -/
def State.widthsLoaded (s was : State) : State :=
  (List.range 24).foldl (fun s j =>
    if was.get (SYN_OUT_PW_PWIDTH j) = s.get (SYN_OUT_PW_PWIDTH j) then s else s.widthChanged j (was.get (SYN_OUT_PW_PWIDTH j))) s

/-! ## Driver events (R249, R243) -/

/-- An output in SQUELCHED or GATED takes its static level; a pulse that cause APLL cuts short sets `TRUNC_S`. -/
def State.squelchEntry (s : State) (j : Nat) (inPulse : Bool) : State :=
  let st := s.get (SYN_OUT_STAT_OSTATE j)
  if (st = osSquelched ∨ st = osGated) ∧ (s.out j).drive = .active then
    let cut := inPulse && s.bit (SYN_OUT_CFG_PULSE j) && st == osSquelched && bitAt (s.get (SYN_OUT_STAT_SQ_CAUSE j)) 0
    (s.modOut j (fun o => { o with drive := .static })).raiseIf cut (SYN_OUT_STICKY_TRUNC_S j)
  else s

/-- A RUNNING output gives its first active edge; a time-aligned one on the first epoch instant at or after S + 2
ticks. -/
def State.outputStart (s : State) (j : Nat) : State :=
  let o := s.out j
  if s.get (SYN_OUT_STAT_OSTATE j) = osRunning ∧ o.drive ≠ .active then
    s.setOut j { o with drive := .active, edge := if s.bit (SYN_OUT_CFG_TS_EN j) then s.epochAfter j (o.clearAt + 2 * s.period) else 0 }
  else s

/-- The first step of the time scale, by `d`, moves every epoch instant of its running outputs (R243): an edge that is due goes to
the new grid, and the moment from which a start counts is the same moment on the stepped scale. -/
def State.outputsStepped (s : State) (k : Nat) (d : Int) : State :=
  (List.range 24).foldl (fun s j =>
    if s.bit (SYN_OUT_CFG_TS_EN j) && s.get (SYN_OUT_CFG_TS j) == k && s.get (SYN_OUT_STAT_OSTATE j) == osRunning then
      let f (o : Out) : Out :=
        if o.drive = .active then { o with edge := s.epochAfter j (s.now k) } else { o with clearAt := ((o.clearAt : Int) + d).toNat }
      ((s.modOut j f).obsAdd 42 1).raise (SYN_OUT_STICKY_STEP_S j)
    else s) s

/-! ## Alignment (R244) -/

/-- An output feedback record: its signed difference to the nearest epoch instant, in 62.5 fs. A masked record and one whose
calibration failed carry no time (R19, R95). -/
def State.feedback (s : State) (r : Rec) : State :=
  let j := r.srcidx
  if s.synAway || !s.bit (SYN_OUT_CFG_ALIGN_EN j) || decide (24 ≤ j) || r.calfail || r.masked then s
  else
    let p := s.outPeriod j
    let o := (((s.out j).phase : Int) : Rat) * s.tVco j
    let v : Rat := (s.stampOf (s.get (SYN_OUT_CFG_TS j)) r.phase : Rat)
    let d := if p = 0 then 0 else v - o - ((rndNear ((v - o) / p) : Int) : Rat) * p
    s.modOut j (fun x => { x with diffs := x.diffs ++ [d * 16000 / (nsUnit : Rat)] })

/-- After `ALIGN_N` records: the mean to `AERR`, and the target of `ATRIM` moved against it. -/
def State.alignUpdate (s : State) (j : Nat) : State :=
  let n := s.get (SYN_OUT_ACFG_ALIGN_N j)
  let o := s.out j
  if s.synAway || n == 0 || decide (o.diffs.length < n) then s
  else
    let aerr := clampInt (-(2 ^ 31)) (2 ^ 31 - 1) (rnd (meanRat (o.diffs.take n)))
    let want := o.atrimTo - rndNear (((aerr : Int) : Rat) / 16)
    let goal := clampInt (-511) 511 want
    let bad := decide (s.get (SYN_OUT_ACFG_ALIGN_LIM j) * 16 ≤ aerr.natAbs)
    let s := s.setOut j { o with diffs := o.diffs.drop n, atrimTo := goal, bad := bad, good := !bad }
    let s := (s.setS (SYN_OUT_AERR_AERR j) aerr).obsAdd 43 1
    let s := if bad then s.set (SYN_OUT_STAT_ALIGNED j) 0 else s.alignedCheck j
    (s.raiseIf (bad || decide (goal ≠ want)) (SYN_OUT_STICKY_ALIGN_S j)).evalOutput j

/-! ## Actions (R251, R253) -/

/-- Ask an output for an action that fires now, with its journal record; it acts on the first period boundary 64 ns or
more on. The answer is false where it is refused, which sets `TNS_OUT_S`. -/
def State.outAct (s : State) (j : Nat) (a : OutAct) (rec : List Nat) : State × Bool :=
  let st := s.get (SYN_OUT_STAT_OSTATE j)
  let no := s.synAway || (match a with
    | .phaseAdd _ | .phaseTo _ => false
    | .gateOff | .gateOn => st == osOff
    | .reload b => st == osOff || !s.setDeclared j b)
  if no then (s.raise (SYN_OUT_STICKY_TNS_OUT_S j), false)
  else
    let s := match a with
      | .phaseAdd d => s.setS (SYN_OUT_PHASE_OUT_PHASE j) (s.getS (SYN_OUT_PHASE_OUT_PHASE j) + d)
      | .reload b => s.setB (SYN_OUT_CFG_SET j) b
      | _ => s
    ((s.modOut j (fun o => { o with acts := o.acts ++ [(a, s.coarse + 128, rec)] })).showPend j, true)

/-- A write of `OUT_PHASE`, `SET` or `TRIM` has changed the register: a step or reload follows like a tense action. -/
def State.phaseWritten (s : State) (j : Nat) : State :=
  ((s.modOut j (fun o => { o with acts := o.acts ++ [(.phaseTo (s.getS (SYN_OUT_PHASE_OUT_PHASE j)), s.coarse + 128, [])] })).showPend j)
def State.setWritten (s : State) (j : Nat) : State :=
  ((s.modOut j (fun o => { o with acts := o.acts ++ [(.reload (s.bit (SYN_OUT_CFG_SET j)), s.coarse + 128, [])] })).showPend j)
def State.trimWritten (s : State) (j : Nat) : State :=
  let t := s.getS (SYN_OUT_TRIM_TRIM j)
  (s.modOut j (fun o => { o with trimTo := t })).setB (SYN_OUT_STAT_TRIMMING j)
    (decide ((s.out j).trim ≠ t) || decide (s.getS (SYN_OUT_TRIM_ATRIM j) ≠ (s.out j).atrimTo))

/-- A phase step on an output: the due edge moves, and is omitted where it would fall within 2 VCO periods after the
edge before it. An output that is not RUNNING takes the value at its next start. -/
def State.stepPhase (s : State) (j : Nat) (dest : Int) : State :=
  let o := s.out j
  if s.get (SYN_OUT_STAT_OSTATE j) ≠ osRunning then s.setOut j { o with phase := dest }
  else
    let near := decide ((((dest - o.phase : Int)) : Rat) + s.ratio j o.setB < 2)
    ((s.setOut j { o with phase := dest, omitted := near }).obsAdd 42 1).raise (SYN_OUT_STICKY_STEP_S j)

/-- One action at its period boundary. -/
def State.applyAct (s : State) (j : Nat) (a : OutAct) : State :=
  match a with
  | .phaseAdd d => s.stepPhase j ((s.out j).phase + d)
  | .phaseTo v => s.stepPhase j v
  | .reload b => (s.modOut j (fun o => { o with setB := b })).setB (SYN_OUT_STAT_SET_ACT j) b
  | .gateOff =>
    let s := s.set SYN_GATE_GATE_OFF (setBitAt (s.get SYN_GATE_GATE_OFF) j)
    if s.get (SYN_OUT_STAT_OSTATE j) = osRunning then (s.set (SYN_OUT_STAT_OSTATE j) osGated).raise (SYN_OUT_STICKY_GATE_S j) else s
  | .gateOn =>
    let s := s.set SYN_GATE_GATE_OFF (clearBitAt (s.get SYN_GATE_GATE_OFF) j)
    if s.get (SYN_OUT_STAT_OSTATE j) = osGated ∧ s.sqCause j = 0 then
      let v := if s.bit (SYN_OUT_CFG_TS_EN j) then s.now (s.get (SYN_OUT_CFG_TS j)) else 0
      ((s.modOut j (fun o => { o with clearAt := v })).set (SYN_OUT_STAT_OSTATE j) osRunning).raise (SYN_OUT_STICKY_RUN_S j)
    else s

/-- Order of the actions that meet at one boundary: reload, step, gate (R253). -/
def OutAct.rank : OutAct → Nat
  | .reload _ => 0
  | .phaseAdd _ | .phaseTo _ => 1
  | .gateOff | .gateOn => 2

/-- The actions due at one boundary, in one rank: a host write first, then the tense actions (R253). -/
def actsOf (l : List (OutAct × Nat × List Nat)) (k : Nat) : List (OutAct × Nat × List Nat) :=
  let r := l.filter (fun a => a.1.rank == k)
  r.filter (fun a => a.2.2.isEmpty) ++ r.filter (fun a => !a.2.2.isEmpty)

/-- A host write and a tense action met at the boundary: the register shows what they make together (R253). -/
def State.actsShown (s : State) (j k : Nat) (l : List (OutAct × Nat × List Nat)) : State :=
  let r := l.filter (fun a => a.1.rank == k)
  if r.all (fun a => a.2.2.isEmpty) || r.all (fun a => !a.2.2.isEmpty) || (s.out j).acts.any (fun a => a.1.rank == k) then s
  else if k = 0 then s.setB (SYN_OUT_CFG_SET j) (s.out j).setB
  else s.setS (SYN_OUT_PHASE_OUT_PHASE j) (s.out j).phase

/-- A period boundary of an output: the actions of rank up to `r` that are due act, in that order. -/
def State.outBoundary (s : State) (j r : Nat) : State :=
  let due (a : OutAct × Nat × List Nat) : Bool := decide (a.2.1 ≤ s.coarse) && decide (a.1.rank ≤ r)
  let l := (s.out j).acts.filter due
  let s := s.modOut j (fun o => { o with acts := o.acts.filter (fun a => !due a) })
  let go (k : Nat) (s : State) : State := (actsOf l k).foldl (fun s a => (s.applyAct j a.1).journal a.2.2 0x10) s
  ((((go 2 (go 1 (go 0 s))).actsShown j 0 l).actsShown j 1 l).showPend j).evalOutput j

/-- A word of SYN's indirect space (R255): the factory band table is not in the manual (log entry 22). -/
def State.synWord (s : State) (a : Nat) : Nat :=
  let m := a / 0x10000
  let o := a % 0x10000
  if 4 ≤ m then 0
  else if o = 0 then (s.apll m).ld % 2 ^ 24
  else if o = 4 then s.nNom m % 2 ^ 32
  else if o = 8 then s.nNom m / 2 ^ 32 % 2 ^ 32
  else if o = 12 then s.nNom m / 2 ^ 64
  else if o = 16 then s.get (SYN_APLL_STAT_BAND m) + 256 * (s.apll m).tune
  else if 0x100 ≤ o ∧ o ≤ 0x2FC ∧ o % 4 = 0 then Config.bandEdge m ((o - 0x100) / 4) % 2 ^ 32
  else 0

/-- A write of the detector settings takes effect only while the APLL is OFF. -/
def State.synWrite (s : State) (a v : Nat) : State :=
  let m := a / 0x10000
  if m < 4 ∧ a % 0x10000 = 0 ∧ s.astate m = apOff then s.setApll m { s.apll m with ld := v % 2 ^ 24 } else s

end Sys2Proof.Machine
end

