-- ==== Sys2Proof/Machine/Port.lean ====
section
/-!
DEFINITION. The Ethernet ports' lines: link state, the instants of R276, and what leaves a port (R285 – R288, R295).
-/
namespace Sys2Proof.Machine
open Sys2Proof

/-- The port is enabled, powered and in no reset. -/
def State.portLive (s : State) (p : Nat) : Bool :=
  s.bit (ETH_CFG_EN p) && s.domainUp (10 + p / 4) && !s.unitInRst 13 && !s.unitInRst (20 + p / 4)

/-- The port is UP (R287); and UP with its quad's transmit PLL locked, so that it transmits (R288). -/
def State.portUp (s : State) (p : Nat) : Bool := s.portLive p && s.bit (ETH_STAT_LINK p)
def State.portTx (s : State) (p : Nat) : Bool := s.portUp p && s.bit (ETH_QUAD_QTX_LOCK (p / 4))

/-- A frame leaves a port. -/
def State.sendEth (s : State) (w : Wire) : State := (s.emitWire w).obsAdd 49 1

/-- The PCS holds lock and auto-negotiation, where the port uses it, is complete (R287). -/
def State.linkOf (s : State) (p : Nat) (pcs an : Bool) : Bool := pcs && (s.get (ETH_CFG_MODE p) != 0 || !s.bit (ETH_CFG_AN_EN p) || an)

/-- The PCS lock and auto-negotiation of a port become `pcs` and `an`; a port that is not UP, as one in reset or without power is not,
holds its SyncE slot lost (R85, R287). -/
def State.linkChange (s : State) (p : Nat) (pcs an : Bool) : State :=
  let pcs := pcs && s.portLive p
  let an := an && s.portLive p
  let up := s.linkOf p pcs an
  let was := s.bit (ETH_STAT_LINK p)
  let s := ((s.setB (ETH_STAT_PCS_LOCK p) pcs).setB (ETH_STAT_AN_DONE p) an).setB (ETH_STAT_LINK p) up
  let s := if up then s else s.srcLoss (32 + p)
  if up = was then s else (s.obsAdd 55 1).raise (ETH_STICKY_LINK_S p)

/-- `LINK` follows a change of `AN_EN` (R287). -/
def State.linkFollow (s : State) (p : Nat) : State :=
  let pcs := s.bit (ETH_STAT_PCS_LOCK p)
  let an := s.bit (ETH_STAT_AN_DONE p)
  if s.linkOf p pcs an == s.bit (ETH_STAT_LINK p) then s else s.linkChange p pcs an

/-- The ports of quad `q` lose lock: it is in reset, or without power. -/
def State.quadFall (s : State) (q : Nat) : State := (List.range 4).foldl (fun s i => s.linkChange (4 * q + i) false false) s

/-- A quad's transmit PLL loses, and regains, lock (R288). -/
def State.quadLoss (s : State) (q : Nat) : State :=
  if s.bit (ETH_QUAD_QTX_LOCK q) then (s.set (ETH_QUAD_QTX_LOCK q) 0).raise ETH_STICKY_QUAD_S else s
def State.quadLock (s : State) (q : Nat) : State := s.set (ETH_QUAD_QTX_LOCK q) 1

/-- Fixed parts of R276 in 62.5 fs units: ingress, egress. -/
def State.macDelay (s : State) (p : Nat) : Int × Int :=
  match s.get (ETH_CFG_MODE p) with
  | 0 => (5644800, 6656000)
  | 1 => (1433600, 1689600)
  | _ => if s.bit (ETH_CFG_FEC p) then (3443200, 3193600) else (640000, 755200)

/-- One unit interval of the port's line in 62.5 fs units. -/
def State.portUi (s : State) (p : Nat) : Rat :=
  match s.get (ETH_CFG_MODE p) with
  | 0 => 12800
  | 1 => 51200 / 33
  | _ => 20480 / 33

/-- The instant of the message timestamp point at the wanted plane, from what the PCS measured (R276). -/
def State.ingressAt (s : State) (p : Nat) (x : PcsTime) : Int :=
  (x.t : Int) - (s.macDelay p).1 - rnd (s.portUi p * (x.var : Rat) / 64) - s.getS (TME_PORT_ADJ_RX_ADJ p)
def State.egressAt (s : State) (p : Nat) (x : PcsTime) : Int :=
  (x.t : Int) + (s.macDelay p).2 + rnd (s.portUi p * (x.var : Rat) / 64) - s.getS (TME_PORT_ADJ_TX_ADJ p)

/-- The scale a port stamps on, and an instant's stamp there in ns. -/
def State.portScale (s : State) (p : Nat) : Nat := s.get (TME_PORT_CFG_TS p)
def nsOf (v : Nat) : Rat := (v : Rat) / ((2 ^ 48 : Nat) : Rat)
def State.portStamp (s : State) (p : Nat) (t : Int) : Nat := s.stampOf (s.portScale p) t

/-- The instant lies at or after the step of scale `k` (R265, R271). -/
def State.afterStep (s : State) (k : Nat) (t : Int) : Bool :=
  match (s.scale k).stepAt with
  | none => false
  | some c => decide ((c : Int) * 8000 ≤ t)

end Sys2Proof.Machine
end

