-- ==== Sys2Proof/Machine/Ptp.lean ====
section
/-!
DEFINITION. The PTP engine: admission, exchanges, sessions and their states, negotiation, dataset comparison, session
groups and packet records (R296 – R311).
-/
namespace Sys2Proof.Machine
open Sys2Proof

/-! ## Admission (R303) -/

/-- A token bucket's level after the time since it was last read: `rate` tokens per second, `depth` deep, in units of
1/(2·10^9) token. -/
def refill (lvl at_ now rate depth : Nat) : Nat := min (depth * 2000000000) (lvl + (now - at_) * rate)

/-- Set a sticky bit of a session: its `PTP_SESS_EVT` bit follows, and the event is one of source 80. -/
def State.sessSticky (s : State) (n bit : Nat) : State :=
  let s := s.setCtxWord n 30 (setBitAt (s.ctxWord n 30) bit)
  (s.set (PTP_SESS_EVT_PEND (n / 32)) (setBitAt (s.get (PTP_SESS_EVT_PEND (n / 32))) (n % 32))).eventOnly 80

/-- A saturating 16-bit count in a context word. -/
def State.ctxSat (s : State) (n w lo : Nat) : State := s.setCtxFld n w lo 16 (min 65535 (s.ctxFld n w lo 16 + 1))

/-- Take a token of the session's bucket. -/
def State.sessToken (s : State) (n : Nat) : State × Bool :=
  let x := s.sess n
  let l := refill x.lvl x.lvlAt s.coarse 256 32
  if 2000000000 ≤ l then (s.setSess n { x with lvl := l - 2000000000, lvlAt := s.coarse }, true)
  else (s.setSess n { x with lvl := l, lvlAt := s.coarse }, false)

/-- Take a token of the aggregate bucket of event messages. -/
def State.aggToken (s : State) : State × Bool :=
  let l := refill s.ptp.lvl s.ptp.lvlAt s.coarse 131072 4096
  if 2000000000 ≤ l then ({ s with ptp := { s.ptp with lvl := l - 2000000000, lvlAt := s.coarse } }, true)
  else ({ s with ptp := { s.ptp with lvl := l, lvlAt := s.coarse } }, false)

/-- Admit an event message to the engine: the aggregate limiter before the context pool. -/
def State.admitEvent (s : State) (n : Nat) : State × Bool :=
  let r := s.aggToken
  if !r.2 then (((r.1.satAdd PTP_DROP_AGG_DROP 1).obsAdd 61 1).raise PTP_STICKY_OVERLOAD_S, false)
  else if 2048 ≤ r.1.ctxHeld then
    ((((r.1.ctxSat n 28 0).satAdd PTP_DROP_CTX_DROP 1).obsAdd 62 1).raise PTP_STICKY_CTX_FULL_S, false)
  else ({ r.1 with ptp := { r.1.ptp with evts := r.1.ptp.evts + 1 } }, true)

/-- A received message of a session is admitted, or dropped and counted. -/
def State.admitRx (s : State) (n : Nat) (evt : Bool) : State × Bool :=
  let r := s.sessToken n
  if !r.2 then ((r.1.ctxSat n 28 16).sessSticky n 4, false)
  else if !evt then (r.1.obsAdd 58 1, true)
  else
    let a := r.1.admitEvent n
    if a.2 then ((a.1.setCtxWord n 26 (a.1.ctxWord n 26 + 1)).obsAdd 56 1, true) else a

/-- Send a message of a session, if its port transmits and the limits admit it; the answer says whether it went. -/
def State.sendPtp (s : State) (n : Nat) (evt : Bool) (m : PtpOut) : State × Bool :=
  let p := (s.sess n).port
  if !s.portTx p then (s, false)
  else
    let r := s.sessToken n
    if !r.2 then r
    else if !evt then (r.1.sendEth (.ptp n p m), true)
    else
      let a := r.1.admitEvent n
      if a.2 then (((a.1.setCtxWord n 27 (a.1.ctxWord n 27 + 1)).obsAdd 57 1).sendEth (.ptp n p m), true) else a

/-- Take the next `sequenceId` of a session. -/
def State.seqTx (s : State) (n : Nat) : Nat := s.ctxFld n 12 16 16
def State.seqNext (s : State) (n : Nat) : State := s.setCtxFld n 12 16 16 (s.seqTx n + 1)

/-! ## Session groups (R307, R310) -/

/-- The group's loss report to the qualifier (R121, R310), once in a tick (R312). -/
def State.groupLoss (s : State) (g : Nat) : State :=
  if (s.grp g).lossTick = some s.tick then s
  else
    let s := s.setGrp g { s.grp g with lossTick := some s.tick }
    (s.raise (PTP_GRP_STICKY_LOSS_S g)).lowerLoss (56 + g) ((s.coarse : Int) * 8000)

/-- Judge a group after its members have changed: ACTIVE while a contributing member is RUNNING; leaving ACTIVE and a
change of grandmaster report loss, and the change withholds records (R310). -/
def State.groupEval (s : State) (g : Nat) : State :=
  if !s.bit (PTP_GRP_CFG_EN g) then s
  else
    let l := s.contributing g
    let s := s.set (PTP_GRP_STAT_RUNNING g) l.length
    let x := s.grp g
    match x.gm, l with
    | none, [] => s
    | none, n :: _ =>
      ((s.setGrp g { x with gm := some (s.gmId n), epoch := none, got := [], usedAt := s.coarse }).set (PTP_GRP_STAT_GSTATE g) 1).set (PTP_GRP_STAT_GM_CLASS g)
        (s.ctxFld n 16 8 8)
    | some _, [] =>
      let active := s.bit (PTP_GRP_STAT_GSTATE g)
      let s := ((s.setGrp g { x with gm := none, epoch := none, got := [] }).set (PTP_GRP_STAT_GSTATE g) 0).set (PTP_GRP_STAT_HOLDING g) 0
      if active then s.groupLoss g else s
    | some a, n :: _ =>
      let s := s.set (PTP_GRP_STAT_GM_CLASS g) (s.ctxFld n 16 8 8)
      if a = s.gmId n then s
      else
        let s := ((s.setGrp g { x with gm := some (s.gmId n), epoch := none, got := [], holdAt := s.coarse }).set (PTP_GRP_STAT_GSTATE g) 0).set (PTP_GRP_STAT_HOLDING g) 1
        (s.raise (PTP_GRP_STICKY_GM_CHG_S g)).groupLoss g

/-- Judge the group of a session. -/
def State.sessGroup (s : State) (n : Nat) : State :=
  let x := s.sess n
  if x.role = 0 ∧ x.flag 0 29 then s.groupEval x.group else s

/-! ## Session states (R299) -/

/-- The session enters a state; `SESS_TO` runs from its entry to WAIT or NEGOTIATING (R299). -/
def State.setSstate (s : State) (n st : Nat) : State :=
  let s := if st = ssnWait ∨ st = ssnNegotiating then s.modSess n (fun x => { x with okAt := s.coarse }) else s
  (s.setCtxFld n 12 0 3 st).sessGroup n

/-- A confirmed success. -/
def State.success (s : State) (n : Nat) : State :=
  let s := s.modSess n (fun x => { x with okTick := some s.tick, okAt := s.coarse })
  if s.sstate n = ssnWait ∨ s.sstate n = ssnLost then s.setSstate n ssnRunning else s

/-- Grant types a session asks for (R301). -/
def Sess.needs (x : Sess) : List Nat :=
  if x.role = 0 then (if x.flag 0 10 then [0, 1] else [0, 1, 2]) else [0]

/-- The logarithmic interval a grant type concerns. -/
def Sess.logInt (x : Sess) (type : Nat) : Int :=
  signed 8 (if type = 0 then x.fld 1 16 8 else if type = 1 then x.fld 1 0 8 else x.fld 1 8 8)

/-- A grant type is asked for since a coarse count; it stays so until the grant is held. -/
def Sess.ask (x : Sess) (type c : Nat) : Sess := { x with asks := x.asks.filter (fun a => a.1 != type) ++ [(type, c)] }
def Sess.asking (x : Sess) (type : Nat) : Bool := x.asks.any (fun a => a.1 == type)

/-- Ask for a grant. -/
def State.askGrant (s : State) (n type : Nat) : State :=
  let x := s.sess n
  let s := s.setSess n (x.ask type s.coarse)
  (s.sendPtp n false (.request type (x.logInt type) (x.fld 9 0 16))).1

/-- A MASTER that is never timed out: multicast, or unicast without negotiation. -/
def Sess.freeMaster (x : Sess) : Bool := x.role == 1 && (!x.flag 0 8 || !x.flag 0 9)

/-- `VALID` rises: the engine reads the context and starts the session (R298, R299). -/
def State.sessionStart (s : State) (n : Nat) : State :=
  let w := (List.range 11).map (s.ctxWord n)
  let s := s.setSess n { Sess.idle with on := true, w := w, lvl := 32 * 2000000000, lvlAt := s.coarse, annAt := s.coarse }
  let s := s.setCtxFld n 12 6 1 0
  let x := s.sess n
  if x.flag 0 9 && (x.role == 0 || x.role == 2) then
    x.needs.foldl (fun s t => s.askGrant n t) (s.setSstate n ssnNegotiating)
  else s.setSstate n (if x.freeMaster then ssnRunning else ssnWait)

/-- `VALID` falls: contexts are freed and grants cancelled (R299). -/
def State.sessionStop (s : State) (n : Nat) : State :=
  let l := (s.sess n).grants
  let s := l.foldl (fun s g => (s.sendPtp n false (.cancel g.type)).1) s
  let s := s.modSess n (fun x => { x with syncs := [], dreqs := [], last := none, grants := [], asks := [] })
  (s.setSstate n ssnDisabled).modSess n (fun x => { x with on := false })

/-- The engine compares `VALID` with what it runs. -/
def State.sessionCheck (s : State) (n : Nat) : State :=
  let v := s.ctxFld n 0 0 1 == 1
  if s.unitInRst 14 then s
  else if v && !(s.sess n).on then s.sessionStart n
  else if !v && (s.sess n).on then s.sessionStop n
  else s

/-! ## Exchanges (R300) -/

/-- An exchange is rejected. -/
def State.reject (s : State) (n : Nat) : State := ((s.ctxSat n 29 0).obsAdd 60 1).sessSticky n 3

/-- `MPD_MAX` in ns, `ASYM` in ns. -/
def Sess.mpdMax (x : Sess) : Rat := (x.fld 9 16 16 : Rat) * 1000
def Sess.asym (x : Sess) : Rat := ((signed 32 (x.w.getD 10 0) : Int) : Rat) / 16000

/-- An exchange is accepted: the context words, the success, and the group's share of it (R307). -/
def State.accept (s : State) (n : Nat) (sy : SyncX) (mpd ofs : Rat) : State :=
  let o := unsigned 64 (rnd (ofs * 16000))
  let s := (((s.setCtxWord n 21 o).setCtxWord n 22 (o / 2 ^ 32)).setCtxWord n 23 (rnd (mpd * 1000)).toNat).setCtxFld n 24 0 16 s.tick16
  let s := if s.ctxFld n 12 6 1 = 1 then s.success n else s
  let x := s.sess n
  let g := x.group
  if x.flag 0 29 && (s.contributing g).contains n && s.bit (PTP_GRP_STAT_GSTATE g) && !s.bit (PTP_GRP_STAT_HOLDING g) then
    s.setGrp g { s.grp g with got := (s.grp g).got ++ [⟨sy.t2 - sy.b2 - ofs, ofs, mpd⟩] }
  else s

/-- Judge a one-way exchange. -/
def State.oneWay (s : State) (n : Nat) (sy : SyncX) (t1 : Rat) : State :=
  let x := s.sess n
  if s.portFrozen x.port then s
  else s.accept n sy 0 (sy.t2 - t1 - sy.c - x.asym)

/-- Judge a delay exchange whose four times are known. -/
def State.delayExchange (s : State) (n : Nat) (sy : SyncX) (t1 : Rat) (d : DreqX) (t4 : Rat) : State :=
  let x := s.sess n
  let mpd := ((sy.t2 - d.t3) + (t4 - t1) - sy.c - d.c) / 2
  if s.portFrozen x.port then s
  else if sy.side ≠ d.side then (s.reject n).sessSticky n 6
  else if mpd < 0 ∨ x.mpdMax < mpd then s.reject n
  else s.accept n sy mpd (sy.t2 - t1 - mpd - sy.c - x.asym)

/-- Delay exchanges of a session that have all their times complete; their contexts, and their Syncs', are freed. -/
def State.completeDelays (s : State) (n : Nat) : State :=
  let x := s.sess n
  let ready (d : DreqX) : Option (SyncX × Rat × Rat) :=
    match d.sy, d.t4 with
    | some sy, some t4 => sy.t1.map (fun t1 => (sy, t1, t4))
    | _, _ => none
  let done := x.dreqs.filter (fun d => (ready d).isSome)
  let used (y : SyncX) : Bool := done.any (fun d => match d.sy with | some sy => sy.seq == y.seq && decide (sy.t2 = y.t2) | none => false)
  let s := s.setSess n { x with dreqs := x.dreqs.filter (fun d => (ready d).isNone), syncs := x.syncs.filter (fun y => !used y) }
  done.reverse.foldl (fun s d => match ready d with | some (sy, t1, t4) => s.delayExchange n sy t1 d t4 | none => s) s

/-- A Sync's t1 and correction are known. -/
def State.syncKnown (s : State) (n seq : Nat) (t1 c : Rat) : State :=
  let x := s.sess n
  match x.syncs.find? (fun y => y.seq == seq && y.t1.isNone) with
  | none => s
  | some y =>
    let y' := { y with t1 := some t1, c := y.c + c }
    let upd (z : SyncX) : SyncX := if z.seq = seq ∧ z.t2 = y.t2 then y' else z
    if x.flag 0 10 then
      (s.setSess n { x with syncs := x.syncs.filter (fun z => !(z.seq == seq && decide (z.t2 = y.t2))) }).oneWay n y' t1
    else
      (s.setSess n { x with syncs := x.syncs.map upd, last := x.last.map upd, dreqs := x.dreqs.map (fun d => { d with sy := d.sy.map upd }) }).completeDelays n

/-- A correctionField in ns. -/
def PtpHdr.c (h : PtpHdr) : Rat := ((h.corr.toInt : Int) : Rat) / 65536

/-- A PTP timestamp in ns. -/
def PtpTime.ns' (t : PtpTime) : Rat := ((t.sec.toNat * 1000000000 + t.ns.toNat : Nat) : Rat)

/-- The sender's clock is the session's partner, `PARTNER_ID` (R300). -/
def State.fromPartner (s : State) (n : Nat) (h : PtpHdr) : Bool := h.id.toNat == s.ctxWord n 13 * 2 ^ 32 + s.ctxWord n 14

/-- The session takes messages of the role at all: enabled, its port UP, PTP and port in no reset. -/
def State.sessTakes (s : State) (n role : Nat) : Bool :=
  let x := s.sess n
  x.on && x.role == role && s.portUp x.port && !s.unitInRst 14

/-- A SLAVE takes a Sync (R300). -/
def State.syncReceive (s : State) (n : Nat) (h : PtpHdr) (twoStep : Bool) (origin : PtpTime) (at_ : PcsTime) : State :=
  let r := s.admitRx n true
  if !r.2 then r.1
  else
    let s := r.1
    if !s.fromPartner n h then s.reject n
    else
      let p := (s.sess n).port
      let t := s.ingressAt p at_
      let y : SyncX :=
        { seq := h.seq.toNat, t2 := nsOf (s.portStamp p t), b2 := (t : Rat) / 16000, side := s.afterStep (s.portScale p) t, t1 := none, c := h.c,
          since := s.coarse }
      let s := s.modSess n (fun x => { x with syncs := y :: x.syncs, last := some y })
      let s := s.hwm PTP_CTX_HWM_HWM s.ctxHeld
      if twoStep then s else s.syncKnown n h.seq.toNat origin.ns' 0

/-- A SLAVE pairs a Follow_Up with its Sync. -/
def State.followUpReceive (s : State) (n : Nat) (h : PtpHdr) (origin : PtpTime) : State :=
  let r := s.admitRx n false
  if !r.2 then r.1
  else if !r.1.fromPartner n h then
    (r.1.modSess n (fun x => { x with syncs := x.syncs.filter (fun y => !(y.seq == h.seq.toNat && y.t1.isNone)) })).reject n
  else r.1.syncKnown n h.seq.toNat origin.ns' h.c

/-- A SLAVE sends a Delay_Req and takes t3. -/
def State.delayReqSend (s : State) (n : Nat) (at_ : PcsTime) : State :=
  let x := s.sess n
  if !s.sessTakes n 0 || x.flag 0 10 || s.sstate n < ssnWait || s.sessFrozen n || (x.flag 0 9 && !x.granted 2 s.coarse) then s
  else
    let q := s.seqTx n
    let r := s.sendPtp n true (.delayReq q)
    if !r.2 then r.1
    else
      let s := r.1.seqNext n
      let t := s.egressAt x.port at_
      let t3 := nsOf (s.portStamp x.port t)
      let sy := (x.last.toList ++ x.syncs).find? (fun y => decide ((y.b2 * 16000 : Rat) < (t : Rat)))
      let s := s.modSess n (fun x => { x with dreqs := ⟨q, t3, s.afterStep (s.portScale x.port) t, sy, none, 0, s.coarse⟩ :: x.dreqs })
      s.hwm PTP_CTX_HWM_HWM s.ctxHeld

/-- A SLAVE pairs a Delay_Resp, whose requestingPortIdentity names the session, with its Delay_Req. -/
def State.delayRespReceive (s : State) (n : Nat) (h : PtpHdr) (recv : PtpTime) (reqId : BitVec 64) (reqPort : BitVec 16) : State :=
  let r := s.admitRx n false
  if !r.2 then r.1
  else
    let s := r.1
    let own := s.get PTP_CLOCK_ID_LO_CLOCK_ID + 2 ^ 32 * s.get PTP_CLOCK_ID_HI_CLOCK_ID
    if reqId.toNat ≠ own ∨ reqPort.toNat ≠ (s.sess n).fld 7 0 16 then s
    else if !(s.sess n).dreqs.any (fun d => d.seq == h.seq.toNat) then s
    else if !s.fromPartner n h then
      (s.modSess n (fun x => { x with dreqs := x.dreqs.filter (fun d => d.seq != h.seq.toNat) })).reject n
    else
      let s := s.modSess n (fun x => { x with dreqs := x.dreqs.map (fun d => if d.seq = h.seq.toNat then { d with t4 := some recv.ns', c := h.c } else d) })
      s.completeDelays n

/-- A MASTER answers a Delay_Req with its ingress stamp (R302); a negotiating one only under a grant. -/
def State.delayReqReceive (s : State) (n : Nat) (h : PtpHdr) (at_ : PcsTime) : State :=
  let r := s.admitRx n true
  if !r.2 then r.1
  else
    let s := r.1
    let x := s.sess n
    if x.flag 0 9 && !x.granted 2 s.coarse then s
    else
      let v := s.portStamp x.port (s.ingressAt x.port at_)
      (s.sendPtp n false (.delayResp h.seq.toNat v h.id.toNat h.port.toNat h.corr.toInt)).1

/-- A message context was taken 1 s ago, in the present tick or before (R300, R303). -/
def State.aged (s : State) (since : Nat) : Bool := s.dueBy (since + 2000000000)

/-- A Follow_Up or Delay_Resp has not come within 1 s of its event message: the exchange is rejected (R300). -/
def State.exchangeTimeout (s : State) (n seq : Nat) (dreq : Bool) : State :=
  let x := s.sess n
  let lateD (d : DreqX) : Bool := d.seq == seq && d.t4.isNone && s.aged d.since
  let lateY (y : SyncX) : Bool := y.seq == seq && y.t1.isNone && s.aged y.since
  if s.sessFrozen n then s
  else if dreq then
    if x.dreqs.any lateD then (s.setSess n { x with dreqs := x.dreqs.filter (fun d => !lateD d) }).reject n else s
  else if x.syncs.any lateY then
    let of (d : DreqX) : Bool := match d.sy with | some y => lateY y | none => false
    let k := Nat.max 1 (x.dreqs.filter of).length
    let s := s.setSess n { x with syncs := x.syncs.filter (fun y => !lateY y), dreqs := x.dreqs.filter (fun d => !of d) }
    (List.range k).foldl (fun s _ => s.reject n) s
  else s

/-- A context held for 1 s is freed (R303); one that still waits for its answer is rejected with it. -/
def State.contextExpiry (s : State) (n seq : Nat) (dreq : Bool) : State :=
  if s.sessFrozen n then s
  else
    let s := s.exchangeTimeout n seq dreq
    if dreq then s.modSess n (fun x => { x with dreqs := x.dreqs.filter (fun d => !(d.seq == seq && s.aged d.since)) })
    else s.modSess n (fun x => { x with syncs := x.syncs.filter (fun y => !(y.seq == seq && s.aged y.since)) })

/-! ## Announce (R304 – R306) -/

/-- The session's context keeps a taken Announce message (R302). -/
def State.keepAnnounce (s : State) (n : Nat) (m : AnnMsg) : State :=
  let s := s.setCtxFld n 12 6 1 1
  let s := (s.setCtxWord n 13 (m.hdr.id.toNat / 2 ^ 32)).setCtxWord n 14 m.hdr.id.toNat
  let s := s.setCtxWord n 15 (m.hdr.port.toNat + 2 ^ 16 * m.steps.toNat)
  let s := s.setCtxWord n 16 (m.prio1.toNat + 2 ^ 8 * m.cls.toNat + 2 ^ 16 * m.acc.toNat + 2 ^ 24 * m.prio2.toNat)
  let s := s.setCtxWord n 17 (m.var.toNat + 2 ^ 16 * m.tsrc.toNat + 2 ^ 24 * m.flags.toNat)
  ((s.setCtxWord n 18 (m.gmId.toNat / 2 ^ 32)).setCtxWord n 19 m.gmId.toNat).setCtxWord n 20 m.utc.toNat

/-- The best-master comparison is due at the boundary. -/
def State.bmcaDue (s : State) : State := { s with ptp := { s.ptp with bmca := true } }

/-- An accepted Announce: `ANN_OK`, the partner and its dataset; a LISTEN session's success; a comparison is due. -/
def State.announceReceive (s : State) (n : Nat) (m : AnnMsg) : State :=
  let r := s.admitRx n false
  if !r.2 then r.1
  else
    let s := ((r.1.keepAnnounce n m).bmcaDue).modSess n (fun x => { x with annAt := s.coarse })
    (if (s.sess n).role = 2 then s.success n else s).sessGroup n

/-- The Announce budget of a session in coarse counts: `ANN_RX_TO` × 2^`LOG_ANN` s (R304). -/
def Sess.annBudget (x : Sess) : Nat :=
  let l := signed 8 (x.fld 1 16 8)
  let b := x.fld 1 24 8 * 2000000000
  if 0 ≤ l then b * 2 ^ l.toNat else b / 2 ^ (-l).toNat

/-- The session's capture of this tick is its own: source 80, in this tick. -/
def State.sessCaptured (s : State) : Bool :=
  s.bit (BLK_FLT_FIRST_V 14) && s.get (BLK_FLT_FIRST_SRC 14) == 80 && s.get (BLK_FLT_FIRST_TICK 14) == s.tick16

/-- The Announce budget of a session has run out in the present tick or before (R304); it runs anew from here (DESIGN CHOICE, log
entry 56). A session timeout captured in the tick has it as its cause (R37). -/
def State.announceTimeout (s : State) (n : Nat) : State :=
  let x := s.sess n
  if !x.on || x.role == 1 || s.sessFrozen n || !s.dueBy (x.annAt + x.annBudget) then s
  else
    let s := ((s.setCtxFld n 12 6 1 0).ctxSat n 29 16).sessSticky n 0
    let s := { s with ptp := { s.ptp with bmca := true } }
    let s := s.modSess n (fun x => { x with toTick := some s.tick, annAt := x.annAt + x.annBudget })
    let s := if x.lostTick = some s.tick && s.sessCaptured then s.captureCause 14 80 else s
    if x.flag 0 9 then s.askGrant n 0 else s

/-- `SESS_TO` has passed since the last confirmed success (R299, R36), in the present tick or before: LOST, unless a success falls in
the same tick (R312); an Announce receipt timeout of the tick, which is the same source, is the recorded cause. -/
def State.sessionTimeout (s : State) (n : Nat) : State :=
  let x := s.sess n
  let st := s.sstate n
  if !x.on || x.freeMaster || s.sessFrozen n || st = ssnDisabled || st = ssnLost || x.okTick = some s.tick
      || !s.dueBy (x.okAt + x.fld 8 0 32 * 2000000) then s
  else
    let s := ((s.sessSticky n 1).setSstate n ssnLost).modSess n (fun x => { x with lostTick := some s.tick })
    if x.toTick = some s.tick && s.sessCaptured then s.captureCause 14 80 else s

/-- The local dataset: `PTP_LOCAL_DS` with the UTC fields of a scale; the last three flags have no source the manual
names (log entry 9). -/
def State.localDs (s : State) (k : Nat) : Dset :=
  let u := (s.scale k).utc
  { prio1 := s.get PTP_LOCAL_DS0_PRIO1, cls := s.get PTP_LOCAL_DS0_CLASS, acc := s.get PTP_LOCAL_DS0_ACC, prio2 := s.get PTP_LOCAL_DS0_PRIO2,
    var := s.get PTP_LOCAL_DS1_VAR, tsrc := s.get PTP_LOCAL_DS1_TSRC,
    flags := ofBool u.leap61 + 2 * ofBool u.leap59 + 4 * ofBool u.valid + 8 * (s.fresh % 8),
    gmId := s.get PTP_CLOCK_ID_LO_CLOCK_ID + 2 ^ 32 * s.get PTP_CLOCK_ID_HI_CLOCK_ID, steps := 0, utc := unsigned 16 u.ofs }

/-- The dataset a session has received. -/
def State.rxDs (s : State) (n : Nat) : Dset :=
  { prio1 := s.ctxFld n 16 0 8, cls := s.ctxFld n 16 8 8, acc := s.ctxFld n 16 16 8, prio2 := s.ctxFld n 16 24 8,
    var := s.ctxFld n 17 0 16, tsrc := s.ctxFld n 17 16 8, flags := s.ctxFld n 17 24 6, gmId := s.gmId n,
    steps := s.ctxFld n 15 16 16, utc := s.ctxFld n 20 0 16 }

/-- The dataset a MASTER announces (R306). -/
def State.announceDs (s : State) (n : Nat) : Dset :=
  let x := s.sess n
  let own := s.localDs (s.portScale x.port)
  if x.flag 0 11 then
    match s.grpRunning (x.fld 7 16 5) with
    | m :: _ => { s.rxDs m with steps := (s.rxDs m).steps + 1 }
    | [] => own
  else own

/-- A MASTER may send a message of a grant type: RUNNING, and granted if it negotiates. -/
def State.mayServe (s : State) (n type : Nat) : Bool :=
  let x := s.sess n
  s.sessTakes n 1 && s.sstate n == ssnRunning && !s.sessFrozen n && (x.freeMaster || x.granted type s.coarse)

/-- A MASTER sends an Announce. -/
def State.announceSend (s : State) (n : Nat) : State :=
  if !s.mayServe n 0 then s
  else
    let r := s.sendPtp n false (.announce (s.seqTx n) (s.announceDs n))
    if r.2 then (r.1.seqNext n).took else r.1

/-- A MASTER sends a Sync, one-step or with its Follow_Up (R302). -/
def State.syncSend (s : State) (n : Nat) (at_ : PcsTime) : State :=
  if !s.mayServe n 1 then s
  else
    let x := s.sess n
    let q := s.seqTx n
    let v := s.portStamp x.port (s.egressAt x.port at_)
    let two := x.flag 0 7
    let r := s.sendPtp n true (.sync q two (if two then 0 else v))
    if !r.2 then r.1
    else
      let s := r.1.seqNext n
      if two then (s.sendPtp n false (.followUp q v)).1 else s

/-! ## Unicast negotiation (R301) -/

/-- Hold a grant of `dur` seconds. -/
def Sess.hold (x : Sess) (type dur now : Nat) : Sess :=
  { x with grants := x.grants.filter (fun g => g.type != type) ++ [⟨type, now + dur * 2000000000, dur * 2000000000⟩], asks := x.asks.filter (fun a => a.1 != type) }

/-- One TLV of a Signaling message. -/
def State.takeTlv (s : State) (n : Nat) (t : NegTlv) : State :=
  let x := s.sess n
  match t with
  | .request ty li du =>
    if x.role ≠ 1 ∨ !x.flag 0 9 then s
    else if x.logInt ty.val ≤ li.toInt ∧ du.toNat ≤ x.fld 9 0 16 ∧ du.toNat ≠ 0 then
      let s := s.setSess n (x.hold ty.val du.toNat s.coarse)
      (s.sendPtp n false (.grant ty.val li.toInt du.toNat)).1.success n
    else (s.sendPtp n false (.grant ty.val li.toInt 0)).1
  | .grant ty _ du =>
    if x.role = 1 ∨ !x.flag 0 9 then s
    else if du.toNat = 0 then
      (if x.asking ty.val then s else s.setSess n (x.ask ty.val s.coarse)).sessSticky n 5
    else
      let x := x.hold ty.val du.toNat s.coarse
      let s := s.setSess n x
      if s.sstate n = ssnNegotiating ∧ x.needs.all (fun t => x.grants.any (fun g => g.type == t)) then s.setSstate n ssnWait else s
  | .cancel ty =>
    let x := { x with grants := x.grants.filter (fun g => g.type != ty.val) }
    let s := s.setSess n (if x.role ≠ 1 ∧ !x.asking ty.val then x.ask ty.val s.coarse else x)
    (s.sendPtp n false (.ackCancel ty.val)).1
  | .ackCancel _ => s

/-- A Signaling message with negotiation TLVs. -/
def State.signalingReceive (s : State) (n : Nat) (l : List NegTlv) : State :=
  let r := s.admitRx n false
  if r.2 then l.foldl (fun s t => s.takeTlv n t) r.1 else r.1

/-- A grant of which a quarter remains is renewed. -/
def State.grantRenew (s : State) (n type : Nat) : State :=
  let x := s.sess n
  if x.on && x.role != 1 && !s.sessFrozen n && !x.asking type && x.grants.any (fun g => g.type == type && s.dueBy (g.till - g.dur / 4)) then
    s.askGrant n type
  else s

/-- A refused or unanswered request is repeated 1 s after it. -/
def State.grantRetry (s : State) (n type : Nat) : State :=
  let x := s.sess n
  if x.on && !s.sessFrozen n && x.asks.any (fun a => a.1 == type && s.aged a.2) then (s.askGrant n type).sessSticky n 5 else s

/-- Grants of a unicast MASTER expire; with none left it returns to WAIT. -/
def State.grantExpiry (s : State) (n : Nat) : State :=
  let x := s.sess n
  if x.on && x.role == 1 && x.flag 0 8 && x.flag 0 9 && !s.sessFrozen n then
    let l := x.grants.filter (fun g => !s.dueBy g.till)
    let s := s.setSess n { x with grants := l }
    if s.sstate n = ssnRunning ∧ l = [] then s.setSstate n ssnWait else s
  else s

/-- Seconds of the shortest grant that remain (word 25). -/
def State.grantLeft (s : State) (n : Nat) : Nat :=
  match (s.sess n).grants.map (fun g => (g.till - s.coarse) / 2000000000) with
  | [] => 0
  | a :: t => t.foldl min a

/-! ## Dataset comparison (R305; IEEE 1588-2019 clause 9.3 and the alternate BMCA, log entry 23) -/

/-- A dataset compared: its session, local priority, sender's identity and port, receiver's port; the local clock's
identity is every receiver's. -/
structure BmcaDs where
  sess  : Nat
  ds    : Dset
  lprio : Nat
  from_ : Nat × Nat
  port  : Nat
  deriving DecidableEq, Repr

/-- Lexicographic order of two lists: -1, 0, 1 for less, equal, greater. -/
def lexCmp : List Nat → List Nat → Int
  | [], [] => 0
  | [], _ => -1
  | _, [] => 1
  | a :: s, b :: t => if a < b then -1 else if b < a then 1 else lexCmp s t

/-- Comparison by topology: 2 a better, 1 a better by topology, 0 neither, and negative for b. `own` is the receiver's
identity. -/
def topoCmp (own : Nat) (a b : BmcaDs) : Int :=
  if b.ds.steps + 1 < a.ds.steps then -2
  else if a.ds.steps + 1 < b.ds.steps then 2
  else if a.ds.steps = b.ds.steps + 1 then (if own < a.from_.1 then -2 else if a.from_.1 < own then -1 else 0)
  else if b.ds.steps = a.ds.steps + 1 then (if own < b.from_.1 then 2 else if b.from_.1 < own then 1 else 0)
  else
    lexCmp [b.from_.1, b.from_.2, b.port] [a.from_.1, a.from_.2, a.port]

/-- The comparison of two datasets. -/
def dsCmp (alt : Bool) (own : Nat) (a b : BmcaDs) : Int :=
  if alt then
    let c := lexCmp [a.ds.cls, a.ds.acc, a.ds.var, a.ds.prio2, a.lprio] [b.ds.cls, b.ds.acc, b.ds.var, b.ds.prio2, b.lprio]
    if c ≠ 0 then -2 * c
    else if a.ds.cls ≤ 127 ∨ a.ds.gmId = b.ds.gmId then topoCmp own a b
    else if a.ds.gmId < b.ds.gmId then 2 else -2
  else if a.ds.gmId = b.ds.gmId then topoCmp own a b
  else
    -2 * lexCmp [a.ds.prio1, a.ds.cls, a.ds.acc, a.ds.var, a.ds.prio2, a.ds.gmId] [b.ds.prio1, b.ds.cls, b.ds.acc, b.ds.var, b.ds.prio2, b.ds.gmId]

/-- The best of a list. -/
def dsBest (alt : Bool) (own : Nat) : List BmcaDs → Option BmcaDs
  | [] => none
  | a :: t => some (t.foldl (fun b c => if 0 < dsCmp alt own c b then c else b) a)

/-- The state decision for one port: 1 SLAVE, 2 PASSIVE, 3 MASTER (0 in place of MASTER for a slave-only clock). -/
def recommend (alt : Bool) (own : Nat) (slaveOnly : Bool) (d0 : BmcaDs) (best : Option BmcaDs) (r : Option BmcaDs) (n : Nat) : Nat :=
  let master := if slaveOnly then 0 else 3
  let beats (x : Option BmcaDs) : Bool := match x with | none => true | some b => decide (0 < dsCmp alt own d0 b)
  if d0.ds.cls ≤ 127 then (if beats r then master else 2)
  else if beats best then master
  else match best with
    | none => master
    | some b =>
      if b.sess = n then 1
      else match r with
        | none => master
        | some x => if dsCmp alt own b x = 1 then 2 else master

/-- The sessions of the compared domain, and the one's dataset. -/
def State.inDomain (s : State) (n : Nat) : Bool :=
  let x := s.sess n
  x.profile != 3 && x.fld 0 16 8 == s.get PTP_BMCA_DOMAIN
def State.bmcaDs (s : State) (n : Nat) : Option BmcaDs :=
  let x := s.sess n
  if s.ctxFld n 12 6 1 = 1 ∧ (x.role = 0 ∨ x.role = 2) then
    some ⟨n, s.rxDs n, x.fld 2 12 8, (s.ctxWord n 13 * 2 ^ 32 + s.ctxWord n 14, s.ctxFld n 15 0 16), x.fld 7 0 16⟩
  else none

/-- A session's recommendation is written. -/
def State.putRec (s : State) (n v : Nat) : State := if s.ctxFld n 12 3 3 = v then s else (s.setCtxFld n 12 3 3 v).sessSticky n 2

/-- The comparison runs: `EBEST`, `EBEST_V` and every session's `REC_STATE`. -/
def State.bmcaRun (s : State) : State :=
  let alt := s.bit PTP_BMCA_ALG
  let d := s.localDs (s.get PTP_LOCAL_DS2_TS)
  let own := d.gmId
  let d0 : BmcaDs := ⟨0, d, s.get PTP_LOCAL_DS1_LPRIO, (own, 0), 0⟩
  let l := s.openSess.filter s.inDomain
  let best := dsBest alt own (l.filterMap s.bmcaDs)
  let v := match best with | none => false | some b => decide (0 < dsCmp alt own b d0)
  let e := match best with | none => s.get PTP_BMCA_EBEST | some b => b.sess
  let rec' := l.map (fun n => (n, recommend alt own (s.bit PTP_LOCAL_DS2_SLAVE_ONLY) d0 best (s.bmcaDs n) n))
  let chg := decide (e ≠ s.get PTP_BMCA_EBEST) || v != s.bit PTP_BMCA_EBEST_V
  let s := ((s.set PTP_BMCA_EBEST e).setB PTP_BMCA_EBEST_V v).obsAdd 63 1
  let s := rec'.foldl (fun s r => s.putRec r.1 r.2) s
  s.raiseIf chg PTP_STICKY_EBEST_S

/-! ## Groups' timers and records (R308 – R311) -/

/-- No used exchange for `MISS_TO` ms in ACTIVE, which end in the present tick or before; the time runs anew from there (DESIGN CHOICE,
log entry 56). -/
def State.missingExchange (s : State) (g : Nat) : State :=
  let x := s.grp g
  let d := x.usedAt + s.get (PTP_GRP_CFG_MISS_TO g) * 2000000
  if !s.bit (PTP_GRP_STAT_GSTATE g) || s.unitInShadow 14 || s.groupFrozen g || !s.dueBy d then s
  else ((s.setGrp g { x with usedAt := d }).noteMissing (56 + g) ((d : Int) * 8000)).raise (PTP_GRP_STICKY_MISS_S g)

/-- `GMHOLD` seconds after a grandmaster change the group re-enters ACTIVE with a new E. -/
def State.gmholdExpiry (s : State) (g : Nat) : State :=
  let x := s.grp g
  if !s.bit (PTP_GRP_STAT_HOLDING g) || s.unitInShadow 14 || !s.dueBy (x.holdAt + s.get (PTP_GRP_CFG_GMHOLD g) * 2000000000) then s
  else ((s.setGrp g { x with epoch := none, got := [], usedAt := s.coarse }).set (PTP_GRP_STAT_HOLDING g) 0).set (PTP_GRP_STAT_GSTATE g) 1

/-- The gate of R308 over the exchanges of a tick, oldest first: those used, the last 64 path delays, those gated. -/
def gateFold (gate : Nat) : List GrpX → List Rat → List GrpX × List Rat × Nat
  | [], m => ([], m, 0)
  | x :: t, m =>
    let ok := gate = 0 || (match m with | [] => true | a :: r => decide (x.mpd ≤ r.foldl min a + (gate : Rat)))
    if ok then
      let r := gateFold gate t ((x.mpd :: m).take 64)
      (x :: r.1, r.2.1, r.2.2)
    else
      let r := gateFold gate t m
      (r.1, r.2.1, r.2.2 + 1)

/-- What a packet servo job left takes effect at the commit (R20): nothing of the exchanges of a grandmaster that has changed since. -/
def State.servoDone (s : State) (g n : Nat) (gm : Option Nat) (mpds : List Rat) (epoch : Option Int) (seq : Nat) : State :=
  let x := s.grp g
  if x.gm ≠ gm ∨ x.got.length < n then s.setGrp g { x with seq := seq }
  else s.setGrp g { x with got := x.got.drop n, mpds := mpds, epoch := epoch, seq := seq, usedAt := if seq = x.seq then x.usedAt else s.coarse }

/-- The packet servo job of group `g`: one record for the exchanges used this tick. What it writes waits for the commit, and an
overrun of the slot discards it (R20, R26, R28); the record reaches the slot's next qualify job (R308). -/
def State.packetServo (s : State) (g : Nat) : State :=
  let x := s.grp g
  if s.unitInRst 9 || s.unitInRst 14 || x.got.isEmpty then s
  else
    let r := gateFold (s.get (PTP_GRP_GATE_MPD_GATE g)) x.got x.mpds
    let own := 16 + 56 + g
    let s := s.emit own (.count (PTP_GRP_CNT_GATED g) r.2.2)
    match r.1 with
    | [] => s.emit own (.servo g x.got.length x.gm x.mpds x.epoch x.seq)
    | u :: t =>
      let used := u :: t
      let e : Int := match x.epoch with | some e => e | none => rndDown (u.v / 1000000000)
      let ph := rnd (meanRat (used.map (fun y => (y.v - (e : Rat) * 1000000000) * 16000)))
      let z := used.getLastD u
      let masked := s.unitInShadow 14
      let rec' : Rec :=
        { slot := 56 + g, lane := 126, kind := 8, dfact := 0, calGerr := 0, seq := x.seq, ovf := false, decim := false, calfail := false,
          masked := masked, first := x.epoch.isNone, win := false, pwf := false, calOfs := 0, coarse := 0, fine := 0, phase := ph,
          edges := used.length, width := 0, tick := s.tick16, srcidx := 0 }
      let put64 (lo hi : Fld) (v : Int) : List Ev := [.put lo (unsigned 64 v), .put hi (unsigned 64 v / 2 ^ 32)]
      let s := s.emitAll own ([.servo g x.got.length x.gm r.2.1 (some e) ((x.seq + 1) % 65536), .count (PTP_GRP_CNT_USED g) used.length, .obs 59 used.length]
        ++ put64 (PTP_GRP_OFS_LO_OFS g) (PTP_GRP_OFS_HI_OFS g) (rnd (z.ofs * 16000)) ++ [.put (PTP_GRP_MPD_MPD g) (rnd (z.mpd * 1000)).toNat]
        ++ put64 (PTP_GRP_EPOCH_LO_EPOCH g) (PTP_GRP_EPOCH_HI_EPOCH g) e ++ put64 (PTP_GRP_PHASE_LO_PHASE g) (PTP_GRP_PHASE_HI_PHASE g) ph
        ++ (if masked then [.obs 22 1] else []))
      s.setQslot (56 + g) { s.qslot (56 + g) with inbox := (s.qslot (56 + g)).inbox ++ [rec'] }

/-- The rank of a group's slot (R309). -/
def State.groupRank (s : State) (g : Nat) : Nat :=
  match (s.grp g).gm with
  | none => 15
  | some _ =>
    let c := s.get (PTP_GRP_STAT_GM_CLASS g)
    match (List.range 16).find? (fun k => s.bit (PTP_CLASSMAP_V k) && s.get (PTP_CLASSMAP_CLASS k) == c) with
    | some k => s.get (PTP_CLASSMAP_RANK k)
    | none => 15

/-- A tick boundary, `dt` coarse counts after the last: frozen timers are held, a due comparison runs, ranks are
formed, and the second's event messages are reported. -/
def State.ptpBoundary (s : State) (sec : Bool) (dt : Nat) : State :=
  let late (x : Sess) : Sess :=
    { x with grants := x.grants.map (fun g => { g with till := g.till + dt }), asks := x.asks.map (fun a => (a.1, a.2 + dt)),
             syncs := x.syncs.map (fun y => { y with since := y.since + dt }), dreqs := x.dreqs.map (fun d => { d with since := d.since + dt }),
             okAt := x.okAt + dt, annAt := x.annAt + dt }
  let s := s.openSess.foldl (fun s n => if s.sessFrozen n then s.modSess n late else s) s
  let s := if s.unitInShadow 14 then
      { s with ptp := { s.ptp with grp := s.ptp.grp.map (fun e => (e.1, { e.2 with usedAt := e.2.usedAt + dt, holdAt := e.2.holdAt + dt })) } }
    else s
  if s.unitInRst 14 then s
  else
    let s := if s.ptp.bmca then { s with ptp := { s.ptp with bmca := false } }.bmcaRun else s
    let s := (List.range 32).foldl (fun s g => if s.bit (PTP_GRP_CFG_EN g) then s.set (PTP_GRP_STAT_RANK g) (s.groupRank g) else s) s
    if sec then { s.set PTP_LOAD_EVT_RATE s.ptp.evts with ptp := { s.ptp with evts := 0 } } else s

/-- A reset of the PTP engine discards the message contexts (R311); at its release `VALID` is compared again. -/
def State.ptpReset (s : State) : State :=
  { s with ptp := { s.ptp with sess := s.ptp.sess.map (fun e => (e.1, { e.2 with syncs := [], dreqs := [], last := none })) } }
def State.ptpRelease (s : State) : State := (List.range 512).foldl (fun s n => s.sessionCheck n) s

/-- A word of the PTP indirect space as it reads (R298). -/
def State.ptpRead (s : State) (a : Nat) : Nat :=
  let n := a / 256
  let w := a % 256 / 4
  if 512 ≤ n ∨ 30 < w ∨ w = 11 then 0 else if w = 25 then s.grantLeft n % 65536 else s.ctxWord n w

/-- Bits of a context word that are fields the host writes. -/
def ctxMask (w : Nat) : Nat :=
  match w with
  | 0 => 0x7FFFFFFF | 7 => 0x1FFFFF | _ => if w ≤ 10 then 0xFFFFFFFF else 0

/-- A host write of the PTP indirect space: configuration words, and W1C of word 30. -/
def State.ptpWrite (s : State) (a v : Nat) : State :=
  let n := a / 256
  let w := a % 256 / 4
  if 512 ≤ n then s
  else if w = 30 then
    let o := s.ctxWord n 30
    let s := s.setCtxWord n 30 (o - (o &&& v))
    if s.ctxWord n 30 = 0 then s.set (PTP_SESS_EVT_PEND (n / 32)) (clearBitAt (s.get (PTP_SESS_EVT_PEND (n / 32))) (n % 32)) else s
  else if w ≤ 10 then
    let s := s.setCtxWord n w (v &&& ctxMask w)
    if w = 0 then s.sessionCheck n else s
  else s

/-- The session takes the message: it is for its role, and the engine runs. -/
def State.consumes (s : State) (n : Nat) : PtpIn → Bool
  | .sync .. | .followUp .. | .delayResp .. => s.sessTakes n 0
  | .delayReq .. => s.sessTakes n 1 && s.sstate n == ssnRunning
  | .announce _ => s.sessTakes n 0 || s.sessTakes n 2
  | .signaling _ => s.sessTakes n 0 || s.sessTakes n 1 || s.sessTakes n 2

/-- A message reaches its session. -/
def State.ptpReceive (s : State) (n : Nat) (m : PtpIn) : State :=
  if !s.consumes n m then s
  else match m with
    | .sync h t o a => s.syncReceive n h t o a
    | .followUp h o => s.followUpReceive n h o
    | .delayReq h a => s.delayReqReceive n h a
    | .delayResp h r i p => s.delayRespReceive n h r i p
    | .announce a => s.announceReceive n a
    | .signaling l => s.signalingReceive n l

end Sys2Proof.Machine
end

