-- ==== Sys2Proof/Machine/Eth.lean ====
section
/-!
DEFINITION. ESMC, received frames and host frames of the Ethernet ports (R286, R289 – R295, R314).
-/
namespace Sys2Proof.Machine
open Sys2Proof

/-! ## ESMC (R289 – R292) -/

/-- A valid ESMC PDU of a port with `ESMC_EN` 1: its codes, and `ESMC_OK`. -/
def State.esmcTake (s : State) (p ssm : Nat) (ext : Option Nat) : State :=
  let s := { s with eth := { s.eth with esmcTick := tabPut none s.eth.esmcTick p (some s.tick), esmcAt := tabPut 0 s.eth.esmcAt p s.coarse } }
  let s := ((s.set (ETH_STAT_ESMC_OK p) 1).set (ETH_STAT_RX_SSM p) ssm).setB (ETH_STAT_RX_EXT p) ext.isSome
  let s := match ext with | some e => s.set (ETH_STAT_RX_ECODE p) e | none => s
  s.obsAdd 53 1

/-- An ESMC PDU arrives at a port that handles them. -/
def State.esmcReceive (s : State) (p ssm : Nat) (ext : Option Nat) : State :=
  if !s.portUp p then s
  else
    let s := s.obsAdd 48 1
    if s.bit (ETH_CFG_ESMC_EN p) then s.esmcTake p ssm ext else s

/-- No valid PDU for 5 s, in the present tick or before: `ESMC_OK` falls, unless a PDU has come in this tick (R291, R312). -/
def State.esmcTimeout (s : State) (p : Nat) : State :=
  if s.bit (ETH_STAT_ESMC_OK p) && !s.portFrozen p && tabGet none s.eth.esmcTick p != some s.tick
      && s.dueBy (tabGet 0 s.eth.esmcAt p + 10000000000) then
    (s.set (ETH_STAT_ESMC_OK p) 0).raise (ETH_STICKY_ESMC_FAIL_S p)
  else s

/-- The rank of slot 32 + p (R290). -/
def State.ethRank (s : State) (p : Nat) : Nat :=
  if !s.bit (ETH_STAT_ESMC_OK p) then 15
  else
    let e := s.get (ETH_STAT_RX_ECODE p)
    let hit := if s.bit (ETH_STAT_RX_EXT p) then (List.range 4).find? (fun k => s.bit (ETH_EQL_V k) && s.get (ETH_EQL_ECODE k) == e) else none
    match hit with
    | some k => s.get (ETH_EQL_RANK k)
    | none =>
      let o := s.get (ETH_CFG_OPTION p)
      let c := s.get (ETH_STAT_RX_SSM p)
      if c < 8 then bitsAt (s.get (ETH_QLMAP_LO_RANK o)) (4 * c) 4 else bitsAt (s.get (ETH_QLMAP_HI_RANK o)) (4 * (c - 8)) 4

/-- The channel uses a slot: it is `CUR`, or a member with weight (R292). -/
def State.chanUses (s : State) (c n : Nat) : Bool :=
  (s.get (SEL_STAT_SSTATE c) != ssCombining && s.get (SEL_STAT_CUR c) == n) || (s.get (SEL_STAT_SSTATE c) == ssCombining && (s.weightedSlots c).contains n)

/-- A tick boundary at port `p`, `dt` coarse counts after the last: the time of a port in reset-shadow is held, the rank is formed,
and whether 0xF is sent. -/
def State.ethBoundary (s : State) (dt p : Nat) : State :=
  let s := if s.portFrozen p then { s with eth := { s.eth with esmcAt := tabPut 0 s.eth.esmcAt p (tabGet 0 s.eth.esmcAt p + dt) } } else s
  if s.unitInRst 13 || !s.bit (ETH_CFG_EN p) then s
  else
    let s := s.linkFollow p
    let r := s.ethRank p
    let chg := r != s.get (ETH_STAT_RANK p)
    let dnu := s.bit (ETH_CFG_DNU_AUTO p) && s.chanUses (s.get (ETH_CFG_TX_CHAN p)) (32 + p)
    ((s.set (ETH_STAT_RANK p) r).setB (ETH_STAT_TX_DNU p) dnu).raiseIf chg (ETH_STICKY_QL_CHG_S p)

/-- The codes a port sends. -/
def State.esmcCodes (s : State) (p : Nat) : Nat × Option Nat :=
  (if s.bit (ETH_STAT_TX_DNU p) then 15 else s.get (ETH_TXSSM_TX_SSM p),
   if s.bit (ETH_CFG_ESMC_EXT p) then some (s.get (ETH_TXSSM_TX_ECODE p)) else none)

/-- Send an ESMC PDU. -/
def State.esmcSend (s : State) (p : Nat) (event : Bool) : State :=
  let c := s.esmcCodes p
  let s := { s with eth := { s.eth with sent := tabPut none s.eth.sent p (some c) } }
  (s.sendEth (.esmc p event c.1 c.2)).obsAdd 54 1

/-- An information PDU, in tick 0 of a second of the primary time scale. -/
def State.esmcInfo (s : State) (p : Nat) : State :=
  if s.bit (ETH_CFG_ESMC_EN p) && s.portTx p && s.tickIndex == 0 then s.esmcSend p false else s

/-- An event PDU, once the codes differ from those last sent. -/
def State.esmcEvent (s : State) (p : Nat) : State :=
  match tabGet none s.eth.sent p with
  | none => s
  | some c => if s.bit (ETH_CFG_ESMC_EN p) && s.portTx p && c != s.esmcCodes p then s.esmcSend p true else s

/-- The codes of an ESMC PDU (R289): SSM, and the enhanced code when its TLV is present. -/
def parseEsmc (f : List Byte) : Option (Nat × Option Nat) :=
  let b (i : Nat) : Nat := (f.getD i 0).toNat
  if beNat (f.take 6) = 0x0180C2000002 ∧ beNat ((f.drop 12).take 2) = 0x8809 ∧ b 14 = 0x0A ∧ beNat ((f.drop 15).take 3) = 0x0019A7
      ∧ beNat ((f.drop 18).take 2) = 1 ∧ b 24 = 1 ∧ 28 ≤ f.length then
    some (b 27 % 16, if b 28 = 2 ∧ 32 ≤ f.length then some (b 31) else none)
  else none

/-! ## Received frames (R286, R293, R294) -/

/-- A port's MAC address. -/
def State.portMac (s : State) (p : Nat) : Nat := s.get (ETH_MAC_LO_MAC p) + 2 ^ 32 * s.get (ETH_MAC_HI_MAC p)

/-- The host takes frames to this destination: the port's, broadcast or multicast. -/
def State.forHost (s : State) (p : Nat) (f : List Byte) : Bool :=
  bitAt ((f.getD 0 0).toNat) 0 || beNat (f.take 6) == s.portMac p

/-- FRAME_RX has a device-owned descriptor for one item more. -/
def State.frameRoom (s : State) : Bool :=
  s.bit (HIF_RING_CFG_RING_EN 0) && s.ownAt (s.descAt 0 ((s.ringIdx 0 + s.hif.held.length) % s.ringSize 0))

/-- The port's token bucket of 64 KiB, `HRATE` Mb/s, in 1/2000 bit: a frame of `n` bytes takes its bits. -/
def State.hostToken (s : State) (p n : Nat) : State × Bool :=
  let cap := 524288 * 2000
  let l0 := match tabGet none s.eth.lvl p with | some l => l | none => cap
  let l := min cap (l0 + (s.coarse - tabGet 0 s.eth.lvlAt p) * s.get (ETH_HRATE_HRATE p))
  let ok := decide (n * 8 * 2000 ≤ l)
  ({ s with eth := { s.eth with lvl := tabPut none s.eth.lvl p (some (if ok then l - n * 16000 else l)), lvlAt := tabPut 0 s.eth.lvlAt p s.coarse } }, ok)

/-- A frame on its way to the host (R293, R294). -/
def State.frameToHost (s : State) (p : Nat) (f : List Byte) (at_ : PcsTime) : State :=
  if !s.forHost p f then s
  else
    let r := s.hostToken p (f.length + 4)
    let s := r.1
    let v := s.portStamp p (s.ingressAt p at_)
    if r.2 && s.frameRoom then (s.postFrameRx p v f).obsAdd 51 1
    else
      let s := if r.2 && s.bit (HIF_RING_CFG_RING_EN 0) then s.ringDrop 0 else s
      ((s.satAdd (ETH_CNT_HDROP p) 1).obsAdd 52 1).raise (ETH_STICKY_HDROP_S p)

/-- A frame arrives: bytes from the destination address to the last before the FCS, whether the FCS is good, its
instant, and the session's message it holds if it matches one. -/
def State.frameReceive (s : State) (p : Nat) (f : List Byte) (fcs : Bool) (at_ : PcsTime) (m : Option (Nat × PtpIn)) : State :=
  if !s.portUp p then s
  else
    let s := s.obsAdd 48 1
    if !fcs ∨ f.length + 4 < 64 ∨ 9216 < f.length + 4 then
      ((s.satAdd (ETH_CNT_RXERR p) 1).obsAdd 50 1).raise (ETH_STICKY_RXERR_S p)
    else
      match (if s.bit (ETH_CFG_ESMC_EN p) then parseEsmc f else none) with
      | some (ssm, ext) => s.esmcTake p ssm ext
      | none =>
        match m with
        | some (n, x) => if (s.sess n).port = p ∧ s.consumes n x then s.ptpReceive n x else s.frameToHost p f at_
        | none => s.frameToHost p f at_

/-- A frame that holds a message of session `n` arrives on the session's port. -/
def State.messageReceive (s : State) (n : Nat) (m : PtpIn) : State :=
  if s.portUp (s.sess n).port then (s.obsAdd 48 1).ptpReceive n m else s

/-! ## Host frames (R295, R385) -/

/-- The status of a FRAME_TX descriptor (R383). -/
def State.txStatus (s : State) (d : Desc) : Nat :=
  firstStatus [(!s.portUp d.port, 1), (decide (d.len < 60) || decide (9212 < d.len), 2), (d.badBuf, 3)]

/-- The FRAME_TX item in progress leaves its port at `at_`, or is refused. A port that is UP and whose quad's PLL is
out of lock keeps the item waiting (R288). -/
def State.hostFrameTx (s : State) (at_ : PcsTime) : State :=
  match s.itemOf 1 with
  | none => s
  | some d =>
    let st := s.txStatus d
    if st ≠ 0 then s.completeItem 1 d st
    else if !s.portTx d.port then s
    else
      let s := s.sendEth (.frame d.port (s.itemBytes d))
      let s := if d.tsreq then s.txEntry d.port d.id (s.portStamp d.port (s.egressAt d.port at_)) else s
      s.completeItem 1 d 0

/-! ## SerDes words (R314) -/

/-- Bits of a SerDes word a write reaches. -/
def serdesMask (o : Nat) : Nat := if o = 0 then 0x7FFF else if o = 4 then 0x7F else if o = 8 then 3 else 0

/-- A word of the ETH indirect space. What the last adaptation measured is a value the manual leaves open (log entry 9). -/
def State.ethRead (s : State) (a : Nat) : Nat :=
  let o := a % 0x10000
  if 16 ≤ a / 0x10000 then 0 else if o = 0x10 then s.fresh % 2 ^ 32 else if serdesMask o ≠ 0 then tabGet (tabGet 0 s.cfg.serdes a) s.eth.written a else 0

/-- A write of it; it takes effect at the port's next link restart. -/
def State.ethWrite (s : State) (a v : Nat) : State :=
  if 16 ≤ a / 0x10000 ∨ serdesMask (a % 0x10000) = 0 then s
  else { s with eth := { s.eth with written := tabPut (tabGet 0 s.cfg.serdes a) s.eth.written a (v &&& serdesMask (a % 0x10000)) } }

/-- A link restart takes the written words. -/
def State.serdesRestart (s : State) (p : Nat) : State :=
  [0, 4, 8].foldl (fun s o =>
    let a := p * 0x10000 + o
    { s with eth := { s.eth with serdes := tabPut (tabGet 0 s.cfg.serdes a) s.eth.serdes a (tabGet (tabGet 0 s.cfg.serdes a) s.eth.written a) } }) s

end Sys2Proof.Machine
end

