-- ==== Sys2Proof/Machine/Cjl.lean ====
section
/-!
DEFINITION. Conjunction Links: link states, roles, the tree, the echo exchange, frames, floods, identities and mail
(R318 – R344).
-/
namespace Sys2Proof.Machine
open Sys2Proof

def State.link (s : State) (k : Nat) : Link := tabGet Link.idle s.cjl.link k
def State.setLink (s : State) (k : Nat) (x : Link) : State := { s with cjl := { s.cjl with link := tabPut Link.idle s.cjl.link k x } }
def State.modLink (s : State) (k : Nat) (f : Link → Link) : State := s.setLink k (f (s.link k))

def ksOff : Nat := 0
def ksNoSync : Nat := 1
def ksSync : Nat := 2
def hsNone : Nat := 0
def hsMeasuring : Nat := 1
def hsGood : Nat := 2
def hsDegraded : Nat := 3

/-- The link is in word sync and CJL in no reset; this end initiates, or answers. -/
def State.linkSync (s : State) (k : Nat) : Bool := s.get (CJL_STAT_KSTATE k) == ksSync && !s.unitInRst 15
def State.initiates (s : State) (k : Nat) : Bool := s.linkSync k && s.bit (CJL_STAT_INIT k)
def State.answers (s : State) (k : Nat) : Bool := s.linkSync k && !s.bit (CJL_STAT_INIT k)

/-- The channel that disciplines the primary time scale. -/
def State.primaryChan (s : State) : Nat := s.scaleChan s.primary

/-! ## The tree (R325 – R327) -/

/-- The lower of two links by peer depth. -/
def State.nearer (s : State) (a b : Nat) : Nat := if s.get (CJL_PEER_PEER_DEPTH b) < s.get (CJL_PEER_PEER_DEPTH a) then b else a

/-- The link the primary channel takes its time from. -/
def State.uplinkNow (s : State) : Option Nat :=
  let c := s.primaryChan
  let isLink (n : Nat) : Bool := decide (48 ≤ n) && decide (n < 56)
  if s.get (SEL_STAT_SSTATE c) = ssCombining then
    match (List.range 8).filter (fun k => (s.weightedSlots c).contains (48 + k)) with
    | [] => none
    | a :: t => some (t.foldl s.nearer a)
  else
    let n := s.get (SEL_STAT_CUR c)
    if isLink n then some (n - 48) else none

/-- The uplink, as committed at the last tick boundary. -/
def State.isUplink (s : State) (k : Nat) : Bool := s.bit CJL_ROOT_UP_V && s.get CJL_ROOT_UPLINK == k

/-- The rank sent (R326). -/
def State.txRank (s : State) : Nat :=
  let c := s.primaryChan
  let st := s.get (SEL_STAT_SSTATE c)
  if st = ssTracking then s.slotRank (s.get (SEL_STAT_CUR c))
  else if st = ssCombining then
    match (s.weightedSlots c).map s.slotRank with
    | [] => s.get CJL_CTL_HO_RANK
    | a :: t => t.foldl min a
  else s.get CJL_CTL_HO_RANK

/-- The rank of slot 48 + k (R327). -/
def State.linkRank (s : State) (k : Nat) : Nat :=
  if s.bit (CJL_PEER_PEER_DNU k) || s.get (CJL_PEER_PEER_DEPTH k) == 15 || s.get (CJL_STAT_KSTATE k) != ksSync || !(s.link k).timeOk
      || s.get (CJL_CFG_ROLE k) == 2 || !s.bit (CJL_STAT_INIT k) || !s.bit (CJL_STAT_HOP_OK k) || !s.bit (CJL_STAT_TL_OK k) then 15
  else s.get (CJL_PEER_PEER_RANK k)

/-- Show what a link's registers report of it. -/
def State.showLink (s : State) (k : Nat) : State :=
  (s.set (CJL_STAT_RANK k) (s.linkRank k)).set (CJL_STAT_OUTST k) (s.link k).out.length

/-! ## Exchanges (R329 – R335) -/

/-- `HOP_D` as its register holds it. -/
def State.showHop (s : State) (k : Nat) : State := s.setS2 (CJL_HOP_D_LO_HOP_D k) (CJL_HOP_D_HI_HOP_D k) (rnd ((s.link k).hop * 16000))

/-- `ASYM` in ns. -/
def State.asymNs (s : State) (k : Nat) : Rat := ((s.getS (CJL_ASYM_ASYM k) : Int) : Rat) / 16000

/-- A void that is excused (R333). -/
def excused (code : Nat) : Bool := code == 4 || code == 5 || code == 9 || code == 10

/-- The echo level reports to the time layer: a give-up, or a third void. If the layer's own timeout was captured in the same tick,
the report is its cause (R37, R342). -/
def State.noteBad (s : State) (k : Nat) : State :=
  let s := s.modLink k (fun x => { x with badTick := some s.tick })
  if (s.link k).lostTick = some s.tick then s.captureCause 15 89 else s

/-- A void exchange: counted, and toward DEGRADED and the retry budget unless excused (R333 – R335). -/
def State.voidEcho (s : State) (k code : Nat) : State :=
  let s := ((s.satAdd (CJL_CNT_VOIDS k) 1).obsAdd 67 1).set (CJL_TICK_LASTVOID k) code
  let s := s.modLink k (fun x => { x with run := 0 })
  if excused code then s
  else
    let s := s.satAdd (CJL_TICK_VSTREAK k) 1
    let b := (s.link k).budget + 1
    let s := s.modLink k (fun x => { x with budget := b, retry := true, giveUp := x.giveUp || decide (s.get (CJL_CFG_ECHO_RETRY k) + 1 ≤ b) })
    if s.get (CJL_STAT_HSTATE k) = hsGood ∧ 3 ≤ s.get (CJL_TICK_VSTREAK k) then
      ((s.set (CJL_STAT_HSTATE k) hsDegraded).noteBad k).raise (CJL_STICKY_DEG_S k)
    else s

/-- Void every outstanding exchange with an excused code. -/
def State.voidAll (s : State) (k : Nat) : State :=
  let n := (s.link k).out.length
  (List.range n).foldl (fun s _ => s.voidEcho k 10) (s.modLink k (fun x => { x with out := [] }))

/-- This end initiates no longer, or word sync is lost: the hop state is NONE (R335). -/
def State.hopNone (s : State) (k : Nat) : State :=
  ((s.set (CJL_STAT_HSTATE k) hsNone).set (CJL_STAT_HOP_OK k) 0).modLink k (fun x => { x with run := 0, done := [], retry := false, budget := 0, giveUp := false })

/-- This end begins, or ceases, to initiate. -/
def State.setInit (s : State) (k : Nat) (b : Bool) : State :=
  if b = s.bit (CJL_STAT_INIT k) then s
  else if b then (((s.hopNone k).modLink k (fun x => { x with sinceR := 1023 })).set (CJL_STAT_INIT k) 1).set (CJL_STAT_HSTATE k) hsMeasuring
  else ((s.hopNone k).set (CJL_STAT_INIT k) 0).set (CJL_STAT_TL_OK k) 0

/-- A completed exchange of delay `d` and offset `th` (R332, R334, R335). -/
def State.echoDone (s : State) (k turn : Nat) (d th : Rat) : State :=
  let x := s.link k
  let l := ((d, th) :: x.done).take 16
  let s := s.setLink k { x with done := l, run := x.run + 1, budget := 0, retry := false, giveUp := false, doneTick := some s.tick, doneAt := s.coarse }
  let s := (((s.set (CJL_TURN_TURN k) turn).set (CJL_TICK_TICK k) s.tick16).set (CJL_TICK_VSTREAK k) 0).obsAdd 66 1
  let s := if s.bit (CJL_STAT_INIT k) then s.set (CJL_STAT_TL_OK k) 1 else s
  let md := meanRat (l.map (·.1)) - s.asymNs k
  let mt := rnd (meanRat (l.map (·.2)) * 16000)
  let st := s.get (CJL_STAT_HSTATE k)
  let tofs (s : State) : State := s.setS2 (CJL_TOFS_LO_TOFS k) (CJL_TOFS_HI_TOFS k) mt
  if st = hsMeasuring ∧ 16 ≤ x.run + 1 then
    tofs (((s.modLink k (fun x => { x with hop := md, hopTo := md })).showHop k).set (CJL_STAT_HSTATE k) hsGood |>.set (CJL_STAT_HOP_OK k) 1)
  else if st = hsDegraded ∧ 16 ≤ x.run + 1 then
    (tofs ((s.modLink k (fun x => { x with hopTo := md })).set (CJL_STAT_HSTATE k) hsGood)).raise (CJL_STICKY_DEG_S k)
  else if st = hsGood then tofs (s.modLink k (fun x => { x with hopTo := md }))
  else s

/-- The stamp of an instant (62.5 fs) on the primary scale, ns; and the side of its step. -/
def State.primStamp (s : State) (t : Int) : Rat := nsOf (s.stampOf s.primary t)
def State.primSide (s : State) (t : Int) : Bool := s.afterStep s.primary t

/-- CJL or the vernier bank is in reset-shadow (R333). -/
def State.echoShadow (s : State) : Bool := s.unitInShadow 15 || s.unitInShadow 19

/-- The coming slot is free for a request's frame, which its marker precedes immediately (R323, R329). -/
def Link.slotFree (x : Link) : Bool := x.rsps.isEmpty && x.reqs.isEmpty && decide (x.sinceT < 15)

/-- Send a request at the launch instant `t`: the marker goes out and the frame waits; with 64 outstanding it is
skipped (R329). -/
def State.echoSend (s : State) (k t : Nat) : State :=
  let x := s.link k
  if 64 ≤ x.out.length then ((s.setLink k { x with sinceR := 0 }).satAdd (CJL_CNT_SKIPS k) 1).obsAdd 68 1
  else
    let e : EchoX := ⟨x.eseq, s.primStamp t, s.primSide t, none, false, false, t / 8000, s.echoShadow⟩
    (s.setLink k { x with sinceR := 0, eseq := (x.eseq + 1) % 65536, out := x.out ++ [e], reqs := x.reqs ++ [x.eseq] }).emitWire (.marker k)

/-- A scheduled request, `ECHO_PER` slots after the one before; suspended while a retry is due (R329, R334). It waits for a slot that
is free for it. -/
def State.echoRequest (s : State) (k t : Nat) : State :=
  if s.initiates k && !(s.link k).retry && (s.link k).slotFree && decide (s.get (CJL_CFG_ECHO_PER k) ≤ (s.link k).sinceR) then (s.echoSend k t).showLink k else s

/-- A retry request, at least 4 slots after the request before (R334); none once the budget is spent (R36). -/
def State.echoRetry (s : State) (k t : Nat) : State :=
  if s.initiates k && (s.link k).retry && !(s.link k).giveUp && (s.link k).slotFree && decide (4 ≤ (s.link k).sinceR) then (s.echoSend k t).showLink k else s

/-- The budget is spent: the end gives up and restores its schedule (R334). -/
def State.echoGiveUp (s : State) (k : Nat) : State :=
  let x := s.link k
  if s.unitInShadow 15 || !x.giveUp then s
  else ((s.setLink k { x with giveUp := false, retry := false, budget := 0 }).noteBad k).raise (CJL_STICKY_GIVEUP_S k)

/-- `TL_TO` µs after the last completed exchange lies in the present tick, or before it. -/
def State.tlDue (s : State) (k : Nat) : Bool := s.dueBy ((s.link k).doneAt + s.get (CJL_TL_TO_TL_TO k) * 2000)

/-- `TL_TO` µs have passed since the last completed exchange (R334, R36): loss, unless one completes in the same tick (R342);
a give-up or third void of the tick is the recorded cause. -/
def State.tlTimeout (s : State) (k : Nat) : State :=
  let x := s.link k
  if s.unitInShadow 15 || !s.bit (CJL_STAT_TL_OK k) || x.doneTick == some s.tick || !s.tlDue k then s
  else
    let was := s.bit (BLK_FLT_FIRST_V 15)
    let s := ((s.set (CJL_STAT_TL_OK k) 0).raise (CJL_STICKY_TL_LOST_S k)).showLink k
    if was || !s.bit (BLK_FLT_FIRST_V 15) then s
    else
      let s := s.modLink k (fun x => { x with lostTick := some s.tick })
      if x.badTick = some s.tick then s.captureCause 15 89 else s

/-- Take the oldest echo record of a link, if its lane stamped the marker. -/
def State.takeEcho (s : State) (k : Nat) : State × Option Rec :=
  match s.echoIn.find? (fun r => r.srcidx == k) with
  | none => (s, none)
  | some r => ({ s with echoIn := s.echoIn.erase r }, some r)

/-- A response marker arrives (R330): it is counted and matched to the oldest request without one. A record masked by a
reset-shadow, or a failed calibration, gives no stamp. An end that has ceased to initiate completes what is outstanding (R342). -/
def State.responseMarker (s : State) (k : Nat) : State :=
  if !s.linkSync k || (!s.initiates k && (s.link k).out.isEmpty) then s
  else
    let r := s.takeEcho k
    let s := r.1
    let t4 := match r.2 with | some x => if x.masked || x.calfail then none else some x.phase | none => none
    let x := s.link k
    let stamp (e : EchoX) : EchoX :=
      match t4 with
      | some t => { e with seen := true, t4 := some (s.primStamp t), side4 := s.primSide t }
      | none => { e with seen := true }
    let i := x.out.findIdx (fun e => !e.seen)
    s.setLink k { x with rmc := (x.rmc + 1) % 65536, out := x.out.modify i stamp }

/-- A request marker arrives (R330): it is stamped, or not. -/
def State.echoMarker (s : State) (k : Nat) : State :=
  if !s.answers k then s
  else
    let r := s.takeEcho k
    let s := r.1
    let shadow := s.echoShadow || (match r.2 with | some x => x.masked | none => false)
    let t2 := match r.2 with | some x => if x.calfail then none else some x.phase | none => none
    let m : EchoR := { t2 := t2.map s.primStamp, side2 := (match t2 with | some t => s.primSide t | none => false), shadow := shadow,
                       t3 := none, side3 := false, eseq := none, wrong := false, met := false }
    s.modLink k (fun x => { x with marks := x.marks ++ [m] })

/-- `TURN` of a marker, in 62.5 fs units. -/
def EchoR.turn (m : EchoR) : Nat := match m.t2, m.t3 with | some a, some b => (rnd ((b - a) * 16000)).toNat | _, _ => 0

/-- The answering end's status for a request (R333): an excused code before the others, the lower before the higher. -/
def EchoR.status (m : EchoR) : Nat :=
  if m.t2.isSome ∧ m.side2 ≠ m.side3 then 4
  else if m.shadow then 5
  else if 32000000 < m.turn then 1
  else if m.t2.isNone then 2
  else if m.wrong then 3
  else 0

/-- 2^-48 ns of a time in ns. -/
def of48 (q : Rat) : Nat := (rndDown (q * ((2 ^ 48 : Nat) : Rat))).toNat

/-- Markers that are answered and whose frame has come leave, their ECHO_RSP frames waiting in order. -/
def State.flushMarks (s : State) (k : Nat) : State :=
  let x := s.link k
  let fin (m : EchoR) : Bool := m.met && m.t3.isSome
  let rsp (m : EchoR) : Option EchoRsp :=
    m.eseq.map (fun e => ⟨e, m.status, x.sentM, of48 (m.t2.getD 0), m.turn⟩)
  s.setLink k { x with marks := x.marks.filter (fun m => !fin m), rsps := x.rsps ++ (x.marks.filter fin).filterMap rsp }

/-- The response marker goes out at the instant `t` (R330). -/
def State.echoResponse (s : State) (k t : Nat) : State :=
  let x := s.link k
  if !s.answers k || !x.marks.any (fun m => m.t3.isNone) then s
  else
    let i := x.marks.findIdx (fun m => m.t3.isNone)
    let f (m : EchoR) : EchoR := { m with t3 := some (s.primStamp t), side3 := s.primSide t }
    ((s.setLink k { x with marks := x.marks.modify i f, sentM := (x.sentM + 1) % 65536 }).emitWire (.marker k)).flushMarks k

/-- No ECHO_RSP within `ECHO_WAIT` µs of the oldest request, which end in the present tick or before; one that a
reset-shadow met is excused (R333). -/
def State.echoWaitTimeout (s : State) (k : Nat) : State :=
  let x := s.link k
  match x.out with
  | [] => s
  | e :: t =>
    if s.unitInRst 15 || !s.dueBy (e.since + s.get (CJL_CFG_ECHO_WAIT k) * 2000) then s
    else ((s.setLink k { x with out := t }).voidEcho k (if s.echoShadow || e.shadow then 10 else 6)).showLink k

/-! ## Word sync (R320) -/

/-- A link leaves OFF once it has a role, power, and the transmit PLL's lock. -/
def State.linkStart (s : State) (k : Nat) : State :=
  if s.get (CJL_STAT_KSTATE k) = ksOff ∧ s.get (CJL_CFG_ROLE k) ≠ 0 ∧ s.domainUp 15 ∧ s.bit CJL_CTL_TX_LOCK then s.set (CJL_STAT_KSTATE k) ksNoSync else s

/-- A link goes OFF: its slot's activity is lost (R86). -/
def State.linkOff (s : State) (k : Nat) : State :=
  (((((s.voidAll k).hopNone k).setInit k false).set (CJL_STAT_KSTATE k) ksOff).srcLoss (48 + k)).showLink k

/-- A link follows its role: OFF with none (R320). -/
def State.linkRole (s : State) (k : Nat) : State :=
  if s.get (CJL_CFG_ROLE k) = 0 ∧ s.get (CJL_STAT_KSTATE k) ≠ ksOff then s.linkOff k else s.linkStart k

/-- The node's identity under a new image: under `ID_MODE` 0 the image's, and valid; under 1 none yet (R328). -/
def State.nodeLoad (s : State) : State := s.setB CJL_NODE_ID_VALID (s.cfg.cjl && !s.bit CJL_CTL_ID_MODE)

/-- A live swap keeps the node's identity and range (R62), unless the image ceases to have it assigned. -/
def State.nodeSwap (s was : State) : State :=
  if was.bit CJL_CTL_ID_MODE && !s.bit CJL_CTL_ID_MODE then s.nodeLoad
  else ((s.set CJL_NODE_NODE_ID (was.get CJL_NODE_NODE_ID)).set CJL_RANGE_BASE (was.get CJL_RANGE_BASE)).set CJL_RANGE_SIZE (was.get CJL_RANGE_SIZE)

/-- The tuple of this end, and of the peer (R324). -/
def State.ownTuple (s : State) : List Nat :=
  [s.get CJL_NODE_TX_RANK, s.get CJL_NODE_DEPTH, if s.bit CJL_NODE_ID_VALID then s.get CJL_NODE_NODE_ID else 65536]
def State.peerTuple (s : State) (k : Nat) : List Nat :=
  [s.get (CJL_PEER_PEER_RANK k), s.get (CJL_PEER_PEER_DEPTH k), if s.bit (CJL_PEER_PEER_IDV k) then s.get (CJL_PEER_PEER_ID k) else 65536]

/-- Whether this end initiates, whether the tuples tie, whether the roles conflict (R324; log entry 24). -/
def State.roleNow (s : State) (k : Nat) : Bool × Bool × Bool :=
  let x := s.link k
  let c := lexCmp s.ownTuple (s.peerTuple k)
  let peer := s.bit (CJL_STAT_PEER_INIT k)
  match s.get (CJL_CFG_ROLE k) with
  | 1 =>
    if x.timeOk && peer && c == 0 then (false, true, true)
    else if x.timeOk && x.tie && c == 0 then (false, true, true)
    else if x.timeOk && peer && decide (c < 0) then (false, false, false)
    else (true, false, false)
  | 2 => (false, false, x.timeOk && !peer && decide (c < 0))
  | 3 => if x.timeOk then (decide (0 < c), c == 0, false) else (false, false, false)
  | _ => (false, false, false)

/-- Judge the role of a link in word sync. -/
def State.roleEval (s : State) (k : Nat) : State :=
  if !s.linkSync k then s
  else
    let r := s.roleNow k
    let x := s.link k
    let s := s.setLink k { x with tie := r.2.1, roleBad := r.2.2 }
    let s := (s.setInit k r.1).raiseIf (r.2.1 && !x.tie) (CJL_STICKY_TIE_S k)
    (s.raiseIf (r.2.2 && !x.roleBad) (CJL_STICKY_ROLE_S k)).showLink k

/-- Word sync is gained: marker counts and the frame sequence restart. -/
def State.syncGain (s : State) (k : Nat) : State :=
  if s.get (CJL_STAT_KSTATE k) ≠ ksNoSync then s
  else
    let s := s.set (CJL_STAT_KSTATE k) ksSync
    let s := s.modLink k (fun x => { x with fseq := 0, rmc := 0, sentM := 0, marks := [], rsps := [], reqs := [] })
    (s.raise (CJL_STICKY_LINK_S k)).roleEval k

/-- Word sync is lost: outstanding exchanges void, excused; the hop state NONE; the slot's activity lost (R86). -/
def State.syncLoss (s : State) (k : Nat) : State :=
  if s.get (CJL_STAT_KSTATE k) ≠ ksSync then s
  else
    let s := (s.voidAll k).hopNone k
    let s := (s.setInit k false).set (CJL_STAT_KSTATE k) ksNoSync
    let s := s.modLink k (fun x => { x with timeOk := false })
    let s := s.srcLoss (48 + k)
    (s.raise (CJL_STICKY_LINK_S k)).showLink k

/-- The shared transmit PLL gains, or loses, lock. -/
def State.cjlTxLock (s : State) (lock : Bool) : State :=
  let s := s.setB CJL_CTL_TX_LOCK lock
  if lock then (List.range 8).foldl (fun s k => s.linkStart k) s else s

/-! ## Frames (R321 – R323) -/

/-- A frame's 64 bytes from its type and the bytes from 6 on. -/
def State.cjlFrame (s : State) (k type : Nat) (payload : List Byte) : List Byte :=
  let h := leBytes 1 (type + 16) ++ leBytes 1 (ofBool (s.bit (CJL_STAT_INIT k)) + 2 * ofBool (s.chanUses s.primaryChan (48 + k))
      + 4 * ofBool (s.bit (TME_STAT_STEPPED s.primary)) + 8 * ofBool (s.bit CJL_NODE_ID_VALID))
    ++ leBytes 2 (s.get CJL_NODE_NODE_ID) ++ leBytes 2 (s.link k).fseq
  let b := (h ++ payload ++ List.replicate 54 0).take 60
  b ++ leBytes 4 (crc32 b)

/-- A time of 2^-48 ns as 16 bytes: seconds, nanoseconds, fraction. -/
def timeBytes (v : Nat) : List Byte := leBytes 8 (tsSec v) ++ leBytes 4 (tsNs v) ++ leBytes 4 (tsFrac v)

/-- The payload of a TIME frame: what was committed at the last boundary. -/
def State.timePayload (s : State) : List Byte :=
  let u := (s.scale s.primary).utc
  let parent := if s.bit CJL_ROOT_UP_V then s.get (CJL_PEER_PEER_ID (s.get CJL_ROOT_UPLINK)) else s.get CJL_NODE_NODE_ID
  leBytes 1 (s.get CJL_NODE_TX_RANK + 16 * s.get CJL_NODE_DEPTH) ++ leBytes 1 (s.get (LPE_STAT_LSTATE s.primaryChan))
    ++ leBytes 2 (s.get CJL_ROOT_ROOT_ID) ++ leBytes 2 (unsigned 16 u.ofs)
    ++ leBytes 1 (ofBool u.valid + 2 * ofBool u.leap61 + 4 * ofBool u.leap59) ++ [0] ++ leBytes 8 u.sec ++ leBytes 2 parent

/-- The mailbox words' bytes. -/
def State.mailBytes (s : State) (k ofs : Nat) : List Byte :=
  (List.range 12).flatMap (fun i => leBytes 4 (tabGet 0 s.cjl.mail (0x100 * k + ofs + 4 * i)))

/-- The block offered on a link lies inside the node's own range with its own identity left out (R328). -/
def State.offerOk (s : State) (k : Nat) : Bool :=
  let b := s.get (CJL_DELEG_BASE k)
  let e := b + s.get (CJL_DELEG_SIZE k)
  let rb := s.get CJL_RANGE_BASE
  let rs := s.get CJL_RANGE_SIZE
  let me := s.get CJL_NODE_NODE_ID
  decide (rb ≤ b) && decide (e ≤ rb + (if rs = 0 then 65536 else rs)) && !(decide (b ≤ me) && decide (me < e)) && s.bit CJL_NODE_ID_VALID

/-- An offer is due on a link (R328). -/
def State.offerDue (s : State) (k : Nat) : Bool := s.answers k && s.get (CJL_DELEG_SIZE k) != 0 && decide (63 ≤ (s.link k).sinceI)

/-- Send a frame in the present slot. -/
def State.putFrame (s : State) (k type : Nat) (payload : List Byte) : State :=
  let f := s.cjlFrame k type payload
  let s := s.modLink k (fun x => { x with fseq := (x.fseq + 1) % 65536, sinceT := if type = 1 then 0 else x.sinceT + 1 })
  (s.emitWire (.link k f)).obsAdd 65 1

/-- What goes out in a slot: type, payload, and the state without it. -/
def State.pickFrame (s : State) (k : Nat) : Nat × List Byte × State :=
  let x := s.link k
  let time := (1, s.timePayload, s)
  if 15 ≤ x.sinceT then time
  else match x.rsps, x.reqs, x.floods, x.tenses with
    | r :: t, _, _, _ =>
      (3, leBytes 2 r.eseq ++ leBytes 1 r.status ++ [0] ++ leBytes 2 r.rmc ++ timeBytes r.t2 ++ leBytes 4 r.turn, s.setLink k { x with rsps := t })
    | [], e :: t, _, _ => (2, leBytes 2 e, s.setLink k { x with reqs := t })
    | [], [], f :: t, _ =>
      (5, leBytes 2 f.origin ++ leBytes 2 f.seq ++ leBytes 1 f.code ++ leBytes 1 f.hops ++ timeBytes f.at_, s.setLink k { x with floods := t })
    | [], [], [], e :: t =>
      (4, leBytes 2 e.origin ++ leBytes 2 e.tseq ++ leBytes 1 e.scope ++ [0] ++ wordsBytes e.words, (s.setLink k { x with tenses := t }).obsAdd 71 1)
    | [], [], [], [] =>
      if s.offerDue k && s.offerOk k then
        (6, leBytes 2 (s.get (CJL_DELEG_BASE k)) ++ leBytes 2 (s.get (CJL_DELEG_SIZE k)), s.setLink k { x with sinceI := 0 })
      else if s.bit (CJL_MAIL_SEND k) then
        let n := s.get (CJL_MAIL_LEN k)
        (7, leBytes 1 n ++ [0] ++ (s.mailBytes k 0).take n, s.set (CJL_MAIL_SEND k) 0)
      else time

/-- One frame slot of a link: the first waiting frame, or a TIME frame; an offer that may not be made sets `OFFER_S`. -/
def State.frameSlot (s : State) (k : Nat) : State :=
  if s.get (CJL_STAT_KSTATE k) = ksOff ∨ s.unitInRst 15 then s
  else
    let s := s.modLink k (fun x => { x with sinceI := x.sinceI + 1, sinceR := min 1023 (x.sinceR + 1) })
    let s := if s.offerDue k && !s.offerOk k then (s.modLink k (fun x => { x with sinceI := 0 })).raise (CJL_STICKY_OFFER_S k) else s
    let f := s.pickFrame k
    f.2.2.putFrame k f.1 f.2.1

/-- Little-endian field of a frame. -/
def frameLe (f : List Byte) (i n : Nat) : Nat := leNat ((f.drop i).take n)

/-- A frame of type `type` is received on a link: a bad CRC, version or type drops it (R322); its header updates the
peer, then `act` takes its payload. A frame of another type is another row's. -/
def State.cjlReceive (s : State) (k type : Nat) (f : List Byte) (act : State → State) : State :=
  if !s.linkSync k then s
  else
    let s := s.obsAdd 64 1
    let ty := frameLe f 0 1 % 16
    if f.length ≠ 64 ∨ crc32 (f.take 60) ≠ frameLe f 60 4 ∨ frameLe f 0 1 / 16 ≠ 1 ∨ ty = 0 ∨ 7 < ty then
      ((s.satAdd (CJL_CNT2_CRCERR k) 1).obsAdd 69 1).raise (CJL_STICKY_CRC_S k)
    else if ty ≠ type then s
    else
      let b := frameLe f 1 1
      let s := (((s.setB (CJL_STAT_PEER_INIT k) (bitAt b 0)).setB (CJL_PEER_PEER_DNU k) (bitAt b 1)).setB (CJL_PEER_PEER_STEPPED k) (bitAt b 2)).setB
        (CJL_PEER_PEER_IDV k) (bitAt b 3)
      (((act (s.set (CJL_PEER_PEER_ID k) (frameLe f 2 2))).roleEval k).showLink k)

/-- A TIME frame: the peer's rank, depth and root (R325, R327). -/
def State.timeFrame (s : State) (k : Nat) (f : List Byte) : State :=
  s.cjlReceive k 1 f (fun s =>
    let s := (s.set (CJL_PEER_PEER_RANK k) (frameLe f 6 1 % 16)).set (CJL_PEER_PEER_DEPTH k) (frameLe f 6 1 / 16)
    s.modLink k (fun x => { x with timeOk := true, timeAt := s.coarse, root := frameLe f 8 2 }))

/-- No TIME frame for 64 slots of 1.024 µs, which end in the present tick or before: the slot's rank reads 15. -/
def State.timeFrameTimeout (s : State) (k : Nat) : State :=
  if s.dueBy ((s.link k).timeAt + 64 * 2048) then (s.modLink k (fun x => { x with timeOk := false })).showLink k else s

/-- An ECHO_REQ frame: it takes the marker before it; none, or more than one, is wrong (R330, R333). -/
def State.echoReqReceive (s : State) (k : Nat) (f : List Byte) : State :=
  s.cjlReceive k 2 f (fun s =>
    let x := s.link k
    let e := frameLe f 6 2
    let n := (x.marks.filter (fun m => !m.met)).length
    if n = 0 then s.setLink k { x with rsps := x.rsps ++ [⟨e, 3, x.sentM, 0, 0⟩] }
    else
      let i := x.marks.findIdx (fun m => !m.met)
      let marks := (x.marks.modify i (fun m => { m with eseq := some e, wrong := decide (1 < n) })).map (fun m => { m with met := true })
      (s.setLink k { x with marks := marks }).flushMarks k)

/-- The initiating end's judgement of an ECHO_RSP (R332, R333), `shadow` for a reset-shadow at it: its own excused codes, the peer's, then
the others, the lower before the higher; 0 for a completed one. -/
def echoCode (e : EchoX) (status turn : Nat) (rmcOk shadow : Bool) (d : Rat) : Nat :=
  if e.t4.isSome ∧ e.side1 ≠ e.side4 then 9
  else if shadow || e.shadow then 10
  else if status ≠ 0 then status
  else if 32000000 < turn then 1
  else if !rmcOk then 7
  else if e.t4.isNone then 8
  else if d < 0 then 11
  else 0

/-- An ECHO_RSP frame completes its exchange or voids it. -/
def State.echoRspReceive (s : State) (k : Nat) (f : List Byte) : State :=
  s.cjlReceive k 3 f (fun s =>
    let x := s.link k
    let eseq := frameLe f 6 2
    let rmc := frameLe f 10 2
    match x.out.find? (fun e => e.eseq == eseq) with
    | none => s
    | some e =>
      let turn := frameLe f 28 4
      let t2 : Rat := ((frameLe f 12 8 * 1000000000 + frameLe f 20 4 : Nat) : Rat) + (frameLe f 24 4 : Rat) / ((2 ^ 32 : Nat) : Rat)
      let d := (e.t4.getD 0 - e.t1 - (turn : Rat) / 16000) / 2
      let code := echoCode e (frameLe f 8 1) turn (rmc == x.rmc) s.echoShadow d
      let s := s.setLink k { x with out := x.out.filter (fun y => y.eseq != eseq), rmc := rmc }
      if code ≠ 0 then s.voidEcho k code else s.echoDone k turn d (t2 - e.t1 - d - s.asymNs k))

/-! ## Floods (R338) -/

/-- Queue a FLOOD on every link where the node answers. -/
def State.queueFlood (s : State) (f : Flood) : State :=
  (List.range 8).foldl (fun s k => if s.answers k then s.modLink k (fun x => { x with floods := x.floods ++ [f] }) else s) s

/-- The node originates a FLOOD. -/
def State.originate (s : State) (code : Nat) : State :=
  if s.unitInRst 15 then s
  else
    let f : Flood := ⟨s.get CJL_NODE_NODE_ID, s.cjl.flseq, code, 0, s.now s.primary⟩
    let s := { s with cjl := { s.cjl with flseq := (s.cjl.flseq + 1) % 65536, seen := ((f.origin, f.seq) :: s.cjl.seen).take 16 } }
    (s.queueFlood f).obsAdd 70 1

/-- A FLOOD arrives: on the uplink it goes to FLT and, if new, onward; elsewhere it is stray. -/
def State.floodReceive (s : State) (k : Nat) (f : List Byte) : State :=
  s.cjlReceive k 5 f (fun s =>
    if !s.isUplink k then (s.satAdd (CJL_CNT2_DROPS k) 1).raise (CJL_STICKY_STRAY_S k)
    else
      let v := frameLe f 12 8 * secUnit + frameLe f 20 4 * nsUnit + frameLe f 24 4 * 2 ^ 16
      let x : Flood := ⟨frameLe f 6 2, frameLe f 8 2, frameLe f 10 1, frameLe f 11 1, v⟩
      let s := ((s.set CJL_FLOOD_LAST_ORIGIN x.origin).set CJL_FLOOD_LAST_CODE x.code).set CJL_FLOOD_LAST_HOPS x.hops
      let s := ((s.satAdd CJL_FLOOD_CNT_RX 1).obsAdd 70 1).raise CJL_STICKY_FLOOD_S
      if s.cjl.seen.contains (x.origin, x.seq) then s
      else
        let s := { s with cjl := { s.cjl with seen := ((x.origin, x.seq) :: s.cjl.seen).take 16 } }
        (s.queueFlood { x with hops := x.hops + 1 }).satAdd CJL_FLOOD_CNT_FWD 1)

/-- A host write of `CJL_FLOOD_TX.CODE`. -/
def State.floodTx (s : State) (code : Nat) : State := if 0x80 ≤ code then s.originate code else s

/-! ## Identity and mail (R328, R340, R344) -/

/-- An IDENT offer: taken on the uplink under `ID_MODE` 1. -/
def State.identReceive (s : State) (k : Nat) (f : List Byte) : State :=
  s.cjlReceive k 6 f (fun s =>
    let b := frameLe f 6 2
    let n := if frameLe f 8 2 = 0 then 65536 else frameLe f 8 2
    let me := s.get CJL_NODE_NODE_ID
    if s.bit CJL_CTL_ID_MODE && s.isUplink k && (!s.bit CJL_NODE_ID_VALID || decide (me < b) || decide (b + n ≤ me)) then
      ((((s.set CJL_NODE_NODE_ID b).set CJL_NODE_ID_VALID 1).set CJL_RANGE_BASE b).set CJL_RANGE_SIZE n).raise CJL_STICKY_ID_S
    else s)

/-- A MAIL frame fills the receive mailbox. -/
def State.mailReceive (s : State) (k : Nat) (f : List Byte) : State :=
  s.cjlReceive k 7 f (fun s =>
    let put (s : State) (i : Nat) : State :=
      { s with cjl := { s.cjl with mail := tabPut 0 s.cjl.mail (0x100 * k + 0x40 + 4 * i) (frameLe f (8 + 4 * i) 4) } }
    (((List.range 12).foldl put s).set (CJL_MAIL_RX_LEN k) (frameLe f 6 1)).raise (CJL_STICKY_MAIL_S k))

/-- The CJL indirect space: mailboxes. -/
def State.cjlRead (s : State) (a : Nat) : Nat :=
  let o := a % 0x100
  if a / 0x100 < 8 ∧ (o ≤ 0x2C ∨ (0x40 ≤ o ∧ o ≤ 0x6C)) then tabGet 0 s.cjl.mail a else 0
def State.cjlWrite (s : State) (a v : Nat) : State :=
  if a / 0x100 < 8 ∧ a % 0x100 ≤ 0x2C then { s with cjl := { s.cjl with mail := tabPut 0 s.cjl.mail a (v % 2 ^ 32) } } else s

/-! ## Boundaries and resets (R332, R341) -/

/-- A tick boundary on a link: `HOP_D` moves by at most 1 ps toward the mean. -/
def State.linkTick (s : State) (k : Nat) : State :=
  let x := s.link k
  if s.get (CJL_STAT_HSTATE k) = hsGood ∧ x.hop ≠ x.hopTo then
    (s.setLink k { x with hop := x.hop + clampRat (1 / 1000) (x.hopTo - x.hop) }).showHop k
  else s

/-- A tick boundary of CJL: the tree as the commit leaves it, then each link. -/
def State.cjlBoundary (s : State) (dt : Nat) : State :=
  let s := if s.unitInShadow 15 then (List.range 8).foldl (fun s k => s.modLink k (fun x => { x with doneAt := x.doneAt + dt })) s else s
  if s.unitInRst 15 then s
  else
    let up := s.uplinkNow
    let s := s.setB CJL_ROOT_UP_V up.isSome
    let s := match up with
      | some k => ((s.set CJL_ROOT_UPLINK k).set CJL_NODE_DEPTH (min 15 (s.get (CJL_PEER_PEER_DEPTH k) + 1))).set CJL_ROOT_ROOT_ID (s.link k).root
      | none => (s.set CJL_NODE_DEPTH 0).set CJL_ROOT_ROOT_ID (s.get CJL_NODE_NODE_ID)
    let s := s.set CJL_NODE_TX_RANK s.txRank
    (List.range 8).foldl (fun s k => ((s.linkTick k).roleEval k).showLink k) s

/-- A reset of CJL: framing, exchanges, floods and mailboxes; hop states and delays stay. -/
def State.cjlReset (s : State) : State :=
  let one (s : State) (k : Nat) : State :=
    (s.voidAll k).modLink k (fun x => { x with fseq := 0, sinceT := 0, sinceI := 0, rsps := [], reqs := [], floods := [], tenses := [],
                                               marks := [], rmc := 0, sentM := 0 })
  let s := (List.range 8).foldl one s
  { s with cjl := { s.cjl with mail := [], seen := [] } }

end Sys2Proof.Machine
end

