-- ==== Sys2Proof/Machine/Tns.lean ====
section
/-!
DEFINITION. The tense table: insertion and its checks, cancelling, firing, steps, loads, and the EVT pins it drives
(R347 – R366).
-/
namespace Sys2Proof.Machine
open Sys2Proof

/-! ## Entries (R347) -/

/-- An entry's words, by name. -/
def tnsAction (w : List Nat) : Nat := bitsAt (w.getD 0 0) 0 4
def tnsScope (w : List Nat) : Nat := bitsAt (w.getD 0 0) 4 1
def tnsDepth (w : List Nat) : Nat := bitsAt (w.getD 0 0) 5 4
def tnsTs (w : List Nat) : Nat := bitsAt (w.getD 0 0) 9 2
def tnsTarget (w : List Nat) : Nat := bitsAt (w.getD 0 0) 16 8
def tnsTarget2 (w : List Nat) : Nat := bitsAt (w.getD 0 0) 24 8
def tnsNs (w : List Nat) : Nat := bitsAt (w.getD 3 0) 0 30
def tnsArg (w : List Nat) (i : Nat) : Nat := w.getD (4 + i) 0
def tnsOrigin (w : List Nat) : Nat := bitsAt (w.getD 6 0) 16 16
def tnsTag (w : List Nat) : Nat := bitsAt (w.getD 6 0) 0 16
def tnsLseq (w : List Nat) : Nat := bitsAt (w.getD 7 0) 0 16
def tnsTseq (w : List Nat) : Nat := bitsAt (w.getD 7 0) 16 16

/-- The due time T, in 2^-48 ns. -/
def tnsDue (w : List Nat) : Nat := (w.getD 1 0 + 2 ^ 32 * w.getD 2 0) * secUnit + tnsNs w * nsUnit

/-- The entry on scale `k`: word 0 with its `TS`. -/
def tnsOnScale (w : List Nat) (k : Nat) : List Nat :=
  let w0 := w.getD 0 0
  w.set 0 (w0 - bitsAt w0 9 2 * 2 ^ 9 + k % 4 * 2 ^ 9)

/-- An entry's words from its staged words (the first seven) and its last word; reserved bits are zero. -/
def tnsWords (stage : List Nat) (tag origin w7 : Nat) : List Nat :=
  let w0 := stage.getD 0 0
  [w0 - bitsAt w0 11 5 * 2 ^ 11, stage.getD 1 0, stage.getD 2 0, stage.getD 3 0, stage.getD 4 0, stage.getD 5 0, tag + 65536 * origin, w7]

/-! ## Checks (R351 – R353, R359) -/

/-- The arguments lie within R348. -/
def tnsArgsOk (w : List Nat) : Bool :=
  match tnsAction w with
  | 4 => decide (tnsArg w 0 ≤ 1)
  | 5 => decide (tnsTarget2 w ≤ 87)
  | 6 => decide (tnsTarget2 w ≤ 7) && decide (tnsArg w 0 ≤ 255)
  | 8 => decide (8 ≤ tnsArg w 0) && decide (tnsArg w 0 ≤ 1000000000)
  | 10 => decide (1 ≤ tnsArg w 1) && decide (tnsArg w 1 ≤ 16777215)
  | _ => true

/-- The format and the arguments pass. -/
def tnsFormOk (w : List Nat) : Bool :=
  let a := tnsAction w
  decide (1 ≤ a) && decide (a ≤ 12) && ((tnsScope w == 1) == (tnsDepth w != 0)) && decide (tnsNs w < 1000000000) && tnsArgsOk w

/-- The image declares the scale and the target; R351 names no slot here. -/
def State.tnsTargetOk (s : State) (w : List Nat) : Bool :=
  let t := tnsTarget w
  let t2 := tnsTarget2 w
  s.scaleEn (tnsTs w) &&
  (match tnsAction w with
   | 1 | 2 | 3 | 4 => decide (t < 24) && s.bit (SYN_OUT_CFG_EN t)
   | 6 => decide (t < 12) && s.chanEn t && (s.memberEntry t t2).isSome
   | 5 | 7 => decide (t < 12) && s.chanEn t
   | 8 | 9 => decide (t < 16) && bitAt (s.get TNS_EVT_OUT) t
   | 10 => decide (t < 4) && s.scaleEn t
   | _ => true)

/-- The lead an entry needs, 2^-48 ns: `hops` is its depth, or the scope left of a received one (R352). -/
def leadNeeded (hops : Nat) : Nat := (64000 + 16000 * hops) * nsUnit

/-- The first `TCK` edge at which a scale reaches `T`, by the increments now set (R353). -/
def Scale.reach (x : Scale) (c T : Nat) : Nat :=
  match x.segs with
  | [] => 0
  | [g] => g.c0 + 4 * edgesTo g.v0 g.inc g.r T
  | g :: h :: _ =>
    let e := h.c0 + 4 * edgesTo h.v0 h.inc h.r T
    if c < g.c0 ∧ e ≤ g.c0 then e else g.c0 + 4 * edgesTo g.v0 g.inc g.r T
def State.fireEdge (s : State) (w : List Nat) : Nat := (s.scale (tnsTs w)).reach s.coarse (tnsDue w)

/-- Pending entries of any scale on the firing edge of an entry (R353). -/
def State.sameEdge (s : State) (w : List Nat) : Nat :=
  (s.tns.entry.filter (fun e => s.fireEdge e.2 == s.fireEdge w)).length

/-- What an insert presents beside its words: hops of its lead, whether it was received, the present time. -/
structure TnsAsk where
  hops : Nat
  recv : Bool
  deriving DecidableEq, Repr

/-- DENIED, PACED and LATE (R351). -/
def State.tnsDenied (s : State) (w : List Nat) (a : TnsAsk) : Bool :=
  (a.recv && !bitAt (s.get TNS_CFG_DOM_PERMIT) (tnsAction w)) || (!a.recv && tnsScope w == 1 && !s.bit CJL_NODE_ID_VALID)
def State.tnsPaced (s : State) (w : List Nat) (a : TnsAsk) : Bool :=
  !a.recv && tnsScope w == 1 && (match s.tns.lastDom with | some c => decide (s.coarse - c < 32000) | none => false)
def State.tnsLate (s : State) (w : List Nat) (a : TnsAsk) : Bool := decide (tnsDue w < s.now (tnsTs w) + leadNeeded a.hops)

/-- An insert is still in progress. -/
def State.tnsBusy (s : State) : Bool := decide (s.coarse < s.tns.busyTo)

/-- The result of an insert other than a Cancel (R351). -/
def State.insertResult (s : State) (w : List Nat) (a : TnsAsk) : Nat :=
  if !tnsFormOk w then 1
  else if !s.tnsTargetOk w then 2
  else if s.tnsDenied w a then 3
  else if s.tnsPaced w a then 4
  else if s.tnsLate w a then 5
  else if 4096 ≤ s.tns.entry.length then 6
  else if 16 ≤ s.sameEdge w then 7
  else if !a.recv && s.tnsBusy then 8
  else 0

/-- A stored entry is pending until its firing edge is reached (R358, R364). -/
def State.tnsPending (s : State) (w : List Nat) : Bool := decide (s.coarse < s.fireEdge w)

/-- The pending entry a Cancel names. -/
def State.cancelNamed (s : State) (w : List Nat) : Option (Nat × List Nat) :=
  s.tns.entry.find? (fun e => tnsOrigin e.2 == tnsArg w 0 % 65536 && tnsTseq e.2 == tnsArg w 0 / 65536 && s.tnsPending e.2)

/-- The result of a Cancel (R359), and the entry to remove. -/
def State.cancelResult (s : State) (w : List Nat) (a : TnsAsk) : Nat × Option (Nat × List Nat) :=
  if !tnsFormOk w then (1, none)
  else if s.tnsDenied w a then (3, none)
  else if s.tnsPaced w a then (4, none)
  else if s.tnsLate w a then (5, none)
  else if !a.recv && s.tnsBusy then (8, none)
  else match s.cancelNamed w with
    | none => (9, none)
    | some e =>
      if tnsDue e.2 ≠ tnsDue w ∨ (tnsScope w = 0 ∧ tnsTs e.2 ≠ tnsTs w) then (1, none) else (0, some e)

/-! ## Removing and storing -/

def State.dropEntry (s : State) (i : Nat) : State := { s with tns := { s.tns with entry := tabDel i s.tns.entry } }

/-- An entry leaves the table unfired, with an outcome, at the present value of its scale. -/
def State.removeEntry (s : State) (i : Nat) (w : List Nat) (outcome : Nat) : State :=
  (s.dropEntry i).journal (journalRec w i (s.now (tnsTs w))) outcome

/-- The lowest free index (log entry 25). -/
def State.freeIndex (s : State) : Nat := ((List.range 4096).find? (fun i => !(s.tns.entry.any (fun e => e.1 == i)))).getD 0

/-- Store an entry and give it the next `LSEQ`. -/
def State.storeEntry (s : State) (i : Nat) (w : List Nat) : State :=
  let s := { s with tns := { s.tns with entry := tabPut [] s.tns.entry i w } }
  (s.wrapAdd TNS_SEQ_LSEQ 1).hwm TNS_OCC_HWM s.tns.entry.length

/-- A refused insert: counts, sticky bits and the journal (R363). -/
def State.tnsRefuse (s : State) (w : List Nat) (recv : Bool) (r : Nat) : State :=
  let s := s.obsAdd 73 1
  let s := if r = 5 then (s.satAdd TNS_CNT_REF_LATE 1).raise TNS_STICKY_LATE_S
    else if r = 6 then (s.satAdd TNS_CNT_REF_FULL 1).raise TNS_STICKY_FULL_S
    else if recv then s else s.raise TNS_STICKY_REFUSE_S
  let s := if recv then (s.satAdd TNS_CNT_RX_RXREF 1).raise TNS_STICKY_RXREF_S else s
  s.journal (journalRec w 0xFFF (s.now (tnsTs w))) r

/-- Check an entry and store it, or carry out a Cancel; the answer is the result and the index (R351, R358). -/
def State.tnsTake (s : State) (w : List Nat) (a : TnsAsk) : State × Nat × Nat :=
  if tnsAction w = 12 then
    match s.cancelResult w a with
    | (0, some e) => ((s.removeEntry e.1 e.2 0x14).obsAdd 72 1, 0, e.1)
    | (r, _) => (s.tnsRefuse w a.recv r, r, 0)
  else
    let r := s.insertResult w a
    if r ≠ 0 then (s.tnsRefuse w a.recv r, r, 0)
    else let i := s.freeIndex; ((s.storeEntry i w).obsAdd 72 1, 0, i)

/-- Queue a TENSE frame on every link where the node answers; a full queue drops it (R339). -/
def State.queueTense (s : State) (f : TenseF) : State :=
  (List.range 8).foldl (fun s k =>
    if !s.answers k then s
    else if 8 ≤ (s.link k).tenses.length then (s.satAdd (CJL_CNT2_DROPS k) 1).raise (CJL_STICKY_TNS_DROP_S k)
    else s.modLink k (fun x => { x with tenses := x.tenses ++ [f] })) s

/-- A local insert of staged words (R350, R354). -/
def State.tnsLocal (s : State) (stage : List Nat) : State × Nat × Nat :=
  let q := s.get TNS_SEQ_LSEQ
  let w := tnsWords stage (stage.getD 6 0 % 65536) (s.get CJL_NODE_NODE_ID) (q + 65536 * q)
  let dom := tnsScope w == 1
  let w := if dom then tnsOnScale w s.primary else w
  let r := s.tnsTake w ⟨if dom then tnsDepth w else 0, false⟩
  if r.2.1 = 0 ∧ dom then
    let s := { r.1 with tns := { r.1.tns with lastDom := some s.coarse } }
    (s.queueTense ⟨tnsOrigin w, tnsTseq w, tnsDepth w - 1, w⟩, r.2)
  else r

/-- The host writes `GO`: the staged entry is inserted, the result final `dur` coarse counts later (R350; log entry 26).
A `GO` while an insert is in progress leaves `TNS_INS_STAT` to it. -/
def State.tnsGo (s : State) (dur : Nat) : State :=
  let busy := s.tnsBusy
  let r := s.tnsLocal ((List.range 7).map (fun i => s.get (TNS_STAGE_WORD i)))
  if busy then r.1
  else
    let s := ((r.1.set TNS_INS_STAT_RESULT r.2.1).set TNS_INS_STAT_INDEX r.2.2)
    { s with tns := { s.tns with busyTo := s.coarse + dur } }

/-- A received domain entry is inserted through the same checks (R350). -/
def State.tnsRecv (s : State) (words : List Nat) (scope : Nat) : State :=
  if s.unitInRst 16 then s
  else
    let s := (s.satAdd TNS_CNT_RX_RX 1).obsAdd 75 1
    let w := tnsOnScale (tnsWords words (words.getD 6 0 % 65536) (words.getD 6 0 / 65536) (s.get TNS_SEQ_LSEQ + 65536 * (words.getD 7 0 / 65536))) s.primary
    let margin := (tnsDue w - s.now (tnsTs w) - leadNeeded scope) / nsUnit
    let r := s.tnsTake w ⟨scope, true⟩
    if r.2.1 = 0 ∧ margin < r.1.get TNS_MARGIN_MARGIN then r.1.set TNS_MARGIN_MARGIN margin else r.1

/-- A TENSE frame: on the uplink it is handed to TNS and queued downward; elsewhere it is stray (R339). -/
def State.tenseReceive (s : State) (k : Nat) (f : List Byte) : State :=
  s.cjlReceive k 4 f (fun s =>
    if !s.isUplink k then (s.satAdd (CJL_CNT2_DROPS k) 1).raise (CJL_STICKY_STRAY_S k)
    else
      let words := (List.range 8).map (fun i => frameLe f (12 + 4 * i) 4)
      let scope := frameLe f 10 1
      let s := s.tnsRecv words scope
      if 0 < scope then s.queueTense ⟨frameLe f 6 2, frameLe f 8 2, scope - 1, words⟩ else s)

/-- A host write of `TNS_CANCEL.INDEX` (R358). -/
def State.tnsCancel (s : State) (i : Nat) : State :=
  match s.tns.entry.find? (fun e => e.1 == i && s.tnsPending e.2) with
  | some e => s.removeEntry e.1 e.2 0x14
  | none => s

/-! ## EVT pins (R355) -/

def State.evtPin (s : State) (i : Nat) : EvtPin := tabGet EvtPin.idle s.tns.pin i
def State.setPin (s : State) (i : Nat) (x : EvtPin) : State := { s with tns := { s.tns with pin := tabPut EvtPin.idle s.tns.pin i x } }

/-- After reset a tense output holds its `IDLE` level. -/
def State.evtInit (s : State) : State :=
  (List.range 16).foldl (fun s i => let b := bitAt (s.get TNS_EVT_OUT) i && bitAt (s.get TNS_EVT_IDLE) i; s.setPin i ⟨b, b, false, 0⟩) s

/-- A level edge at T; it cuts a running pulse. -/
def State.evtLevel (s : State) (i : Nat) (b : Bool) : State := s.setPin i ⟨b, b, false, 0⟩

/-- A pulse's leading edge: the pin leaves the level it holds between actions (log entry 27); the trailing edge follows after
`width` ns, two coarse counts each. -/
def State.evtPulse (s : State) (i width : Nat) : State := let x := s.evtPin i; s.setPin i ⟨!x.base, x.base, true, s.coarse + 2 * width⟩

/-- A pulse's trailing edge, once it falls in the present tick or before. -/
def State.evtTrailing (s : State) (i : Nat) : State :=
  let x := s.evtPin i
  if x.pulse && s.dueBy x.till then s.setPin i ⟨x.base, x.base, false, 0⟩ else s

/-! ## Firing (R355, R356) -/

/-- The target of an action is in reset or reset-shadow, or refuses it. -/
def State.tnsAway (s : State) (w : List Nat) : Bool :=
  match tnsAction w with
  | 5 | 6 => s.unitInShadow 8
  | 7 => s.unitInShadow 9
  | 10 => s.unitInShadow 12 || !s.scaleEn (tnsTarget w)
  | _ => false

/-- Hand a fired entry to its target, with its journal record. -/
def State.tnsHand (s : State) (w rec : List Nat) : State :=
  let t := tnsTarget w
  let a0 := tnsArg w 0
  if s.tnsAway w then
    let s := if tnsAction w = 5 ∨ tnsAction w = 6 then s.refuseTense t else s
    s.journal rec 0x11
  else
    let out (a : OutAct) : State := let r := s.outAct t a rec; if r.2 then r.1 else r.1.journal rec 0x11
    match tnsAction w with
    | 1 => out (.phaseAdd (signed 32 a0))
    | 2 => out .gateOff
    | 3 => out .gateOn
    | 4 => out (.reload (a0 == 1))
    | 5 => s.askTense t ⟨false, tnsTarget2 w, 0, rec, s.tick⟩
    | 6 => s.askTense t ⟨true, tnsTarget2 w, a0, rec, s.tick⟩
    | 7 => ((({ s with tns := { s.tns with padj := (t, a0) :: s.tns.padj } }).set (LPE_PADJ_PADJ t) a0).padjWritten t).journal rec 0x10
    | 8 => (s.evtPulse t a0).journal rec 0x10
    | 9 => (s.evtLevel t (bitAt a0 0)).journal rec 0x10
    | 10 => s.radjAskTense t (signed 32 a0) (tnsArg w 1) rec
    | _ => s.journal rec 0x10

/-- One due entry fires, or passes during a TNS reset (R361). -/
def State.fireOne (s : State) (e : Nat × List Nat) : State :=
  if s.unitInRst 16 then s.removeEntry e.1 e.2 0x15
  else
    let rec' := journalRec e.2 e.1 (s.now (tnsTs e.2))
    (((s.dropEntry e.1).wrapAdd TNS_FIRED_FIRED 1).obsAdd 74 1).tnsHand e.2 rec'

/-- Age of an entry: larger is older (R356). -/
def State.tnsAge (s : State) (w : List Nat) : Nat := (s.get TNS_SEQ_LSEQ + 65535 - tnsLseq w) % 65536

/-- Put an entry in its place, oldest first. -/
def ageInsert (s : State) (e : Nat × List Nat) : List (Nat × List Nat) → List (Nat × List Nat)
  | [] => [e]
  | a :: t => if s.tnsAge a.2 < s.tnsAge e.2 then e :: a :: t else a :: ageInsert s e t

/-- Entries of scale `k` that are due at the present edge, in firing order. -/
def State.dueNow (s : State) (k : Nat) : List (Nat × List Nat) :=
  (s.tns.entry.filter (fun e => tnsTs e.2 == k && decide (tnsDue e.2 ≤ s.now k))).foldr (ageInsert s) []

/-- The next firing edge of scale `k`; it may have passed. -/
def State.nextFire (s : State) (k : Nat) : Option Nat :=
  match (s.tns.entry.filter (fun e => tnsTs e.2 == k)).map (fun e => s.fireEdge e.2) with
  | [] => none
  | a :: t => some (t.foldl min a)

/-- The next firing edge of scale `k` comes before the next tick boundary, whose own edge belongs to the tick it begins (R63):
its entries fire (R355). -/
def State.tenseFire (s : State) (k : Nat) : State :=
  if !s.scaleEn k then s
  else match s.nextFire k with
    | none => s
    | some f =>
      if !s.dueBy f then s
      else
        let s := s.advance (Nat.max s.coarse f)
        (s.dueNow k).foldl (fun s e => s.fireOne e) s

/-! ## Steps, loads and swaps (R360, R361) -/

/-- Entries a forward step passes over, from the value `v` before it. -/
def State.tnsStepped (s : State) (k v : Nat) : State :=
  let l := s.tns.entry.filter (fun e => tnsTs e.2 == k && decide (v < tnsDue e.2) && decide (tnsDue e.2 < s.now k))
  l.foldl (fun s e => s.removeEntry e.1 e.2 0x12) s

/-- A full load removes every entry, then inserts the image's. -/
def State.tnsLoad (s : State) : State :=
  let s := s.tns.entry.foldl (fun s e => s.removeEntry e.1 e.2 0x13) s
  s.cfg.tense.foldl (fun s w => (s.tnsLocal w).1) s.evtInit

/-- A live swap removes entries whose target the new image does not declare. -/
def State.tnsSwap (s : State) : State :=
  (s.tns.entry.filter (fun e => !s.tnsTargetOk e.2)).foldl (fun s e => s.removeEntry e.1 e.2 0x13) s

/-- A word of the TNS indirect space (R366). -/
def State.tnsRead (s : State) (a : Nat) : Nat := if a / 0x20 < 4096 then (tabGet [] s.tns.entry (a / 0x20)).getD (a % 0x20 / 4) 0 else 0

/-- A waiting step is made: the outputs realign, and entries it passes over are skipped (R265, R251, R360). -/
def State.timeStep (s : State) (k : Nat) : State :=
  let r := s.stepApply k
  match r.2 with
  | none => r.1
  | some v => (r.1.outputsStepped k ((r.1.now k : Int) - (v : Int))).tnsStepped k v

end Sys2Proof.Machine
end

