-- ==== Sys2Proof/Machine/Blk.lean ====
section
/-!
DEFINITION. Resets of blocks and sub-units: what a reset clears and keeps, the reset sequencer with its reset-shadow,
reaction and host resets, and escalation (R104, R131, R164, R193, R222, R250, R280, R311, R341, R361, R393, R404 – R417,
R437, R451, R454); and the end of a loader operation, which a reset may bring about (R64).
-/
namespace Sys2Proof.Machine
open Sys2Proof

/-- The blocks with an indirect space (R71, R198, R225, R255, R314, R343, R344, R366). -/
def indirectBlocks : List Nat := [2, 9, 10, 11, 13, 14, 15, 16]

/-- The registers every block has: its fault unit's (R420) and, with an indirect space, the indirect pair (R379). -/
def regsUnit (b : Nat) : List RegD := faultUnitRegs b (unitSources b) ++ (if indirectBlocks.contains b then indirectRegs b else [])

/-- Every register descriptor. -/
def allRegs : List RegD := regsCore ++ regsIn ++ regsLoop ++ regsOut ++ regsNet ++ (List.range 17).flatMap regsUnit

/-- A field's descriptor from its key. -/
def fieldOf (k : Nat) : Option FieldD := (findReg allRegs (keyAddr k)).bind (fun r => r.fields.find? (fun f => f.lo == keyLo k))

/-! ## Undefined behaviour (R12, R396) -/

/-- Every register field of a table free (`l`) within its width, but for those that R12 keeps as they stand in `t`: the straps, by
which a master is privileged, and the loader's. -/
def keptKey (k : Nat) : Bool := keyAddr k == 0x10 || keyAddr k / 0x10000 == 2
def regsFree (t l : Tab Nat) : Tab Nat :=
  (l.filter (fun e => !keptKey e.1)).foldl (fun u e => match fieldOf e.1 with
    | some d => regPut u e.1 (e.2 % 2 ^ d.len)
    | none => u) (t.filter (fun e => keptKey e.1))

/-- The bytes of a list that lie in the window. -/
def windowFree (l : Tab Byte) : Tab Byte := (l.filter (fun e => decide (e.1 < 2 ^ 20))).foldl (fun w e => tabPut 0 w e.1 e.2) []

/-- The host misuses the device: any register, output clock, timestamp or transmitted frame may follow, here any state at all but for
what R12 keeps: the privilege checks with the straps they use, the OTP and its counter, the loader with its authenticated images, and
the pins. Time, the power domains, the words answered so far and the used rights of WONCE fields (R66) stand too (log entry 57). -/
def State.misused (t : State) : State :=
  let u := Config.misuse t.free t
  { u with
    pending := t.pending, free := t.free + 1, regs := regsFree t.regs u.regs, inForce := regsFree t.inForce u.inForce,
    ind := { u.ind with regs := regsFree t.ind.regs u.ind.regs }, pend := { u.pend with regs := regsFree t.pend.regs u.pend.regs },
    wonce := t.wonce, cfg := t.cfg, applied := t.applied, coarse := t.coarse, sys := t.sys, gld := t.gld, otp := t.otp,
    hif := { u.hif with window := windowFree u.hif.window, perst := t.hif.perst, resp := t.hif.resp, status := t.hif.status, ur := t.hif.ur } }

/-- The same where `bad` holds. -/
def State.misusedIf (t : State) (bad : Bool) : State := if bad then t.misused else t

/-- The block a key lies in. -/
def keyBlock (k : Nat) : Nat := keyAddr k / 0x10000

/-- The words of a channel that a reset of LPE does not keep (R193): `PERR`, `LOCKED_T` and the preview's registers; and
`LPE_REALIGN`. -/
def lostLpe (o : Nat) : Bool := o == 0x1C || (decide (0x1000 ≤ o) && [0x3C, 0x40, 0x54, 0x60, 0x64, 0x68, 0x6C, 0x70].contains ((o - 0x1000) % 0x100))

/-- A field that a reset of its block leaves as it is: HW and WONCE fields, the fault unit (R406, R417), HIF and OBS
(R393, R437), FLT's stored values, and what R193, R222, R250, R280, R311 and R341 keep. -/
def keptInReset (a : Nat) (d : FieldD) : Bool :=
  let o := a % 0x10000
  let ro := d.acc == .ro
  d.kind == .hw || d.acc == .wonce || (decide (0xE00 ≤ o) && decide (o < 0xF40)) ||
  (match a / 0x10000 with
   | 0 | 1 | 4 => true
   | 3 => !(o == 0 || o == 0x24)
   | 9 => ro && !lostLpe o
   | 10 => caskField (a * 32 + d.lo)
   | 11 => ro && !(decide (0x1000 ≤ o) && (o - 0x1000) % 0x40 == 0x34)
   | 12 => ro && (decide (o < 0x100) || decide (0x300 ≤ o) || decide (0x5C ≤ (o - 0x100) % 0x80 ∧ (o - 0x100) % 0x80 < 0x70))
   | 14 => ro && !(decide (0x1000 ≤ o) && [0xC, 0x10, 0x14, 0x20, 0x24].contains ((o - 0x1000) % 0x40))
   | 15 => o == 8 || o == 0xC || (ro && decide (0x1000 ≤ o) && decide ((o - 0x1000) % 0x80 < 0x28))
   | _ => false)

/-- A reset of block `b` returns the field to its reset value. -/
def resetGoes (b k : Nat) : Bool :=
  keyBlock k == b && (match fieldOf k with | some d => !keptInReset (keyAddr k) d | none => false)

/-- A table of fields after a reset of block `b`: its fields at their numeric reset values, its IMG fields from the
active configuration store (R7, R64, R451). -/
def resetTable (img : Tab Nat) (b : Nat) (t : Tab Nat) : Tab Nat :=
  let t := t.filter (fun e => !resetGoes b e.1)
  (img.filter (fun e => resetGoes b e.1)).foldl (fun t e => regPut t e.1 e.2) t

/-- The registers of block `b` after its reset. -/
def State.resetRegs (s : State) (b : Nat) : State :=
  let f := resetTable s.cfg.img b
  { s with regs := f s.regs, inForce := f s.inForce, ind := { s.ind with regs := f s.ind.regs }, pend := { s.pend with regs := f s.pend.regs },
           upset := s.upset.filter (fun e => !resetGoes b e.1),
           hif := { s.hif with indBusy := tabDel b s.hif.indBusy } }

/-! ## What a job left for the commit (R26, R362) -/

def State.applyEv (s : State) : Ev → State
  | .put f v => s.set f v
  | .raise f => s.raise f
  | .count f n => s.satAdd f n
  | .obs k n => s.obsAdd k n
  | .journal r o => s.journal r o
  | .post r w => s.post r w
  | .servo g n gm mpds epoch seq => s.servoDone g n gm mpds epoch seq

/-- Apply events of owners in rising order. -/
def State.flushEvs (s : State) : State :=
  let evs := s.pend.evs
  let s := { s with pend := { s.pend with evs := [] } }
  (List.range 144).foldl (fun s o => (evs.filter (fun e => e.1 == o)).foldl (fun s e => s.applyEv e.2) s) s

/-- Run an action and apply at once the events it leaves. -/
def State.atOnce (s : State) (f : State → State) : State :=
  let evs := s.pend.evs
  let s := (f { s with pend := { s.pend with evs := [] } }).flushEvs
  { s with pend := { s.pend with evs := evs } }

/-! ## The end of a loader operation -/

/-- The operation in progress ends with a result of R48 that is not OK: the loader goes IDLE. -/
def State.gldEnd (s : State) (code : Nat) : State :=
  match s.gld.op with
  | none => s
  | some k =>
    let s := { s with gld := { s.gld with op := none, applying := false, next := none } }
    let s := (s.set GLD_STAT_LOADER 0).set GLD_STAT_RESULT code
    let s := if k == .swap then s.set GLD_STAT_SRAM_MATCH 0 else s
    s.raise (if k == .swap then GLD_STICKY_SWAP_REFUSED else GLD_STICKY_LOAD_FAIL)

/-- A block reset between the start of a swap's apply step and its boundary abandons the swap (R64). -/
def State.gldAbandon (s : State) : State :=
  if s.gld.op == some .swap && decide (3 ≤ s.get GLD_STAT_LOADER) then s.gldEnd 0x16 else s

/-! ## Start, release, and end of the shadow -/

/-- The sticky bit a unit's release sets (R406); GLD has none. -/
def rstSticky (u : Nat) : Option Fld :=
  match unitBlock u with
  | 1 => some HIF_STICKY_RST_S | 3 => some FLT_STICKY_RST_S | 4 => some OBS_STICKY_RST_S | 5 => some REF_STICKY_RST_S
  | 6 => some TIM_STICKY_BANK_RST | 7 => some QUL_STICKY_RST_S | 8 => some SEL_STICKY_RST_S | 9 => some LPE_STICKY_RST_S
  | 10 => some CSK_STICKY_RST_S | 11 => some SYN_STICKY_RST_S | 12 => some TME_STICKY_RST_S | 13 => some ETH_STICKY_RST_S
  | 14 => some PTP_STICKY_RST_S | 15 => some CJL_STICKY_RST_S | 16 => some TNS_STICKY_RST_S | _ => none

/-- The lanes of a unit. -/
def unitLanes (u : Nat) : List Nat :=
  if u = 6 then List.range 80 else if u = 17 then List.range 32 else if u = 18 then (List.range 32).map (· + 32)
  else if u = 19 then (List.range 16).map (· + 64) else []

/-- A lane in reset drops its queue, counted, and restarts (R100, R104). -/
def State.resetLane (s : State) (l : Nat) : State :=
  let n := (s.laneOf l).queue.length
  let s := (s.setLane l (Lane.start l)).set (laneSeq l) 0
  if n = 0 then s else ((s.satAdd (laneDrop l) n).obsAdd 20 n).raise TIM_STICKY_LANE_DROP

/-- The slots a selector carries through a QUL reset: in use, and usable or carried already (R163). -/
def State.carry (s : State) (c : Nat) : State :=
  let l := (List.range 88).filterMap (fun n =>
    let st := s.pget (QUL_STAT_STATE n)
    if !s.hasRole c n then none
    else if isUsable st then some (n, (⟨st, none, false⟩ : Carried))
    else ((s.chan c).carriedOf n).map (fun e => (n, ⟨e.was, none, false⟩)))
  s.modChan c (fun ch => { ch with carried := l })

/-- A reset of HIF discards the ring items in progress and counts them (R393). -/
def State.resetRings (s : State) : State :=
  let one (s : State) (r : Nat) : State :=
    let n := ofBool (s.itemOf r).isSome + (if r = 0 then s.hif.held.length else 0)
    if n = 0 then s else s.satAdd (HIF_RING_CNT_DROPS r) n
  let s := (List.range 8).foldl one s
  { s with hif := { s.hif with item := [], running := [], held := [], indBusy := [] } }

/-- What the start of a reset does inside a unit. -/
def State.unitReset (s : State) (u : Nat) : State :=
  match u with
  | 1 => s.resetRings
  | 2 => (s.resetRegs 2).gldEnd 0x16
  | 3 => let s := s.resetRegs 3
         { s with flt := { s.flt with lineBad := [], missInv := [], kept := [] } }
  | 4 => { s with obs := { s.obs with pend := [] } }
  | 5 => { s.resetRegs 5 with refs := [] }
  | 7 => let s := s.inBoth (fun s => (List.range 12).foldl (fun s c => s.carry c) s)
         let s := s.resetRegs 7
         (s.atOnce (fun s => s.inBoth (fun s => (List.range 88).foldl (fun s n => s.undeclared n) s))).resetRegs 7
  | 8 => (s.resetRegs 8).inBoth (fun s => (List.range 12).foldl (fun s c => s.selRestart c) s)
  | 9 => (s.resetRegs 9).atOnce (fun s => s.inBoth (fun s => (List.range 12).foldl (fun s c => s.discardPreview c) s))
  | 10 => let s := s.resetRegs 10
          let s := (List.range 12).foldl (fun s c => s.modCask c (fun k => { k with cur := SecAcc.zero.spoil, opn := [] })) s
          ({ s with csk := { s.csk with attempts := 0, okRun := 0, extAt := none, tofs := 0, tofsRun := 0 } }).set CSK_TUSE_TOFS_OK 0
  | 11 => s.resetRegs 11
  | 12 => let s := s.resetRegs 12
          let s := (List.range 4).foldl (fun s k => s.modScale k (fun x => { x with radj := none, radjNext := none, utcDue := none, utc := ⟨0, false, false, false, 0⟩ })) s
          { (List.range 4).foldl (fun s k => s.radjRefuse k) s with evtFrom := [] }
  | 13 => let s := ((List.range 4).foldl (fun s q => s.quadFall q) s).resetRegs 13
          { s with eth := { s.eth with written := [] } }
  | 14 => (s.resetRegs 14).ptpReset
  | 15 => (s.resetRegs 15).cjlReset
  | 16 => (s.resetRegs 16).evtInit
  | 6 => (unitLanes 6).foldl (fun s l => s.resetLane l) (s.resetRegs 6)
  | 20 => s.quadFall 0
  | 21 => s.quadFall 1
  | 22 => s.quadFall 2
  | 23 => s.quadFall 3
  | _ => (unitLanes u).foldl (fun s l => s.resetLane l) s

/-- What the release does inside a unit. -/
def State.unitRelease (s : State) (u : Nat) : State :=
  let s := match rstSticky u with | some f => s.raise f | none => s
  match u with
  | 5 => (List.range 56).foldl (fun s n => s.refStart n) s
  | 8 => (List.range 12).foldl (fun s c => s.selRelease c) s
  | 9 => s.inBoth (fun s => (List.range 12).foldl (fun s c => s.reloadLoop c) s)
  | 12 => ((List.range 4).foldl (fun s k => s.scaleResume k) s).evtStart State.reset
  | 14 => s.ptpRelease
  | _ => s

/-- Begin to keep a block's line indication (R415). -/
def State.keepLine (s : State) (b : Nat) : State :=
  if s.flt.kept.any (fun e => e.1 == b) then s
  else { s with flt := { s.flt with kept := tabInsert b (s.severeLine b) s.flt.kept } }

/-- A reset of FLT begins the counts of the units in reset or in shadow anew (R417). -/
def Flt.restart (f : Flt) (n : Nat) : Flt := { f with rstLeft := f.rstLeft.map (fun e => (e.1, n)), shdLeft := f.shdLeft.map (fun e => (e.1, 61 + n)) }

/-- A unit enters reset for `n` boundaries, its shadow with it (R406, R413). -/
def State.resetBegin (s : State) (u n : Nat) : State :=
  let s := s.keepLine (unitBlock u)
  let s := { s with flt := { s.flt with rstLeft := tabPut 0 s.flt.rstLeft u n, shdLeft := tabPut 0 s.flt.shdLeft u 64 } }
  let s := if u = 3 then { s with flt := s.flt.restart n } else s
  let s := if u = 10 then s else s.spoilOpen
  s.unitReset u

/-- A reaction or host reset of a unit starts; it abandons a swap being applied or armed (R64). -/
def State.resetStart (s : State) (u n : Nat) : State := (s.resetBegin u n).gldAbandon

/-- A unit is released; its shadow lasts `n` boundaries more (R406, R413). -/
def State.resetRelease (s : State) (u n : Nat) : State :=
  if !s.unitInRst u then s
  else
    let s := { s with flt := { s.flt with rstLeft := tabPut 0 s.flt.rstLeft u 0, shdLeft := tabPut 0 s.flt.shdLeft u n } }
    s.unitRelease u

/-- A unit leaves its shadow; once its block has, the pin driver takes the line as it stands (R413, R415). -/
def State.shadowEnd (s : State) (u : Nat) : State :=
  let s := { s with flt := { s.flt with shdLeft := tabPut 0 s.flt.shdLeft u 0 } }
  let b := unitBlock u
  if s.blockInShadow b then s else { s with flt := { s.flt with kept := tabDel b s.flt.kept } }

/-- The domain whose power a unit needs, if it is switched. -/
def unitDomain (u : Nat) : Option Nat :=
  if u = 17 then some 7 else if u = 18 then some 8 else if u = 19 then some 9
  else if 20 ≤ u ∧ u < 24 then some (u - 10) else if u = 15 then some 15 else none

/-- A full load or boot holds the blocks it resets from its last check to the end of its apply step (R59). -/
def loadUnits : List Nat := [5, 6, 7, 8, 9, 10, 11, 13, 14, 15, 16]
def State.loadHolds (s : State) (u : Nat) : Bool := s.gld.applying && s.gld.op != some .swap && loadUnits.contains u

/-- A unit is held in reset because its domain is switched on and not yet released (R445), or by a load. -/
def State.unitHeld (s : State) (u : Nat) : Bool :=
  s.loadHolds u ||
  match unitDomain u with
  | none => false
  | some d => bitAt (s.get SYS_PD_EN_PD_EN) d && !bitAt s.sys.pdUp d

/-! ## Requests (R404, R406, R416, R454) -/

/-- The reset unit of a block and its `RSUB` code (R406). -/
def rsubUnit (b r : Nat) : Nat :=
  if b = 6 ∧ 1 ≤ r ∧ r ≤ 3 then 16 + r else if b = 13 ∧ 1 ≤ r ∧ r ≤ 4 then 19 + r else b

/-- The smallest unit that holds every unit of a list of one block's. -/
def joinUnits (b : Nat) : List Nat → Nat
  | [] => b
  | u :: t => if t.all (· == u) then u else b

/-- A block's reaction reset at a boundary: suppressed while its escalation stands, escalated inside a shadow. -/
def State.reactionReset (s : State) (b : Nat) (units : List Nat) (n : Nat) : State :=
  if s.bit (FLT_ESC_BLK b) then s.satAdd FLT_CNT_RST_SUPP 1
  else
    let esc := s.blockInShadow b
    let s := if esc then (s.set (FLT_ESC_BLK b) 1).raise FLT_STICKY_ESC_S else s
    let s := ((s.satAdd FLT_CNT_RST_RX 1).obsAdd 83 1).raise FLT_STICKY_RST_RX_S
    s.resetStart (joinUnits b units) n

/-- Take the requests of the blocks a test names. Several requests of a block with a reaction among them make one
reset; host resets alone start each on its own. -/
def State.takeResets (s : State) (which : Nat → Bool) (n : Nat) : State :=
  let host := s.flt.hostReq
  let reac := s.flt.rstReq
  let s := { s with flt := { s.flt with hostReq := host.filter (fun u => !which (unitBlock u)), rstReq := reac.filter (fun e => !which e.1) } }
  let one (s : State) (b : Nat) : State :=
    if !which b then s
    else
      let hs := (host.filter (fun u => unitBlock u == b)).eraseDups
      let rs := (reac.filter (fun e => e.1 == b)).map (fun e => rsubUnit b e.2)
      match rs with
      | [] => (if hs.contains b then [b] else hs).foldl (fun s u => s.resetStart u n) s
      | _ =>
        if s.bit (FLT_ESC_BLK b) then
          (if hs.contains b then [b] else hs).foldl (fun s u => s.resetStart u n) (s.reactionReset b rs n)
        else s.reactionReset b (rs ++ hs) n
  (List.range 17).foldl one s

/-- Count the boundary: units in reset or shadow move on, and those whose time ends are released or leave (R406, R413). -/
def State.resetTick (s : State) : State :=
  let one (s : State) (u : Nat) : State :=
    if s.unitHeld u then s
    else
      let r := tabGet 0 s.flt.rstLeft u
      if 1 < r then { s with flt := { s.flt with rstLeft := tabPut 0 s.flt.rstLeft u (r - 1) } }
      else if r = 1 then s.resetRelease u 64
      else
        let d := tabGet 0 s.flt.shdLeft u
        if 1 < d then { s with flt := { s.flt with shdLeft := tabPut 0 s.flt.shdLeft u (d - 1) } }
        else if d = 1 then s.shadowEnd u else s
  (List.range 24).foldl one s

/-- What the boundary does to resets: those in force move on, and the requests of the tick start. -/
def State.resetBoundary (s : State) : State := s.resetTick.takeResets (fun _ => true) 3

/-! ## The commands of the sequencer -/

/-- BLOCK_RESET_START: the requested reset of a unit's block starts at the boundary about to be made. -/
def State.blockResetStart (s : State) (u : Nat) : State := s.takeResets (fun b => b == unitBlock u) 4

/-- BLOCK_RESET_RELEASE: the unit's last tick in reset ends at the boundary about to be made. -/
def State.blockResetRelease (s : State) (u : Nat) : State :=
  if tabGet 0 s.flt.rstLeft u = 1 ∧ !s.unitHeld u then s.resetRelease u 65 else s

/-- RESET_SHADOW_END: the unit's last tick of shadow ends. -/
def State.resetShadowEnd (s : State) (u : Nat) : State :=
  if !s.unitInRst u ∧ tabGet 0 s.flt.shdLeft u = 1 then s.shadowEnd u else s

end Sys2Proof.Machine
end

