-- ==== Sys2Proof/Machine/Pwr.lean ====
section
/-!
DEFINITION. SYS: power domains, the output banks' supplies, the oscillator and the MPLL, the die temperature and host
block resets (R441 – R457).
-/
namespace Sys2Proof.Machine
open Sys2Proof

/-! ## Power domains (R444, R445) -/

/-- `PD_ON`: powered and usable, an output bank's only with its supply in range. -/
def State.pdOn (s : State) : Nat := (List.range 16).foldl (fun v d => if s.domainUp d then setBitAt v d else v) 0

/-- What hangs on the APLL and output domains follows them. -/
def State.domainEval (s : State) (d : Nat) : State := if d < 7 then s.apllEvals else s

/-- A switched unit of a domain. -/
def domainUnit (d : Nat) : Option Nat :=
  if d = 7 then some 17 else if d = 8 then some 18 else if d = 9 then some 19 else if 10 ≤ d ∧ d ≤ 13 then some (d + 10)
  else if d = 15 then some 15 else none

/-- A domain is switched on: it ramps, its logic in reset. -/
def State.domainOn (s : State) (d : Nat) : State :=
  let s := s.set SYS_PD_STAT_RAMP (setBitAt (s.get SYS_PD_STAT_RAMP) d)
  match domainUnit d with
  | some u => s.resetBegin u 1
  | none => s

/-- Each link of a quad's ports falls, or each Conjunction Link goes OFF, with its domain. -/
def State.domainIsolate (s : State) (d : Nat) : State :=
  let s := (match domainUnit d with | some u => (unitLanes u).foldl (fun s l => s.setLane l (Lane.start l)) s | none => s)
  if 10 ≤ d ∧ d ≤ 13 then s.quadFall (d - 10)
  else if d = 15 then (List.range 8).foldl (fun s k => s.linkOff k) (s.set CJL_CTL_TX_LOCK 0)
  else s

/-- A domain is switched off: isolated at once. -/
def State.domainOff (s : State) (d : Nat) : State :=
  let was := s.domainUp d
  let s := (s.domainIsolate d).set SYS_PD_STAT_RAMP (clearBitAt (s.get SYS_PD_STAT_RAMP) d)
  let s := { s with sys := { s.sys with pdUp := clearBitAt s.sys.pdUp d, pdWait := clearBitAt s.sys.pdWait d } }
  (s.domainEval d).raiseIf was SYS_STICKY_PD_S

/-- `PD_EN` has taken a new value; `old` is the one before. -/
def State.pdApply (s : State) (old : Nat) : State :=
  let new := s.get SYS_PD_EN_PD_EN
  (List.range 16).foldl (fun s d =>
    if bitAt new d && !bitAt old d then s.domainOn d
    else if bitAt old d && !bitAt new d then s.domainOff d else s) s

/-- A ramp ends. -/
def State.domainRampDone (s : State) (d : Nat) : State :=
  if !bitAt (s.get SYS_PD_STAT_RAMP) d then s
  else
    let s := s.set SYS_PD_STAT_RAMP (clearBitAt (s.get SYS_PD_STAT_RAMP) d)
    { s with sys := { s.sys with pdWait := setBitAt s.sys.pdWait d } }

/-- A domain whose ramp has ended is released; a unit's shadow lasts `n` boundaries more. -/
def State.domainRelease (s : State) (d n : Nat) : State :=
  if !bitAt s.sys.pdWait d then s
  else
    let s := { s with sys := { s.sys with pdWait := clearBitAt s.sys.pdWait d, pdUp := setBitAt s.sys.pdUp d } }
    let s := match domainUnit d with | some u => s.resetRelease u n | none => s
    let s := if d = 15 then (List.range 8).foldl (fun s k => s.linkStart k) s else s
    (s.domainEval d).raiseIf (s.domainUp d) SYS_STICKY_PD_S

def State.domainBoundary (s : State) : State := (List.range 16).foldl (fun s d => s.domainRelease d 64) s

/-! ## Output bank supplies (R443) -/

/-- An output bank's supply moves; output banks are kept under keys 0–2. -/
def State.outSupply (s : State) (bank mv : Nat) : State :=
  let cls := classOf (s.get SYS_SUP_STAT_VDDO_CLASS) bank
  let was := bitAt (s.get SYS_SUP_STAT_SUP_PGOOD) bank
  let good := supplyGood mv cls
  let on := s.domainUp (4 + bank)
  let s := { s with sys := { s.sys with bankMv := tabPut 0 s.sys.bankMv bank mv } }
  let s := s.set SYS_SUP_STAT_VDDO_CLASS (putClass (s.get SYS_SUP_STAT_VDDO_CLASS) bank (classAfter mv cls))
  let s := s.set SYS_SUP_STAT_SUP_PGOOD (putBit (s.get SYS_SUP_STAT_SUP_PGOOD) bank good)
  let s := s.raiseIf (was && !good) SYS_STICKY_SUP_S
  (s.raiseIf (on != s.domainUp (4 + bank)) SYS_STICKY_PD_S).apllEvals

/-- The supply has stayed in a band for 2 ms: a bank whose class reads none takes it. -/
def State.outClassLatch (s : State) (bank : Nat) : State :=
  let cls := classOf (s.get SYS_SUP_STAT_VDDO_CLASS) bank
  let c := supplyClass (tabGet 0 s.sys.bankMv bank)
  if cls = 3 ∧ c ≠ 3 then
    let on := s.domainUp (4 + bank)
    let s := s.set SYS_SUP_STAT_VDDO_CLASS (putClass (s.get SYS_SUP_STAT_VDDO_CLASS) bank c)
    let s := s.set SYS_SUP_STAT_SUP_PGOOD (putBit (s.get SYS_SUP_STAT_SUP_PGOOD) bank true)
    (s.raiseIf (on != s.domainUp (4 + bank)) SYS_STICKY_PD_S).apllEvals
  else s

/-! ## Temperature (R456) -/

/-- The alarm against `T_HI`: it clears 2 °C below. -/
def State.tempEval (s : State) : State :=
  let t := s.getS SYS_TEMP_T_DIE
  let hi := s.getS SYS_TEMP_T_HI * 128
  let was := s.bit SYS_TEMP_TALARM
  let now := if was then decide (hi - 256 < t) else decide (hi ≤ t)
  (s.setB SYS_TEMP_TALARM now).raiseIf (now && !was) SYS_STICKY_TEMP_S

def State.dieTempRead (s : State) (t : BitVec 16) : State :=
  if s.sys.por || s.sys.rstN then s else (s.set SYS_TEMP_T_DIE t.toNat).tempEval

/-! ## Oscillator (R446 – R448) -/

/-- `OSCIN` frequencies of the codes, Hz (R446). -/
def oscCodes : List Nat := [10000000, 12800000, 19200000, 20000000, 25000000, 26000000, 30720000, 38400000, 40000000, 50000000, 100000000]

/-- The code whose frequency lies within ±1.5 % of a measurement. -/
def oscCodeOf (hz : Nat) : Option Nat :=
  (oscCodes.zipIdx.find? (fun e => decide (985 * hz ≤ 1000 * e.1 ∧ 1000 * e.1 ≤ 1015 * hz))).map (·.2)

/-- The boot clock runs, the internal reset has ended. -/
def State.booting (s : State) : Bool := !s.sys.por && !s.sys.rstN && !s.sys.clocks

/-- The measurement ends (R446): a code, or `DET_FAIL`. -/
def State.detectionDone (s : State) (hz : Nat) : State :=
  if !s.booting || s.sys.locking || s.bit SYS_OSC_DET_FAIL then s
  else match oscCodeOf hz with
    | some c => let s := (s.set SYS_OSC_OSC_CODE c).set SYS_OSC_OSC_OK 1
                { s with sys := { s.sys with locking := true } }
    | none => s.set SYS_OSC_DET_FAIL 1

/-- A taken write of `OSC_SEL` starts the MPLL on its code (R447). -/
def State.oscSelected (s : State) : State :=
  let s := s.set SYS_OSC_OSC_CODE (s.get SYS_OSC_SEL_OSC_SEL)
  { s with sys := { s.sys with locking := true } }

/-- The MPLL has not locked on the chosen code: the boot clock stays until `RESET_N` (R447). -/
def State.mpllTimeout (s : State) : State := if s.sys.clocks then s else { s with sys := { s.sys with locking := false } }

/-- No `OSCIN` edge for 500 ns while the MPLL is locked (R448). -/
def State.oscinLoss (s : State) : State :=
  if !s.sys.clocks || !s.bit SYS_OSC_MPLL_LOCK then s
  else
    let ok := s.bit SYS_OSC_OSC_OK
    let s := (s.set SYS_OSC_OSC_OK 0).set SYS_OSC_MPLL_LOCK 0
    let s := (if ok then s.satAdd SYS_OSC_CNT_OSC_LOSS 1 else s).satAdd SYS_OSC_CNT_MPLL_UNLOCK 1
    s.raiseAll ((if ok then [SYS_STICKY_OSC_S] else []) ++ [SYS_STICKY_MPLL_S])

/-- 1 ms of edges: `OSC_OK` again, and the MPLL relocks without a step (R448). -/
def State.oscinRestore (s : State) : State :=
  if !s.sys.clocks || s.bit SYS_OSC_OSC_OK then s else (s.set SYS_OSC_OSC_OK 1).set SYS_OSC_MPLL_LOCK 1

/-! ## Host block resets (R454) -/

/-- The units a word written to `SYS_BRST` names. -/
def brstUnits (v : Nat) : List Nat := (List.range 24).filter (fun u => decide (1 ≤ u) && bitAt v u)

/-- A write of `SYS_BRST`: each unit's reset waits for the next tick boundary. -/
def State.brstWritten (s : State) (v : Nat) : State :=
  (brstUnits v).foldl (fun s u =>
    (({ s with flt := { s.flt with hostReq := s.flt.hostReq ++ [u] } } : State).satAdd SYS_BRST_CNT_BRST_CNT 1).raise SYS_STICKY_BRST_S) s

end Sys2Proof.Machine
end

