-- ==== Sys2Proof/Machine/Gld.lean ====
section
/-!
DEFINITION. The grist loader: the checks of an image (R43 – R49, R489), where images come from (R50 – R54), the apply
step of a full load and of a live swap (R59 – R64), aborts (R490), and the one-time-programmable keys and counter
(R56 – R58).
-/
namespace Sys2Proof.Machine
open Sys2Proof

/-! ## Fields of an image (R43, R44) -/

/-- A little-endian header field. -/
def hdrFld (b : List Byte) (o n : Nat) : Nat := leNat ((b.drop o).take n)

def imgLen (b : List Byte) : Nat := hdrFld b 8 4
def secCount (b : List Byte) : Nat := hdrFld b 0x1C 2

/-- A section directory entry. -/
structure SecEntry where
  type : Nat
  req  : Bool
  ofs  : Nat
  len  : Nat
  crc  : Nat
  deriving DecidableEq, Repr

def secEntry (b : List Byte) (i : Nat) : SecEntry :=
  let o := 0x40 + 16 * i
  ⟨hdrFld b o 2, bitAt (hdrFld b (o + 2) 2) 0, hdrFld b (o + 4) 4, hdrFld b (o + 8) 4, hdrFld b (o + 12) 4⟩

def sections (b : List Byte) : List SecEntry := (List.range (secCount b)).map (secEntry b)

/-- The section types that R42 marks Required. -/
def requiredTypes : List Nat := [1, 2, 3, 4, 5, 6, 7, 13, 15]

/-! ## The checks of R48 -/

/-- A header field breaks BAD_FORMAT. -/
def badHeader (b : List Byte) : Bool :=
  hdrFld b 6 2 != 1 || decide (4 ≤ hdrFld b 0x17 1) || decide (2 ^ 15 ≤ hdrFld b 0x18 4) || hdrFld b 0x1E 2 != 0 || decide (3 < hdrFld b 0x14 1)
    || decide (3 < hdrFld b 0x15 1) || decide (3 < hdrFld b 0x16 1) || decide (128 < hdrFld b 0xF 1) || secCount b == 0 || decide (64 < secCount b)
    || bitsAt (hdrFld b 0x18 4) 13 2 == 3

/-- The checks made on the first 64 bytes (R51). -/
def headerCheck (b : List Byte) : Nat := if hdrFld b 0 4 ≠ 0x54535247 then 0x01 else if badHeader b then 0x02 else 0

/-- Types rise strictly. -/
def typesRise : List Nat → Bool
  | [] => true
  | [_] => true
  | a :: b :: t => decide (a < b) && typesRise (b :: t)

/-- The directory breaks BAD_FORMAT. -/
def badDirectory (b : List Byte) : Bool :=
  let ts := (sections b).map (·.type)
  !typesRise ts || requiredTypes.any (fun t => !ts.contains t)

/-- A section lies outside the image. -/
def badSection (b : List Byte) (e : SecEntry) : Bool := decide (imgLen b < e.ofs + e.len)

def badCrc (b : List Byte) (e : SecEntry) : Bool := crc32 ((b.drop e.ofs).take e.len) != e.crc

/-- Value of an IMG field under an image. -/
def ImageCfg.val (c : ImageCfg) (f : Fld) : Nat := regGet c.img f.key

/-- The fingerprint record (R489): an APLL's 32 bytes, an output's 64. -/
def ImageCfg.apllBytes (c : ImageCfg) (m : Nat) : List Byte :=
  if c.val (SYN_APLL_CFG_EN m) = 0 then List.replicate 32 0
  else
    let n := c.val (SYN_APLL_N_HI_N m) % 2 ^ 26 * 2 ^ 48 + c.val (SYN_APLL_N_LO_N m) * 2 ^ 16 + tabGet 0 c.apllFrac m % 2 ^ 16
    leBytes 1 (c.val (SYN_APLL_CFG_EN m)) ++ leBytes 1 (c.val (SYN_APLL_CFG_CHAN m)) ++ leBytes 1 (c.val (SYN_APLL_CFG_DBL m))
      ++ leBytes 1 (c.val (SYN_APLL_CFG_RDIV m)) ++ leBytes 4 (n / 2 ^ 64 % 2 ^ 16) ++ leBytes 8 (n % 2 ^ 64) ++ List.replicate 16 0
def ImageCfg.setBytes (c : ImageCfg) (lo hi frac num den : Fld) : List Byte :=
  leBytes 8 (c.val lo + 2 ^ 32 * c.val hi) ++ leBytes 4 (c.val frac) ++ leBytes 4 (c.val num) ++ leBytes 8 (c.val den)
def ImageCfg.outBytes (c : ImageCfg) (j : Nat) : List Byte :=
  if c.val (SYN_OUT_CFG_EN j) = 0 then List.replicate 64 0
  else
    leBytes 1 (c.val (SYN_OUT_CFG_EN j)) ++ leBytes 1 (c.val (SYN_OUT_CFG_APLL j)) ++ leBytes 1 (c.val (SYN_OUT_CFG_FORMAT j))
      ++ leBytes 5 (c.val (SYN_OUT_CFG_PULSE j))
      ++ c.setBytes (SYN_OUT_DIVA_LO_DIV j) (SYN_OUT_DIVA_HI_DIV j) (SYN_OUT_DIVA_HI_FRAC j) (SYN_OUT_NUMA_NUM j) (SYN_OUT_DENA_DEN j)
      ++ c.setBytes (SYN_OUT_DIVB_LO_DIV j) (SYN_OUT_DIVB_HI_DIV j) (SYN_OUT_DIVB_HI_FRAC j) (SYN_OUT_NUMB_NUM j) (SYN_OUT_DENB_DEN j)
      ++ List.replicate 8 0
def ImageCfg.record (c : ImageCfg) : List Byte :=
  leBytes 8 (c.val SYN_XO_FREQ_LO_XO_FREQ + 2 ^ 32 * c.val SYN_XO_FREQ_HI_XO_FREQ) ++ (List.range 4).flatMap c.apllBytes
    ++ (List.range 24).flatMap c.outBytes ++ leBytes 2 (c.val SYS_PD_EN_PD_EN &&& 0x407F)

/-- The fingerprint the loader computes. -/
def ImageCfg.fingerprint (c : ImageCfg) : Nat := Config.sha384 c.record % 2 ^ 64

/-- The 85 % caps of R24 by tick code. -/
def slotCap (code : Nat) : Nat := match code % 4 with | 0 => 318750 | 1 => 159375 | 2 => 79687 | _ => 39843

/-- Worst-case slots per tick of a schedule; tick 0 is the heaviest. -/
def schedDemand (l : List Job) : Nat := l.foldl (fun n j => n + j.cost) 0

/-- The signature block's parts (R45). -/
def sigBlock (b : List Byte) : List Byte := (b.drop (imgLen b - 208)).take 208

/-- An image's value, cut to its field. -/
def imageVal (k v : Nat) : Nat := match fieldOf k with | some d => v % 2 ^ d.len | none => v

/-- The sections of types that the device knows, with their contents; others are skipped (R46). -/
def knownSections (b : List Byte) : List (Nat × List Byte) :=
  ((sections b).filter (fun e => decide (1 ≤ e.type) && decide (e.type ≤ 15))).map (fun e => (e.type, (b.drop e.ofs).take e.len))

/-- The optional section that configures a block: TIME, ETH, PTP, CJL, TNS (R42). -/
def blockSection (b : Nat) : Option Nat := if 12 ≤ b ∧ b ≤ 16 then some (b - 4) else none

/-- A section of the type is present; the IMG fields of a block whose optional section is absent keep their reset values (R42). -/
def hasSection (b : List Byte) (type : Nat) : Bool := (sections b).any (fun e => e.type == type)
def imgAllowed (b : List Byte) (k : Nat) : Bool := match blockSection (keyBlock k) with | some t => hasSection b t | none => true

/-- What the image declares, with what its header says; nothing for an optional section that is absent (R42). -/
def imageCfgOf (b : List Byte) : ImageCfg :=
  let c := Config.imageConfig (knownSections b)
  { c with
    tickCode := hdrFld b 0x14 1, primary := hdrFld b 0x15 1, keyIndex := hdrFld b 0x16 1, svn := hdrFld b 0xF 1,
    ver := hdrFld b 0x10 4, fplan := hdrFld b 0x20 8, oscId := hdrFld b 0x28 8, noSwapIn := bitAt (hdrFld b 0x17 1) 0,
    noSwapOut := bitAt (hdrFld b 0x17 1) 1, hash := Config.sha384 (b.take (imgLen b)),
    img := (c.img.filter (fun e => imgAllowed b e.1)).map (fun e => (e.1, imageVal e.1 e.2)), sched := c.sched.take 512,
    locks := if hasSection b 14 then c.locks.take 256 else [], serdes := if hasSection b 9 then c.serdes else [],
    ptpCtx := if hasSection b 10 then c.ptpCtx else [], tense := if hasSection b 12 then c.tense else [],
    cjl := hasSection b 11 }

/-- The swap checks (R48, R61). -/
def State.swapCheck (s : State) (c : ImageCfg) : Nat :=
  if !s.bit GLD_STAT_IMG_VALID then 0x13
  else if c.tickCode ≠ s.cfg.tickCode then 0x10
  else if c.fplan ≠ s.cfg.fplan then 0x11
  else if c.primary ≠ s.cfg.primary then 0x12
  else if c.noSwapIn || s.cfg.noSwapOut then 0x13
  else 0

/-- Every check of R48 on the SRAM contents, in order; 0 is OK. -/
def State.imageCheck (s : State) (b : List Byte) : Nat :=
  let c := imageCfgOf b
  let k := c.keyIndex % 4
  let sb := sigBlock b
  if headerCheck b ≠ 0 then headerCheck b
  else if badDirectory b then 0x02
  else if decide (imgLen b < 1024) || decide (2097152 < imgLen b) || imgLen b % 16 != 0 || (!s.gld.fromFlash && decide (s.get GLD_IMG_LEN_LEN < imgLen b))
    || (sections b).any (badSection b) then 0x03
  else if hdrFld b 0xC 2 ≠ 0x9648 ∨ 0x21 < hdrFld b 0xE 1 then 0x04
  else if (sections b).any (badCrc b) || c.fingerprint != c.fplan then 0x05
  else if (sections b).any (fun e => e.req && (e.type == 0 || decide (15 < e.type))) then 0x06
  else if !bitAt s.otp.programmed k then 0x07
  else if bitAt s.otp.revoked k then 0x08
  else if Config.sha384 (sb.take 97) ≠ tabGet 0 s.otp.keyHash k then 0x09
  else if !Config.ecdsaVerify (sb.take 97) (Config.sha384 (b.take (imgLen b - 208))) (beNat ((sb.drop 0x70).take 48)) (beNat ((sb.drop 0xA0).take 48)) then 0x0A
  else if c.svn < s.otp.arb then 0x0B
  else if slotCap c.tickCode < schedDemand c.sched then 0x0C
  else if s.gld.op = some .swap then s.swapCheck c
  else 0

/-- The echo retry budget of a link, ns (R334). -/
def State.echoBudget (s : State) (k : Nat) : Nat :=
  s.inF (CJL_CFG_ECHO_PER k) * 1024 + (s.inF (CJL_CFG_ECHO_RETRY k) + 1) * (s.inF (CJL_CFG_ECHO_WAIT k) * 1000 + 5120)

/-- Checks of R47 beyond the slot cap that the loader does not repeat (R49). Checks on contents the model does not read
from the image are not among them (log entry 12). -/
def State.imageSound (s : State) (c : ImageCfg) : Bool :=
  let p := { s with regs := c.img, inForce := c.img, cfg := c }
  let rate := tickRateOf c.tickCode
  (List.range 12).all (fun n => decide (16 * c.val (LPE_BW_BW n) ≤ rate * 10000) && decide (16 * c.val (LPE_FBW_FBW n) ≤ rate * 10000))
    && (List.range 4).all (fun m => c.val (SYN_APLL_CFG_EN m) == 0 || (decide (9600000000 ≤ p.fVco m) && decide (p.fVco m ≤ 11200000000)))
    && (List.range 4).all (fun k => c.val (TME_CFG_EN k) == 0 || decide (c.val (TME_CFG_CHAN k) ≤ 11))
    && (List.range 64).all (fun l => decide (c.val (TIM_TDL_CFG_RPT l) ≤ 8))
    && (c.declared.filter (· < 56)).all (fun n => decide ((c.val (REF_ACT_MISS_TOL n) : Rat) * p.monPeriod n + p.edgeTol n < (c.val (QUL_LOSS_TO_LOSS_TO n) : Rat) * 16000000))
    && (List.range 8).all (fun k => c.val (CJL_TL_TO_TL_TO k) == 0 || decide (p.echoBudget k < c.val (CJL_TL_TO_TL_TO k) * 1000))
    && (List.range 512).all (fun n => let x : Sess := { Sess.idle with w := (List.range 11).map (fun w => tabGet 0 c.ptpCtx (n * 64 + w)) }
        x.fld 0 0 1 == 0 || x.role == 1 || decide (x.annBudget < x.fld 8 0 32 * 2000000))
    && decide (c.tense.length ≤ 4096)

/-! ## Operations -/

/-- Begin an operation. -/
def State.gldBegin (s : State) (k : LoadKind) (flash slotB alt : Bool) : State :=
  ({ s with gld := { s.gld with op := some k, fromFlash := flash, slotB := slotB, alternate := alt, hdr := false, applying := false, next := none } }).set
    GLD_STAT_LOADER (if flash then 1 else 2)

/-- The boot after the MPLL has locked (R50, R52). -/
def State.gldBoot (s : State) : State :=
  let sel := s.get GLD_BOOT_BOOT_SEL
  if sel = 2 then s
  else if sel ≠ 3 ∧ s.get GLD_BOOT_TRIES = 3 then (s.gldBegin .boot true (sel == 0) true).raise GLD_STICKY_FELL_BACK
  else s.gldBegin .boot true (sel == 1) false

/-- A check fails, which `RESULT` reports (R48): a boot moves to the alternate slot where there is one; else the operation ends
(R52, R53). -/
def State.gldFail (s : State) (code : Nat) : State :=
  let sel := s.get GLD_BOOT_BOOT_SEL
  if s.gld.op = some .boot ∧ !s.gld.alternate ∧ sel ≤ 1 then
    ((s.set GLD_STAT_RESULT code).gldBegin .boot true (!s.gld.slotB) true).raise GLD_STICKY_FELL_BACK
  else s.gldEnd code

/-- A write of `GLD_CTL` with `START` or `ABORT` (R54, R59, R60, R490). -/
def State.gldAbort (s : State) : State := if s.gld.applying && s.gld.op != some .swap then s else s.gldEnd 0x16
def State.gldStart (s : State) : State :=
  let m := s.get GLD_CTL_MODE
  if s.gld.op.isSome then s.set GLD_STAT_RESULT 0x15
  else if 2 ≤ m then s.set GLD_STAT_RESULT 0x17
  else s.gldBegin (if m = 0 then .full else .swap) (s.bit GLD_CTL_SRC) (s.bit GLD_CTL_FLASH_SLOT) false
def State.gldCtl (s : State) (start abort : Bool) : State := if abort then s.gldAbort else if start then s.gldStart else s

/-- The SRAM's contents change. -/
def State.sramPut (s : State) (a : Nat) (l : List Byte) : State :=
  ({ s with gld := { s.gld with sram := putBytes s.gld.sram a l } }).set GLD_STAT_SRAM_MATCH 0

/-- Writes of the SRAM are ignored from `START` until the loader is IDLE again (R54). DESIGN CHOICE: during a flash boot too, which no
`START` began (log entry 55). -/
def State.sramBlocked (s : State) : Bool := s.gld.op.isSome

/-- The first 64 bytes of a slot have been read (R51). -/
def State.headerRead (s : State) (b : List Byte) : State :=
  if s.gld.op.isNone || s.get GLD_STAT_LOADER != 1 || s.gld.hdr then s
  else
    let b := (b ++ List.replicate 64 0).take 64
    let s := s.sramPut 0 b
    if headerCheck b ≠ 0 then s.gldFail (headerCheck b) else { s with gld := { s.gld with hdr := true } }

/-- The rest of the image has been read. -/
def State.imageRead (s : State) (b : List Byte) : State :=
  if s.gld.op.isNone || s.get GLD_STAT_LOADER != 1 || !s.gld.hdr then s
  else (s.sramPut 64 (b.take (2097152 - 64))).set GLD_STAT_LOADER 2

/-- The image in the SRAM. -/
def State.sramImage (s : State) : List Byte :=
  let h := getBytes s.gld.sram 0 64
  getBytes s.gld.sram 0 (Nat.max 64 (min 2097152 (imgLen h)))

/-- The units a full load or boot resets, each held until the apply step ends (R59). -/
def State.loadResets (s : State) : State :=
  let one (s : State) (u : Nat) : State :=
    let t := s.unitReset u
    { t with flt := { t.flt with rstLeft := tabPut 0 t.flt.rstLeft u 1 } }
  loadUnits.foldl one s

/-- The checks have passed: the image waits for the apply step. -/
def State.imagePassed (s : State) (c : ImageCfg) : State :=
  ({ s with gld := { s.gld with next := some c, applying := true } }).set GLD_STAT_LOADER 3

/-- The checks complete: a failure, or the apply step begins. A full load or boot resets every block but SYS, HIF, TME,
GLD, FLT and OBS and arms and squelches every output (R59, R248). An image that breaks another check of R47 is loaded, with undefined
behaviour (R49). -/
def State.imageVerified (s : State) : State :=
  if s.gld.op.isNone || s.get GLD_STAT_LOADER != 2 then s
  else
    let b := s.sramImage
    let r := s.imageCheck b
    if r ≠ 0 then s.gldFail r
    else
      let t := s.imagePassed (imageCfgOf b)
      (if s.gld.op = some .swap then t else t.armAll.evalOutputs.loadResets).misusedIf (!s.imageSound (imageCfgOf b))

/-! ## What runs takes the image's values -/

/-- A field takes an image's value: kind IMG, and not WONCE. -/
def takesImage (k : Nat) : Bool := match fieldOf k with | some d => d.kind == .img && d.acc != .wonce | none => false

/-- IMG fields take the values of an image (R59, R62). -/
def State.putImage (s : State) (c : ImageCfg) : State :=
  let t := s.regs.filter (fun e => !takesImage e.1)
  let t := (c.img.filter (fun e => takesImage e.1)).foldl (fun t e => regPut t e.1 e.2) t
  { s with regs := t, cfg := c, applied := true, upset := s.upset.filter (fun e => !takesImage e.1) }

/-- A cask is kept when the oscillator is the same; else it is to be cleared at the next tick 0, and so is that of a channel that a
full load leaves disabled (R59, R62, R221). -/
def State.caskLoad (s : State) (same full : Bool) : State :=
  (List.range 12).foldl (fun s c => if !same || (full && !s.chanEn c) then s.askClear c else s.showFit c (s.caskOf c).fit) s

/-- What the GLD registers show of the running image. DESIGN CHOICE: digest byte 4n stands in bits 7:0 of `GLD_IMG_HASH_n`, as R56
has it for the staging words (R70, log entry 55). -/
def State.showImage (s : State) (fromWhere : Nat) (fell boot : Bool) : State :=
  let c := s.cfg
  let s := ((s.set GLD_IMG_VER_IMAGE_VER c.ver).set GLD_IMG_SVN_SVN c.svn).set GLD_IMG_SVN_KEY_INDEX c.keyIndex
  let s := (s.set GLD_IMG_SVN_TICK_CODE c.tickCode).set GLD_IMG_SVN_PRIMARY_TS c.primary
  let s := s.set2 GLD_FPLAN_LO_FPLAN GLD_FPLAN_HI_FPLAN c.fplan
  let s := (List.range 12).foldl (fun s n => s.set (GLD_IMG_HASH_HASH n) (leNat ((leBytes 48 c.hash).reverse.drop (4 * n) |>.take 4))) s
  let s := ((s.set GLD_STAT_IMG_VALID 1).set GLD_STAT_SRAM_MATCH 1).set GLD_STAT_RESULT 0
  let s := (((s.set GLD_STAT_LOADER 0).set GLD_BOOT_LOADED_FROM fromWhere).setB GLD_BOOT_FELL_BACK fell).set GLD_BOOT_CONFIRM 0
  let s := (s.set LPE_DEMAND_DEMAND (schedDemand c.sched)).set LPE_TAGS_DPLL_TAGS ((c.sched.filter (fun j => j.cls == 0)).length)
  { s with gld := { s.gld with op := none, applying := false, next := none, bootRun := boot } }

/-- Forget the channels' history (R59, R182): their state and every banked field of SEL and LPE. -/
def State.forgetChannels (s : State) : State :=
  let f (t : Tab Nat) : Tab Nat := t.filter (fun e => !(keyBlock e.1 == 8 || keyBlock e.1 == 9))
  { s with ind := { s.ind with regs := f s.ind.regs, chan := [], ts := [], evs := [] },
           pend := { s.pend with regs := f s.pend.regs, chan := [], ts := [], evs := [] } }

/-- Running time scales free-run on their last increment until their channels lock (R59). -/
def State.holdScales (s : State) : State := (List.range 4).foldl (fun s k => s.modScale k (fun x => { x with hold := x.run })) s

/-- The apply step of a full load or boot ends: the image runs. -/
def State.runImage (s : State) (c : ImageCfg) : State :=
  let oldPd := s.get SYS_PD_EN_PD_EN
  let same := s.cfg.oscId == c.oscId
  let boot := s.gld.op == some .boot
  let src := if s.gld.fromFlash then (if s.gld.slotB then 2 else 1) else 3
  let was := s
  let s := (((s.holdScales.forgetChannels.putImage c).widthsLoaded was).evtStart was).showImage src (boot && s.gld.alternate) boot
  let s := { s with deferd := [], schedEnd := [], subjSlots := [], target := s.nextMultiple (s.now s.primary) }
  let s := loadUnits.foldl (fun s u => { s with flt := { s.flt with rstLeft := tabPut 0 s.flt.rstLeft u 0 } }) s
  let s := (s.caskLoad same true).tempEval
  let s := (List.range 56).foldl (fun s n => s.refStart n) s
  let s := { s with eth := { s.eth with serdes := [], written := [] }, ptp := { s.ptp with mem := c.ptpCtx, sess := [], grp := [] } }
  let s := s.pdApply oldPd
  let s := ((List.range 4).foldl (fun s m => s.bindApll m) s).apllEvals
  let s := ((List.range 512).foldl (fun s n => s.sessionCheck n) s).tnsLoad
  (List.range 8).foldl (fun s k => s.linkRole k) s.nodeLoad

/-- The second of R61 has begun. -/
def State.swapSec (s : State) : Nat := s.get GLD_SWAP_SEC_LO_SEC_LO + 2 ^ 32 * s.get GLD_SWAP_SEC_HI_SEC_HI
def State.swapTooLate (s : State) : Bool := s.bit GLD_CTL_SWAP_AT_EN && decide (s.swapSec ≤ tsSec (s.now s.primary))

/-- IMAGE_APPLY_DONE (R59 – R61). -/
def State.imageApplied (s : State) : State :=
  if !s.gld.applying || s.get GLD_STAT_LOADER != 3 then s
  else match s.gld.next with
    | none => s
    | some c =>
      if s.gld.op = some .swap then (if s.swapTooLate then s.gldEnd 0x14 else s.set GLD_STAT_LOADER 4)
      else s.runImage c

/-! ## The swap boundary (R62) -/

/-- A slot whose source, pre-divider or expected frequency changes, or that is no longer declared, restarts. -/
def slotChanged (a b : ImageCfg) (n : Nat) : Bool :=
  !b.declared.contains n || (decide (n < 56) && [REF_DIV_DIV n, REF_FREQ_LO_FREQ n, REF_FREQ_HI_FREQ n, REF_CFG_TYPE n].any (fun f => a.val f != b.val f))

/-- A session whose template changes is closed, and opened under its new template. -/
def State.swapSession (s : State) (old : ImageCfg) (n : Nat) : State :=
  let ws := List.range 64
  let t (c : ImageCfg) := ws.map (fun w => tabGet 0 c.ptpCtx (n * 64 + w))
  if t old = t s.cfg then s
  else
    let s := if (s.sess n).on then s.sessionStop n else s
    (ws.foldl (fun s w => s.setCtxWord n w (tabGet 0 s.cfg.ptpCtx (n * 64 + w))) s).sessionCheck n

/-- SerDes words in force stay until the port's next link restart (R314). -/
def State.swapSerdes (s : State) (old : ImageCfg) : State :=
  let as := (List.range 16).flatMap (fun p => [p * 0x10000, p * 0x10000 + 4, p * 0x10000 + 8])
  let inForce := as.foldl (fun t a => tabPut (tabGet 0 s.cfg.serdes a) t a (tabGet (tabGet 0 old.serdes a) s.eth.serdes a)) []
  { s with eth := { s.eth with serdes := inForce, written := [] } }

/-- A channel's part: subjunctive items go; a changed mode returns the selector to NO_REF. -/
def State.swapChannel (s : State) (old : ImageCfg) (c : Nat) : State :=
  let s := s.inBoth (fun s => (s.discardPreview c).showPrep c none)
  if old.val (SEL_CTL_MODE c) ≠ s.cfg.val (SEL_CTL_MODE c) then s.inBoth (fun s => s.selRestart c) else s

/-- The gravity counts go on under the new windows (R62). -/
def State.keepCounts (s : State) : State :=
  { s with inForce := (List.range 128).foldl (fun t src =>
      let f := BLK_FLT_WIN (unitOfSource src).1 (unitOfSource src).2
      regPut t f.key (s.get f)) s.inForce }

/-- Every block swaps its configuration banks. -/
def State.swapNow (s : State) (c : ImageCfg) : State :=
  let old := s.cfg
  let oldPd := s.get SYS_PD_EN_PD_EN
  let src := if s.gld.fromFlash then (if s.gld.slotB then 2 else 1) else 3
  let was := s
  let s := (((s.putImage c).widthsLoaded was).evtStart was).showImage src false false
  let s := { s with deferd := [], schedEnd := [] }.keepCounts
  let s := (List.range 4).foldl (fun s k => s.scaleRebind k (old.val (TME_CFG_CHAN k))) s
  let s := ((s.set GLD_SWAP_TICK_TICK s.tick16).wrapAdd GLD_SWAP_TICK_SWAPS 1).pdApply oldPd
  let s := s.atOnce (fun s => (List.range 12).foldl (fun s n => s.swapChannel old n) s)
  let s := (List.range 88).foldl (fun s n => if slotChanged old c n then s.atOnce (fun s => s.inBoth (fun s => s.undeclared n)) else s) s
  let s := (List.range 56).foldl (fun s n => if slotChanged old c n then s.refStart n else s) s
  let s := s.caskLoad (old.oscId == c.oscId) false
  let s := ((List.range 512).foldl (fun s n => s.swapSession old n) s).swapSerdes old
  (List.range 8).foldl (fun s k => s.linkRole k) ((s.nodeSwap was).tempEval.tnsSwap).apllEvals

/-- The coming boundary, the start of the tick at the target, is the swap boundary (R60, R61). DESIGN CHOICE: `SWAP_AT_EN` and the
second are taken as they stand at the boundary, if the host has rewritten them while ARMED (log entry 55). -/
def State.swapDue (s : State) : Bool :=
  s.gld.op == some .swap && s.get GLD_STAT_LOADER == 4 && (!s.bit GLD_CTL_SWAP_AT_EN || s.target == s.swapSec * secUnit)

/-- The part of a tick boundary that is the swap boundary. -/
def State.swapBoundary (s : State) : State :=
  if !s.swapDue then s
  else match s.gld.next with
    | none => s
    | some c => s.swapNow c

/-- A step of the primary scale has carried it past the second of an ARMED swap (R61). -/
def State.swapStepped (s : State) : State :=
  if s.gld.op == some .swap && s.get GLD_STAT_LOADER == 4 && s.swapTooLate then s.gldEnd 0x14 else s

/-! ## MPLL lock: the clocks start, and the boot (R88, R259, R447) -/

/-- A scale at its start. -/
def Scale.started : Scale := { Scale.idle with segs := [⟨0, 0, incNominal, 0⟩] }

/-- The MPLL locks: for the first time since the internal reset, or again after a loss. -/
def State.mpllLock (s : State) : State :=
  if s.sys.clocks then (if s.bit SYS_OSC_OSC_OK then s.set SYS_OSC_MPLL_LOCK 1 else s)
  else if !s.sys.locking || s.sys.por || s.sys.rstN then s
  else
    let s := { s with sys := { s.sys with clocks := true, locking := false }, coarse := 0, tick := 0, bound := 0,
                      scales := (List.range 4).map (fun k => (k, Scale.started)), target := s.period }
    let s := ((s.set SYS_OSC_MPLL_LOCK 1).set SYS_OSC_OSC_OK 1).set SYS_OSC_BOOTCLK 0
    s.gldBoot

/-! ## Confirm, anti-rollback counter, keys (R52, R56 – R58) -/

/-- A write of `CONFIRM` 1 while an image runs. -/
def State.gldConfirm (s : State) : State :=
  if !s.bit GLD_STAT_IMG_VALID then s else (s.set GLD_BOOT_CONFIRM 1).set GLD_BOOT_TRIES 0

/-- A write of `GLD_ARB_ADV.TARGET`. -/
def State.arbAdvance (s : State) (t : Nat) : State :=
  if s.gld.arbTarget.isNone && decide (s.otp.arb < t) && s.bit GLD_STAT_IMG_VALID && decide (t ≤ s.cfg.svn) && s.bit GLD_BOOT_CONFIRM then
    { s with gld := { s.gld with arbTarget := some t } }
  else s.raise GLD_STICKY_ARB_REFUSED

/-- Programming ends. -/
def State.arbDone (s : State) : State :=
  match s.gld.arbTarget with
  | none => s
  | some t => { s with gld := { s.gld with arbTarget := none }, otp := { s.otp with arb := Nat.max s.otp.arb t } }

/-- The hash in the staging words, its bytes in digest order, as a 384-bit big-endian number. -/
def State.stagedHash (s : State) : Nat := beNat ((List.range 12).flatMap (fun w => leBytes 4 (tabGet 0 s.gld.staging w)))

/-- A `PROG` bit: a blank slot, not revoked, is programmed. -/
def State.keyProg (s : State) (k : Nat) : State :=
  if bitAt s.otp.programmed k || bitAt s.otp.revoked k then s.raise GLD_STICKY_ARB_REFUSED
  else { s with otp := { s.otp with programmed := setBitAt s.otp.programmed k, keyHash := tabPut 0 s.otp.keyHash k s.stagedHash } }

/-- A `REVOKE` bit: refused for the last programmed slot that is not revoked. -/
def State.keyRevoke (s : State) (k : Nat) : State :=
  let live := (List.range 4).filter (fun i => bitAt s.otp.programmed i && !bitAt s.otp.revoked i)
  if live = [k] then s.raise GLD_STICKY_ARB_REFUSED
  else { s with otp := { s.otp with revoked := setBitAt s.otp.revoked k } }

end Sys2Proof.Machine
end

