-- ==== Sys2Proof/Machine/Flt.lean ====
section
/-!
DEFINITION. FLT and OBS commands: the gravity buckets, live conditions, what a host write of 1 may clear, line checks of
the dual-rail lines, wraps of the observation counters (R399, R400, R402, R407, R410, R411, R427, R433).
-/
namespace Sys2Proof.Machine
open Sys2Proof

/-! ## Live (R399) -/

/-- The slots 0–55 of the reference front end, and all slots. -/
def refSlots : List Nat := List.range 56
def allSlots : List Nat := List.range 88

/-- The condition of a condition-type source is live in some instance. -/
def State.condLive (s : State) (src : Nat) : Bool :=
  match src with
  | 0 => refSlots.any (fun n => s.bit (REF_STAT_LOST n))
  | 1 => (List.range 32).any (fun n => s.inFb (REF_CFG_EN n) && !s.bit (REF_STAT_LEVEL_OK n))
  | 2 => refSlots.any (fun n => s.inFb (REF_CFG_EN n) && s.inF (REF_WIN_WIN_PPM n) != 0 && !s.bit (REF_STAT_WIN_OK n))
  | 3 => refSlots.any (fun n => s.isPulse n && s.inFb (REF_CFG_EN n) && !s.bit (REF_STAT_PW_OK n))
  | 5 => (List.range 4).any (fun b => classOf (s.get REF_BANK_STAT_CLASS) b != 3 && !bitAt (s.get REF_BANK_STAT_PGOOD) b)
  | 20 => allSlots.any (fun n => s.bit (QUL_STAT_LOSS n))
  | 21 => allSlots.any (fun n => s.bit (QUL_STAT_FSOFT n))
  | 22 => allSlots.any (fun n => s.bit (QUL_STAT_FHARD n))
  | 23 => allSlots.any (fun n => s.bit (QUL_STAT_DSOFT n) || s.bit (QUL_STAT_DHARD n))
  | 24 => allSlots.any (fun n => s.bit (QUL_STAT_WSOFT n) || s.bit (QUL_STAT_WHARD n))
  | 25 => allSlots.any (fun n => s.bit (QUL_STAT_EXCESS n))
  | 26 => allSlots.any (fun n => s.bit (QUL_STAT_QL_BAD n))
  | 27 => allSlots.any (fun n => s.bit (QUL_STAT_WINDOW n))
  | 52 => s.bit CSK_TUSE_FALLBACK
  | 58 => !s.bit SYN_XO_STAT_XO_OK || s.bit SYN_XO_STAT_XO_FREQ_BAD
  | 73 => (List.range 16).any (fun p => s.bit (ETH_CFG_ESMC_EN p) && !s.bit (ETH_STAT_ESMC_OK p))
  | 77 => (List.range 4).any (fun q => s.domainUp (10 + q) && !s.bit (ETH_QUAD_QTX_LOCK q))
  | 90 => (List.range 8).any (fun k => s.initiates k && !s.bit (CJL_STAT_TL_OK k))
  | 112 => s.flt.holders != []
  | 117 => s.flt.lineBad != []
  | 123 => s.bit SYS_TEMP_TALARM
  | 125 => !s.bit SYS_OSC_OSC_OK || !s.bit SYS_OSC_MPLL_LOCK
  | _ => false

/-- `LIVE` of a source. -/
def State.srcLive (s : State) (src : Nat) : Bool :=
  if conditionSources.contains src then s.condLive src else s.flt.live.contains src

/-! ## What a write of 1 clears (R402, R410, R411) -/

/-- A W1C field whose clearing is ignored now. -/
def State.w1cHeld (s : State) (f : Fld) : Bool :=
  let b := f.addr / 0x10000
  if f.addr % 0x10000 = 0xE04 then
    s.srcLive (sourceNumber b f.lo) && decide (s.inF (BLK_FLT_CFG_THR b f.lo) ≤ s.wcount (sourceNumber b f.lo))
  else if f = FLT_STICKY_PIN_S then s.flt.holders != []
  else if f.addr = 0x30014 then s.flt.lineBad.contains f.lo
  else if f = FLT_STICKY_LINE_S then s.flt.lineBad != []
  else false

/-- Clear a block's capture (R407). -/
def State.captureClear (s : State) (b : Nat) : State :=
  [BLK_FLT_FIRST_SRC b, BLK_FLT_FIRST_V b, BLK_FLT_FIRST_OVF b, BLK_FLT_FIRST_CAUSE_SRC b, BLK_FLT_FIRST_CAUSE_V b, BLK_FLT_FIRST_TICK b,
    BLK_FLT_FIRST_OVF_CNT b, BLK_FLT_FIRST_NS b, BLK_FLT_FIRST_SEC_LO b, BLK_FLT_FIRST_SEC_HI b].foldl (fun s f => s.set f 0) s

/-- Clear the first-block latch (R412). -/
def State.latchClear (s : State) : State :=
  [FLT_PIN_FIRST_BLK, FLT_PIN_FIRST_V, FLT_PIN_FIRST_OVF, FLT_PIN_FIRST_KIND, FLT_PIN_FIRST_TICK].foldl (fun s f => s.set f 0) s

/-! ## Buckets (R400) and lines (R410) -/

/-- The length of a source's bucket in coarse counts: `WIN` × 62.5 µs, `WIN` 3,600,000 at most (R400). -/
def State.bucketLen (s : State) (src : Nat) : Nat := min 3600000 (s.inF (BLK_FLT_WIN (unitOfSource src).1 (unitOfSource src).2)) * 125000

/-- GRAVITY_BUCKET_ADVANCE: the present bucket ends in the present tick or before; a new one begins, and the oldest of the sixteen
leaves the window. -/
def State.bucketAdvance (s : State) (src : Nat) : State :=
  let e := tabGet 0 s.flt.bucketAt src + s.bucketLen src
  if s.bucketLen src = 0 ∨ !s.dueBy e then s
  else
    let l := (0 :: tabGet [] s.flt.buckets src).take 16
    { s with flt := { s.flt with buckets := tabPut [] s.flt.buckets src (if l.all (· == 0) then [] else l), bucketAt := tabPut 0 s.flt.bucketAt src e } }

/-- A line fault of a block is declared; FLT drives no line (R409). -/
def State.lineFault (s : State) (b : Nat) : State :=
  if b = 3 ∨ s.flt.lineBad.contains b then s
  else (({ s with flt := { s.flt with lineBad := s.flt.lineBad ++ [b] } }).set (FLT_LINE_S_BLK b) 1).raise FLT_STICKY_LINE_S

/-- LINE_INVERSION: the driver sees the inversion, or misses it; two in a row are a line fault, one seen ends it. -/
def State.lineInversion (s : State) (b : Nat) (seen : Bool) : State :=
  if b = 3 ∨ s.unitInRst 3 then s
  else if seen then
    { s with flt := { s.flt with missInv := tabPut 0 s.flt.missInv b 0, lineBad := s.flt.lineBad.filter (· != b) } }
  else
    let n := tabGet 0 s.flt.missInv b + 1
    let s := { s with flt := { s.flt with missInv := tabPut 0 s.flt.missInv b (min n 2) } }
    if 2 ≤ n then s.lineFault b else s

/-! ## Observation counters (R427 – R429) -/

/-- COUNTER_WRAP: the part of an increment that carries counter `k` past 2^48 - 1 arrives; nothing wraps short of it. -/
def State.counterWrap (s : State) (k inc : Nat) : State := if tabGet 0 s.obs.cnt k + inc < 2 ^ 48 then s else s.obsAdd k inc

end Sys2Proof.Machine
end

