-- ==== Sys2Proof/Machine/Tick.lean ====
section
/-!
DEFINITION. The tick boundary: what is due before it, the commit, what every block does at it, the slot schedule and the
slot accounting (R22 – R33, R68, R185, R192, R193, R405, R426, R430).
-/
namespace Sys2Proof.Machine
open Sys2Proof

/-! ## What comes before the boundary -/

/-- The earliest step or firing edge before the next boundary: its coarse count, whether it is a step, its scale. A step
goes before a firing edge of the same count; the boundary's own edge comes after it (R63, R281). -/
def State.dueBefore (s : State) : Option (Nat × Bool × Nat) :=
  let b := s.nextBoundary
  let cand : List (Nat × Bool × Nat) :=
    (List.range 4).filterMap (fun k => (s.scale k).step.map (fun d => (d.2, true, k)))
      ++ (List.range 4).filterMap (fun k => if s.scaleEn k then (s.nextFire k).map (fun f => (f, false, k)) else none)
  (cand.filter (fun e => decide (e.1 < b))).foldl
    (fun a e => match a with | none => some e | some m => if e.1 < m.1 then some e else some m) none

/-- Make the steps and firings that come before the next boundary, in time order. -/
def catchUp : Nat → State → State
  | 0, s => s
  | n + 1, s =>
    match s.dueBefore with
    | none => s
    | some (_, true, k) => catchUp n (s.timeStep k).swapStepped
    | some (_, false, k) => catchUp n (s.tenseFire k)

/-! ## The slot schedule (R25, R185, R198) -/

/-- Entries of the schedule with their numbers. -/
def State.schedule (s : State) : List (Job × Nat) := s.cfg.sched.zipIdx

/-- The entries of the tick that ends, in issue order: DPLL class, those deferred from the tick before, the others. None
while LPE is in reset (R193). -/
def State.issued (s : State) : List (Job × Nat) :=
  if s.unitInRst 9 then []
  else
    let due := s.schedule.filter (fun e => !e.1.per || s.tickIndex == 0)
    due.filter (fun e => e.1.cls == 0) ++ s.schedule.filter (fun e => s.deferd.contains e.2 && e.1.cls != 0)
      ++ due.filter (fun e => e.1.cls != 0 && !s.deferd.contains e.2)

/-- The cycle in which an entry completed; one with no tag did not issue. -/
def endOf (inp : TickIn) (tag n : Nat) : Option Nat :=
  if tag < 256 then (inp.ends.find? (fun e => e.1.val == n)).map (fun e => e.2.val) else none

/-- The owner of a DPLL-class job: a channel, a time scale, or the slot whose results it forms. -/
def jobOwner (j : Job) : Option Nat :=
  match j.kind with
  | 0 => some (16 + j.target)
  | 1 | 2 | 3 => some j.target
  | 4 => some (12 + j.target)
  | 5 => some (16 + 56 + j.target)
  | _ => none

/-- The owners that have overrun (R28). -/
def State.overran (s : State) (inp : TickIn) : List Nat :=
  (s.issued.zipIdx.filterMap (fun e => if e.1.1.cls = 0 ∧ (endOf inp e.2 e.1.2).isNone then jobOwner e.1.1 else none)).eraseDups

/-- Tags, completion words, deferrals and drops of the tick that ends. -/
def State.scheduleEnd (s : State) (inp : TickIn) : State :=
  if s.unitInRst 9 then s
  else
    let l := s.issued.zipIdx
    let tags := min 256 l.length
    let s := (s.hwm LPE_TAGS_HWM tags).obsAdd 7 tags
    let s := l.foldl (fun s e =>
      if 256 ≤ e.2 then s
      else { s with schedEnd := tabPut 0 s.schedEnd e.1.2 ((endOf inp e.2 e.1.2).getD 0x1FFFF + e.2 * 2 ^ 24) }) s
    let late := (l.filter (fun e => e.1.1.cls != 0 && (endOf inp e.2 e.1.2).isNone)).map (fun e => e.1.2)
    let drop := late.filter (fun n => s.deferd.contains n)
    let defr := late.filter (fun n => !s.deferd.contains n)
    let s := if defr = [] then s else ((s.satAdd LPE_DEFER_DEFERRED defr.length).obsAdd 8 defr.length).raise LPE_STICKY_DEFER_S
    let s := if drop = [] then s else ((s.satAdd LPE_DEFER_DROPPED drop.length).obsAdd 9 drop.length).raise LPE_STICKY_DROP_S
    { s with deferd := defr }

/-! ## Tags in use (R426) and accounting (R430) -/

/-- The tags of a tick were in use through its HCLK cycles (R426; log entry 18). -/
def State.tagsCount (s : State) (cycles : Nat) : State :=
  if s.inF (OBS_THR_N 3) < min 256 s.issued.length then s.obsAdd 91 cycles else s

/-- What became of a job's slots at the boundary that ends the tick (R192): lost where its owner, or any job of its channel, has
overrun or it was itself not done; else its indicative slots are retired and its subjunctive ones, under their item, wait. -/
def jobLost (inp : TickIn) (ovr : List Nat) (e : (Job × Nat) × Nat) : Bool :=
  let j := e.1.1
  (endOf inp e.2 e.1.2).isNone || (match jobOwner j with | some o => ovr.contains o | none => false)
    || ([1, 2, 3, 9, 0xC].contains j.kind && ovr.contains j.target)

/-- The item of a job's subjunctive slots: 2c for what a selection job prepares for channel c, 2c + 1 for its preview. -/
def subjItem (j : Job) : Nat := 2 * j.target + ofBool (j.kind == 3)

/-- The slots of the tick's jobs: retired, wasted, and the subjunctive ones by item. -/
def State.jobSlots (s : State) (inp : TickIn) (ovr : List Nat) : Nat × Nat × Tab Nat :=
  s.issued.zipIdx.foldl (fun (a : Nat × Nat × Tab Nat) e =>
    match inp.used.find? (fun u => u.entry.val == e.1.2) with
    | none => a
    | some u =>
      if jobLost inp ovr e then (a.1, a.2.1 + u.ind + u.subj, a.2.2)
      else (a.1 + u.ind, a.2.1, tabPut 0 a.2.2 (subjItem e.1.1) (tabGet 0 a.2.2 (subjItem e.1.1) + u.subj))) (0, 0, [])

/-- The boundary from `s` to `t` promotes the item (R31, R192): the preview of a channel that enters HOLDOVER, the target of a
transition that begins, the weights left by a member that is lost. -/
def State.promotes (s t : State) (item : Nat) : Bool :=
  let c := item / 2
  let ch := s.ind.chanOf c
  if item % 2 = 1 then ch.preview.isSome && s.get (LPE_STAT_LSTATE c) != lsHoldover && t.get (LPE_STAT_LSTATE c) == lsHoldover
  else match ch.prep with
    | none => false
    | some p =>
      if p.kind = 1 then
        t.get (SEL_STAT_SSTATE c) == ssTransition && t.get (SEL_STAT_TGT c) == p.tgt
          && !(s.get (SEL_STAT_SSTATE c) == ssTransition && s.get (SEL_STAT_TGT c) == p.tgt)
      else (List.range 8).any (fun j => bitAt p.pmask j && s.get (wtIn c j) == 1 && t.get (wtIn c j) == 0)

/-- Counters 0–5 at B + 8 ns, and the latch of the snapshots; `was` is the state before the commit. -/
def State.account (s was : State) (inp : TickIn) (lpe : Bool) (ovr : List Nat) (ended : Nat) : State :=
  let s := (s.obsAdd 0 (4 * was.cycles)).obsAdd 5 1
  let s := if lpe then s
    else
      let u := was.jobSlots inp ovr
      let sum (l : Tab Nat) : Nat := (l.map (·.2)).foldl (· + ·) 0
      let up := sum (s.subjSlots.filter (fun e => was.promotes s e.1))
      let down := sum (s.subjSlots.filter (fun e => !was.promotes s e.1))
      let s := (((s.obsAdd 1 (u.1 + up)).obsAdd 2 (u.2.1 + down)).obsAdd 3 inp.front).obsAdd 4 inp.back
      { s with subjSlots := u.2.2 }
  let s := s.set OBS_ACCT_TICK_TICK ended
  { s with obs := { s.obs with atB := s.obs.cnt } }

/-! ## Overruns (R28) and forced holdover (R405) -/

/-- The owner of a banked field: a slot's QUL field, a channel's SEL or LPE field. -/
def keyOwner (k : Nat) : Nat :=
  let o := keyAddr k % 0x10000 - 0x1000
  if keyBlock k = 7 then 16 + o / 0x80 else o / 0x100

/-- The fields of some owners as another table has them. -/
def restoreFields (own : Nat → Bool) (from_ to_ : Tab Nat) : Tab Nat :=
  (from_.filter (fun e => own (keyOwner e.1))).foldl (fun t e => regPut t e.1 e.2) (to_.filter (fun e => !own (keyOwner e.1)))

/-- The pending results of some owners are discarded. -/
def State.discardPending (s : State) (own : List Nat) : State :=
  let b := { s.pend with regs := restoreFields own.contains s.ind.regs s.pend.regs, evs := s.pend.evs.filter (fun e => !own.contains e.1) }
  let b := (List.range 12).foldl (fun b c => if own.contains c then b.setChan c (s.ind.chanOf c) else b) b
  { s with pend := (List.range 88).foldl (fun b n => if own.contains (16 + n) then b.setSlot n (s.ind.slotOf n) else b) b }

/-- A channel's overrun is counted and raised. -/
def State.overrunOf (s : State) (c : Nat) : State := ((s.satAdd (LPE_TICK_OVERRUNS c) 1).obsAdd 6 1).raise (LPE_STICKY_OVR_S c)

/-- A channel forced into holdover commits NO_REF at the boundary ending the tick; in OFF, FREERUN and HOLDOVER it keeps
its state (R405). -/
def State.forceChannel (s : State) (c : Nat) : State :=
  if !s.forcedHo c then s
  else
    let was := s.get (LPE_STAT_LSTATE c)
    let now := s.pget (LPE_STAT_LSTATE c)
    if was = lsAcquire ∨ was = lsLocked then
      let ss := s.pget (SEL_STAT_SSTATE c)
      if ss = ssOff ∨ ss = ssNoRef then s else s.enterNoRef c
    else if now = lsAcquire ∨ now = lsLocked then s.discardPending [c] else s

/-! ## The commit (R20, R26) -/

/-- A hold that begins at this boundary takes φ_out and the frequency committed at it (R142). -/
def State.fixHold (s : State) (c : Nat) (te : Int) : State :=
  let ch := s.chan c
  let x := s.phiOut c
  let fw := s.pFw c
  if ch.sideDue = 0 then s
  else if ch.sideDue = 1 then s.setChan c { ch with side := .hold te x fw, tgtOfs := ch.tgtOfs - x, sideDue := 0 }
  else s.setChan c { ch with side := (match ch.side with | .hold t y _ => .hold t y fw | z => z), sideDue := 0 }

/-- A channel's part of the commit. -/
def State.commitChannel (s : State) (ovr : List Nat) (te : Int) (c : Nat) : State :=
  if !s.chanEn c && s.get (LPE_STAT_LSTATE c) == lsOff && s.pget (LPE_STAT_LSTATE c) == lsOff then s
  else
    let ran := !ovr.contains c && !s.unitInRst 9
    let s := if ran then s.forceChannel c else s
    ((s.lpeBoundary c te ran).fixHold c te).modChan c (fun ch => { ch with est := none })

/-- The banks swap: the pending one becomes indicative, and the next one starts as its copy. -/
def State.swapBanks (s : State) : State :=
  let b := { s.pend with ts := [], evs := [] }
  { s with ind := b, pend := b }

/-- A lane's assignment: its source, and whether it is on by it. -/
def State.laneCfg (s : State) (l : Nat) : Nat × Bool :=
  (s.laneSrc l, if l < 64 then s.inF (TIM_TDL_CFG_SRC l) != 0xFF && s.inF (TIM_TDL_CFG_RPT l) != 0
    else if l < 72 then true else s.inF (TIM_VRN_CFG_SRC (l - 64)) != 0xFF)

/-- Lanes that the fields now in force switch on or give another source start anew (R95, R100, R105); `was` holds what was in
force. Their queues stay. -/
def State.startLanes (s was : State) : State :=
  (List.range 80).foldl (fun s l =>
    if (s.laneCfg l).2 && s.laneCfg l != was.laneCfg l then
      (s.setLane l { Lane.start l with queue := (s.laneOf l).queue }).set (laneSeq l) 0
    else s) s

/-- A tracked slot or target that a list write takes off its channel's list (R162). -/
def State.cutLists (s was : State) : State :=
  (List.range 12).foldl (fun s c => s.inBoth (fun s => s.cutSlots c (fun n => (was.entries c).contains n && !(s.listed c).contains n))) s

/-- The fields written in the tick come into force: a new window length restarts a source's count (R403), lanes start, lists
and limits act (R105, R132, R162). -/
def State.takeEffect (s : State) : State :=
  if s.inForce = s.regs then s
  else
    let one (t : Tab (List Nat)) (src : Nat) : Tab (List Nat) :=
      let f := BLK_FLT_WIN (unitOfSource src).1 (unitOfSource src).2
      if s.inF f = s.get f then t else tabPut [] t src []
    let began (t : Tab Nat) (src : Nat) : Tab Nat :=
      let f := BLK_FLT_WIN (unitOfSource src).1 (unitOfSource src).2
      if s.inF f = s.get f then t else tabPut 0 t src s.coarse
    let t := { s with flt := { s.flt with buckets := (List.range 128).foldl one s.flt.buckets,
                                          bucketAt := (List.range 128).foldl began s.flt.bucketAt }, inForce := s.regs }
    (List.range 88).foldl (fun t n => t.limitsTaken s.inForce n) ((t.startLanes s).cutLists s)

/-- The vote over one field's copies (R68). -/
def State.voteOne (s : State) (k : Nat) (x : Nat × Nat) : State :=
  let a := regGet s.regs k
  let s := { s with upset := tabPut (0, 0) s.upset k (0, 0) }
  let fixed (s : State) : State := ((s.satAdd GLD_VOTE_CNT_REPAIRED 1).obsAdd 84 1).raise GLD_STICKY_VOTE_REPAIR
  if x = (0, 0) then s
  else if x.1 = x.2 then fixed { s with regs := regPut s.regs k (a ^^^ x.1) }
  else if x.1 = 0 ∨ x.2 = 0 then fixed s
  else
    let v := match fieldOf k with | some d => (if d.kind == .img then regGet s.cfg.img k else resetValue k) | none => resetValue k
    ({ s with regs := regPut s.regs k v }.satAdd GLD_VOTE_CNT_UNRESOLVED 1).raise GLD_STICKY_VOTE_UNRESOLVED
def State.vote (s : State) : State := s.upset.foldl (fun s e => s.voteOne e.1 e.2) s

/-- Copies of VOTE fields that change in the tick now beginning. -/
def State.takeUpsets (s : State) (l : List (Nat × Nat × Nat)) : State :=
  l.foldl (fun s e => match fieldOf e.1 with
    | some d => if d.vote then { s with upset := tabPut (0, 0) s.upset e.1 (e.2.1 % 2 ^ d.len, e.2.2 % 2 ^ d.len) } else s
    | none => s) s

/-- The realigning boundary is reported once (R23). -/
def State.reportRealign (s : State) : State :=
  if s.realigned then
    (({ s with realigned := false }.set LPE_REALIGN_TICK s.tick).satAdd LPE_REALIGN_COUNT 1).raise LPE_STICKY_REALIGN_S
  else s

/-- The primary channel has entered HOLDOVER: the node originates a FLOOD (R338). -/
def State.primaryHoldover (s : State) (was : Nat) : State :=
  let c := s.scaleChan s.primary
  if s.scaleEn s.primary ∧ c < 12 ∧ was ≠ lsHoldover ∧ s.get (LPE_STAT_LSTATE c) = lsHoldover then s.originate 1 else s

/-- The commit of the tick that ends at the present edge; the owners in `ovr` have overrun. -/
def State.commit (s : State) (ovr : List Nat) : State :=
  let te := s.instant
  let s := s.discardPending ovr
  let s := (List.range 12).foldl (fun s c => if ovr.contains c then s.overrunOf c else s) s
  let fw0 := (List.range 4).map (fun k => s.chanFw (s.scaleChan k))
  let done := s.pend.ts
  let was := s.get (LPE_STAT_LSTATE (s.scaleChan s.primary))
  let secEnd := s.primarySec
  let sec := s.target % secUnit == 0
  let s := (List.range 12).foldl (fun s c => s.commitChannel ovr te c) s
  let s := s.flushEvs.swapBanks
  let s := if s.unitInRst 7 || s.unitInRst 9 then s else s.set QUL_COMMIT_TICK_TICK s.tick
  let s := s.swapBoundary.takeEffect
  let s := s.primaryHoldover was
  let s := (List.range 12).foldl (fun s c =>
    let s := s.contribute c (ovr.contains c)
    let s := if sec then s.endSecond c secEnd else s
    s.inBoth (fun s => s.selBoundary c)) s
  (List.range 4).foldl (fun s k => s.rateCommit k (fw0.getD k 0) (done.contains k && !ovr.contains (12 + k)) (ovr.contains (12 + k))) s

/-- What the blocks do at the boundary, once the tick has turned. -/
def State.blocksAtBoundary (s : State) (inp : TickIn) (sec : Bool) (dt : Nat) : State :=
  let s := (List.range 56).foldl (fun s n => s.refBoundary n) s.decimDown
  let s := (List.range 88).foldl (fun s n => s.qulBoundary sec dt n) s
  let s := (List.range 4).foldl (fun s k => ((s.utcApply k).leapCheck k).radjBoundary k) s
  let s := s.synTick (inp.xo.map BitVec.toNat) ((dt : Int) * 8000)
  let s := (List.range 16).foldl (fun s p => s.ethBoundary dt p) s
  let s := ((s.ptpBoundary sec dt).cjlBoundary dt).resetBoundary.domainBoundary
  let s := (List.range 88).foldl (fun s n => s.rankBoundary n) s
  let s := s.vote.takeUpsets inp.upsets
  { s with flt := { s.flt with live := [] }, tns := { s.tns with padj := [] } }

/-- The tick turns. -/
def State.turnTick (s : State) : State := { s with bound := s.coarse, target := s.target + s.period, tick := s.tick + 1 }

/-- TICK_BOUNDARY: time runs on to the next boundary, and the tick ends. Nothing while the derived clocks stand. -/
def State.tickBoundary (s : State) (inp : TickIn) : State :=
  if !s.sys.clocks then s
  else
    let s := catchUp (s.tns.entry.length + 8) s
    let s := s.advance s.nextBoundary
    let dt := s.coarse - s.bound
    let sec := s.target % secUnit == 0
    let ended := s.tick
    let lpe := s.unitInRst 9
    let s := s.tagsCount (dt / 8)
    let ovr := s.overran inp
    let t := ((s.scheduleEnd inp).reportRealign.commit ovr).turnTick.blocksAtBoundary inp sec dt
    t.account s inp lpe ovr ended

/-- The operand of a boundary at which every job of the tick is done in time, and nothing comes from outside. -/
def TickIn.allDone : TickIn := { ends := (List.finRange 512).map (fun n => (n, 0)), used := [], front := 0, back := 0, xo := none, upsets := [] }

/-- SWAP_BOUNDARY (R60): the coming tick boundary is the swap boundary, and is made, with the state banks; nothing where none is
due. The tick's jobs count as done (log entry 55). -/
def State.swapNext (s : State) : State := if s.swapDue then s.tickBoundary TickIn.allDone else s

end Sys2Proof.Machine
end

