-- ==== Sys2Proof/Machine/Cold.lean ====
section
/-!
DEFINITION. The internal reset: power-on, `RESET_N`, the end of the reset with its straps, and `PERST_N` (R52, R222, R393,
R424, R441, R442, R450 – R453).
-/
namespace Sys2Proof.Machine
open Sys2Proof

/-- What outlives power-on: the command queue, the OTP, the pins and supplies (R451). DESIGN CHOICE: an advance of the anti-rollback
counter in progress is dropped whole, with no bit burnt (R58, log entry 55). -/
def State.cold (s : State) (porNow : Bool) : State :=
  { State.reset with pending := s.pending, free := s.free, otp := s.otp,
                     sys := { State.reset.sys with rstN := s.sys.rstN, por := porNow, bankMv := s.sys.bankMv },
                     hif := { Hif.blank with perst := s.hif.perst } }

/-- POWER_ON_RESET: a monitored rail has left its range, or the supplies rise (R442). -/
def State.powerOn (s : State) : State := s.cold true

/-- The internal reset ends at the later of the two: straps are sampled (R450), the die temperature is judged (R456). -/
def State.internalEnd (s : State) (bootSel spiSec test : Nat) : State :=
  if s.sys.por || s.sys.rstN then s
  else (((s.set SYS_STRAP_BOOT_SEL bootSel).set SYS_STRAP_SPI_SEC spiSec).set SYS_STRAP_TEST_MODE test).set GLD_BOOT_BOOT_SEL bootSel |>.tempEval

/-- POWER_ON_RESET_END and RESET_N_RELEASE. -/
def State.powerOnEnd (s : State) (bootSel spiSec test : Nat) : State :=
  if !s.sys.por then s else { s with sys := { s.sys with por := false } }.internalEnd bootSel spiSec test
def State.resetNRise (s : State) (bootSel spiSec test : Nat) : State :=
  if !s.sys.rstN then s else { s with sys := { s.sys with rstN := false } }.internalEnd bootSel spiSec test

/-- An unconfirmed boot counts in `TRIES` (R52). -/
def State.triesAfter (s : State) : Nat :=
  let t := s.get GLD_BOOT_TRIES
  if s.bit GLD_STAT_IMG_VALID && s.gld.bootRun && !s.bit GLD_BOOT_CONFIRM then min 3 (t + 1) else t

/-- RESET_N_ASSERT: everything but the OTP, the cask with its seconds, and `TRIES` (R451). -/
def State.resetNFall (s : State) : State :=
  if s.sys.por then { s with sys := { s.sys with rstN := true } }
  else if s.sys.rstN then s
  else
    let keep := s.regs.filter (fun e => caskField e.1)
    let t := s.cold false
    let t := { t with sys := { t.sys with rstN := true }, regs := keep, inForce := keep,
                      cask := s.cask.map (fun (e : Nat × Cask) => (e.1, e.2.resetOpen)),
                      csk := { t.csk with base := s.cskTime },
                      cfg := { ImageCfg.blank with oscId := s.cfg.oscId } }
    (t.set SYS_STRAP_RST_CAUSE 1).set GLD_BOOT_TRIES s.triesAfter

/-- A HIF field, the fault unit apart (R417). -/
def hifField (k : Nat) : Bool := keyBlock k == 1 && !(decide (0xE00 ≤ keyAddr k % 0x10000) && decide (keyAddr k % 0x10000 < 0xF40))

/-- PERST_N_ASSERT: the endpoint and every HIF field (R393, R453); the window stays. What the two functions had latched
goes with the endpoint. The cask's open seconds become invalid (R222). -/
def State.perstFall (s : State) : State :=
  let s := s.spoilOpen
  { s with regs := s.regs.filter (fun e => !hifField e.1), inForce := s.inForce.filter (fun e => !hifField e.1),
           hif := { s.hif with item := [], running := [], held := [], vecMask := Hif.blank.vecMask, perst := true, intWant := false, intUp := none,
                               shadow := s.hif.shadow.filter (fun e => decide (2 * 2 ^ 24 ≤ e.1)),
                               indLast := s.hif.indLast.filter (fun e => decide (64 ≤ e.1)) } }
def State.perstRise (s : State) : State := { s with hif := { s.hif with perst := false } }

end Sys2Proof.Machine
end

