-- ==== Sys2Proof/Machine/Misuse.lean ====
section
/-!
DEFINITION. Host misuse: which register and window writes have the undefined behaviour of R396, judged on the state before
and after the write. What no register shows is not judged (log entry 32).
-/
namespace Sys2Proof.Machine
open Sys2Proof

/-- The instance a per-instance register address names. -/
def instOf (a base stride count : Nat) : Option Nat :=
  if base ≤ a ∧ (a - base) % stride = 0 ∧ (a - base) / stride < count then some ((a - base) / stride) else none

/-- A test on the instance an address names. -/
def onInst (a base stride count : Nat) (p : Nat → Bool) : Bool := (instOf a base stride count).any p

/-- A write has some lane of a field. -/
def HostWrite.hits (w : HostWrite) (f : Fld) : Bool := bitsAt (beMask w.be) f.lo f.len != 0

/-- A hit field stands outside a range after the write. -/
def State.outside (t : State) (w : HostWrite) (f : Fld) (lo hi : Nat) : Bool :=
  w.hits f && (decide (t.get f < lo) || decide (hi < t.get f))

/-- A hit field has changed. -/
def State.changed (s t : State) (w : HostWrite) (f : Fld) : Bool := w.hits f && t.get f != s.get f

/-- No two of some intervals (first, past the last) overlap. -/
def disjointAll : List (Nat × Nat) → Bool
  | [] => true
  | i :: t => t.all (fun j => decide (i.2 ≤ j.1) || decide (j.2 ≤ i.1) || i.1 == i.2 || j.1 == j.2) && disjointAll t

/-! ## Reference inputs (R110) -/

/-- The source a lane's `SRC` names: TDL and vernier lanes 8–15. -/
def State.srcCode (s : State) (l : Nat) : Nat := if l < 64 then s.get (TIM_TDL_CFG_SRC l) else s.get (TIM_VRN_CFG_SRC (l - 64))
def srcReserved (l v : Nat) : Bool :=
  v != 0xFF && (if l < 64 then !(v < 0x38 || (0x80 ≤ v && v < 0x98)) else !(v < 0x20 || (0x40 ≤ v && v < 0x50)))
def assignableLanes : List Nat := (List.range 80).filter (fun l => l < 64 || 72 ≤ l)

/-- A lane serves a declared slot. -/
def State.servesSlot (s : State) (l : Nat) : Bool :=
  let v := s.srcCode l
  decide (v < 0x38) && s.inFb (REF_CFG_EN v)

def State.refMisuse (s t : State) (w : HostWrite) (a : Nat) : Bool :=
  onInst a 0x51000 0x40 56 (fun n =>
      (s.inFb (REF_CFG_EN n) && [REF_CFG_EN n, REF_CFG_TYPE n].any (fun f => w.hits f && t.get f != s.inF f))
        || (w.hits (REF_CFG_FORMAT n) && decide (n < 32) &&
              (decide (6 ≤ t.get (REF_CFG_FORMAT n)) ||
                (t.get (REF_CFG_FORMAT n) == 3 && t.get (REF_CFG_TERM n) == 0 && classOf (t.get REF_BANK_STAT_CLASS) (n / 8) != 2))))
    || onInst a 0x51004 0x40 56 (fun n => s.inFb (REF_CFG_EN n) && w.hits (REF_DIV_DIV n) && t.get (REF_DIV_DIV n) != s.inF (REF_DIV_DIV n))
    || onInst a 0x51008 0x40 56 (fun n => s.inFb (REF_CFG_EN n) && t.get (REF_FREQ_LO_FREQ n) != s.inF (REF_FREQ_LO_FREQ n))
    || onInst a 0x5100C 0x40 56 (fun n => s.inFb (REF_CFG_EN n) && t.get (REF_FREQ_HI_FREQ n) != s.inF (REF_FREQ_HI_FREQ n))

def State.laneMisuse (s t : State) (w : HostWrite) (l : Nat) : Bool :=
  let src := if l < 64 then TIM_TDL_CFG_SRC l else TIM_VRN_CFG_SRC (l - 64)
  let v := t.srcCode l
  (s.servesSlot l && (w.hits src || (decide (l < 64) && w.hits (TIM_TDL_CFG_RPT l))))
    || (w.hits src && (srcReserved l v || (v != 0xFF && assignableLanes.any (fun k => k != l && t.srcCode k == v))))

def State.timMisuse (s t : State) (w : HostWrite) (a : Nat) : Bool :=
  onInst a 0x60100 0x10 64 (fun l => s.laneMisuse t w l) || onInst a 0x60680 0x10 8 (fun l => s.laneMisuse t w (72 + l))

/-! ## Qualification (R136) and selection (R168) -/

/-- The image enables the channel. -/
def State.chanDeclared (s : State) (c : Nat) : Bool := decide (c < 12) && s.bit (SEL_CTL_EN c)

/-- `CHAN` is judged on a declared slot, and on any slot where its value changes (log entry 32). -/
def State.qulMisuse (s t : State) (w : HostWrite) (a : Nat) : Bool :=
  onInst a 0x71000 0x80 88 (fun n =>
        (w.hits (QUL_CFG_CHAN n) && (s.declared n || s.changed t w (QUL_CFG_CHAN n)) && !t.chanDeclared (t.get (QUL_CFG_CHAN n))) || t.outside w (QUL_CFG_SOAK n) 1 65535)
    || onInst a 0x71004 0x80 88 (fun n => (w.hits (QUL_FWIN_W0 n) || w.hits (QUL_FWIN_W1 n)) &&
          (t.get (QUL_FWIN_W0 n) == 0 || decide (t.get (QUL_FWIN_W1 n) ≤ t.get (QUL_FWIN_W0 n)) || decide (t.get (QUL_FWIN2_W2 n) ≤ t.get (QUL_FWIN_W1 n))))
    || onInst a 0x71008 0x80 88 (fun n => (w.hits (QUL_FWIN2_W2 n) && decide (t.get (QUL_FWIN2_W2 n) ≤ t.get (QUL_FWIN_W1 n)))
          || t.outside w (QUL_FWIN2_DW n) 2 65534 || (w.hits (QUL_FWIN2_DW n) && t.get (QUL_FWIN2_DW n) % 2 == 1))
    || onInst a 0x71034 0x80 88 (fun n => t.outside w (QUL_TIMES_WW n) 2 65535)
    || onInst a 0x71040 0x80 88 (fun n => t.get (QUL_LOSS_TO_LOSS_TO n) == 0)
    || onInst a 0x71044 0x80 88 (fun n => t.outside w (QUL_FADE_FADE n) 1 4096)

/-- Entries of a channel's list: slot and valid. -/
def listSlot (c i : Nat) : Fld := ⟨0x81004 + 0x100 * c + 4 * (i / 4), 8 * (i % 4), 7⟩
def listV (c i : Nat) : Fld := ⟨0x81004 + 0x100 * c + 4 * (i / 4), 8 * (i % 4) + 7, 1⟩
def memSlot (c j : Nat) : Fld := ⟨0x81020 + 0x100 * c + 4 * (j / 2), 16 * (j % 2), 7⟩
def memV (c j : Nat) : Fld := ⟨0x81020 + 0x100 * c + 4 * (j / 2), 16 * (j % 2) + 7, 1⟩

/-- A code that names no slot: 88–126. -/
def noSuchSlot (v : Nat) : Bool := decide (88 ≤ v) && v != 127

/-- A list names a slot code 88–126 in an entry the write hits, or one slot in two valid entries. -/
def State.listMisuse (t : State) (w : HostWrite) (c k : Nat) : Bool :=
  let l := (List.range 16).filter (fun i => t.bit (listV c i) && t.get (listSlot c i) != 127)
  (List.range 4).any (fun i => w.hits (listSlot c (4 * k + i)) && noSuchSlot (t.get (listSlot c (4 * k + i))))
    || !(decide (((l.map (fun i => t.get (listSlot c i))).eraseDups).length = l.length))

def State.selMisuse (s t : State) (w : HostWrite) (a : Nat) : Bool :=
  onInst a 0x81000 0x100 12 (fun c => (t.bit (SEL_CTL_EN c) && s.changed t w (SEL_CTL_MODE c))
        || (w.hits (SEL_CTL_PRIMARY c) && noSuchSlot (t.get (SEL_CTL_PRIMARY c))) || (w.hits (SEL_CTL_OVR_SLOT c) && noSuchSlot (t.get (SEL_CTL_OVR_SLOT c))))
    || (List.range 4).any (fun k => onInst a (0x81004 + 4 * k) 0x100 12 (fun c => t.listMisuse w c k))
    || onInst a 0x81014 0x100 12 (fun c => w.hits (SEL_XFER_XFER c) && t.get (SEL_XFER_XFER c) == 0)
    || (List.range 4).any (fun k => onInst a (0x81020 + 4 * k) 0x100 12 (fun c =>
          [2 * k, 2 * k + 1].any (fun j => s.bit (memV c j) && (s.changed t w (memSlot c j) || s.changed t w (memV c j)))))
    || (List.range 4).any (fun k => onInst a (0x81030 + 4 * k) 0x100 12 (fun c => t.get ⟨0x81030 + 0x100 * c + 4 * k, 0, 32⟩ == 0))

/-! ## Loop engine (R200) and cask (R228) -/

def State.lpeMisuse (s t : State) (w : HostWrite) (a : Nat) : Bool :=
  let cap := t.rate * 625
  let bad (c v : Nat) : Bool := decide (v < 1) || decide (40000000 < v) || decide (cap < v) || decide (t.get (LPE_FBW_FBW c) < t.get (LPE_BW_BW c))
  onInst a 0x91000 0x100 12 (fun c => (t.bit (SEL_CTL_EN c) && s.changed t w (LPE_CTL_TYPE c))
        || (w.hits (LPE_CTL_TYPE c) && (decide (2 ≤ t.get (LPE_CTL_TYPE c)) || decide (5 ≤ t.get (LPE_CTL_DAMP c))
              || (t.get (LPE_CTL_TYPE c) == 1 && t.get (LPE_CTL_DAMP c) == 0)))
        || (w.hits (LPE_CTL_MASK c) && decide (6 ≤ t.get (LPE_CTL_MASK c))))
    || onInst a 0x91004 0x100 12 (fun c => bad c (t.get (LPE_BW_BW c))) || onInst a 0x91008 0x100 12 (fun c => bad c (t.get (LPE_FBW_FBW c)))
    || onInst a 0x9100C 0x100 12 (fun c => t.get (LPE_FRANGE_FRANGE c) == 0 || decide (1000000000 < t.get (LPE_FRANGE_FRANGE c)))
    || onInst a 0x91020 0x100 12 (fun c => w.hits (LPE_LOCK_T_LOCK_T c) && t.get (LPE_LOCK_T_LOCK_T c) == 0)

def State.cskMisuse (s t : State) (w : HostWrite) (a : Nat) : Bool :=
  (a == 0xA0018 && (t.outside w CSK_SNS_CFG_FRAC 4 8 || t.outside w CSK_SNS_CFG_WIDTH 12 16))
    || (a == 0xA001C && (t.outside w CSK_SNS_LIM_SNS_TO 2 255 || t.outside w CSK_SNS_LIM_SNS_STEP 1 255))
    || onInst a 0xA1000 0x100 12 (fun c => t.outside w (CSK_CFG_HO_AVG c) 60 3600 || t.outside w (CSK_CFG_HO_GUARD c) 0 60)
    || onInst a 0xA1004 0x100 12 (fun c => t.outside w (CSK_CFG2_FORGET c) 24 720 || t.outside w (CSK_CFG2_TSPAN c) 1 63)
    || onInst a 0xA1008 0x100 12 (fun c => s.changed t w (CSK_T0_T0 c) && s.get (CSK_FIT_MIN_FIT_MIN c) != 0)

/-! ## Output synthesis (R257) and time engine (R284) -/

/-- The output has a feedback lane. -/
def State.hasFeedback (s : State) (j : Nat) : Bool := (List.range 64).any (fun l => s.laneOn l && s.srcCode l == 0x80 + j)

def State.synMisuse (t : State) (w : HostWrite) (a : Nat) : Bool :=
  (a == 0xB0004 && w.hits SYN_XO_CFG_XF_BW && t.get SYN_XO_CFG_XF_BW == 3)
    || onInst a 0xB1000 0x40 24 (fun j =>
          let p := t.get (SYN_OUT_CFG_POLICY j)
          (w.hits (SYN_OUT_CFG_SET j) && !t.setDeclared j (t.bit (SYN_OUT_CFG_SET j)))
            || (w.hits (SYN_OUT_CFG_POLICY j) && ((p != 0 && decide (12 ≤ t.get (SYN_APLL_CFG_CHAN (t.outApll j)))) || (p == 0 && t.bit (SYN_OUT_CFG_TS_EN j))))
            || (w.hits (SYN_OUT_CFG_ALIGN_EN j) && t.bit (SYN_OUT_CFG_ALIGN_EN j) && (!t.bit (SYN_OUT_CFG_TS_EN j) || !t.hasFeedback j))
            || (w.hits (SYN_OUT_CFG_SQ_LEVEL j) && t.get (SYN_OUT_CFG_SQ_LEVEL j) == 3))
    || onInst a 0xB1024 0x40 24 (fun j => t.get (SYN_OUT_PW_PWIDTH j) == 0 || decide (t.ratio j (t.bit (SYN_OUT_CFG_SET j)) ≤ (t.get (SYN_OUT_PW_PWIDTH j) : Rat)))
    || onInst a 0xB1028 0x40 24 (fun j => t.bit (SYN_OUT_CFG_TS_EN j) &&
          decide (t.ratio j (t.out j).setB ≤ absRat ((t.getS (SYN_OUT_PHASE_OUT_PHASE j) : Int) : Rat)))
    || onInst a 0xB1038 0x40 24 (fun j => t.outside w (SYN_OUT_ACFG_ALIGN_N j) 1 255 || t.outside w (SYN_OUT_ACFG_ALIGN_LIM j) 1 65535)

/-- A step write whose delta is out of format; judged on a `GO` that makes a step. -/
def State.stepMisuse (s : State) (k : Nat) : Bool :=
  let ns := s.getS (TME_STEP_NS_NS k)
  decide (999999999 < ns) || decide (ns < -999999999) || decide (((s.now k : Nat) : Int) + s.stepDelta k < 0)

def State.tmeMisuse (s t : State) (w : HostWrite) (a : Nat) : Bool :=
  onInst a 0xC0130 0x80 4 (fun k => w.full && bitAt w.v.toNat 0 && s.scaleEn k && !s.wonce.contains (TME_STEP_GO_GO k).key && s.stepMisuse k)
    || onInst a 0xC014C 0x80 4 (fun k => w.hits (TME_UTC_LEAP61 k) && t.bit (TME_UTC_LEAP61 k) && t.bit (TME_UTC_LEAP59 k))
    || onInst a 0xC0100 0x80 4 (fun k => let v := t.get (TME_CFG_SLOT k)
          w.hits (TME_CFG_SLOT k) && v != 127 && (decide (88 ≤ v) || !t.declared v || decide (56 ≤ v) || !t.isPulse v))
    || onInst a 0xC0800 0x20 16 (fun i => let gw := t.get (TME_EVT_CFG_GW i)
          (w.hits (TME_EVT_CFG_EN i) && t.bit (TME_EVT_CFG_EN i) &&
            (bitAt (t.get TNS_EVT_OUT) i || !(List.range 8).any (fun l => t.srcCode (72 + l) == 0x40 + i)))
            || (w.hits (TME_EVT_CFG_GW i) && gw != 0 && (decide (gw < 4) || decide (2000 < gw)))
            || (w.hits (TME_EVT_CFG_TS i) && !t.bit (TME_CFG_EN (t.get (TME_EVT_CFG_TS i)))))
    || onInst a 0xC1000 0x40 16 (fun p =>
          (w.hits (TME_PORT_CFG_TS p) && !t.bit (TME_CFG_EN (t.get (TME_PORT_CFG_TS p))))
            || (s.changed t w (TME_PORT_CFG_TSPT p) && s.openSess.any (fun n => (s.sess n).port == p)))

/-! ## Ports and sessions (R317) -/

def State.ethMisuse (t : State) (w : HostWrite) (a : Nat) : Bool :=
  onInst a 0xD100C 0x80 16 (fun _ => decide (4000 < ((List.range 16).map (fun p => t.get (ETH_HRATE_HRATE p))).foldl (· + ·) 0))
    || onInst a 0xD1000 0x80 16 (fun p => w.hits (ETH_CFG_TX_CHAN p) && !t.chanDeclared (t.get (ETH_CFG_TX_CHAN p)))

def State.ptpMisuse (t : State) (w : HostWrite) (a : Nat) : Bool :=
  onInst a 0xE1000 0x40 32 (fun g => (w.hits (PTP_GRP_CFG_MISS_TO g) && t.get (PTP_GRP_CFG_MISS_TO g) == 0)
    || (w.hits (PTP_GRP_CFG_GMHOLD g) && (t.get (PTP_GRP_CFG_GMHOLD g) == 0 || decide (t.get (PTP_GRP_CFG_GMHOLD g) * 1000000 ≤ t.get (QUL_LOSS_TO_LOSS_TO (56 + g))))))

/-- A context's logarithmic intervals: Sync, Delay_Req, Announce. -/
def State.ctxLog (s : State) (n i : Nat) : Int := signed 8 (s.ctxFld n 1 (8 * i) 8)
def within (lo hi v : Int) : Bool := decide (lo ≤ v) && decide (v ≤ hi)

/-- The session lies outside its profile's column (R296). -/
def State.profileBad (s : State) (n : Nat) : Bool :=
  let f (lo len : Nat) := s.ctxFld n 0 lo len
  let uni := f 8 1 == 1
  let neg := f 9 1 == 1
  let dom := f 16 8
  let sy := s.ctxLog n 0
  let dr := s.ctxLog n 1
  let an := s.ctxLog n 2
  !(match f 3 2 with
    | 0 => decide (f 5 2 ≤ 2) && within (-7) 4 sy && within (-7) 6 dr && within (-3) 4 an
    | 1 => f 5 2 == 0 && !uni && decide (24 ≤ dom) && decide (dom ≤ 43) && sy == -4 && dr == -4 && an == -3
    | 2 => (f 5 2 == 1 || f 5 2 == 2) && uni && neg && decide (44 ≤ dom) && decide (dom ≤ 63) && within (-7) 0 sy && within (-7) 0 dr && within (-3) 0 an
    | _ => f 5 2 == 1 && uni && neg && decide (4 ≤ dom) && decide (dom ≤ 23) && within (-7) 0 sy && (f 10 1 == 1 || within (-7) 0 dr) && within (-3) 0 an)

/-- Messages in 64 s at a logarithmic interval. -/
def per64 (l : Int) : Nat := 2 ^ (6 - l).toNat

/-- Event messages, and all messages, of a session in 64 s (R303). -/
def State.sessEvents (s : State) (n : Nat) : Nat :=
  if s.ctxFld n 0 1 2 = 2 then 0 else per64 (s.ctxLog n 0) + (if s.ctxFld n 0 10 1 = 1 then 0 else per64 (s.ctxLog n 1))
def State.sessMessages (s : State) (n : Nat) : Nat :=
  let two := s.ctxFld n 0 1 2 == 1 && s.ctxFld n 0 7 1 == 1
  s.sessEvents n + per64 (s.ctxLog n 2) + (if two then per64 (s.ctxLog n 0) else 0)
    + (if s.ctxFld n 0 1 2 = 2 ∨ s.ctxFld n 0 10 1 = 1 then 0 else per64 (s.ctxLog n 1))

/-- Enabling the session as its context stands is misuse. -/
def State.sessionMisuse (s : State) (n : Nat) : Bool :=
  let p := s.ctxFld n 0 12 4
  let slaveish := s.ctxFld n 0 1 2 != 1
  s.profileBad n || s.bit (TME_PORT_CFG_TSPT p) || !s.bit (ETH_CFG_EN p)
    || (s.ctxFld n 0 1 2 != 0 && s.ctxFld n 0 29 1 == 1)
    || decide (256 * 64 < s.sessMessages n)
    || decide (131072 * 64 < (((List.range 512).filter (fun i => s.ctxFld i 0 0 1 == 1)).map s.sessEvents).foldl (· + ·) 0)
    || (slaveish && decide ((s.ctxWord n 8 : Nat) * 64 ≤ s.ctxFld n 1 24 8 * 1000 * 2 ^ (6 + s.ctxLog n 2).toNat))

/-- A write of the PTP indirect space that is misuse; `t` is the state with the word written. -/
def State.ctxMisuse (s t : State) (a : Nat) : Bool :=
  let n := a / 256
  let w := a % 256 / 4
  decide (n < 512) && decide (w ≤ 10) &&
    (if s.ctxFld n 0 0 1 = 1 then !(w == 0 && t.ctxFld n 0 0 1 == 0 && (t.ctxWord n 0) / 2 == (s.ctxWord n 0) / 2)
     else w == 0 && t.ctxFld n 0 0 1 == 1 && t.sessionMisuse n)

/-! ## Links and the tense table (R346, R368) -/

def State.domainPending (s : State) : Bool := s.tns.entry.any (fun e => bitAt (e.2.getD 0 0) 4)

def State.cjlMisuse (s t : State) (w : HostWrite) (a : Nat) : Bool :=
  onInst a 0xF1000 0x80 8 (fun k => t.outside w (CJL_CFG_ECHO_PER k) 4 1023 || t.outside w (CJL_CFG_ECHO_RETRY k) 2 15 || t.outside w (CJL_CFG_ECHO_WAIT k) 8 1000)
    || onInst a 0xF1004 0x80 8 (fun k => decide (t.get (CJL_TL_TO_TL_TO k) < 100))
    || onInst a 0xF103C 0x80 8 (fun k => t.outside w (CJL_MAIL_LEN k) 1 48)
    || onInst a 0xF100C 0x80 8 (fun _ => !disjointAll ((List.range 8).map (fun k => (t.get (CJL_DELEG_BASE k), t.get (CJL_DELEG_BASE k) + t.get (CJL_DELEG_SIZE k)))))
    || (a == 0xF0008 && !s.bit CJL_CTL_ID_MODE && w.hits CJL_NODE_NODE_ID && s.domainPending)
    || (a == 0xF000C && !s.bit CJL_CTL_ID_MODE && w.hits CJL_RANGE_BASE && s.domainPending)

def State.tnsMisuse (s t : State) (w : HostWrite) (a : Nat) : Bool :=
  let other := s.hif.stageBy.isSome && s.hif.stageBy != some w.m.code
  (decide (0x100010 ≤ a) && decide (a ≤ 0x100028) && (other || s.tnsBusy))
    || (a == 0x10002C && other && w.hits TNS_INSERT_GO && bitAt w.v.toNat 0)
    || (a == 0x100004 && w.full && (bitAt (t.get TNS_CFG_DOM_PERMIT) 0 || decide (2 ^ 13 ≤ t.get TNS_CFG_DOM_PERMIT)))

/-! ## Fault units (R423), domains (R460), the host interface (R373, R381, R386) -/

def State.fltMisuse (t : State) (w : HostWrite) (a : Nat) : Bool :=
  let b := a / 0x10000
  let o := a % 0x10000
  if o < 0xE40 ∨ 0xF40 ≤ o ∨ !w.full then false
  else
    let j := (o - 0xE40) / 16
    if o % 16 = 0 then (t.bit (BLK_FLT_CFG_R_RST b j) && decide (b ≤ 3)) || t.get (BLK_FLT_CFG_THR b j) == 0
    else o % 16 == 4 && t.get (BLK_FLT_WIN b j) == 0

/-- Domains whose switching off is misuse while used. -/
def State.domainUsed (s : State) (d : Nat) : Bool :=
  if d = 7 then (List.range 32).any (fun l => s.srcCode l != 0xFF && s.applied)
  else if d = 8 then (List.range 32).any (fun l => s.srcCode (32 + l) != 0xFF && s.applied)
  else if d = 9 then s.applied && (List.range 8).any (fun l => s.srcCode (72 + l) != 0xFF)
  else s.applied && bitAt (regGet s.cfg.img SYS_PD_EN_PD_EN.key) d

def State.pdMisuse (s t : State) : Bool :=
  (List.range 16).any (fun d => bitAt (s.get SYS_PD_EN_PD_EN) d && !bitAt (t.get SYS_PD_EN_PD_EN) d && s.domainUsed d)

/-- Descriptors of enabled rings that are the device's. -/
def State.deviceDescs (s : State) : List (Nat × Nat) :=
  (List.range 8).flatMap (fun r => if s.bit (HIF_RING_CFG_RING_EN r) then
    (List.range (s.ringSize r)).filterMap (fun i => if s.ownAt (s.descAt r i) then some (r, s.descAt r i) else none) else [])

/-- Rings that leave the window, or rings and buffers that overlap. -/
def State.ringMisuse (s : State) : Bool :=
  let rings := ((List.range 8).filter (fun r => s.bit (HIF_RING_CFG_RING_EN r))).map (fun r =>
    (s.get (HIF_RING_BASE_BASE r), s.get (HIF_RING_BASE_BASE r) + 16 * s.ringSize r))
  let bufs := s.deviceDescs.map (fun e => let b := s.winWord (e.2 + 4) % 2 ^ 20 / 16 * 16; (b, b + s.winWord e.2 % 65536))
  rings.any (fun r => decide (2 ^ 20 < r.2)) || !disjointAll (rings ++ bufs.filter (fun b => decide (b.2 ≤ 2 ^ 20)))

def State.hifMisuse (s t : State) (w : HostWrite) (a : Nat) : Bool :=
  (a == 0x10010 && w.hits HIF_I2C_ADDR_ADDR && (decide (t.get HIF_I2C_ADDR_ADDR < 8) || decide (0x78 ≤ t.get HIF_I2C_ADDR_ADDR)))
    || onInst a 0x10400 0x10 8 (fun r => s.bit (HIF_RING_CFG_RING_EN r) && w.hits (HIF_RING_BASE_BASE r))
    || onInst a 0x10404 0x10 8 (fun r =>
          (s.bit (HIF_RING_CFG_RING_EN r) && s.changed t w (HIF_RING_CFG_SIZE r))
            || (!s.bit (HIF_RING_CFG_RING_EN r) && t.bit (HIF_RING_CFG_RING_EN r) && t.ringMisuse))

/-- A window write that is misuse: it lies in a device-owned descriptor, or hands over a buffer that overlaps. -/
def State.windowMisuse (s t : State) (o : Nat) : Bool :=
  s.deviceDescs.any (fun e => decide (e.2 ≤ o) && decide (o < e.2 + 16)) || (decide (s.deviceDescs.length < t.deviceDescs.length) && t.ringMisuse)

/-- A register write that took place is misuse. -/
def State.misuse (s t : State) (w : HostWrite) (a : Nat) : Bool :=
  t.fltMisuse w a ||
  match a / 0x10000 with
  | 0 => a == 0x20 && s.pdMisuse t
  | 1 => s.hifMisuse t w a
  | 5 => s.refMisuse t w a
  | 6 => s.timMisuse t w a
  | 7 => s.qulMisuse t w a
  | 8 => s.selMisuse t w a
  | 9 => s.lpeMisuse t w a
  | 10 => s.cskMisuse t w a
  | 11 => t.synMisuse w a
  | 12 => s.tmeMisuse t w a
  | 13 => t.ethMisuse w a
  | 14 => t.ptpMisuse w a
  | 15 => s.cjlMisuse t w a
  | 16 => s.tnsMisuse t w a
  | _ => false

end Sys2Proof.Machine
end

