-- ==== Sys2Proof/Machine/Bus.lean ====
section
/-!
DEFINITION. Register access (chapter 13): what a register reads as, the shadows of word pairs and time groups, the access
types of R8, privilege, the indirect spaces and the window, and what a host write sets going.
-/
namespace Sys2Proof.Machine
open Sys2Proof

/-! ## Masters and which registers respond -/

/-- The privileged masters (R9). -/
def State.privileged (s : State) : Master → Bool
  | .pf0 => true
  | .spi => s.bit SYS_STRAP_SPI_SEC
  | _ => false

/-- The power domain a register's access needs (PRESUMED, log entry 33). -/
def accessDomain (a : Nat) : Option Nat :=
  if 0x60100 ≤ a ∧ a < 0x60500 then some (if a < 0x60300 then 7 else 8)
  else if 0x60600 ≤ a ∧ a < 0x60700 then some 9
  else if 0xD0010 ≤ a ∧ a < 0xD0020 then some (10 + (a - 0xD0010) / 4)
  else if 0xD1000 ≤ a ∧ a < 0xD1800 then some (10 + (a - 0xD1000) / 0x200)
  else if 0xF0000 ≤ a ∧ a < 0x100000 ∧ (a < 0xF0E00 ∨ 0xF0F40 ≤ a) then some 15
  else none

/-- The device is not held in the internal reset. -/
def State.busUp (s : State) : Bool := !s.sys.por && !s.sys.rstN

/-- An access reaches something: not in reset, not beside the boot clock's three blocks (R447), not into HIF or OBS in
reset (R393, R437). -/
def State.responds (s : State) (a : Nat) : Bool :=
  s.busUp && !s.unitInRst 1 && (!s.bit SYS_OSC_BOOTCLK || decide (a < 0x30000))
    && !(a / 0x10000 == 4 && s.unitInRst 4) && (match accessDomain a with | some d => s.domainUp d | none => true)

/-- The registers of R432 that `OBS_USER_EN` opens to unprivileged reads. -/
def userReg (a : Nat) : Bool :=
  a == 0x40008 || (decide (0x40010 ≤ a) && decide (a < 0x4002C)) || (decide (0x40040 ≤ a) && decide (a < 0x40060))
    || (decide (0x41000 ≤ a) && decide (a < 0x41300))

/-! ## What a register reads as -/

/-- A bit map of indices. -/
def mapOf (l : List Nat) : Nat := l.foldl setBitAt 0

/-- A VOTE field reads as the majority of its copies (R8). -/
def State.voted (s : State) (f : Fld) : Nat :=
  let a := s.get f
  let x := tabGet (0, 0) s.upset f.key
  if x.1 = 0 ∨ x.2 = 0 then a
  else if x.1 = x.2 then a ^^^ x.1
  else Config.voteNoMajority a (a ^^^ x.1) (a ^^^ x.2) % 2 ^ f.len

/-- Units in reset or in shadow, as `FLT_RST` and `FLT_SHADOW` lay them out (R421). -/
def unitMap (p : Nat → Bool) : Nat := mapOf ((List.range 24).filter p)

/-- Fields of a fault unit that show live state (R420). -/
def State.fltView (s : State) (b o lo : Nat) : Option Nat :=
  if o = 0xE00 then some (mapOf ((List.range (unitSources b)).filter (fun j => s.srcLive (sourceNumber b j))))
  else if o < 0xE40 ∨ 0xF40 ≤ o then none
  else
    let src := sourceNumber b ((o - 0xE40) / 16)
    if o % 16 = 0 ∧ lo = 10 then some (ofBool (conditionSources.contains src))
    else if o % 16 = 8 ∧ lo = 0 then some (s.wcount src)
    else none

/-- System, host interface, loader, fault and observation fields that show live state. -/
def State.viewSys (s : State) (m : Master) (a lo : Nat) : Option Nat :=
  match a with
  | 0x4 => some (Config.uid % 2 ^ 32)
  | 0x8 => some (Config.uid / 2 ^ 32 % 2 ^ 32)
  | 0x24 => if lo = 0 then some s.pdOn else none
  | 0x1000C => some (if lo = 0 then m.code else if lo = 2 then ofBool (s.privileged m) else s.get SYS_STRAP_SPI_SEC)
  | 0x10180 => some s.vectors
  | 0x20004 => if lo = 6 then some (ofBool (s.otp.programmed == 0)) else none
  | 0x20014 => some (if lo = 0 then s.otp.arb else ofBool s.gld.arbTarget.isSome)
  | 0x20080 => if lo = 0 then some s.otp.programmed else if lo = 4 then some s.otp.revoked else none
  | 0x30004 => some (if lo = 0 then ofBool (s.flt.holders != []) else ofBool s.noImageFault)
  | 0x3000C => some (mapOf s.flt.holders)
  | 0x30010 => some (mapOf s.flt.lineBad)
  | 0x30028 => some (mapOf ((List.range 17).filter (fun b => (List.range (unitSources b)).any (fun j => s.bit (BLK_FLT_SEV b j)))))
  | 0x3001C => let v := unitMap s.unitInShadow; some (if lo = 0 then v % 2 ^ 17 else v / 2 ^ 17)
  | 0x30020 => let v := unitMap s.unitInRst; some (if lo = 0 then v % 2 ^ 17 else v / 2 ^ 17)
  | _ =>
    if 0x10110 ≤ a ∧ a < 0x10130 then
      let k := (a - 0x10110) / 4
      some (mapOf ((s.assertedSources.filter (fun n => n / 32 == k % 4 && (decide (k < 4) || s.sourceEnabled n))).map (· % 32)))
    else if 0x41000 ≤ a ∧ a < 0x41300 then
      let c := tabGet 0 s.obs.cnt ((a - 0x41000) / 8)
      some (if a % 8 = 0 then c % 2 ^ 32 else c / 2 ^ 32)
    else none

/-- Measurement and qualification fields that show live state. -/
def State.viewIn (s : State) (a lo : Nat) : Option Nat :=
  let acts (n k : Nat) : Nat := mapOf ((List.range k).filter (fun i => s.refAct (n + i)))
  match a with
  | 0x50008 => some (acts 0 32)
  | 0x5000C => some (acts 32 24)
  | 0x60004 => some (s.coarse % 2 ^ 32)
  | 0x60008 => some (s.coarse / 2 ^ 32 % 2 ^ 16)
  | 0x6000C => some (s.bound % 2 ^ 32)
  | 0x60010 => some (if lo = 0 then s.bound / 2 ^ 32 % 2 ^ 16 else s.tick16)
  | 0x60014 => if lo = 0 then some s.bankQ.length else none
  | 0x60020 => some (mapOf ((List.range 3).filter (fun i => if lo = 0 then s.unitInRst (17 + i) else s.unitInShadow (17 + i))))
  | _ =>
    if lo = 0 ∧ (instOf a 0x51028 0x40 56).isSome then (instOf a 0x51028 0x40 56).map (fun n => ofBool (s.refAct n))
    else if lo < 16 ∧ (instOf a 0x60104 0x10 64).isSome then
      (instOf a 0x60104 0x10 64).map (fun l => if lo = 0 then (s.laneOf l).queue.length else (s.laneOf l).dfact)
    else if lo < 16 ∧ (instOf a 0x60604 0x10 16).isSome then
      (instOf a 0x60604 0x10 16).map (fun l => if lo = 0 then (s.laneOf (64 + l)).queue.length else (s.laneOf (64 + l)).dfact)
    else if lo = 19 ∧ (instOf a 0x71048 0x80 88).isSome then (instOf a 0x71048 0x80 88).map (fun n => ofBool (s.slotInShadow n))
    else (instOf a 0x70010 4 11).map (fun k =>
      (List.range 8).foldl (fun v i => v + 16 ^ i * (s.get (QUL_STAT_STATE (8 * k + i)) + 8 * ofBool (s.slotInShadow (8 * k + i)))) 0)

/-- Loop, holdover, synthesis, time and network fields that show live state. -/
def State.viewOut (s : State) (a lo : Nat) : Option Nat :=
  match a with
  | 0x90004 => some (s.tick % 2 ^ 32)
  | 0x90008 => some (s.tick / 2 ^ 32 % 2 ^ 16)
  | 0x9000C => some (if lo = 0 then s.cfg.tickCode % 4 else s.cycles)
  | 0xA0008 => some s.cskSec
  | 0xE001C => if lo = 20 then some (s.ctxHeld % 4096) else none
  | 0x100030 => if lo = 4 then some (ofBool s.tnsBusy) else none
  | 0x100038 => if lo = 0 then some s.tns.entry.length else none
  | _ =>
    if (a = 0xC0104 ∨ a = 0xC0184 ∨ a = 0xC0204 ∨ a = 0xC0284) ∧ 3 ≤ lo then
      let x := s.scale ((a - 0xC0104) / 0x80)
      some (if lo = 3 then ofBool (x.slew != 0) else if lo = 4 then ofBool x.radj.isSome else (x.radj.map (·.left)).getD 0)
    else if 0xC0108 ≤ a ∧ a < 0xC02A0 ∧ (a - 0xC0100) % 0x80 < 0x20 ∧ 8 ≤ (a - 0xC0100) % 0x80 then
      let k := (a - 0xC0100) / 0x80
      let v := s.now k
      let i := (s.scale k).inc
      match (a - 0xC0100) % 0x80 / 4 with
      | 2 => some (tsNs v) | 3 => some (tsFrac v) | 4 => some (tsSec v % 2 ^ 32) | 5 => some (tsSec v / 2 ^ 32)
      | 6 => some (i % 2 ^ 32) | _ => some (i / 2 ^ 32 % 2 ^ 24)
    else match instOf a 0x8104C 0x100 12, instOf a 0xA1014 0x100 12 with
      | some c, _ => if lo = 0 then some (s.get (LPE_TICK_TICK c)) else none
      | _, some c => if lo = 0 then some (s.get (LPE_TICK_TICK c)) else none
      | _, _ => (instOf a 0xB0020 4 3).map (fun k =>
          (List.range 8).foldl (fun v i =>
            let j := 8 * k + i
            v + 16 ^ i * (s.get (SYN_OUT_STAT_OSTATE j) + 4 * s.get (SYN_OUT_STAT_ALIGNED j) + 8 * s.get (SYN_OUT_STAT_PEND j))) 0)

/-- A field as it reads now. -/
def State.view (s : State) (m : Master) (f : Fld) (vote : Bool) : Nat :=
  let b := f.addr / 0x10000
  let o := f.addr % 0x10000
  let live : Option Nat :=
    if 0xE00 ≤ o ∧ o < 0xF40 then s.fltView b o f.lo
    else if b < 5 then s.viewSys m f.addr f.lo
    else if b < 8 then s.viewIn f.addr f.lo
    else s.viewOut f.addr f.lo
  match live with
  | some v => v % 2 ^ f.len
  | none => if vote then s.voted f else s.get f

/-- A master may read a field (R378, R432). -/
def State.readable (s : State) (m : Master) (a : Nat) (d : FieldD) : Bool :=
  d.acc != .wo && (!d.priv || s.privileged m || (userReg a && s.voted OBS_CTL_OBS_USER_EN == 1))

/-- The bits of a register a master may read. -/
def State.readMask (s : State) (m : Master) (a : Nat) (r : RegD) : Nat :=
  r.fields.foldl (fun n d => if s.readable m a d then n + (2 ^ d.len - 1) * 2 ^ d.lo else n) 0

/-- The register word as it stands, all its fields. -/
def State.liveWord (s : State) (m : Master) (a : Nat) : Nat :=
  match findReg allRegs a with
  | none => 0
  | some r => r.fields.foldl (fun n d => n + s.view m ⟨a, d.lo, d.len⟩ d.vote * 2 ^ d.lo) 0

/-! ## Shadows (R272, R377) -/

/-- The low words of the `_LO`/`_HI` pairs outside the time groups: base, stride, count. -/
def loWords : List (Nat × Nat × Nat) := [
  (0x4, 4, 1), (0x20020, 4, 1), (0x20030, 4, 1), (0x41000, 8, 96), (0x51008, 0x40, 56), (0x60004, 4, 1), (0x6000C, 4, 1),
  (0x81050, 0x100, 12), (0x81058, 0x100, 12), (0x810BC, 0x100, 12), (0x90004, 4, 1), (0x91030, 0x100, 12),
  (0x9103C, 0x100, 12), (0x91044, 0x100, 12), (0x9104C, 0x100, 12), (0x91064, 0x100, 12), (0x9106C, 0x100, 12),
  (0xA1028, 0x100, 12), (0xA1030, 0x100, 12), (0xA1050, 0x100, 12), (0xB0008, 4, 1), (0xB0014, 4, 1),
  (0xB0404, 0x40, 4), (0xB040C, 0x40, 4), (0xB1004, 0x40, 24), (0xB1014, 0x40, 24), (0xC0118, 0x80, 4),
  (0xC0120, 0x80, 4), (0xC0138, 0x80, 4), (0xC0150, 0x80, 4), (0xD0020, 8, 2), (0xD1004, 0x80, 16), (0xE0004, 4, 1),
  (0xE100C, 0x40, 32), (0xE1018, 0x40, 32), (0xE1020, 0x40, 32), (0xF1018, 0x80, 8), (0xF1020, 0x80, 8)]

def isLoWord (a : Nat) : Bool := loWords.any (fun e => (instOf a e.1 e.2.1 e.2.2).isSome)

/-- Registers after the `NS` register of a time group at `a`; 0 where `a` is no `NS` register. -/
def groupLen (a : Nat) : Nat :=
  if (instOf a 0xC0108 0x80 4).isSome || (instOf a 0xC015C 0x80 4).isSome || (instOf a 0xC0804 0x20 16).isSome
      || (instOf a 0xC1010 0x40 16).isSome then 3
  else if a % 0x10000 = 0xE10 ∧ a / 0x10000 < 17 then 2
  else 0

/-- The register belongs to a time group and is not its `NS` register. -/
def inGroup (a : Nat) : Bool := decide (1 ≤ groupLen (a - 4)) || decide (2 ≤ groupLen (a - 8)) || decide (3 ≤ groupLen (a - 12))

def shadowKey (m : Master) (a : Nat) : Nat := m.code * 2 ^ 24 + a
def State.latched (s : State) (m : Master) (a : Nat) : Option Nat := tabGet none s.hif.shadow (shadowKey m a)

/-- Load a master's shadow of some registers. -/
def State.latch (s : State) (m : Master) (as : List Nat) : State :=
  as.foldl (fun t a => { t with hif := { t.hif with shadow := tabPut none t.hif.shadow (shadowKey m a) (some (s.liveWord m a)) } }) s

/-- The shadow, or the live word before the master's first latching read. -/
def State.shadowed (s : State) (m : Master) (a : Nat) : Nat := (s.latched m a).getD (s.liveWord m a)

/-- `LATCH_ALL` is on and the register is `TME_NOW_NS_1` – `_3`, which then show their copies (R272). -/
def State.allMember (s : State) (a : Nat) : Bool := s.bit TME_CTL_LATCH_ALL && (instOf a 0xC0188 0x80 3).isSome

/-- The registers a latching read of `NS` at `a` loads. -/
def State.latchSet (s : State) (a : Nat) : List Nat :=
  if a = 0xC0108 ∧ s.bit TME_CTL_LATCH_ALL then
    (List.range 4).flatMap (fun k => (List.range 4).map (fun i => 0xC0108 + 0x80 * k + 4 * i)) ++ [0xC0008, 0xC000C]
  else (List.range (groupLen a)).map (fun i => a + 4 + 4 * i)

/-- A read of a group's `NS` register (R272). -/
def State.groupRead (s : State) (m : Master) (a : Nat) : State :=
  let s := if a = 0xC0108 ∧ s.bit TME_CTL_LATCH_ALL then s.set2 TME_LATCH_COARSE_LO_COARSE TME_LATCH_COARSE_HI_COARSE (s.coarse % 2 ^ 48) else s
  s.latch m (s.latchSet a)

/-- A register read with its latching (R272, R376, R377, R279); `side` says whether byte 0 is included. -/
def State.readShadow (s : State) (m : Master) (a : Nat) (side : Bool) : State × Nat :=
  if s.allMember a || inGroup a || a == 0xC0008 || a == 0xC000C || isLoWord (a - 4) then (s, s.shadowed m a)
  else if groupLen a ≠ 0 then (if side then s.groupRead m a else s, s.liveWord m a)
  else if isLoWord a then (if side then s.latch m [a + 4] else s, s.liveWord m a)
  else
    let s := match instOf a 0xC100C 0x40 16 with | some p => if side then s.txqPop p else s | none => s
    (s, s.liveWord m a)

/-! ## Indirect spaces (R379, R380) -/

/-- Every region of the block's indirect space is PRIV (R71, R255, R314). -/
def indirectPriv (b : Nat) : Bool := b == 2 || b == 11 || b == 13

/-- A word of an entry of the slot schedule (R198). -/
def State.scheduleWord (s : State) (a : Nat) : Nat :=
  match s.cfg.sched[a / 16]? with
  | none => 0
  | some j =>
    match a % 16 / 4 with
    | 0 => j.kind % 16 + 16 * (j.cls % 4) + 64 * (j.lane % 4) + 256 * ofBool j.per + 2 ^ 16 * (j.target % 256)
    | 1 => j.offset % 2 ^ 17
    | 2 => j.cost % 2 ^ 17
    | _ => tabGet 0 s.schedEnd (a / 16)

/-- A word of the loader's space (R71). -/
def State.gldWord (s : State) (a : Nat) : Nat :=
  if a < 0x200000 then getWord s.gld.sram a
  else if 0x2000000 ≤ a ∧ a < 0x2000400 then (s.cfg.locks.take 256).getD ((a - 0x2000000) / 4) 0
  else 0

/-- A word of block `b`'s indirect space. -/
def State.indirectWord (s : State) (b a : Nat) : Nat :=
  match b with
  | 2 => s.gldWord a
  | 9 => if a < 0x2000 then s.scheduleWord a else 0
  | 10 => s.caskWord a
  | 11 => s.synWord a
  | 13 => s.ethRead a
  | 14 => s.ptpRead a
  | 15 => s.cjlRead a
  | _ => s.tnsRead a

/-- A write of the loader's space: configuration SRAM unless blocked (R54), or a staging word. -/
def State.gldPut (s : State) (a v : Nat) : State :=
  if a < 0x200000 then (if s.sramBlocked then s.raise GLD_STICKY_SRAM_WR_BLOCKED else s.sramPut (a / 4 * 4) (leBytes 4 v))
  else if 0x1000000 ≤ a ∧ a < 0x1000030 then { s with gld := { s.gld with staging := tabPut 0 s.gld.staging ((a - 0x1000000) / 4) v } }
  else s

/-- A word written to block `b`'s indirect space. -/
def State.indirectPut (s : State) (b a v : Nat) : State :=
  match b with
  | 2 => s.gldPut a v
  | 11 => s.synWrite a v
  | 13 => s.ethWrite a v
  | 14 => let t := s.ptpWrite a v; t.misusedIf (s.ctxMisuse t a)
  | 15 => s.cjlWrite a v
  | _ => s

/-- The indirect address, and its advance where the mode bit `i` of `INC` is set. -/
def State.indirectAddr (s : State) (b : Nat) : Nat := s.get (BLK_IND_ADDR_ADDR b) / 4 * 4
def State.indirectStep (s : State) (b i : Nat) : State :=
  if bitAt (s.get (BLK_IND_ADDR_INC b)) i then s.set (BLK_IND_ADDR_ADDR b) (s.get (BLK_IND_ADDR_ADDR b) + 4) else s

/-- An access to the pair while an indirect access of the block is in progress waits for it (R380). -/
def State.indirectStall (s : State) (b : Nat) : State :=
  if tabGet 0 s.hif.indBusy b = 0 then s
  else
    let s := ((s.satAdd HIF_CNT_STALLS 1).obsAdd 77 1).raise HIF_STICKY_STALL_S
    { s with hif := { s.hif with indBusy := tabDel b s.hif.indBusy } }

/-- Who used the pair: the last master with the masters whose address another has moved (R380). -/
def State.pairUse (s : State) (b : Nat) : Nat := tabGet 0 s.hif.indBy b
def pairMoved (u : Nat) (m : Master) : Bool := bitAt (u / 8) m.code
def pairTouch (u : Nat) (m : Master) (addr : Bool) : Nat :=
  let last := u % 8
  let moved := u / 8
  let moved := if last ≠ 0 ∧ last ≠ m.code + 1 then setBitAt moved (last - 1) else moved
  (m.code + 1) + 8 * (if addr then clearBitAt moved m.code else moved)
def State.touchPair (s : State) (b : Nat) (m : Master) (addr : Bool) : State :=
  { s with hif := { s.hif with indBy := tabPut 0 s.hif.indBy b (pairTouch (s.pairUse b) m addr) } }

/-- A write of `IND_ADDR` (R379). -/
def State.indAddrWrite (s : State) (m : Master) (b v : Nat) : State :=
  let s := (s.indirectStall b).touchPair b m true
  (s.set (BLK_IND_ADDR_ADDR b) v).set (BLK_IND_ADDR_INC b) (v / 2 ^ 30)

/-- A read of `IND_DATA` that includes byte 0 (R376, R378 – R380). Where another master has moved the master's address, the word is any
that the master may read, and the behaviour undefined. -/
def State.indDataRead (s : State) (m : Master) (b : Nat) : State × Nat :=
  let moved := pairMoved (s.pairUse b) m
  let s := (s.indirectStall b).touchPair b m false
  let a := s.indirectAddr b
  let x := if b = 10 then s.caskRead a else (s, s.indirectWord b a)
  let v := if indirectPriv b && !s.privileged m then 0 else if moved then s.fresh % 2 ^ 32 else x.2 % 2 ^ 32
  let s := x.1
  let s := if b = 13 ∧ a % 0x10000 = 0x10 ∨ moved then s.took else s
  let s := { s with hif := { s.hif with indLast := tabPut 0 s.hif.indLast (m.code * 32 + b) v } }
  ((s.indirectStep b 0).misusedIf moved, v)

/-- An unprivileged write is ignored and counted (R378). -/
def State.privIgnored (s : State) : State := ((s.satAdd HIF_CNT_PRIV_CNT 1).obsAdd 86 1).raise HIF_STICKY_PRIV_S

/-- A write of `IND_DATA`; it stays in progress until it completes (R378 – R380). -/
def State.indDataWrite (s : State) (m : Master) (b v : Nat) : State :=
  let moved := pairMoved (s.pairUse b) m
  let s := (s.indirectStall b).touchPair b m false
  if indirectPriv b && !s.privileged m then (s.privIgnored.indirectStep b 1).misusedIf moved
  else
    let s := { s with hif := { s.hif with indBusy := tabPut 0 s.hif.indBusy b 1 } }
    ((s.indirectPut b (s.indirectAddr b) v).indirectStep b 1).misusedIf moved

/-- The block whose pair a register belongs to, and whether it is `IND_DATA`. -/
def pairOf (a : Nat) : Option (Nat × Bool) :=
  let b := a / 0x10000
  if !indirectBlocks.contains b then none
  else if a % 0x10000 = 0xFF0 then some (b, false)
  else if a % 0x10000 = 0xFF4 then some (b, true)
  else none

/-! ## A read of 32 bits -/

/-- A register as a master reads it; `side` says whether byte 0 is included. -/
def State.registerRead (s : State) (m : Master) (a : Nat) (side : Bool) : State × Nat :=
  match pairOf a with
  | some (b, true) => if side then s.indDataRead m b else (s, tabGet 0 s.hif.indLast (m.code * 32 + b))
  | _ =>
    match findReg allRegs a with
    | none => (s, 0)
    | some r =>
      let mask := s.readMask m a r
      if mask = 0 ∧ r.anyPriv then (s, 0)
      else
        let x := s.readShadow m a side
        (x.1, x.2 &&& mask)

/-- The window word at an offset (R370, R381). -/
def State.windowRead (s : State) (m : Master) (o : Nat) : Nat := if s.privileged m then s.winWord o else 0

/-- What a read of the word at `a` answers: nothing responds, the window, or a register. -/
def State.readAt (s : State) (m : Master) (a : Nat) (be : Fin 16) : State × Nat :=
  if !s.responds a then (s, 0)
  else if 0x200000 ≤ a ∧ a < 0x300000 then (s, s.windowRead m (a - 0x200000))
  else s.registerRead m a (bitAt be.val 0)

/-- The master's last read result (R372). -/
def State.noteRead (s : State) (m : Master) (v : Nat) : State := { s with hif := { s.hif with lastRead := tabPut 0 s.hif.lastRead m.code v } }

/-- An access is counted (R425). -/
def State.countAccess (s : State) : State := if s.busUp then s.obsAdd 76 1 else s

/-- One 32-bit read (R371, R374): address, byte lanes. -/
def State.hostRead (s : State) (m : Master) (addr : Nat) (be : Fin 16) : State × Nat :=
  let x := s.countAccess.readAt m (addr / 4 * 4) be
  (x.1.noteRead m (x.2 &&& beMask be), x.2 &&& beMask be)

/-! ## A write of 32 bits -/

/-- A dropped access (R372 – R375): cause, address and master. -/
def State.accessError (s : State) (cause a : Nat) (m : Master) : State :=
  (((s.set HIF_ACC_ERR_ADDR_ADDR a).set HIF_ACC_ERR_INFO_CAUSE cause).set HIF_ACC_ERR_INFO_MASTER m.code).raise HIF_STICKY_ACC_ERR

/-- The block's sticky `WONCE_VIOL` bit (R8). -/
def wonceViol (b : Nat) : Fld :=
  match b with
  | 0 => SYS_STICKY_WONCE_VIOL | 1 => HIF_STICKY_WONCE_VIOL | 2 => GLD_STICKY_WONCE_VIOL | 3 => FLT_STICKY_WONCE_VIOL
  | 4 => OBS_STICKY_WONCE_VIOL | 5 => REF_STICKY_WONCE_VIOL | 6 => TIM_STICKY_WONCE_VIOL | 7 => QUL_STICKY_WONCE_VIOL
  | 8 => SEL_STICKY_WONCE_VIOL | 9 => LPE_STICKY_WONCE_VIOL | 10 => CSK_STICKY_WONCE_VIOL | 11 => SYN_STICKY_WONCE_VIOL
  | 12 => TME_STICKY_WONCE_VIOL | 13 => ETH_STICKY_WONCE_VIOL | 14 => PTP_STICKY_WONCE_VIOL | 15 => CJL_STICKY_WONCE_VIOL
  | _ => TNS_STICKY_WONCE_VIOL

/-- An ignored write to a WONCE or LCK field (R67). -/
def State.violation (s : State) (a : Nat) : State :=
  (((s.satAdd GLD_VIOL_CNT_COUNT 1).set GLD_VIOL_ADDR_ADDR a).obsAdd 85 1).raise (wonceViol (a / 0x10000))

/-- The register is locked by the running image (R65). -/
def State.locked (s : State) (a : Nat) : Bool := s.applied && (s.cfg.locks.take 256).contains a

/-- A write of a field acts by its access type (R8, R374); the observation counters hold their words themselves. -/
def State.writeField (s : State) (w : HostWrite) (a : Nat) (d : FieldD) : State :=
  let f : Fld := ⟨a, d.lo, d.len⟩
  let old := s.get f
  let one := writtenBits w.be w.v d.lo d.len
  match d.acc with
  | .rw =>
    let s := s.set f (mergeField w.be w.v d.lo d.len old)
    if d.vote then { s with upset := tabDel f.key s.upset } else s
  | .w1c => if one = 0 ∨ s.w1cHeld f then s else s.set f (old - (old &&& one))
  | .w1s => s.set f (old ||| one)
  | _ => s

/-- `NODE_ID`, `BASE` and `SIZE` come from the uplink under `ID_MODE` 1 (R328); `CONFIRM` stays 0 while no image runs
(R52). -/
def State.heldField (s : State) (f : Fld) : Bool :=
  (s.bit CJL_CTL_ID_MODE && [CJL_NODE_NODE_ID, CJL_RANGE_BASE, CJL_RANGE_SIZE].contains f)
    || (f == GLD_BOOT_CONFIRM && !s.bit GLD_STAT_IMG_VALID)

/-- Store a write's fields. -/
def State.writeFields (s : State) (w : HostWrite) (a : Nat) (ds : List FieldD) : State :=
  ds.foldl (fun t d => if w.hits ⟨a, d.lo, d.len⟩ && !s.heldField ⟨a, d.lo, d.len⟩ then t.writeField w a d else t) s

/-- What a write to an output's registers sets going. -/
def State.hitOutput (s : State) (t : State) (w : HostWrite) (j : Nat) : State :=
  let t := if s.changed t w (SYN_OUT_PW_PWIDTH j) then t.widthChanged j (s.get (SYN_OUT_PW_PWIDTH j)) else t
  if s.unitInShadow 11 then t.showPend j
  else
    let t := if s.changed t w (SYN_OUT_PHASE_OUT_PHASE j) then t.phaseWritten j else t
    let t := if s.changed t w (SYN_OUT_CFG_SET j) then t.setWritten j else t
    let t := if s.changed t w (SYN_OUT_TRIM_TRIM j) then t.trimWritten j else t
    t.evalOutput j

/-- What a write to SYS, HIF, GLD or FLT sets going; `s` is the state before the fields were stored. DESIGN CHOICE: one write of
`GLD_KEY` programs before it revokes, each in rising order of slots (R56, R57, log entry 55). -/
def State.effectSys (s t : State) (w : HostWrite) (a : Nat) : State :=
  let v := w.v.toNat
  let one (f : Fld) : Nat := writtenBits w.be w.v f.lo f.len
  match a with
  | 0x20 => t.pdApply (s.get SYS_PD_EN_PD_EN)
  | 0x2C => t.tempEval
  | 0x30 => t.brstWritten v
  | 0x10188 => if bitAt t.vectors (v % 32) && !bitAt t.hif.vecMask (v % 32) then { t with hif := { t.hif with msgs := t.hif.msgs ++ [v % 32] } } else t
  | 0x10300 => [1, 2].foldl (fun t r => if bitAt v r then t.doorbell r else t) t
  | 0x20000 => t.gldCtl (one GLD_CTL_START == 1) (one GLD_CTL_ABORT == 1)
  | 0x20018 => t.arbAdvance (v % 256)
  | 0x2001C => if one GLD_BOOT_CONFIRM = 1 then t.gldConfirm else t
  | 0x20080 =>
    let t := (List.range 4).foldl (fun t k => if bitAt (one GLD_KEY_PROG) k then t.keyProg k else t) t
    (List.range 4).foldl (fun t k => if bitAt (one GLD_KEY_REVOKE) k then t.keyRevoke k else t) t
  | 0x30008 => if one FLT_PIN_FIRST_V = 1 then t.latchClear else t
  | _ =>
    match instOf a 0x10404 0x10 8 with
    | some r => if !s.bit (HIF_RING_CFG_RING_EN r) && t.bit (HIF_RING_CFG_RING_EN r) then t.set (HIF_RING_IDX_IDX r) 0 else t
    | none => t

/-- A write of a window of slot qualification restarts it (R132). -/
def State.windowsWritten (t : State) (w : HostWrite) (a : Nat) : State :=
  let hit (l : List (Fld × Nat)) : List Nat := (l.filter (fun f => w.hits f.1)).map (·.2)
  match instOf a 0x71004 0x80 88, instOf a 0x71008 0x80 88, instOf a 0x71034 0x80 88 with
  | some n, _, _ => t.restartWindows n (hit [(QUL_FWIN_W0 n, 0), (QUL_FWIN_W1 n, 1)])
  | _, some n, _ => t.restartWindows n (hit [(QUL_FWIN2_W2 n, 2), (QUL_FWIN2_DW n, 3)])
  | _, _, some n => t.restartWindows n (hit [(QUL_TIMES_WW n, 4)])
  | _, _, _ => t

/-- What a write to QUL, SEL, LPE, CSK or SYN sets going. -/
def State.effectLoop (s t : State) (w : HostWrite) (a : Nat) : State :=
  match a / 0x10000 with
  | 7 => t.windowsWritten w a
  | 8 => match instOf a 0x81000 0x100 12 with | some c => if w.hits (t.namedFld c) then t.requestNamed c else t | none => t
  | 9 => match instOf a 0x91024 0x100 12 with | some c => t.padjHost c | none => t
  | 10 => if a = 0xA0004 then (bitsSet 12 w.v.toNat).foldl (fun t c => t.askClear c) t else t
  | _ =>
    if 0xB1000 ≤ a then s.hitOutput t w ((a - 0xB1000) / 0x40)
    else if a = 0xB0030 ∨ a = 0xB0034 then t.evalOutputs
    else t

/-- What a write to CJL or TNS sets going; `dur` is how long an insert takes (log entry 26). -/
def State.effectNet (t : State) (w : HostWrite) (a : Nat) (dur : Option Nat) : State :=
  let v := w.v.toNat
  match a with
  | 0xF0014 => t.floodTx (v % 256)
  | 0x10002C =>
    if !bitAt v 0 then t
    else
      let t := { t with hif := { t.hif with stageBy := none } }
      match dur with
      | some d => t.tnsGo d
      | none => (t.tnsGo (t.fresh % 4001)).took
  | 0x100034 => t.tnsCancel (v % 4096)
  | _ => if 0x100010 ≤ a ∧ a ≤ 0x100028 then { t with hif := { t.hif with stageBy := some w.m.code } } else t

/-- A write to TME that starts something (R268, R269, R274). -/
def State.effectTme (s t : State) (w : HostWrite) (a : Nat) : State :=
  if 0xC0800 ≤ a ∧ a < 0xC0A00 then t.evtStart s
  else match instOf a 0xC0148 0x80 4, instOf a 0xC0158 0x80 4 with
  | some k, _ => t.radjAsk k (t.getS (TME_RADJ_RADJ k)) (w.v.toNat % 2 ^ 24)
  | _, some k => if bitAt w.v.toNat 0 then t.utcCommit k else t
  | _, _ => t

/-- What a stored write sets going. -/
def State.writeEffect (s t : State) (w : HostWrite) (a : Nat) (dur : Option Nat) : State :=
  let b := a / 0x10000
  if a % 0x10000 = 0xE08 then (if bitAt (w.v.toNat &&& beMask w.be) 7 then t.captureClear b else t)
  else if b < 5 then s.effectSys t w a
  else if 7 ≤ b ∧ b ≤ 11 then s.effectLoop t w a
  else if b = 12 then s.effectTme t w a
  else if 15 ≤ b then t.effectNet w a dur
  else t

/-- A write of a WONCE field: `OSC_SEL`, or `GO` of a step (R266, R447). -/
def State.wonceWrite (s : State) (w : HostWrite) (a : Nat) : State :=
  let key (f : Fld) : Bool := s.wonce.contains f.key
  if a = 0x18 then
    if !s.bit SYS_OSC_DET_FAIL then s
    else if key SYS_OSC_SEL_OSC_SEL then s.violation a
    else { s.set SYS_OSC_SEL_OSC_SEL w.v.toNat with wonce := s.wonce ++ [SYS_OSC_SEL_OSC_SEL.key] }.oscSelected
  else match instOf a 0xC0130 0x80 4 with
    | none => s
    | some k =>
      if !bitAt w.v.toNat 0 then s
      else if key (TME_STEP_GO_GO k) then (s.violation a).stepReject k
      else if s.unitInRst 12 || !s.scaleEn k then s.stepGo k
      else { s.set (TME_STEP_GO_GO k) 1 with wonce := s.wonce ++ [(TME_STEP_GO_GO k).key] }.stepGo k

/-- The WONCE registers. -/
def isWonce (a : Nat) : Bool := a == 0x18 || (instOf a 0xC0130 0x80 4).isSome

/-- An observation counter's word is written; the other word stays (R429). -/
def State.obsPut (s : State) (k : Nat) (hi : Bool) (w : HostWrite) : State :=
  let c := tabGet 0 s.obs.cnt k
  let c := if hi then c % 2 ^ 32 + 2 ^ 32 * mergeField w.be w.v 0 16 (c / 2 ^ 32) else c / 2 ^ 32 * 2 ^ 32 + mergeField w.be w.v 0 32 (c % 2 ^ 32)
  { s with obs := { s.obs with cnt := tabPut 0 s.obs.cnt k c } }

/-- A write to a register that takes it, on the fields `ds` that the master may write; one of the table of R396 has undefined behaviour
beside its effect. -/
def State.registerPut (s : State) (w : HostWrite) (a : Nat) (ds : List FieldD) (dur : Option Nat) : State :=
  if isWonce a then (s.wonceWrite w a).misusedIf (s.misuse s w a)
  else if 0x41000 ≤ a ∧ a < 0x41300 then s.obsPut ((a - 0x41000) / 8) (a % 8 == 4) w
  else
    let t := s.writeFields w a ds
    (s.writeEffect t w a dur).misusedIf (s.misuse t w a)

/-- A write to a register (R8, R65, R374, R375, R378). Every field of a locked register is LCK, read-only ones and those of the
indirect pair too. -/
def State.registerWrite (s : State) (w : HostWrite) (a : Nat) (dur : Option Nat) : State :=
  match findReg allRegs a with
  | none => s
  | some r =>
    if ((pairOf a).isSome || r.wholeWord) && !w.full then s.accessError 1 a w.m
    else
      let lock := s.locked a
      let hit := r.fields.filter (fun d => (lock || d.acc != .ro) && w.hits ⟨a, d.lo, d.len⟩)
      let may := if s.privileged w.m then hit else hit.filter (fun d => !d.priv)
      if lock then
        let s := if may.length < hit.length then s.privIgnored else s
        if may.isEmpty then s else s.violation a
      else match pairOf a with
        | some (b, true) => s.indDataWrite w.m b w.v.toNat
        | some (b, false) => s.indAddrWrite w.m b w.v.toNat
        | none =>
          let s := if may.length < hit.length then s.privIgnored else s
          if may.isEmpty then s else s.registerPut w a may dur

/-- The window word at an offset is written on the enabled lanes. -/
def State.windowPut (s : State) (o : Nat) (w : HostWrite) : State :=
  let t := s.putWin o (mergeField w.be w.v 0 32 (s.winWord o))
  t.misusedIf (s.windowMisuse t o)

/-- One 32-bit write (R371, R374) at an address; `dur` as for `writeEffect`. -/
def State.hostWriteFor (s : State) (w : HostWrite) (addr : Nat) (dur : Option Nat) : State :=
  let a := addr / 4 * 4
  let s := s.countAccess
  if !s.responds a then s
  else if 0x200000 ≤ a ∧ a < 0x300000 then (if s.privileged w.m then s.windowPut (a - 0x200000) w else s.privIgnored)
  else s.registerWrite w a dur

def State.hostWrite (s : State) (w : HostWrite) (addr : Nat) : State := s.hostWriteFor w addr none

/-- Registers with a count field under R429: base, stride, count of instances. -/
def countRegs : List (Nat × Nat × Nat) := [
  (0x1C, 4, 1), (0x34, 4, 1), (0x10014, 4, 1), (0x1040C, 0x10, 8), (0x20094, 4, 1), (0x30024, 4, 1), (0x5102C, 0x40, 56), (0x60018, 4, 1),
  (0x60108, 0x10, 64), (0x6010C, 0x10, 64), (0x60608, 0x10, 16), (0x6060C, 0x10, 16), (0x7107C, 0x80, 88), (0x8104C, 0x100, 12),
  (0x810B4, 0x100, 12), (0x90018, 4, 1), (0x9102C, 0x100, 12), (0x9105C, 0x100, 12), (0xA0020, 4, 1), (0xA1014, 0x100, 12),
  (0xB041C, 0x40, 4), (0xC0174, 0x80, 4), (0xC1020, 0x40, 16), (0xD101C, 0x80, 16), (0xE0024, 4, 1), (0xE102C, 0x40, 32),
  (0xF001C, 4, 1), (0xF1030, 0x80, 8), (0xF1034, 0x80, 8), (0x100040, 4, 1), (0x100044, 4, 1), (0x100048, 4, 1), (0x10004C, 4, 1)]

def isCountReg (a : Nat) : Bool :=
  countRegs.any (fun e => (instOf a e.1 e.2.1 e.2.2).isSome) || a % 0x10000 == 0xE24
    || (decide (0xE40 ≤ a % 0x10000) && decide (a % 0x10000 < 0xF40) && (a % 16 == 8 || a % 16 == 12))

/-- A write by the master would act on some field of the register. -/
def State.writeTakes (s : State) (w : HostWrite) (addr : Nat) : Bool :=
  let a := addr / 4 * 4
  s.responds a && !s.locked a && (match findReg allRegs a with
    | none => false
    | some r => (w.full || !r.wholeWord) && r.fields.any (fun d => d.acc != .ro && w.hits ⟨a, d.lo, d.len⟩ && (!d.priv || s.privileged w.m)))

/-- A write of a register no row of its own names; `lost` says that a counted event of a count field it writes falls in
its cycle: the write wins, the event is lost and reported (R429). -/
def State.plainWrite (s : State) (w : HostWrite) (addr : Nat) (lost : Bool) : State :=
  (s.hostWrite w addr).raiseIf (lost && isCountReg (addr / 4 * 4) && s.writeTakes w addr) OBS_STICKY_EXT_COLLIDE_S

/-- A write of one word of observation counter `k` in a cycle in which it would count `inc` occurrences (R429). -/
def State.counterWrite (s : State) (k : Nat) (hi : Bool) (inc : Nat) (w : HostWrite) : State :=
  let a := 0x41000 + 8 * k + (if hi then 4 else 0)
  let old := tabGet 0 s.obs.cnt k
  let t := s.hostWrite w a
  if inc = 0 then t
    else if s.writeTakes w a then
      t.raiseAll ([OBS_COLLIDE_COLLIDE (k / 32) (k % 32)] ++ (if 2 ^ 48 ≤ old + inc then [OBS_OVF_OVF (k / 32) (k % 32)] else []))
    else t.obsAdd k inc

/-! ## Frames and requests of the masters -/

/-- Writes of successive words from an address (R372 – R374); `step` is 4, or 0 for one address. -/
def State.writeWords (m : Master) (step : Nat) : State → Nat → List Word → State
  | s, _, [] => s
  | s, a, v :: t => State.writeWords m step (s.hostWrite ⟨m, beAll, v⟩ a) ((a + step) % 2 ^ 32) t

/-- The SPI status byte (R372). -/
def State.statusByte (s : State) (ready : Bool) : Nat := ofBool ready + 2 * ofBool (s.privileged .spi) + 4 * s.get HIF_STICKY_ACC_ERR

/-- A word of the present command's answer. -/
def State.answer (s : State) (v : Nat) : State := { s with hif := { s.hif with resp := s.hif.resp ++ [BitVec.ofNat 32 v] } }
def State.answerStatus (s : State) (b : Nat) : State := { s with hif := { s.hif with status := s.hif.status ++ [b] } }

/-- A read of `a` would wait for an indirect access in progress (R372, R380). -/
def State.wouldStall (s : State) (a : Nat) : Bool :=
  match pairOf (a / 4 * 4) with | some (b, true) => tabGet 0 s.hif.indBusy b != 0 | _ => false

/-- Reads of `n` successive words by I²C or PCIe, or by SPI with a status byte each. -/
def State.readWords (m : Master) (step : Nat) : Nat → State → Nat → State
  | 0, s, _ => s
  | n + 1, s, a =>
    let late := m == .spi && s.wouldStall a
    let r := s.hostRead m a beAll
    let s := if m == .spi then r.1.answerStatus (r.1.statusByte (!late)) else r.1
    State.readWords m step n (s.answer (if late then 0 else r.2)) ((a + step) % 2 ^ 32)

/-- The byte lanes of dword `i` of `n`. -/
def laneOfDword (first last : Fin 16) (i n : Nat) : Fin 16 := if i = 0 then first else if i + 1 = n then last else beAll

/-- Where a request lands: the address map of R370. -/
def pcieAddr (bar2 : Bool) (addr : BitVec 22) (i : Nat) : Nat :=
  if bar2 then 0x200000 + (addr.toNat / 4 * 4 + 4 * i) % 2 ^ 20 else addr.toNat / 4 * 4 + 4 * i

def State.pcieReads (m : Master) (bar2 : Bool) (addr : BitVec 22) (first last : Fin 16) (n : Nat) : List Nat → State → State
  | [], s => s
  | i :: t, s =>
    let r := s.hostRead m (pcieAddr bar2 addr i) (laneOfDword first last i n)
    State.pcieReads m bar2 addr first last n t (r.1.answer r.2)

def State.pcieWrites (m : Master) (bar2 : Bool) (addr : BitVec 22) (first last : Fin 16) (n : Nat) : List (Word × Nat) → State → State
  | [], s => s
  | (v, i) :: t, s => State.pcieWrites m bar2 addr first last n t (s.hostWrite ⟨m, laneOfDword first last i n, v⟩ (pcieAddr bar2 addr i))

/-- The endpoint is there: out of `PERST_N` and its domain powered. -/
def State.pcieUp (s : State) : Bool := !s.hif.perst && s.domainUp 14

/-- Unsupported Request: no access is made (R374). -/
def State.unsupported (s : State) : State := { s with hif := { s.hif with ur := true } }

def fnMaster (pf1 : Bool) : Master := if pf1 then .pf1 else .pf0

/-- A PCIe request (R374). PF1 has no BAR2. -/
def State.pcieRequest (s : State) (q : PcieReq) : State :=
  if !s.pcieUp then s
  else match q with
    | .read pf1 bar2 addr n f l =>
      if (pf1 && bar2) || (!bar2 && decide (16 < n.val)) then s.unsupported
      else s.pcieReads (fnMaster pf1) bar2 addr f l n.val (List.range n.val)
    | .write pf1 bar2 addr d f l =>
      if (pf1 && bar2) || (!bar2 && decide (16 < d.length)) then s.unsupported
      else s.pcieWrites (fnMaster pf1) bar2 addr f l d.length d.zipIdx
    | .mask v on =>
      let k := s.hif.vecMask
      let s := { s with hif := { s.hif with vecMask := if on then setBitAt k v.val else clearBitAt k v.val } }
      if bitAt k v.val && !on && bitAt s.vectors v.val && bitAt s.hif.vecLevel v.val then
        { s with hif := { s.hif with msgs := s.hif.msgs ++ [v.val] } } else s

end Sys2Proof.Machine
end

