-- ==== Sys2Proof/Machine/Src.lean ====
section
/-!
DEFINITION. What several commands share beside the blocks' own operations: the way of an edge from its pin or unit to its
lane (R76, R97, R107), the delivery of a record (R101), when a job of the loop engine runs (R193), the items of the
host-to-device rings (R54, R383, R385), the announcing edge (R390), and the bus frames' addresses.
-/
namespace Sys2Proof.Machine
open Sys2Proof

/-! ## Edges -/

/-- The EVT pin is an input: enabled, not driven by TNS (R273). -/
def State.evtIsInput (s : State) (i : Nat) : Bool := s.bit (TME_EVT_CFG_EN i) && !bitAt (s.get TNS_EVT_OUT) i

/-- The glitch filter of an EVT pin, in 62.5 fs units (R273). -/
def State.evtGlitch (s : State) (i : Nat) : Nat :=
  let gw := s.get (TME_EVT_CFG_GW i)
  if gw = 0 then 0 else min 2000 (Nat.max 4 gw) * 8000

/-- An edge at EVT pin `i`; the pin's filter memory is the one a reference slot keeps, under key 56 + `i`. -/
def State.evtEdge (s : State) (i t : Nat) (rise : Bool) (hold : Nat) : State :=
  if !s.evtIsInput i then s
  else
    let r := s.refSlot (56 + i)
    if r.skip then s.setRef (56 + i) { r with skip := false }
    else if hold < s.evtGlitch i then s.setRef (56 + i) { r with skip := true }
    else if rise == s.bit (TME_EVT_CFG_INV i) then s
    else match s.vrnOf (0x40 + i) with
      | some l => s.vrnEdge l t false
      | none => s

/-- An edge of one of the sources a lane can measure (log entry 1): 0–55 the reference slots, 56–71 the EVT pins, 72–95
output feedback, 96–103 the echo markers of the Conjunction Links. -/
def State.sourceEdge (s : State) (n t : Nat) (rise : Bool) (hold : Nat) : State :=
  if n < 56 then s.refEdge n t rise hold
  else if n < 72 then s.evtEdge (n - 56) t rise hold
  else if n < 96 then
    (if rise then match s.tdlOf (0x80 + (n - 72)) with | some l => s.tdlEdge l t | none => s else s)
  else if s.laneOn (64 + (n - 96)) then s.vrnEdge (64 + (n - 96)) t false
  else s

/-! ## Records -/

/-- A record goes to its consumer by `KIND` (R101). A unit in reset takes none. -/
def State.deliver (s : State) (r : Rec) : State :=
  match r.kind with
  | 2 => { s with evtIn := s.evtIn ++ [r] }
  | 3 => if s.unitInRst 15 then s else { s with echoIn := s.echoIn ++ [r] }
  | 6 => s.feedback r
  | _ => (if s.unitInRst 9 || s.unitInRst 7 then s else s.toSlot r).slotStamps r

/-- The bank queue gives up its oldest record; a record of the tapped lane goes to the RECORD ring too (R105). -/
def State.recordDelivery (s : State) : State :=
  match s.bankQ with
  | [] => s
  | r :: q =>
    let s := { s with bankQ := q }
    (if s.bit TIM_TAP_TAP_EN && s.get TIM_TAP_TAP_LANE == r.lane then s.post 4 r.words else s).deliver r

/-! ## Jobs -/

/-- A job of the loop engine runs: an image is applied and LPE is in no reset (R183, R193). -/
def State.lpeJob (s : State) (f : State → State) : State := if !s.applied || s.unitInRst 9 then s else f s

/-- A qualification job needs QUL as well. -/
def State.qulJob (s : State) (f : State → State) : State := s.lpeJob (fun s => if s.unitInRst 7 then s else f s)

/-- The sample record job of the schedule (R183). The manual gives it no work: a capture writes its own record within
eight slots of its wrap (R434). -/
def State.sampleRecordJob (s : State) (_target : Nat) : State := s

/-! ## Items of the host-to-device rings -/

/-- The status of an IMAGE descriptor (R383). -/
def State.imageStatus (s : State) (d : Desc) : Nat :=
  let ofsBad := d.sramOfs % 4 != 0 || decide (2097152 ≤ d.sramOfs)
  firstStatus [(d.len % 4 != 0 || (!ofsBad && decide (2097152 < d.sramOfs + d.len)), 2), (d.badBuf, 3), (s.sramBlocked, 4), (ofsBad, 5)]

/-- The IMAGE item in progress goes into the configuration SRAM, or is returned with its status (R54). -/
def State.imageItem (s : State) : State :=
  match s.itemOf 2 with
  | none => s
  | some d =>
    let st := s.imageStatus d
    let s := if st = 0 then s.sramPut d.sramOfs (s.itemBytes d) else s
    (s.raiseIf (st == 4) GLD_STICKY_SRAM_WR_BLOCKED).completeItem 2 d st

/-- The item in progress on FRAME_TX completes with its frame's instant, or that on IMAGE. -/
def State.hostItem (s : State) (at_ : Option PcsTime) : State :=
  match at_ with
  | some t => s.hostFrameTx t
  | none => s.imageItem

/-! ## The announcing edge (R390) -/

/-- Items of a source wait: it is enabled, and it is asserted or its vector is masked. -/
def State.announceWaits (s : State) (src : Nat) : Bool :=
  s.sourceEnabled src && (s.assertedSources.contains src || bitAt s.hif.vecMask (s.sourceVector src))

/-- What waits for the announcing edge of source 104 or 105 is released with the stamp of `TCK` edge `e`, at
least 64 ns ahead. -/
def State.announce (s : State) (tx : Bool) (e : Nat) : State :=
  if s.announceWaits (if tx then 105 else 104) || decide (4 * e < s.coarse + 128) then s
  else
    let stamp (p : Nat) : Nat := s.portStamp p ((e : Int) * 32000)
    if tx then s.releaseTx stamp else s.releaseHeld stamp

/-! ## Links -/

/-- A port's PCS or auto-negotiation changes; a lock that rises is a link restart, which takes the SerDes words (R314). -/
def State.portChange (s : State) (p : Nat) (pcs an : Bool) : State :=
  let up := s.portLive p && pcs && !s.bit (ETH_STAT_PCS_LOCK p)
  (if up then s.serdesRestart p else s).linkChange p pcs an

/-! ## The loader's control word (R71) -/

/-- `GLD_CTL`: `START`, `ABORT`, `MODE`, `SRC`, `FLASH_SLOT`, `SWAP_AT_EN`. -/
def ctlWord (start abort : Bool) (mode : Nat) (src flashSlot swapAt : Bool) : Word :=
  BitVec.ofNat 32 (ofBool start + 2 * ofBool abort + 4 * (mode % 4) + 16 * ofBool src + 32 * ofBool flashSlot + 64 * ofBool swapAt)

/-! ## Time groups (R272, R377, R279) -/

/-- The `NS` register that begins a group. -/
def TimeGroup.addr : TimeGroup → Nat
  | .now k => 0xC0108 + 0x80 * k.val
  | .slot k => 0xC015C + 0x80 * k.val
  | .evt i => 0xC0804 + 0x20 * i.val
  | .txq p => 0xC1010 + 0x40 * p.val
  | .first b => b.val * 0x10000 + 0xE10

/-! ## Bus frames -/

/-- An unknown SPI command byte discards its frame (R372, R395); the manual gives its error no address, so the register
takes a free value. -/
def State.spiUnknown (s : State) : State := if s.busUp then (s.accessError 4 s.fresh .spi).took else s

/-- READ_LAST: a status byte and the master's last read result (R372). -/
def State.spiLast (s : State) : State := (s.answerStatus (s.statusByte true)).answer (tabGet 0 s.hif.lastRead Master.spi.code)

/-- An indirect access of a block completes (R380). -/
def State.indirectDone (s : State) (b : Nat) : State := { s with hif := { s.hif with indBusy := tabDel b s.hif.indBusy } }

/-- A session is enabled or disabled by a write of its context's `VALID` (R299). -/
def State.sessionValid (s : State) (n : Nat) (on : Bool) : State :=
  s.indirectPut 14 (256 * n) (let w := s.ptpRead (256 * n); w / 2 * 2 + ofBool on)

/-- A host read that returns its word to the master. -/
def State.readBack (s : State) (m : Master) (a : Nat) : State :=
  let r := s.hostRead m a beAll
  r.1.answer r.2

/-- The whole words of a transaction's bytes, most significant byte first (R373). -/
def frameWords : List Byte → List Word
  | a :: b :: c :: d :: t => BitVec.ofNat 32 (beNat [a, b, c, d]) :: frameWords t
  | _ => []

/-- An SPI write frame (R372): its whole words are written; a last word cut short is not, with cause 5. -/
def State.spiWrite (s : State) (fixed : Bool) (addr : Nat) (ws : List Word) (cut : Bool) : State :=
  let step := if fixed then 0 else 4
  let s := State.writeWords .spi step s addr ws
  if cut && s.busUp then s.accessError 5 (addr + step * ws.length) .spi else s

/-- An I²C write transaction to `dev` (R373): four address bytes, then words. -/
def State.i2cWrite (s : State) (dev : Nat) (l : List Byte) : State :=
  if dev != s.get HIF_I2C_ADDR_ADDR || decide (l.length < 4) then s
  else
    let a := beNat (l.take 4)
    let ws := frameWords (l.drop 4)
    let s := State.writeWords .i2c 4 s a ws
    if l.length % 4 = 0 || !s.busUp then s else s.accessError 5 (a + 4 * ws.length) .i2c

/-- An I²C read transaction. -/
def State.i2cRead (s : State) (dev : Nat) (l : List Byte) (n : Nat) : State :=
  if dev != s.get HIF_I2C_ADDR_ADDR || decide (l.length < 4) then s
  else State.readWords .i2c 4 n s (beNat (l.take 4))

/-! ## Time with no command -/

/-- The squelch that fault reactions ask of an output has changed: SYN sees it within 100 ns, here as time next passes (R404). -/
def State.squelchSeen (s : State) : State :=
  if (List.range 24).any (fun j => s.forcedSq j != bitAt (s.get (SYN_OUT_STAT_SQ_CAUSE j)) 2) then s.evalOutputs else s

/-- With no command waiting one `TCK` edge passes, 2 ns, once the derived clocks run; the edge of the next tick boundary
waits for TICK_BOUNDARY (log entry 2). While they stand only the cask's time runs, in the always-on region (R210). -/
def State.idle (s : State) : State :=
  if s.sys.clocks then (s.advance (min (s.coarse + 4) (Nat.max s.coarse s.nextBoundary))).squelchSeen
  else { s with csk := { s.csk with base := s.csk.base + 4 } }

/-! ## Commands while the internal reset holds -/

/-- A command that acts only while the internal reset does not hold (R451). -/
def runUp (f : State → State) (s : State) : Host.Outcome State Fault Refusal := run (fun s => if s.busUp then f s else s) s

end Sys2Proof.Machine
end

