-- ==== Sys2Proof/Machine/CjlCmds.lean ====
section
/-!
DEFINITION. What the commands and events of the Conjunction Links do.
-/
namespace Sys2Proof.Machine
open Sys2Proof

/-- WORD_SYNC_GAIN (R320): 64 clean comma-aligned characters put the link in SYNC. -/
def execWordSyncGain (k : Fin 8) (s : State) : Host.Outcome State Fault Refusal :=
  runUp (fun s => s.syncGain k.val) s

/-- WORD_SYNC_LOSS (R320): 16 errors within 320 characters return the link to NOSYNC and void outstanding exchanges. -/
def execWordSyncLoss (k : Fin 8) (s : State) : Host.Outcome State Fault Refusal :=
  runUp (fun s => s.syncLoss k.val) s

/-- CJL_FRAME_SLOT (R323): Each 1.024 µs frame slot carries the first waiting frame, or a TIME frame. -/
def execCjlFrameSlot (k : Fin 8) (s : State) : Host.Outcome State Fault Refusal :=
  runUp (fun s => s.frameSlot k.val) s

/-- TIME_FRAME_RECEIVE (R327): A TIME frame updates the peer's rank, depth and identity fields. -/
def execTimeFrameReceive (k : Fin 8) (frame : List Byte) (s : State) : Host.Outcome State Fault Refusal :=
  runUp (fun s => s.timeFrame k.val frame) s

/-- TIME_FRAME_TIMEOUT (R327): No TIME frame for 64 slots sets the slot's rank to 15. -/
def execTimeFrameTimeout (k : Fin 8) (s : State) : Host.Outcome State Fault Refusal :=
  runUp (fun s => s.timeFrameTimeout k.val) s

/-- ECHO_REQUEST_SEND (R329): The initiating end sends an /E/ and ECHO_REQ every ECHO_PER slots, stamping t1, or skips
at 64 outstanding. `t` is the instant of the marker, in 62.5 fs. -/
def execEchoRequestSend (k : Fin 8) (t : Nat) (s : State) : Host.Outcome State Fault Refusal :=
  runUp (fun s => s.echoRequest k.val t) s

/-- ECHO_MARKER_RECEIVE (R330): The answering end stamps an arriving request /E/ as t2. -/
def execEchoMarkerReceive (k : Fin 8) (s : State) : Host.Outcome State Fault Refusal :=
  runUp (fun s => s.echoMarker k.val) s

/-- ECHO_RESPONSE_INSERT (R330): At the first character boundary after t2 + 1 µs the answering end inserts a response
/E/ stamped t3. `t` is the instant of the marker, in 62.5 fs. -/
def execEchoResponseInsert (k : Fin 8) (t : Nat) (s : State) : Host.Outcome State Fault Refusal :=
  runUp (fun s => s.echoResponse k.val t) s

/-- RESPONSE_MARKER_RECEIVE (R330): The initiating end stamps a response /E/ as t4 and matches it to its request. -/
def execResponseMarkerReceive (k : Fin 8) (s : State) : Host.Outcome State Fault Refusal :=
  runUp (fun s => s.responseMarker k.val) s

/-- ECHO_RSP_RECEIVE (R332): An ECHO_RSP completes an exchange giving d and θ, or voids it. -/
def execEchoRspReceive (k : Fin 8) (frame : List Byte) (s : State) : Host.Outcome State Fault Refusal :=
  runUp (fun s => s.echoRspReceive k.val frame) s

/-- ECHO_WAIT_TIMEOUT (R333): No ECHO_RSP within ECHO_WAIT µs of t1 voids the exchange. -/
def execEchoWaitTimeout (k : Fin 8) (s : State) : Host.Outcome State Fault Refusal :=
  runUp (fun s => s.echoWaitTimeout k.val) s

/-- ECHO_RETRY (R334): After a non-excused void a retry request is sent at least 4 slots later. `t` is the instant of
the marker, in 62.5 fs. -/
def execEchoRetry (k : Fin 8) (t : Nat) (s : State) : Host.Outcome State Fault Refusal :=
  runUp (fun s => s.echoRetry k.val t) s

/-- ECHO_GIVE_UP (R334): ECHO_RETRY + 1 consecutive voids make the end report to its time layer and set GIVEUP_S. -/
def execEchoGiveUp (k : Fin 8) (s : State) : Host.Outcome State Fault Refusal :=
  runUp (fun s => s.echoGiveUp k.val) s

/-- TL_TIMEOUT (R334): TL_TO µs pass after the last completed exchange, clearing TL_OK. -/
def execTlTimeout (k : Fin 8) (s : State) : Host.Outcome State Fault Refusal :=
  runUp (fun s => s.tlTimeout k.val) s

/-- FLOOD_RECEIVE (R338): A FLOOD on the uplink is handed to FLT and forwarded, or dropped as stray or repeat. -/
def execFloodReceive (k : Fin 8) (frame : List Byte) (s : State) : Host.Outcome State Fault Refusal :=
  runUp (fun s => s.floodReceive k.val frame) s

/-- CJL_FLOOD_TX_WRITE (R338): A host write of CJL_FLOOD_TX originates a FLOOD with its code. -/
def execCjlFloodTxWrite (w : HostWrite) (s : State) : Host.Outcome State Fault Refusal :=
  run (fun s => s.hostWrite w 0xF0014) s

/-- TENSE_FRAME_RECEIVE (R339): A TENSE frame on the uplink is handed to TNS and queued downward, or dropped. -/
def execTenseFrameReceive (k : Fin 8) (frame : List Byte) (s : State) : Host.Outcome State Fault Refusal :=
  runUp (fun s => s.tenseReceive k.val frame) s

/-- IDENT_RECEIVE (R328): An IDENT offer on the uplink assigns NODE_ID and range under ID_MODE 1. -/
def execIdentReceive (k : Fin 8) (frame : List Byte) (s : State) : Host.Outcome State Fault Refusal :=
  runUp (fun s => s.identReceive k.val frame) s

/-- MAIL_SEND_WRITE (R340): Setting SEND transmits the transmit mailbox as a MAIL frame. -/
def execMailSendWrite (k : Fin 8) (w : HostWrite) (s : State) : Host.Outcome State Fault Refusal :=
  run (fun s => s.hostWrite w (0xF103C + 0x80 * k.val)) s

/-- MAIL_RECEIVE (R340): A MAIL frame fills the receive mailbox and sets MAIL_S. -/
def execMailReceive (k : Fin 8) (frame : List Byte) (s : State) : Host.Outcome State Fault Refusal :=
  runUp (fun s => s.mailReceive k.val frame) s

/-- CJL_TX_PLL_LOCK (R320): The shared Conjunction Link transmit PLL gains (or loses) lock, which lets links leave OFF
for NOSYNC. -/
def execCjlTxPllLock (lock : Bool) (s : State) : Host.Outcome State Fault Refusal :=
  runUp (fun s => s.cjlTxLock lock) s

/-- ECHO_REQ_RECEIVE (R330): The answering end receives an ECHO_REQ frame, takes its ESEQ and checks the /E/ that
preceded it. -/
def execEchoReqReceive (k : Fin 8) (frame : List Byte) (s : State) : Host.Outcome State Fault Refusal :=
  runUp (fun s => s.echoReqReceive k.val frame) s

end Sys2Proof.Machine
end

