-- ==== Sys2Proof/Machine/CskCmds.lean ====
section
/-!
DEFINITION. What the commands and events of the holdover cask do.
-/
namespace Sys2Proof.Machine
open Sys2Proof

/-- SENSOR_READ (R206): At tick 0 the cask reads the die sensor and starts an external sensor I²C transaction. -/
def execSensorRead (s : State) : Host.Outcome State Fault Refusal :=
  runUp (fun s => s.sensorRead) s

/-- SENSOR_READ_DONE (R207): An external sensor transaction completes and the reading is accepted or rejected. `v` is
the word the sensor returned. -/
def execSensorReadDone (v : BitVec 16) (s : State) : Host.Outcome State Fault Refusal :=
  runUp (fun s => s.sensorReadDone v) s

/-- SENSOR_ATTEMPT_TIMEOUT (R207): A sensor read not acknowledged or not complete within 2 ms is retried, up to three
attempts. -/
def execSensorAttemptTimeout (s : State) : Host.Outcome State Fault Refusal :=
  runUp (fun s => s.sensorAttemptFail) s

/-- SENSOR_TIMEOUT (R207): SNS_TO expires after the last accepted reading and the cask falls back to the die sensor. -/
def execSensorTimeout (s : State) : Host.Outcome State Fault Refusal :=
  runUp (fun s => s.sensorTimeout) s

/-- TOFS_LEARNED (R208): After 1 h of averaging TOFS_OK reads 1. -/
def execTofsLearned (s : State) : Host.Outcome State Fault Refusal :=
  runUp (fun s => s.tofsLearned) s

/-- HO_LIMIT_REACHED (R218): Time in HOLDOVER reaches HO_LIMIT and HOLIM_S is set. -/
def execHoLimitReached (c : Fin 12) (s : State) : Host.Outcome State Fault Refusal :=
  runUp (fun s => s.hoLimit c.val) s

/-- CASK_CLEAR_WRITE (R221): A privileged write of a CLEAR bit requests a cask clear at the next tick 0. -/
def execCaskClearWrite (w : HostWrite) (s : State) : Host.Outcome State Fault Refusal :=
  run (fun s => s.hostWrite w 0xA0004) s

/-- CASK_CLEAR (R221): At tick 0 the channel's cask entries, bins and fit are cleared and GRADE becomes 0. -/
def execCaskClear (c : Fin 12) (s : State) : Host.Outcome State Fault Refusal :=
  runUp (fun s => s.caskClear c.val) s

end Sys2Proof.Machine
end

