-- ==== Sys2Proof/Machine/EthCmds.lean ====
section
/-!
DEFINITION. What the commands and events of the Ethernet ports do.
-/
namespace Sys2Proof.Machine
open Sys2Proof

/-- LINK_CHANGE (R287): A port's PCS lock or auto-negotiation changes LINK and sets LINK_S. -/
def execLinkChange (p : Fin 16) (pcs an : Bool) (s : State) : Host.Outcome State Fault Refusal :=
  runUp (fun s => s.portChange p.val pcs an) s

/-- QUAD_TX_PLL_LOSS (R288): A quad's transmit PLL loses lock, its ports stop transmitting and QUAD_S is set. -/
def execQuadTxPllLoss (q : Fin 4) (s : State) : Host.Outcome State Fault Refusal :=
  runUp (fun s => s.quadLoss q.val) s

/-- QUAD_TX_PLL_RELOCK (R288): The quad's transmit PLL regains lock and its ports transmit again. -/
def execQuadTxPllRelock (q : Fin 4) (s : State) : Host.Outcome State Fault Refusal :=
  runUp (fun s => s.quadLock q.val) s

/-- FRAME_RECEIVE (R293): A received frame is stamped and consumed by a session or ESMC or passed to the host ring.
`bytes` are those before the FCS, `fcs` says that the FCS is good, `m` is the message of a session the frame holds. -/
def execFrameReceive (p : Fin 16) (bytes : List Byte) (fcs : Bool) (t : PcsTime) (m : Option (Fin 512 × PtpIn)) (s : State) : Host.Outcome State Fault Refusal :=
  runUp (fun s => s.frameReceive p.val bytes fcs t (m.map (fun e => (e.1.val, e.2)))) s

/-- ESMC_PDU_RECEIVE (R289): An ESMC PDU is read for its SSM and enhanced codes and sets ESMC_OK. -/
def execEsmcPduReceive (p : Fin 16) (ssm : Fin 16) (ext : Option (Fin 256)) (s : State) : Host.Outcome State Fault Refusal :=
  runUp (fun s => s.esmcReceive p.val ssm.val (ext.map Fin.val)) s

/-- ESMC_TIMEOUT (R291): No valid PDU for 5 s clears ESMC_OK and sets the slot's rank to 15. -/
def execEsmcTimeout (p : Fin 16) (s : State) : Host.Outcome State Fault Refusal :=
  runUp (fun s => s.esmcTimeout p.val) s

/-- ESMC_INFO_SEND (R292): At tick 0 of each second a port sends an ESMC information PDU. -/
def execEsmcInfoSend (p : Fin 16) (s : State) : Host.Outcome State Fault Refusal :=
  runUp (fun s => s.esmcInfo p.val) s

/-- ESMC_EVENT_SEND (R292): A changed code to be sent goes out in an event PDU at the next tick boundary. -/
def execEsmcEventSend (p : Fin 16) (s : State) : Host.Outcome State Fault Refusal :=
  runUp (fun s => s.esmcEvent p.val) s

/-- HOST_FRAME_TRANSMIT (R295): A FRAME_TX item leaves its port after PTP and ESMC traffic, or is refused. -/
def execHostFrameTransmit (t : PcsTime) (s : State) : Host.Outcome State Fault Refusal :=
  runUp (fun s => s.hostFrameTx t) s

end Sys2Proof.Machine
end

