-- ==== Sys2Proof/Machine/FltCmds.lean ====
section
/-!
DEFINITION. What the commands and events of fault gravity and observation do.
-/
namespace Sys2Proof.Machine
open Sys2Proof

/-- GRAVITY_BUCKET_ADVANCE (R400): A gravity window bucket of WIN × 62.5 µs ends and the oldest bucket leaves WCOUNT. -/
def execGravityBucketAdvance (src : Fin 128) (s : State) : Host.Outcome State Fault Refusal :=
  runUp (fun s => s.bucketAdvance src.val) s

/-- SEV_CLEAR_WRITE (R402): A host W1C of SEV re-arms a source unless it is live and at threshold. -/
def execSevClearWrite (b : Fin 17) (w : HostWrite) (s : State) : Host.Outcome State Fault Refusal :=
  run (fun s => s.hostWrite w (0x10000 * b.val + 0xE04)) s

/-- CAPTURE_CLEAR_WRITE (R407): A write of 1 to V clears a first-source capture or the first-block latch. 17 names the
first-block latch. -/
def execCaptureClearWrite (b : Fin 18) (w : HostWrite) (s : State) : Host.Outcome State Fault Refusal :=
  run (fun s => s.hostWrite w (if b.val = 17 then 0x30008 else 0x10000 * b.val + 0xE08)) s

/-- ESC_CLEAR_WRITE (R416): A W1C of a FLT_ESC bit lifts the suppression of a block's reaction resets. -/
def execEscClearWrite (w : HostWrite) (s : State) : Host.Outcome State Fault Refusal :=
  run (fun s => s.hostWrite w 0x30018) s

/-- LINE_INVERSION (R410): Every 256 HCLK cycles each fault unit inverts its rails and the pin driver checks them. -/
def execLineInversion (b : Fin 17) (seen : Bool) (s : State) : Host.Outcome State Fault Refusal :=
  runUp (fun s => s.lineInversion b.val seen) s

/-- LINE_FAULT (R410): Missed inversions or an illegal rail state for over two cycles declare a line fault. -/
def execLineFault (b : Fin 17) (s : State) : Host.Outcome State Fault Refusal :=
  runUp (fun s => s.lineFault b.val) s

/-- COUNTER_WRAP (R427): A counter passes 2^48 − 1, sets its OVF bit, and a sampler reloads it. -/
def execCounterWrap (k : Fin 96) (inc : Nat) (s : State) : Host.Outcome State Fault Refusal :=
  runUp (fun s => s.counterWrap k.val inc) s

/-- SAMPLER_CAPTURE (R434): Within 8 slots of a sampled wrap the captured slot is written as a sample record. -/
def execSamplerCapture (i : Fin 4) (c : SampleAt) (s : State) : Host.Outcome State Fault Refusal :=
  runUp (fun s => s.samplerCapture i.val c) s

/-- OBS_COUNTER_WRITE (R429): A host write to a counter wins over a same-cycle event and sets COLLIDE. `inc` occurrences
fall in the cycle of the write. -/
def execObsCounterWrite (k : Fin 96) (hi : Bool) (inc : Nat) (w : HostWrite) (s : State) : Host.Outcome State Fault Refusal :=
  run (fun s => s.counterWrite k.val hi inc w) s

/-- OBS_THR_WRITE (R426): A write of an occupancy threshold N takes effect at the next tick boundary. -/
def execObsThrWrite (i : Fin 8) (w : HostWrite) (s : State) : Host.Outcome State Fault Refusal :=
  run (fun s => s.hostWrite w (0x40040 + 4 * i.val)) s

end Sys2Proof.Machine
end

