-- ==== Sys2Proof/Machine/GldCmds.lean ====
section
/-!
DEFINITION. What the commands and events of the loader do.
-/
namespace Sys2Proof.Machine
open Sys2Proof

/-- HEADER_READ_DONE (R51): The single-bit read of a slot's 64-byte header completes and BAD_MAGIC and header checks are
made. -/
def execHeaderReadDone (bytes : List Byte) (s : State) : Host.Outcome State Fault Refusal :=
  runUp (fun s => s.headerRead bytes) s

/-- IMAGE_READ_DONE (R51): The quad read of the rest of the image completes. -/
def execImageReadDone (bytes : List Byte) (s : State) : Host.Outcome State Fault Refusal :=
  runUp (fun s => s.imageRead bytes) s

/-- IMAGE_VERIFY_DONE (R48): The loader's checks complete with OK or the first failing result code. -/
def execImageVerifyDone (s : State) : Host.Outcome State Fault Refusal :=
  run (fun s => s.imageVerified) s

/-- IMAGE_APPLY_DONE (R59): The apply step ends; a full load runs, or a swap is ARMED. -/
def execImageApplyDone (s : State) : Host.Outcome State Fault Refusal :=
  runUp (fun s => s.imageApplied) s

/-- SWAP_BOUNDARY (R60): Every block swaps its configuration banks at the swap boundary with the state-bank swap. -/
def execSwapBoundary (s : State) : Host.Outcome State Fault Refusal :=
  runUp (fun s => s.swapNext) s

/-- GLD_START_FULL (R59): START with MODE FULL begins a full load from SRAM or flash. -/
def execGldStartFull (m : Master) (src flashSlot : Bool) (s : State) : Host.Outcome State Fault Refusal :=
  run (fun s => s.hostWrite ⟨m, beAll, ctlWord true false 0 src flashSlot false⟩ 0x20000) s

/-- GLD_START_SWAP (R60): START with MODE SWAP begins a live swap with the swap checks. -/
def execGldStartSwap (m : Master) (src flashSlot swapAt : Bool) (s : State) : Host.Outcome State Fault Refusal :=
  run (fun s => s.hostWrite ⟨m, beAll, ctlWord true false 1 src flashSlot swapAt⟩ 0x20000) s

/-- GLD_ABORT (R490): ABORT abandons a swap before its boundary or a load before its last check. -/
def execGldAbort (m : Master) (s : State) : Host.Outcome State Fault Refusal :=
  run (fun s => s.hostWrite ⟨m, beAll, ctlWord false true (s.get GLD_CTL_MODE) (s.bit GLD_CTL_SRC) (s.bit GLD_CTL_FLASH_SLOT) (s.bit GLD_CTL_SWAP_AT_EN)⟩ 0x20000) s

/-- GLD_CONFIRM_WRITE (R52): A privileged write of CONFIRM confirms the running image and clears TRIES. -/
def execGldConfirmWrite (w : HostWrite) (s : State) : Host.Outcome State Fault Refusal :=
  run (fun s => s.hostWrite w 0x2001C) s

/-- ARB_ADVANCE_WRITE (R58): A write of GLD_ARB_ADV.TARGET starts advancing the anti-rollback counter, or is refused. -/
def execArbAdvanceWrite (w : HostWrite) (s : State) : Host.Outcome State Fault Refusal :=
  run (fun s => s.hostWrite w 0x20018) s

/-- ARB_PROGRAM_DONE (R58): OTP programming of the counter completes and BUSY clears. -/
def execArbProgramDone (s : State) : Host.Outcome State Fault Refusal :=
  runUp (fun s => s.arbDone) s

/-- KEY_PROG_WRITE (R56): A PROG bit programs a blank key slot from the staging words, or is refused. -/
def execKeyProgWrite (w : HostWrite) (s : State) : Host.Outcome State Fault Refusal :=
  run (fun s => s.hostWrite w 0x20080) s

/-- KEY_REVOKE_WRITE (R57): A REVOKE bit revokes a key slot unless it is the last programmed one. -/
def execKeyRevokeWrite (w : HostWrite) (s : State) : Host.Outcome State Fault Refusal :=
  run (fun s => s.hostWrite w 0x20080) s

end Sys2Proof.Machine
end

