-- ==== Sys2Proof/Machine/HifCmds.lean ====
section
/-!
DEFINITION. What the commands and events of the host interface do.
-/
namespace Sys2Proof.Machine
open Sys2Proof

/-- SPI_WRITE (R372): SPI command 0x02 writes data words at advancing addresses. `cut`: a last word was cut short. -/
def execSpiWrite (addr : Word) (words : List Word) (cut : Bool) (s : State) : Host.Outcome State Fault Refusal :=
  run (fun s => s.spiWrite false addr.toNat words cut) s

/-- SPI_WRITE_FIXED (R372): SPI command 0x12 writes data words to one address. `cut`: a last word was cut short. -/
def execSpiWriteFixed (addr : Word) (words : List Word) (cut : Bool) (s : State) : Host.Outcome State Fault Refusal :=
  run (fun s => s.spiWrite true addr.toNat words cut) s

/-- SPI_READ (R372): SPI command 0x03 reads words with status bytes at advancing addresses. -/
def execSpiRead (addr : Word) (n : Nat) (s : State) : Host.Outcome State Fault Refusal :=
  run (fun s => State.readWords .spi 4 n s addr.toNat) s

/-- SPI_READ_FIXED (R372): SPI command 0x13 reads words with status bytes from one address. -/
def execSpiReadFixed (addr : Word) (n : Nat) (s : State) : Host.Outcome State Fault Refusal :=
  run (fun s => State.readWords .spi 0 n s addr.toNat) s

/-- SPI_READ_LAST (R372): SPI command 0x0F returns the master's last read result without a new access. -/
def execSpiReadLast (s : State) : Host.Outcome State Fault Refusal :=
  runUp (fun s => s.spiLast) s

/-- SPI_STATUS (R372): SPI command 0x05 returns a status byte. -/
def execSpiStatus (s : State) : Host.Outcome State Fault Refusal :=
  runUp (fun s => s.answerStatus (s.statusByte true)) s

/-- SPI_UNKNOWN_COMMAND (R372): Any other SPI command byte discards the frame with cause 4. -/
def execSpiUnknownCommand (s : State) : Host.Outcome State Fault Refusal :=
  runUp (fun s => s.spiUnknown) s

/-- I2C_WRITE (R373): An I²C write transaction writes data words at advancing addresses. `dev` is the addressed device,
`bytes` what follows. -/
def execI2cWrite (dev : BitVec 7) (bytes : List Byte) (s : State) : Host.Outcome State Fault Refusal :=
  run (fun s => s.i2cWrite dev.toNat bytes) s

/-- I2C_READ (R373): An I²C read transaction reads words, stretching SCL until each access completes. -/
def execI2cRead (dev : BitVec 7) (abytes : List Byte) (n : Nat) (s : State) : Host.Outcome State Fault Refusal :=
  run (fun s => s.i2cRead dev.toNat abytes n) s

/-- PCIE_REQUEST (R374): A PCIe request is split into 32-bit accesses or completed Unsupported Request. -/
def execPcieRequest (q : PcieReq) (s : State) : Host.Outcome State Fault Refusal :=
  run (fun s => s.pcieRequest q) s

/-- REGISTER_WRITE (R8): A write to a register with no row of its own acts by its access type. -/
def execRegisterWrite (addr : Word) (w : HostWrite) (lost : Bool) (s : State) : Host.Outcome State Fault Refusal :=
  run (fun s => s.plainWrite w addr.toNat lost) s

/-- LOW_WORD_LATCH_READ (R377): A read of a _LO word loads the reading master's shadow of its _HI word. -/
def execLowWordLatchRead (m : Master) (addr : Word) (s : State) : Host.Outcome State Fault Refusal :=
  run (fun s => s.readBack m addr.toNat) s

/-- IND_ADDR_WRITE (R379): A write of IND_ADDR sets the indirect address and increment mode. -/
def execIndAddrWrite (b : Fin 17) (w : HostWrite) (s : State) : Host.Outcome State Fault Refusal :=
  run (fun s => s.hostWrite w (0x10000 * b.val + 0xFF0)) s

/-- IND_DATA_READ (R380): A read of IND_DATA reads the word at ADDR and auto-increments. -/
def execIndDataRead (m : Master) (b : Fin 17) (s : State) : Host.Outcome State Fault Refusal :=
  run (fun s => s.readBack m (0x10000 * b.val + 0xFF4)) s

/-- IND_DATA_WRITE (R380): A write of IND_DATA writes the word at ADDR and auto-increments. -/
def execIndDataWrite (b : Fin 17) (w : HostWrite) (s : State) : Host.Outcome State Fault Refusal :=
  run (fun s => s.hostWrite w (0x10000 * b.val + 0xFF4)) s

/-- INDIRECT_COMPLETE (R380): An indirect access completes within 2 µs, releasing any stalled access. -/
def execIndirectComplete (b : Fin 17) (s : State) : Host.Outcome State Fault Refusal :=
  runUp (fun s => s.indirectDone b.val) s

/-- RING_DOORBELL (R385): A doorbell makes the device take host-owned descriptors of FRAME_TX or IMAGE until OWN reads
0. -/
def execRingDoorbell (w : HostWrite) (s : State) : Host.Outcome State Fault Refusal :=
  run (fun s => s.hostWrite w 0x10300) s

/-- RING_ENABLE_WRITE (R386): A write of RING_EN starts a ring at index 0 or stops it after the item in progress. -/
def execRingEnableWrite (r : Fin 8) (w : HostWrite) (s : State) : Host.Outcome State Fault Refusal :=
  run (fun s => s.hostWrite w (0x10404 + 0x10 * r.val)) s

/-- RING_ITEM_POST (R384): A device-to-host item is written to the descriptor at the index, or dropped. -/
def execRingItemPost (r : Fin 8) (port : Fin 16) (bytes : List Byte) (s : State) : Host.Outcome State Fault Refusal :=
  runUp (fun s => s.postItem ⟨r.val, port.val, bytes⟩) s

/-- HOST_ITEM_COMPLETE (R385): A host-to-device item completes and its descriptor is returned with STATUS. A FRAME_TX
item with its frame's instant, or the IMAGE item. -/
def execHostItemComplete (t : Option PcsTime) (s : State) : Host.Outcome State Fault Refusal :=
  runUp (fun s => s.hostItem t) s

/-- FRAME_RX_RELEASE (R390): Held FRAME_RX items of a software-stamped port take the announcing edge stamp and are
released. `e` is the `TCK` edge chosen; `tx` names source 105. -/
def execFrameRxRelease (tx : Bool) (e : Nat) (s : State) : Host.Outcome State Fault Refusal :=
  runUp (fun s => s.announce tx e) s

/-- EOI_WRITE (R392): A write of HIF_EOI resends the message of an asserted vector. -/
def execEoiWrite (w : HostWrite) (s : State) : Host.Outcome State Fault Refusal :=
  run (fun s => s.hostWrite w 0x10188) s

end Sys2Proof.Machine
end

