-- ==== Sys2Proof/Machine/LpeCmds.lean ====
section
/-!
DEFINITION. What the commands and events of the jobs of the loop engine do.
-/
namespace Sys2Proof.Machine
open Sys2Proof

/-- FILTER_JOB (R172): The filter job forms the phase error and updates integrator and words under the slope limits. -/
def execFilterJob (c : Fin 12) (s : State) : Host.Outcome State Fault Refusal :=
  runUp (fun s => s.lpeJob (fun s => s.filterJob c.val)) s

/-- LOCK_TIMER_EXPIRY (R180): |e| has stayed below LOCK_PH for LOCK_T seconds of updates, so the channel becomes LOCKED. -/
def execLockTimerExpiry (c : Fin 12) (s : State) : Host.Outcome State Fault Refusal :=
  runUp (fun s => s.lpeJob (fun s => s.lockTimerExpiry c.val)) s

/-- LPE_PADJ_WRITE (R178): A host write of PADJ sets the phase target toward which PH moves. -/
def execLpePadjWrite (c : Fin 12) (w : HostWrite) (s : State) : Host.Outcome State Fault Refusal :=
  run (fun s => s.hostWrite w (0x91024 + 0x100 * c.val)) s

/-- HOLDOVER_PREVIEW_JOB (R188): The holdover preview job starts, refreshes or cancels the channel's holdover preview. -/
def execHoldoverPreviewJob (c : Fin 12) (s : State) : Host.Outcome State Fault Refusal :=
  runUp (fun s => s.lpeJob (fun s => s.previewJob c.val)) s

/-- TS_RATE_UPDATE_JOB (R261): The rate update job sets the time scale's increment for the coming tick from FW and the
PH change. -/
def execTsRateUpdateJob (k : Fin 4) (s : State) : Host.Outcome State Fault Refusal :=
  runUp (fun s => s.lpeJob (fun s => s.tsRateUpdateJob k.val)) s

/-- PACKET_SERVO_JOB (R308): The packet servo forms a group's packet record from the exchanges that pass its gate. -/
def execPacketServoJob (g : Fin 32) (s : State) : Host.Outcome State Fault Refusal :=
  runUp (fun s => s.lpeJob (fun s => s.packetServo g.val)) s

/-- CASK_JOB (R202): The cask history and model job closes open one-second accumulations and updates rings and fit. -/
def execCaskJob (c : Fin 12) (s : State) : Host.Outcome State Fault Refusal :=
  runUp (fun s => s.lpeJob (fun s => s.caskJob c.val)) s

/-- WINDOW_EXPORT_JOB (R387): The export job writes one export record per target channel. -/
def execWindowExportJob (c : Fin 12) (s : State) : Host.Outcome State Fault Refusal :=
  runUp (fun s => s.lpeJob (fun s => s.exportJob c.val)) s

/-- COUNTER_SNAPSHOT_JOB (R436): The snapshot job writes a group's eight counters latched at B + 8 ns to the SAMPLE
ring. -/
def execCounterSnapshotJob (g : Fin 256) (s : State) : Host.Outcome State Fault Refusal :=
  runUp (fun s => s.lpeJob (fun s => s.snapshotJob g.val)) s

/-- SAMPLE_RECORD_JOB (R183): The sample record export job runs from the slot schedule. -/
def execSampleRecordJob (i : Fin 256) (s : State) : Host.Outcome State Fault Refusal :=
  runUp (fun s => s.lpeJob (fun s => s.sampleRecordJob i.val)) s

end Sys2Proof.Machine
end

