-- ==== Sys2Proof/Machine/PtpCmds.lean ====
section
/-!
DEFINITION. What the commands and events of the PTP sessions do.
-/
namespace Sys2Proof.Machine
open Sys2Proof

/-- SESSION_ENABLE (R299): VALID changing from 0 to 1 makes the engine read the context and start the session. -/
def execSessionEnable (n : Fin 512) (s : State) : Host.Outcome State Fault Refusal :=
  run (fun s => s.sessionValid n.val true) s

/-- SESSION_DISABLE (R299): VALID written 0 frees the session's contexts, cancels grants and makes it DISABLED. -/
def execSessionDisable (n : Fin 512) (s : State) : Host.Outcome State Fault Refusal :=
  run (fun s => s.sessionValid n.val false) s

/-- SYNC_RECEIVE (R300): A SLAVE takes a Sync with its ingress stamp t2. -/
def execSyncReceive (n : Fin 512) (h : PtpHdr) (twoStep : Bool) (origin : PtpTime) (t : PcsTime) (s : State) : Host.Outcome State Fault Refusal :=
  runUp (fun s => s.messageReceive n.val (.sync h twoStep origin t)) s

/-- FOLLOW_UP_RECEIVE (R300): A SLAVE pairs a Follow_Up with its Sync for t1 and the correction. -/
def execFollowUpReceive (n : Fin 512) (h : PtpHdr) (origin : PtpTime) (s : State) : Host.Outcome State Fault Refusal :=
  runUp (fun s => s.messageReceive n.val (.followUp h origin)) s

/-- DELAY_REQ_RECEIVE (R302): A MASTER answers a Delay_Req with a Delay_Resp carrying its ingress stamp. -/
def execDelayReqReceive (n : Fin 512) (h : PtpHdr) (t : PcsTime) (s : State) : Host.Outcome State Fault Refusal :=
  runUp (fun s => s.messageReceive n.val (.delayReq h t)) s

/-- DELAY_RESP_RECEIVE (R300): A SLAVE pairs a Delay_Resp with its Delay_Req and completes an exchange. -/
def execDelayRespReceive (n : Fin 512) (h : PtpHdr) (recv : PtpTime) (reqId : BitVec 64) (reqPort : BitVec 16) (s : State) : Host.Outcome State Fault Refusal :=
  runUp (fun s => s.messageReceive n.val (.delayResp h recv reqId reqPort)) s

/-- ANNOUNCE_RECEIVE (R304): An accepted Announce sets ANN_OK and updates the partner dataset. -/
def execAnnounceReceive (n : Fin 512) (m : AnnMsg) (s : State) : Host.Outcome State Fault Refusal :=
  runUp (fun s => s.messageReceive n.val (.announce m)) s

/-- SIGNALING_RECEIVE (R301): A Signaling message with unicast negotiation TLVs is granted, refused or answered. -/
def execSignalingReceive (n : Fin 512) (l : List NegTlv) (s : State) : Host.Outcome State Fault Refusal :=
  runUp (fun s => s.messageReceive n.val (.signaling l)) s

/-- EXCHANGE_TIMEOUT (R300): A Follow_Up or Delay_Resp not arrived within 1 s rejects the exchange. -/
def execExchangeTimeout (n : Fin 512) (seq : BitVec 16) (dreq : Bool) (s : State) : Host.Outcome State Fault Refusal :=
  runUp (fun s => s.exchangeTimeout n.val seq.toNat dreq) s

/-- ANNOUNCE_RECEIPT_TIMEOUT (R304): The Announce budget runs out, clearing ANN_OK and setting ANN_TO_S. -/
def execAnnounceReceiptTimeout (n : Fin 512) (s : State) : Host.Outcome State Fault Refusal :=
  runUp (fun s => s.announceTimeout n.val) s

/-- SESSION_TIMEOUT (R299): SESS_TO elapses since the last confirmed success and the session becomes LOST. -/
def execSessionTimeout (n : Fin 512) (s : State) : Host.Outcome State Fault Refusal :=
  runUp (fun s => s.sessionTimeout n.val) s

/-- GRANT_RENEW (R301): A grant with a quarter remaining is renewed. -/
def execGrantRenew (n : Fin 512) (type : Fin 3) (s : State) : Host.Outcome State Fault Refusal :=
  runUp (fun s => s.grantRenew n.val type.val) s

/-- GRANT_RETRY (R301): A refused or unanswered grant request is repeated after 1 s and sets GRANT_S. -/
def execGrantRetry (n : Fin 512) (type : Fin 3) (s : State) : Host.Outcome State Fault Refusal :=
  runUp (fun s => s.grantRetry n.val type.val) s

/-- GRANT_EXPIRY (R301): All grants of a unicast MASTER expire and it returns to WAIT. -/
def execGrantExpiry (n : Fin 512) (s : State) : Host.Outcome State Fault Refusal :=
  runUp (fun s => s.grantExpiry n.val) s

/-- SYNC_SEND (R302): A MASTER sends a Sync at its interval, one-step or with a Follow_Up. -/
def execSyncSend (n : Fin 512) (t : PcsTime) (s : State) : Host.Outcome State Fault Refusal :=
  runUp (fun s => s.syncSend n.val t) s

/-- ANNOUNCE_SEND (R306): A MASTER sends an Announce with the local or copied dataset. -/
def execAnnounceSend (n : Fin 512) (s : State) : Host.Outcome State Fault Refusal :=
  runUp (fun s => s.announceSend n.val) s

/-- DELAY_REQ_SEND (R300): A SLAVE sends a Delay_Req at its interval and takes its egress stamp t3. -/
def execDelayReqSend (n : Fin 512) (t : PcsTime) (s : State) : Host.Outcome State Fault Refusal :=
  runUp (fun s => s.delayReqSend n.val t) s

/-- CONTEXT_EXPIRY (R303): A message context held for 1 s without completion is freed. -/
def execContextExpiry (n : Fin 512) (seq : BitVec 16) (dreq : Bool) (s : State) : Host.Outcome State Fault Refusal :=
  runUp (fun s => s.contextExpiry n.val seq.toNat dreq) s

/-- MISSING_EXCHANGE (R310): MISS_TO ms in ACTIVE without a used exchange makes a missing-exchange declaration. -/
def execMissingExchange (g : Fin 32) (s : State) : Host.Outcome State Fault Refusal :=
  runUp (fun s => s.missingExchange g.val) s

/-- GMHOLD_EXPIRY (R310): GMHOLD seconds after a grandmaster change the group re-enters ACTIVE with a new epoch. -/
def execGmholdExpiry (g : Fin 32) (s : State) : Host.Outcome State Fault Refusal :=
  runUp (fun s => s.gmholdExpiry g.val) s

end Sys2Proof.Machine
end

