-- ==== Sys2Proof/Machine/QulCmds.lean ====
section
/-!
DEFINITION. What the commands and events of reference qualification do.
-/
namespace Sys2Proof.Machine
open Sys2Proof

/-- QUALIFY_JOB (R123): The qualify job evaluates a slot's conditions and makes its state transition for the tick. -/
def execQualifyJob (n : Fin 88) (s : State) : Host.Outcome State Fault Refusal :=
  runUp (fun s => s.qulJob (fun s => s.qualifyJob n.val)) s

/-- STEEP_TIMER_EXPIRY (R123): A slot's steep timer reaches 0 with no condition and no shadow, and the slot becomes
QUALIFIED. -/
def execSteepTimerExpiry (n : Fin 88) (s : State) : Host.Outcome State Fault Refusal :=
  runUp (fun s => s.qulJob (fun s => s.steepExpiry n.val)) s

/-- SREC_EXPIRY (R123): A SUSPECT slot with no condition for SREC seconds returns to QUALIFIED. -/
def execSrecExpiry (n : Fin 88) (s : State) : Host.Outcome State Fault Refusal :=
  runUp (fun s => s.qulJob (fun s => s.srecExpiry n.val)) s

/-- LOSS_TIMEOUT (R120): LOSS_TO passes after the last confirmed record, raising LOSS and disqualifying the slot with
cause ACTIVITY. -/
def execLossTimeout (n : Fin 88) (s : State) : Host.Outcome State Fault Refusal :=
  runUp (fun s => s.qulJob (fun s => s.lossTimeout n.val)) s

/-- QUL_FORCE_WRITE (R123): A host write of FORCE moves a slot into or out of FORCED at the next boundary. -/
def execQulForceWrite (n : Fin 88) (w : HostWrite) (s : State) : Host.Outcome State Fault Refusal :=
  run (fun s => s.hostWrite w (0x71000 + 0x80 * n.val)) s

/-- QUL_HOST_DQ_WRITE (R113): A host write of HOST_DQ raises or clears the HOST_DQ hard condition. -/
def execQulHostDqWrite (n : Fin 88) (w : HostWrite) (s : State) : Host.Outcome State Fault Refusal :=
  run (fun s => s.hostWrite w (0x71000 + 0x80 * n.val)) s

/-- QUL_WINDOW_WRITE (R132): A write of W0, W1, W2, DW or WW restarts that window at the next boundary. Register 0 holds
W0 and W1, 1 holds W2 and DW, 2 holds WW. -/
def execQulWindowWrite (n : Fin 88) (i : Fin 3) (w : HostWrite) (s : State) : Host.Outcome State Fault Refusal :=
  run (fun s => s.hostWrite w ([0x71004, 0x71008, 0x71034].getD i.val 0 + 0x80 * n.val)) s

/-- DRIFT_INT_JOB (R118): The excess integrator runs at tick 0 and raises or clears EXCESS. -/
def execDriftIntJob (n : Fin 88) (s : State) : Host.Outcome State Fault Refusal :=
  runUp (fun s => s.qulJob (fun s => s.driftIntJob n.val)) s

/-- ADEV_JOB (R128): The Allan deviation job forms phase points and samples and updates the estimates. -/
def execAdevJob (n : Fin 88) (s : State) : Host.Outcome State Fault Refusal :=
  runUp (fun s => s.qulJob (fun s => s.adevJob n.val)) s

end Sys2Proof.Machine
end

