-- ==== Sys2Proof/Machine/RefCmds.lean ====
section
/-!
DEFINITION. What the commands and events of the reference front end do.
-/
namespace Sys2Proof.Machine
open Sys2Proof

/-- REF_BANK_SUPPLY_CHANGE (R74): A REFIN bank supply leaves its latched band, clearing PGOOD and setting PFAIL_S, or
falls below 1.62 V and loses its class. -/
def execRefBankSupplyChange (bank : Fin 4) (mv : Nat) (s : State) : Host.Outcome State Fault Refusal :=
  run (fun s => s.refSupply bank.val mv) s

/-- REF_BANK_CLASS_LATCH (R74): A REFIN bank supply that has stayed 2 ms within a band latches that class. -/
def execRefBankClassLatch (bank : Fin 4) (s : State) : Host.Outcome State Fault Refusal :=
  runUp (fun s => s.refClassLatch bank.val) s

/-- LEVEL_LOSS (R75): An input whose swing stays below V_LOS for 1 µs clears LEVEL_OK and delivers no edges. -/
def execLevelLoss (n : Fin 32) (s : State) : Host.Outcome State Fault Refusal :=
  runUp (fun s => s.levelLoss n.val) s

/-- LEVEL_RESTORE (R75): An input whose swing stays above V_LOS for 1 µs delivers edges again. -/
def execLevelRestore (n : Fin 32) (s : State) : Host.Outcome State Fault Refusal :=
  runUp (fun s => s.levelRestore n.val) s

/-- REF_EDGE (R76): A reference edge passes the conditioning chain of receiver, polarity, glitch filter, pre-divider and
monitors. The sources are those of log entry 1; `t` and `hold` count 62.5 fs. -/
def execRefEdge (n : Fin 104) (t : Nat) (rise : Bool) (hold : Nat) (s : State) : Host.Outcome State Fault Refusal :=
  runUp (fun s => s.sourceEdge n.val t rise hold) s

/-- FREQ_WINDOW_GATE (R81): A clock-type slot's gate of 2^GATE ticks ends and its edge count is judged against the
window. -/
def execFreqWindowGate (n : Fin 56) (s : State) : Host.Outcome State Fault Refusal :=
  runUp (fun s => s.windowGate n.val) s

/-- MISSING_EDGE (R82): No monitored edge has arrived by e + k·P + τ, so a missing edge is declared. -/
def execMissingEdge (n : Fin 56) (s : State) : Host.Outcome State Fault Refusal :=
  runUp (fun s => s.missingEdge n.val) s

/-- PULSE_WIDTH_TIMEOUT (R84): No trailing edge by REF_PW_MAX + 1 MCLK periods, so the pulse record is formed with a
saturated width. -/
def execPulseWidthTimeout (n : Fin 32) (s : State) : Host.Outcome State Fault Refusal :=
  runUp (fun s => s.widthTimeout n.val) s

end Sys2Proof.Machine
end

