-- ==== Sys2Proof/Machine/SelCmds.lean ====
section
/-!
DEFINITION. What the commands and events of the selectors do.
-/
namespace Sys2Proof.Machine
open Sys2Proof

/-- SELECT_JOB (R142): The selection job forms the channel's estimate and makes the selector state transition for the
tick. -/
def execSelectJob (c : Fin 12) (s : State) : Host.Outcome State Fault Refusal :=
  runUp (fun s => s.lpeJob (fun s => s.selectJob c.val)) s

/-- TRANSITION_COMPLETE (R146): K reaches XLEN and the channel tracks the target with its build-out offset. -/
def execTransitionComplete (c : Fin 12) (s : State) : Host.Outcome State Fault Refusal :=
  runUp (fun s => s.lpeJob (fun s => s.transitionComplete c.val)) s

/-- ABSORB_COMPLETE (R146): An absorbed build-out offset reaches 0 and ABSORBING clears. -/
def execAbsorbComplete (c : Fin 12) (s : State) : Host.Outcome State Fault Refusal :=
  runUp (fun s => s.lpeJob (fun s => s.absorbComplete c.val)) s

/-- FADE_COMPLETE (R151): A member's fade factor reaches 0 or 1. -/
def execFadeComplete (c : Fin 12) (j : Fin 8) (s : State) : Host.Outcome State Fault Refusal :=
  runUp (fun s => s.lpeJob (fun s => s.fadeComplete c.val j.val)) s

/-- SEL_NAMED_SLOT_WRITE (R160): A write of PRIMARY or OVR_SLOT sets REQ_PEND and requests a switch to the named slot. -/
def execSelNamedSlotWrite (c : Fin 12) (w : HostWrite) (s : State) : Host.Outcome State Fault Refusal :=
  run (fun s => s.hostWrite w (0x81000 + 0x100 * c.val)) s

/-- SEL_LIST_WRITE (R162): A list write that removes the tracked slot or target starts a switch or NO_REF. -/
def execSelListWrite (c : Fin 12) (i : Fin 4) (w : HostWrite) (s : State) : Host.Outcome State Fault Refusal :=
  run (fun s => s.hostWrite w (0x81004 + 0x100 * c.val + 4 * i.val)) s

/-- SEL_BIAS_WRITE (R161): A host write of BIAS sets a new raw weight formed in the next tick. -/
def execSelBiasWrite (c : Fin 12) (i : Fin 4) (w : HostWrite) (s : State) : Host.Outcome State Fault Refusal :=
  run (fun s => s.hostWrite w (0x81020 + 0x100 * c.val + 4 * i.val)) s

end Sys2Proof.Machine
end

