-- ==== Sys2Proof/Machine/SynCmds.lean ====
section
/-!
DEFINITION. What the commands and events of output synthesis do.
-/
namespace Sys2Proof.Machine
open Sys2Proof

/-- APLL_BAND_FOUND (R233): The band search of an APLL in CAL finds a band and the APLL enters ACQ. -/
def execApllBandFound (m : Fin 4) (band : Fin 128) (tune : Fin 65536) (s : State) : Host.Outcome State Fault Refusal :=
  runUp (fun s => s.bandFound m.val band.val tune.val) s

/-- APLL_CAL_TIMEOUT (R233): No band found within 3 ms restarts the search and sets CALFAIL_S. -/
def execApllCalTimeout (m : Fin 4) (s : State) : Host.Outcome State Fault Refusal :=
  runUp (fun s => s.calTimeout m.val) s

/-- APLL_LOCK_DETECT (R233): Detector error below LD_WIN for LD_CNT cycles makes the APLL LOCKED. -/
def execApllLockDetect (m : Fin 4) (s : State) : Host.Outcome State Fault Refusal :=
  runUp (fun s => s.lockDetect m.val) s

/-- APLL_ACQ_TIMEOUT (R233): An APLL not LOCKED 2 ms after entering ACQ returns to CAL. -/
def execApllAcqTimeout (m : Fin 4) (s : State) : Host.Outcome State Fault Refusal :=
  runUp (fun s => s.acqTimeout m.val) s

/-- APLL_UNLOCK_DETECT (R233): Detector error at or above 8 × LD_WIN in 4 cycles returns the APLL to ACQ. -/
def execApllUnlockDetect (m : Fin 4) (s : State) : Host.Outcome State Fault Refusal :=
  runUp (fun s => s.unlockDetect m.val) s

/-- XO_LOSS (R234): No XO edge for 100 ns clears XO_OK, holds APLLs in CAL and squelches outputs. -/
def execXoLoss (s : State) : Host.Outcome State Fault Refusal :=
  runUp (fun s => s.xoLoss) s

/-- XO_RESTORE (R234): After 1 ms of XO edges XO_OK is set again. -/
def execXoRestore (s : State) : Host.Outcome State Fault Refusal :=
  runUp (fun s => s.xoRestore) s

/-- XF_LOCK (R231): The follower's phase error has stayed below 1 ns for 1 s and XF_LOCK reads 1. -/
def execXfLock (s : State) : Host.Outcome State Fault Refusal :=
  runUp (fun s => s.xfLock) s

/-- SQ_CAUSE_CHANGE (R246): A squelch cause bit of an output is set or cleared and the output changes state. -/
def execSqCauseChange (j : Fin 24) (s : State) : Host.Outcome State Fault Refusal :=
  runUp (fun s => s.evalOutput j.val) s

/-- OUTPUT_SQUELCH_ENTRY (R249): An output completes its phase in progress and holds SQ_LEVEL from its next transition.
`inPulse`: the phase in progress is the active one. -/
def execOutputSquelchEntry (j : Fin 24) (inPulse : Bool) (s : State) : Host.Outcome State Fault Refusal :=
  runUp (fun s => s.squelchEntry j.val inPulse) s

/-- OUTPUT_START (R249): An output leaves squelch or gating with a full-width first phase, time-aligned outputs on their
epoch grid. -/
def execOutputStart (j : Fin 24) (s : State) : Host.Outcome State Fault Refusal :=
  runUp (fun s => s.outputStart j.val) s

/-- SQ_FORCE_WRITE (R247): A write of SYN_SQ_FORCE sets or clears cause HOST. -/
def execSqForceWrite (w : HostWrite) (s : State) : Host.Outcome State Fault Refusal :=
  run (fun s => s.hostWrite w 0xB0030) s

/-- OUT_GO_WRITE (R248): A write of SYN_OUT_GO meets the host condition of POLICY 3. -/
def execOutGoWrite (w : HostWrite) (s : State) : Host.Outcome State Fault Refusal :=
  run (fun s => s.hostWrite w 0xB0034) s

/-- OUT_SET_WRITE (R237): A host write of SET changes the output's divider set. -/
def execOutSetWrite (j : Fin 24) (w : HostWrite) (s : State) : Host.Outcome State Fault Refusal :=
  run (fun s => s.hostWrite w (0xB1000 + 0x40 * j.val)) s

/-- OUT_PHASE_WRITE (R239): A host write of OUT_PHASE is applied as a phase step. -/
def execOutPhaseWrite (j : Fin 24) (w : HostWrite) (s : State) : Host.Outcome State Fault Refusal :=
  run (fun s => s.hostWrite w (0xB1028 + 0x40 * j.val)) s

/-- OUT_TRIM_WRITE (R239): A write of TRIM moves the delay toward the new value by 1 ps per tick. -/
def execOutTrimWrite (j : Fin 24) (w : HostWrite) (s : State) : Host.Outcome State Fault Refusal :=
  run (fun s => s.hostWrite w (0xB102C + 0x40 * j.val)) s

/-- ALIGN_UPDATE (R244): After ALIGN_N feedback records the alignment unit writes AERR and moves the ATRIM target. -/
def execAlignUpdate (j : Fin 24) (s : State) : Host.Outcome State Fault Refusal :=
  runUp (fun s => s.alignUpdate j.val) s

/-- OUTPUT_PHASE_STEP (R251): A tense phase step moves the output's due edge at its period boundary. -/
def execOutputPhaseStep (j : Fin 24) (s : State) : Host.Outcome State Fault Refusal :=
  runUp (fun s => s.outBoundary j.val 1) s

/-- OUTPUT_GATE_OFF (R251): A tense gate off completes the cycle and holds SQ_LEVEL at the period boundary. -/
def execOutputGateOff (j : Fin 24) (s : State) : Host.Outcome State Fault Refusal :=
  runUp (fun s => s.outBoundary j.val 2) s

/-- OUTPUT_GATE_ON (R251): A tense gate on gives the first active edge at the period boundary. -/
def execOutputGateOn (j : Fin 24) (s : State) : Host.Outcome State Fault Refusal :=
  runUp (fun s => s.outBoundary j.val 2) s

/-- DIVIDER_RELOAD (R251): A tense divider reload makes the due edge the last at the old ratio. -/
def execDividerReload (j : Fin 24) (s : State) : Host.Outcome State Fault Refusal :=
  runUp (fun s => s.outBoundary j.val 0) s

end Sys2Proof.Machine
end

