-- ==== Sys2Proof/Machine/SysCmds.lean ====
section
/-!
DEFINITION. What the commands and events of the resets, clocks, supplies and power domains do.
-/
namespace Sys2Proof.Machine
open Sys2Proof

/-- POWER_ON_RESET (R442): A monitored rail enters or leaves its range, which holds the device in a power-on reset that
has every effect of power-on. -/
def execPowerOnReset (s : State) : Host.Outcome State Fault Refusal :=
  run (fun s => s.powerOn) s

/-- POWER_ON_RESET_END (R442): Every monitored rail has stayed in range for 2 ms, so the power-on reset ends. The straps
are read as the reset ends. -/
def execPowerOnResetEnd (bootSel : Fin 4) (spiSec testMode : Bool) (s : State) : Host.Outcome State Fault Refusal :=
  run (fun s => s.powerOnEnd bootSel.val (ofBool spiSec) (ofBool testMode)) s

/-- RESET_N_ASSERT (R452): RESET_N is held low for at least 1 µs; outputs go high impedance and the internal reset is
held. -/
def execResetNAssert (s : State) : Host.Outcome State Fault Refusal :=
  run (fun s => s.resetNFall) s

/-- RESET_N_RELEASE (R450): RESET_N rises; the internal reset ends at the later of this edge and the end of power-on
reset. The straps are read as the reset ends. -/
def execResetNRelease (bootSel : Fin 4) (spiSec testMode : Bool) (s : State) : Host.Outcome State Fault Refusal :=
  run (fun s => s.resetNRise bootSel.val (ofBool spiSec) (ofBool testMode)) s

/-- OSCIN_DETECTION_DONE (R446): After 100 µs of measurement SYS chooses the matching OSC_CODE or sets DET_FAIL. `hz` is
the measured frequency. -/
def execOscinDetectionDone (hz : Nat) (s : State) : Host.Outcome State Fault Refusal :=
  runUp (fun s => s.detectionDone hz) s

/-- OSC_SEL_WRITE (R447): A privileged write of OSC_SEL while DET_FAIL reads 1 starts the MPLL on that code; at other
times it is ignored. -/
def execOscSelWrite (w : HostWrite) (s : State) : Host.Outcome State Fault Refusal :=
  run (fun s => s.hostWrite w 0x18) s

/-- MPLL_LOCK (R447): The MPLL locks; HCLK moves to it without a glitch and the coarse counter and time scales start at
that edge. -/
def execMpllLock (s : State) : Host.Outcome State Fault Refusal :=
  runUp (fun s => s.mpllLock) s

/-- MPLL_LOCK_TIMEOUT (R447): The MPLL has not locked within 2 ms on the chosen code, so the device stays on the boot
clock. -/
def execMpllLockTimeout (s : State) : Host.Outcome State Fault Refusal :=
  runUp (fun s => s.mpllTimeout) s

/-- OSCIN_LOSS (R448): No OSCIN edge for 500 ns clears OSC_OK and MPLL_LOCK while the MPLL holds its tuning. -/
def execOscinLoss (s : State) : Host.Outcome State Fault Refusal :=
  runUp (fun s => s.oscinLoss) s

/-- OSCIN_RESTORE (R448): After 1 ms of OSCIN edges OSC_OK is set again and the MPLL relocks without a step. -/
def execOscinRestore (s : State) : Host.Outcome State Fault Refusal :=
  runUp (fun s => s.oscinRestore) s

/-- PERST_N_ASSERT (R453): PERST_N resets the PCIe endpoint and every HIF field and has no other effect. -/
def execPerstNAssert (s : State) : Host.Outcome State Fault Refusal :=
  run (fun s => s.perstFall) s

/-- SYS_BLOCK_RESET_WRITE (R454): A privileged write to SYS_BRST requests a reset of a block or sub-unit at the next
tick boundary. -/
def execSysBlockResetWrite (w : HostWrite) (s : State) : Host.Outcome State Fault Refusal :=
  run (fun s => s.hostWrite w 0x30) s

/-- BLOCK_RESET_START (R406): A requested host or reaction reset starts at a tick boundary and holds its target in
reset. -/
def execBlockResetStart (u : Fin 24) (s : State) : Host.Outcome State Fault Refusal :=
  runUp (fun s => s.blockResetStart u.val) s

/-- BLOCK_RESET_RELEASE (R406): After 3 ticks the reset target is released, its RST_S is set and its reset-shadow
continues. -/
def execBlockResetRelease (u : Fin 24) (s : State) : Host.Outcome State Fault Refusal :=
  runUp (fun s => s.blockResetRelease u.val) s

/-- RESET_SHADOW_END (R413): 64 ticks after release the block leaves reset-shadow and consumers stop masking its records
and fault lines. -/
def execResetShadowEnd (u : Fin 24) (s : State) : Host.Outcome State Fault Refusal :=
  runUp (fun s => s.resetShadowEnd u.val) s

/-- PD_EN_WRITE (R444): A write of SYS_PD_EN switches power domains on or off. -/
def execPdEnWrite (w : HostWrite) (s : State) : Host.Outcome State Fault Refusal :=
  run (fun s => s.hostWrite w 0x20) s

/-- DOMAIN_RAMP_DONE (R445): A domain switched on finishes its ramp within 250 µs and RAMP clears. -/
def execDomainRampDone (d : Fin 16) (s : State) : Host.Outcome State Fault Refusal :=
  runUp (fun s => s.domainRampDone d.val) s

/-- DOMAIN_RELEASE (R445): At the next tick boundary after the ramp the domain's logic leaves reset, with a reset-shadow
where the table gives one. -/
def execDomainRelease (d : Fin 16) (s : State) : Host.Outcome State Fault Refusal :=
  runUp (fun s => s.domainRelease d.val 65) s

/-- OUT_BANK_SUPPLY_CHANGE (R443): An output bank supply leaves the band of its latched class, clears SUP_PGOOD, sets
SUP_S and turns its outputs OFF. -/
def execOutBankSupplyChange (bank : Fin 3) (mv : Nat) (s : State) : Host.Outcome State Fault Refusal :=
  run (fun s => s.outSupply bank.val mv) s

/-- OUT_BANK_CLASS_LATCH (R443): An output bank supply that has stayed 2 ms within a band latches that class. -/
def execOutBankClassLatch (bank : Fin 3) (s : State) : Host.Outcome State Fault Refusal :=
  runUp (fun s => s.outClassLatch bank.val) s

/-- DIE_TEMP_READ (R456): Every 1 ms SYS reads the die sensor and raises or clears TALARM against T_HI. -/
def execDieTempRead (t : BitVec 16) (s : State) : Host.Outcome State Fault Refusal :=
  runUp (fun s => s.dieTempRead t) s

/-- PERST_N_RELEASE (R453): PERST_N rises and the PCIe endpoint leaves its reset. -/
def execPerstNRelease (s : State) : Host.Outcome State Fault Refusal :=
  run (fun s => s.perstRise) s

end Sys2Proof.Machine
end

