-- ==== Sys2Proof/Machine/TickCmds.lean ====
section
/-!
DEFINITION. What the commands and events of the tick boundary do.
-/
namespace Sys2Proof.Machine
open Sys2Proof

/-- TICK_BOUNDARY (R26): At each tick boundary the pending and indicative banks swap in one operation and consumers take
up the commit. -/
def execTickBoundary (inp : TickIn) (s : State) : Host.Outcome State Fault Refusal :=
  runUp (fun s => s.tickBoundary inp) s

end Sys2Proof.Machine
end

