-- ==== Sys2Proof/Machine/TimCmds.lean ====
section
/-!
DEFINITION. What the commands and events of the measurement array do.
-/
namespace Sys2Proof.Machine
open Sys2Proof

/-- TDL_SAMPLE_INSTANT (R91): A TDL lane reaches a sample instant, calibrates for 8 MCLK periods and arms to record the
next edge. Instant `k` of the tick; `cal` is what the calibration measures. -/
def execTdlSampleInstant (l : Fin 64) (k : Fin 8) (cal : Cal) (s : State) : Host.Outcome State Fault Refusal :=
  runUp (fun s => s.sampleAt l.val k.val cal) s

/-- TDL_RECORD_FORM (R90): 16 MCLK periods after a recorded edge the TDL lane forms the record and enters it in its lane
queue. `raw` is the raw fine value of the captured edge. -/
def execTdlRecordForm (l : Fin 64) (raw : Nat) (s : State) : Host.Outcome State Fault Refusal :=
  runUp (fun s => s.formTdl l.val raw) s

/-- VERNIER_CONVERSION_DONE (R92): A vernier lane completes its ring conversion and forms the record from the stop edge
backward. The stop edge and the ring cycles before it. -/
def execVernierConversionDone (i : Fin 16) (sCoarse : Nat) (fall : Bool) (n : Nat) (s : State) : Host.Outcome State Fault Refusal :=
  runUp (fun s => s.vrnConverted (64 + i.val) sCoarse fall n) s

/-- VERNIER_CALIBRATION_DONE (R93): The 2.4 µs post-conversion calibration of a vernier lane completes and the lane
accepts edges again. -/
def execVernierCalibrationDone (i : Fin 16) (cal : Cal) (s : State) : Host.Outcome State Fault Refusal :=
  runUp (fun s => s.vrnCalibrated (64 + i.val) cal) s

/-- LANE_TO_BANK_TRANSFER (R102): A lane queue moves a record into the shared bank queue in round-robin order once there
is room. -/
def execLaneToBankTransfer (l : Fin 80) (s : State) : Host.Outcome State Fault Refusal :=
  runUp (fun s => s.laneToBank l.val) s

/-- RECORD_DELIVERY (R101): The bank queue delivers a record to its consumer by KIND: loop engine, time engine or
Conjunction Links. -/
def execRecordDelivery (s : State) : Host.Outcome State Fault Refusal :=
  runUp (fun s => s.recordDelivery) s

end Sys2Proof.Machine
end

