-- ==== Sys2Proof/Machine/TmeCmds.lean ====
section
/-!
DEFINITION. What the commands and events of the time engine do.
-/
namespace Sys2Proof.Machine
open Sys2Proof

/-- TIME_STEP_GO_WRITE (R265): A privileged write of GO arms the step of a time scale, or is rejected when the right is
spent. -/
def execTimeStepGoWrite (k : Fin 4) (w : HostWrite) (s : State) : Host.Outcome State Fault Refusal :=
  run (fun s => s.hostWrite w (0xC0130 + 0x80 * k.val)) s

/-- TIME_STEP_APPLY (R265): At TCK edge S the delta is added to the counter, STEPPED set and the step right disarmed. -/
def execTimeStepApply (k : Fin 4) (s : State) : Host.Outcome State Fault Refusal :=
  runUp (fun s => (s.timeStep k.val).swapStepped) s

/-- RATE_ADJ_DUR_WRITE (R268): A host write of DUR requests a rate adjustment from the next tick boundary. -/
def execRateAdjDurWrite (k : Fin 4) (w : HostWrite) (s : State) : Host.Outcome State Fault Refusal :=
  run (fun s => s.hostWrite w (0xC0148 + 0x80 * k.val)) s

/-- RATE_ADJ_START (R268): A requested rate adjustment starts at its tick boundary and replaces any running one. -/
def execRateAdjStart (k : Fin 4) (s : State) : Host.Outcome State Fault Refusal :=
  runUp (fun s => s.radjStart k.val) s

/-- RATE_ADJ_DONE (R268): After DUR ticks the rate adjustment ends and RADJ_S is set. -/
def execRateAdjDone (k : Fin 4) (s : State) : Host.Outcome State Fault Refusal :=
  runUp (fun s => s.radjDone k.val) s

/-- UTC_COMMIT_WRITE (R269): A write of COMMIT applies the held UTC fields at the next tick boundary. -/
def execUtcCommitWrite (k : Fin 4) (w : HostWrite) (s : State) : Host.Outcome State Fault Refusal :=
  run (fun s => s.hostWrite w (0xC0158 + 0x80 * k.val)) s

/-- UTC_APPLY (R269): The held UTC offset and leap fields take effect together at the tick boundary. -/
def execUtcApply (k : Fin 4) (s : State) : Host.Outcome State Fault Refusal :=
  runUp (fun s => s.utcApply k.val) s

/-- LEAP_SECOND (R270): The seconds field reaches LEAP_SEC and UTC_OFS changes by one with LEAP_S set. -/
def execLeapSecond (k : Fin 4) (s : State) : Host.Outcome State Fault Refusal :=
  runUp (fun s => s.leapCheck k.val) s

/-- TIME_LATCH_READ (R272): A read of a time group's NS register latches the group, or all four scales with LATCH_ALL. -/
def execTimeLatchRead (m : Master) (g : TimeGroup) (s : State) : Host.Outcome State Fault Refusal :=
  run (fun s => s.readBack m g.addr) s

/-- EVT_STAMP (R273): An EVT record is converted on its scale, written to the pin registers and placed on the EVENT
ring. -/
def execEvtStamp (i : Fin 16) (s : State) : Host.Outcome State Fault Refusal :=
  runUp (fun s => s.evtStamp i.val) s

/-- EVT_TIMEOUT (R274): A pin gives no stamp for EVT_TO ms and sets MISS_S. -/
def execEvtTimeout (i : Fin 16) (s : State) : Host.Outcome State Fault Refusal :=
  runUp (fun s => s.evtTimeout i.val) s

/-- TXQ_POP_READ (R279): A read of TME_TXQ_ID including byte 0 pops the oldest transmit-timestamp entry. -/
def execTxqPopRead (m : Master) (p : Fin 16) (s : State) : Host.Outcome State Fault Refusal :=
  run (fun s => s.readBack m (0xC100C + 0x40 * p.val)) s

end Sys2Proof.Machine
end

