-- ==== Sys2Proof/Machine/TnsCmds.lean ====
section
/-!
DEFINITION. What the commands and events of the tense table do.
-/
namespace Sys2Proof.Machine
open Sys2Proof

/-- TNS_INSERT (R350): A write of TNS_INSERT.GO checks and stores the staged entry, reporting in TNS_INS_STAT within 2
µs. `dur` is how long the insert takes (log entry 26). -/
def execTnsInsert (w : HostWrite) (dur : Fin 4001) (s : State) : Host.Outcome State Fault Refusal :=
  run (fun s => s.hostWriteFor w 0x10002C (some dur.val)) s

/-- TNS_CANCEL_WRITE (R358): A write of TNS_CANCEL.INDEX removes a pending entry on this node. -/
def execTnsCancelWrite (w : HostWrite) (s : State) : Host.Outcome State Fault Refusal :=
  run (fun s => s.hostWrite w 0x100034) s

/-- TENSE_FIRE (R355): At its firing edge F each due entry is handed to its target and leaves the table. -/
def execTenseFire (k : Fin 4) (s : State) : Host.Outcome State Fault Refusal :=
  runUp (fun s => s.tenseFire k.val) s

/-- EVT_PULSE_TRAILING (R355): An EVT pulse ends at T + width. -/
def execEvtPulseTrailing (i : Fin 16) (s : State) : Host.Outcome State Fault Refusal :=
  runUp (fun s => s.evtTrailing i.val) s

end Sys2Proof.Machine
end

