-- ==== Sys2Proof/Machine/Dispatch.lean ====
section
/-! DEFINITION. The meaning of each command: one arm per constructor. -/
namespace Sys2Proof.Machine

def exec (i : Instr) (s : State) : Host.Outcome State Fault Refusal :=
  match i with
  | .powerOnReset => Sys2Proof.Machine.execPowerOnReset s
  | .powerOnResetEnd bootSel spiSec testMode => Sys2Proof.Machine.execPowerOnResetEnd bootSel spiSec testMode s
  | .resetNAssert => Sys2Proof.Machine.execResetNAssert s
  | .resetNRelease bootSel spiSec testMode => Sys2Proof.Machine.execResetNRelease bootSel spiSec testMode s
  | .oscinDetectionDone hz => Sys2Proof.Machine.execOscinDetectionDone hz s
  | .oscSelWrite w => Sys2Proof.Machine.execOscSelWrite w s
  | .mpllLock => Sys2Proof.Machine.execMpllLock s
  | .mpllLockTimeout => Sys2Proof.Machine.execMpllLockTimeout s
  | .oscinLoss => Sys2Proof.Machine.execOscinLoss s
  | .oscinRestore => Sys2Proof.Machine.execOscinRestore s
  | .perstNAssert => Sys2Proof.Machine.execPerstNAssert s
  | .sysBlockResetWrite w => Sys2Proof.Machine.execSysBlockResetWrite w s
  | .blockResetStart u => Sys2Proof.Machine.execBlockResetStart u s
  | .blockResetRelease u => Sys2Proof.Machine.execBlockResetRelease u s
  | .resetShadowEnd u => Sys2Proof.Machine.execResetShadowEnd u s
  | .pdEnWrite w => Sys2Proof.Machine.execPdEnWrite w s
  | .domainRampDone d => Sys2Proof.Machine.execDomainRampDone d s
  | .domainRelease d => Sys2Proof.Machine.execDomainRelease d s
  | .outBankSupplyChange bank mv => Sys2Proof.Machine.execOutBankSupplyChange bank mv s
  | .outBankClassLatch bank => Sys2Proof.Machine.execOutBankClassLatch bank s
  | .dieTempRead t => Sys2Proof.Machine.execDieTempRead t s
  | .refBankSupplyChange bank mv => Sys2Proof.Machine.execRefBankSupplyChange bank mv s
  | .refBankClassLatch bank => Sys2Proof.Machine.execRefBankClassLatch bank s
  | .levelLoss n => Sys2Proof.Machine.execLevelLoss n s
  | .levelRestore n => Sys2Proof.Machine.execLevelRestore n s
  | .refEdge n t rise hold => Sys2Proof.Machine.execRefEdge n t rise hold s
  | .freqWindowGate n => Sys2Proof.Machine.execFreqWindowGate n s
  | .missingEdge n => Sys2Proof.Machine.execMissingEdge n s
  | .pulseWidthTimeout n => Sys2Proof.Machine.execPulseWidthTimeout n s
  | .tdlSampleInstant l k cal => Sys2Proof.Machine.execTdlSampleInstant l k cal s
  | .tdlRecordForm l raw => Sys2Proof.Machine.execTdlRecordForm l raw s
  | .vernierConversionDone ix sCoarse fall n => Sys2Proof.Machine.execVernierConversionDone ix sCoarse fall n s
  | .vernierCalibrationDone ix cal => Sys2Proof.Machine.execVernierCalibrationDone ix cal s
  | .laneToBankTransfer l => Sys2Proof.Machine.execLaneToBankTransfer l s
  | .recordDelivery => Sys2Proof.Machine.execRecordDelivery s
  | .tickBoundary inp => Sys2Proof.Machine.execTickBoundary inp s
  | .qualifyJob n => Sys2Proof.Machine.execQualifyJob n s
  | .steepTimerExpiry n => Sys2Proof.Machine.execSteepTimerExpiry n s
  | .srecExpiry n => Sys2Proof.Machine.execSrecExpiry n s
  | .lossTimeout n => Sys2Proof.Machine.execLossTimeout n s
  | .qulForceWrite n w => Sys2Proof.Machine.execQulForceWrite n w s
  | .qulHostDqWrite n w => Sys2Proof.Machine.execQulHostDqWrite n w s
  | .qulWindowWrite n ix w => Sys2Proof.Machine.execQulWindowWrite n ix w s
  | .driftIntJob n => Sys2Proof.Machine.execDriftIntJob n s
  | .adevJob n => Sys2Proof.Machine.execAdevJob n s
  | .selectJob c => Sys2Proof.Machine.execSelectJob c s
  | .transitionComplete c => Sys2Proof.Machine.execTransitionComplete c s
  | .absorbComplete c => Sys2Proof.Machine.execAbsorbComplete c s
  | .fadeComplete c j => Sys2Proof.Machine.execFadeComplete c j s
  | .selNamedSlotWrite c w => Sys2Proof.Machine.execSelNamedSlotWrite c w s
  | .selListWrite c ix w => Sys2Proof.Machine.execSelListWrite c ix w s
  | .selBiasWrite c ix w => Sys2Proof.Machine.execSelBiasWrite c ix w s
  | .filterJob c => Sys2Proof.Machine.execFilterJob c s
  | .lockTimerExpiry c => Sys2Proof.Machine.execLockTimerExpiry c s
  | .lpePadjWrite c w => Sys2Proof.Machine.execLpePadjWrite c w s
  | .holdoverPreviewJob c => Sys2Proof.Machine.execHoldoverPreviewJob c s
  | .tsRateUpdateJob k => Sys2Proof.Machine.execTsRateUpdateJob k s
  | .packetServoJob g => Sys2Proof.Machine.execPacketServoJob g s
  | .caskJob c => Sys2Proof.Machine.execCaskJob c s
  | .windowExportJob c => Sys2Proof.Machine.execWindowExportJob c s
  | .counterSnapshotJob g => Sys2Proof.Machine.execCounterSnapshotJob g s
  | .sampleRecordJob ix => Sys2Proof.Machine.execSampleRecordJob ix s
  | .sensorRead => Sys2Proof.Machine.execSensorRead s
  | .sensorReadDone v => Sys2Proof.Machine.execSensorReadDone v s
  | .sensorAttemptTimeout => Sys2Proof.Machine.execSensorAttemptTimeout s
  | .sensorTimeout => Sys2Proof.Machine.execSensorTimeout s
  | .tofsLearned => Sys2Proof.Machine.execTofsLearned s
  | .hoLimitReached c => Sys2Proof.Machine.execHoLimitReached c s
  | .caskClearWrite w => Sys2Proof.Machine.execCaskClearWrite w s
  | .caskClear c => Sys2Proof.Machine.execCaskClear c s
  | .apllBandFound m band tune => Sys2Proof.Machine.execApllBandFound m band tune s
  | .apllCalTimeout m => Sys2Proof.Machine.execApllCalTimeout m s
  | .apllLockDetect m => Sys2Proof.Machine.execApllLockDetect m s
  | .apllAcqTimeout m => Sys2Proof.Machine.execApllAcqTimeout m s
  | .apllUnlockDetect m => Sys2Proof.Machine.execApllUnlockDetect m s
  | .xoLoss => Sys2Proof.Machine.execXoLoss s
  | .xoRestore => Sys2Proof.Machine.execXoRestore s
  | .xfLock => Sys2Proof.Machine.execXfLock s
  | .sqCauseChange j => Sys2Proof.Machine.execSqCauseChange j s
  | .outputSquelchEntry j inPulse => Sys2Proof.Machine.execOutputSquelchEntry j inPulse s
  | .outputStart j => Sys2Proof.Machine.execOutputStart j s
  | .sqForceWrite w => Sys2Proof.Machine.execSqForceWrite w s
  | .outGoWrite w => Sys2Proof.Machine.execOutGoWrite w s
  | .outSetWrite j w => Sys2Proof.Machine.execOutSetWrite j w s
  | .outPhaseWrite j w => Sys2Proof.Machine.execOutPhaseWrite j w s
  | .outTrimWrite j w => Sys2Proof.Machine.execOutTrimWrite j w s
  | .alignUpdate j => Sys2Proof.Machine.execAlignUpdate j s
  | .outputPhaseStep j => Sys2Proof.Machine.execOutputPhaseStep j s
  | .outputGateOff j => Sys2Proof.Machine.execOutputGateOff j s
  | .outputGateOn j => Sys2Proof.Machine.execOutputGateOn j s
  | .dividerReload j => Sys2Proof.Machine.execDividerReload j s
  | .timeStepGoWrite k w => Sys2Proof.Machine.execTimeStepGoWrite k w s
  | .timeStepApply k => Sys2Proof.Machine.execTimeStepApply k s
  | .rateAdjDurWrite k w => Sys2Proof.Machine.execRateAdjDurWrite k w s
  | .rateAdjStart k => Sys2Proof.Machine.execRateAdjStart k s
  | .rateAdjDone k => Sys2Proof.Machine.execRateAdjDone k s
  | .utcCommitWrite k w => Sys2Proof.Machine.execUtcCommitWrite k w s
  | .utcApply k => Sys2Proof.Machine.execUtcApply k s
  | .leapSecond k => Sys2Proof.Machine.execLeapSecond k s
  | .timeLatchRead m g => Sys2Proof.Machine.execTimeLatchRead m g s
  | .evtStamp ix => Sys2Proof.Machine.execEvtStamp ix s
  | .evtTimeout ix => Sys2Proof.Machine.execEvtTimeout ix s
  | .txqPopRead m p => Sys2Proof.Machine.execTxqPopRead m p s
  | .linkChange p pcs an => Sys2Proof.Machine.execLinkChange p pcs an s
  | .quadTxPllLoss q => Sys2Proof.Machine.execQuadTxPllLoss q s
  | .quadTxPllRelock q => Sys2Proof.Machine.execQuadTxPllRelock q s
  | .frameReceive p bytes fcs t m => Sys2Proof.Machine.execFrameReceive p bytes fcs t m s
  | .esmcPduReceive p ssm ext => Sys2Proof.Machine.execEsmcPduReceive p ssm ext s
  | .esmcTimeout p => Sys2Proof.Machine.execEsmcTimeout p s
  | .esmcInfoSend p => Sys2Proof.Machine.execEsmcInfoSend p s
  | .esmcEventSend p => Sys2Proof.Machine.execEsmcEventSend p s
  | .hostFrameTransmit t => Sys2Proof.Machine.execHostFrameTransmit t s
  | .sessionEnable n => Sys2Proof.Machine.execSessionEnable n s
  | .sessionDisable n => Sys2Proof.Machine.execSessionDisable n s
  | .syncReceive n h twoStep origin t => Sys2Proof.Machine.execSyncReceive n h twoStep origin t s
  | .followUpReceive n h origin => Sys2Proof.Machine.execFollowUpReceive n h origin s
  | .delayReqReceive n h t => Sys2Proof.Machine.execDelayReqReceive n h t s
  | .delayRespReceive n h recv reqId reqPort => Sys2Proof.Machine.execDelayRespReceive n h recv reqId reqPort s
  | .announceReceive n m => Sys2Proof.Machine.execAnnounceReceive n m s
  | .signalingReceive n l => Sys2Proof.Machine.execSignalingReceive n l s
  | .exchangeTimeout n seq dreq => Sys2Proof.Machine.execExchangeTimeout n seq dreq s
  | .announceReceiptTimeout n => Sys2Proof.Machine.execAnnounceReceiptTimeout n s
  | .sessionTimeout n => Sys2Proof.Machine.execSessionTimeout n s
  | .grantRenew n type => Sys2Proof.Machine.execGrantRenew n type s
  | .grantRetry n type => Sys2Proof.Machine.execGrantRetry n type s
  | .grantExpiry n => Sys2Proof.Machine.execGrantExpiry n s
  | .syncSend n t => Sys2Proof.Machine.execSyncSend n t s
  | .announceSend n => Sys2Proof.Machine.execAnnounceSend n s
  | .delayReqSend n t => Sys2Proof.Machine.execDelayReqSend n t s
  | .contextExpiry n seq dreq => Sys2Proof.Machine.execContextExpiry n seq dreq s
  | .missingExchange g => Sys2Proof.Machine.execMissingExchange g s
  | .gmholdExpiry g => Sys2Proof.Machine.execGmholdExpiry g s
  | .wordSyncGain k => Sys2Proof.Machine.execWordSyncGain k s
  | .wordSyncLoss k => Sys2Proof.Machine.execWordSyncLoss k s
  | .cjlFrameSlot k => Sys2Proof.Machine.execCjlFrameSlot k s
  | .timeFrameReceive k frame => Sys2Proof.Machine.execTimeFrameReceive k frame s
  | .timeFrameTimeout k => Sys2Proof.Machine.execTimeFrameTimeout k s
  | .echoRequestSend k t => Sys2Proof.Machine.execEchoRequestSend k t s
  | .echoMarkerReceive k => Sys2Proof.Machine.execEchoMarkerReceive k s
  | .echoResponseInsert k t => Sys2Proof.Machine.execEchoResponseInsert k t s
  | .responseMarkerReceive k => Sys2Proof.Machine.execResponseMarkerReceive k s
  | .echoRspReceive k frame => Sys2Proof.Machine.execEchoRspReceive k frame s
  | .echoWaitTimeout k => Sys2Proof.Machine.execEchoWaitTimeout k s
  | .echoRetry k t => Sys2Proof.Machine.execEchoRetry k t s
  | .echoGiveUp k => Sys2Proof.Machine.execEchoGiveUp k s
  | .tlTimeout k => Sys2Proof.Machine.execTlTimeout k s
  | .floodReceive k frame => Sys2Proof.Machine.execFloodReceive k frame s
  | .cjlFloodTxWrite w => Sys2Proof.Machine.execCjlFloodTxWrite w s
  | .tenseFrameReceive k frame => Sys2Proof.Machine.execTenseFrameReceive k frame s
  | .identReceive k frame => Sys2Proof.Machine.execIdentReceive k frame s
  | .mailSendWrite k w => Sys2Proof.Machine.execMailSendWrite k w s
  | .mailReceive k frame => Sys2Proof.Machine.execMailReceive k frame s
  | .tnsInsert w dur => Sys2Proof.Machine.execTnsInsert w dur s
  | .tnsCancelWrite w => Sys2Proof.Machine.execTnsCancelWrite w s
  | .tenseFire k => Sys2Proof.Machine.execTenseFire k s
  | .evtPulseTrailing ix => Sys2Proof.Machine.execEvtPulseTrailing ix s
  | .headerReadDone bytes => Sys2Proof.Machine.execHeaderReadDone bytes s
  | .imageReadDone bytes => Sys2Proof.Machine.execImageReadDone bytes s
  | .imageVerifyDone => Sys2Proof.Machine.execImageVerifyDone s
  | .imageApplyDone => Sys2Proof.Machine.execImageApplyDone s
  | .swapBoundary => Sys2Proof.Machine.execSwapBoundary s
  | .gldStartFull m src flashSlot => Sys2Proof.Machine.execGldStartFull m src flashSlot s
  | .gldStartSwap m src flashSlot swapAt => Sys2Proof.Machine.execGldStartSwap m src flashSlot swapAt s
  | .gldAbort m => Sys2Proof.Machine.execGldAbort m s
  | .gldConfirmWrite w => Sys2Proof.Machine.execGldConfirmWrite w s
  | .arbAdvanceWrite w => Sys2Proof.Machine.execArbAdvanceWrite w s
  | .arbProgramDone => Sys2Proof.Machine.execArbProgramDone s
  | .keyProgWrite w => Sys2Proof.Machine.execKeyProgWrite w s
  | .keyRevokeWrite w => Sys2Proof.Machine.execKeyRevokeWrite w s
  | .spiWrite addr words cut => Sys2Proof.Machine.execSpiWrite addr words cut s
  | .spiWriteFixed addr words cut => Sys2Proof.Machine.execSpiWriteFixed addr words cut s
  | .spiRead addr n => Sys2Proof.Machine.execSpiRead addr n s
  | .spiReadFixed addr n => Sys2Proof.Machine.execSpiReadFixed addr n s
  | .spiReadLast => Sys2Proof.Machine.execSpiReadLast s
  | .spiStatus => Sys2Proof.Machine.execSpiStatus s
  | .spiUnknownCommand => Sys2Proof.Machine.execSpiUnknownCommand s
  | .i2cWrite dev bytes => Sys2Proof.Machine.execI2cWrite dev bytes s
  | .i2cRead dev abytes n => Sys2Proof.Machine.execI2cRead dev abytes n s
  | .pcieRequest q => Sys2Proof.Machine.execPcieRequest q s
  | .registerWrite addr w lost => Sys2Proof.Machine.execRegisterWrite addr w lost s
  | .lowWordLatchRead m addr => Sys2Proof.Machine.execLowWordLatchRead m addr s
  | .indAddrWrite b w => Sys2Proof.Machine.execIndAddrWrite b w s
  | .indDataRead m b => Sys2Proof.Machine.execIndDataRead m b s
  | .indDataWrite b w => Sys2Proof.Machine.execIndDataWrite b w s
  | .indirectComplete b => Sys2Proof.Machine.execIndirectComplete b s
  | .ringDoorbell w => Sys2Proof.Machine.execRingDoorbell w s
  | .ringEnableWrite r w => Sys2Proof.Machine.execRingEnableWrite r w s
  | .ringItemPost r port bytes => Sys2Proof.Machine.execRingItemPost r port bytes s
  | .hostItemComplete t => Sys2Proof.Machine.execHostItemComplete t s
  | .frameRxRelease tx e => Sys2Proof.Machine.execFrameRxRelease tx e s
  | .eoiWrite w => Sys2Proof.Machine.execEoiWrite w s
  | .gravityBucketAdvance src => Sys2Proof.Machine.execGravityBucketAdvance src s
  | .sevClearWrite b w => Sys2Proof.Machine.execSevClearWrite b w s
  | .captureClearWrite b w => Sys2Proof.Machine.execCaptureClearWrite b w s
  | .escClearWrite w => Sys2Proof.Machine.execEscClearWrite w s
  | .lineInversion b seen => Sys2Proof.Machine.execLineInversion b seen s
  | .lineFault b => Sys2Proof.Machine.execLineFault b s
  | .counterWrap k inc => Sys2Proof.Machine.execCounterWrap k inc s
  | .samplerCapture ix c => Sys2Proof.Machine.execSamplerCapture ix c s
  | .obsCounterWrite k hi inc w => Sys2Proof.Machine.execObsCounterWrite k hi inc w s
  | .obsThrWrite ix w => Sys2Proof.Machine.execObsThrWrite ix w s
  | .perstNRelease => Sys2Proof.Machine.execPerstNRelease s
  | .cjlTxPllLock lock => Sys2Proof.Machine.execCjlTxPllLock lock s
  | .echoReqReceive k frame => Sys2Proof.Machine.execEchoReqReceive k frame s

end Sys2Proof.Machine
end

