-- ==== Sys2Proof/Safety.lean ====
section
/-!
DEFINITION. What counts as a safe run, and the invariants of the state that the statements speak of.
-/
namespace Sys2Proof.Machine
open Sys2Proof

/-- The canonical form of a byte memory: addresses rise strictly and no listed byte is 0. -/
def Memory.wf (t : Tab Byte) : Bool := tabWf (fun _ => 0) t

/-- Every listed address lies below `n`. -/
def Memory.below (n : Nat) (t : Tab Byte) : Bool := t.all (fun e => decide (e.1 < n))

/-- The canonical form of a table of register fields: keys rise and no entry equals its field's reset value. -/
def Regs.wf (t : Tab Nat) : Bool := tabWf resetValue t

/-- The shared window and the configuration SRAM are in canonical form and within 1 MiB and 2 MiB (R44, R381). -/
def State.memoryOk (s : State) : Bool :=
  Memory.wf s.hif.window && Memory.below (2 ^ 20) s.hif.window && Memory.wf s.gld.sram && Memory.below (2 ^ 21) s.gld.sram

/-- The register stores and the two banks are in canonical form. -/
def State.regsOk (s : State) : Bool := Regs.wf s.regs && Regs.wf s.inForce && Regs.wf s.ind.regs && Regs.wf s.pend.regs

/-- The invariant of the state. -/
def State.Sound (s : State) : Prop := s.memoryOk = true ∧ s.regsOk = true

/-- One-time-programmable memory only grows (R56 – R58): no key slot is unprogrammed, given another hash or un-revoked, and
the anti-rollback count never falls. -/
def Otp.grows (a b : Otp) : Prop :=
  (∀ k, bitAt a.programmed k = true → bitAt b.programmed k = true ∧ tabGet 0 b.keyHash k = tabGet 0 a.keyHash k) ∧
  (∀ k, bitAt a.revoked k = true → bitAt b.revoked k = true) ∧ a.arb ≤ b.arb

/-- The register fields the fault units, the pin driver and the overflow bits of the observation counters set on their own
whenever a sticky bit is set or a counter wraps (R398, R407, R412, R420, R427). -/
def gravityKey (k : Nat) : Bool :=
  (decide (0xE00 ≤ keyAddr k % 0x10000) && decide (keyAddr k % 0x10000 < 0xF40)) || keyAddr k == 0x30000 || keyAddr k == 0x30008
    || (decide (0x40010 ≤ keyAddr k) && decide (keyAddr k ≤ 0x40018))

/-- An outcome that is a next state. -/
def goesOn (o : Host.Outcome State Fault Refusal) : Prop := ∃ t, o = .next t

/-- The command answers a next state of which `P` holds. -/
def Goes (c : Instr) (s : State) (P : State → Prop) : Prop := ∃ t, exec c s = .next t ∧ P t

/-- A host write that is made: the access is counted and reaches a register (R371, R425), the word is whole where it must be
(R375), the master may write every field it hits (R9, R378), no image locks the register (R65), and it is no misuse (R396). -/
def State.accepts (s : State) (w : HostWrite) (a : Nat) : Bool :=
  let s := s.begin.countAccess
  s.responds a && !s.locked a &&
  match findReg allRegs a with
  | none => false
  | some r =>
    let hit := r.fields.filter (fun d => d.acc != .ro && w.hits ⟨a, d.lo, d.len⟩)
    (w.full || !r.wholeWord) && !hit.isEmpty && (s.privileged w.m || hit.all (fun d => !d.priv)) &&
      !s.misuse (if isWonce a then s else s.writeFields w a hit) w a

/-- A host write that is made, and is misuse: a row of R396's table. -/
def State.misuses (s : State) (w : HostWrite) (a : Nat) : Bool :=
  let s := s.begin.countAccess
  s.responds a && !s.locked a && !isWonce a && (pairOf a).isNone &&
  match findReg allRegs a with
  | none => false
  | some r =>
    let hit := r.fields.filter (fun d => d.acc != .ro && w.hits ⟨a, d.lo, d.len⟩)
    let may := if s.privileged w.m then hit else hit.filter (fun d => !d.priv)
    (w.full || !r.wholeWord) && !may.isEmpty && s.misuse (s.writeFields w a may) w a

/-- What misuse leaves alone (R12): the one-time-programmable memory with the anti-rollback count, the image that runs, and who is
privileged; and the coarse count and the queue. -/
def State.bounded (s t : State) : Prop :=
  t.otp = s.otp ∧ t.cfg = s.cfg ∧ t.applied = s.applied ∧ (∀ m : Master, t.privileged m = s.privileged m) ∧ t.coarse = s.coarse ∧ t.pending = s.pending

/-- What a host write leaves in a field of access type RW (R8, R374): the lanes it enables. -/
def State.merged (s : State) (w : HostWrite) (f : Fld) : Nat := mergeField w.be w.v f.lo f.len (s.get f) % 2 ^ f.len

/-- A read is served: something responds at the register (R371), and the master may see some of it (R378). -/
def State.serves (s : State) (m : Master) (a : Nat) : Bool :=
  let s := s.begin.countAccess
  s.responds a && match findReg allRegs a with
    | none => false
    | some r => s.readMask m a r != 0

/-- What a read of a register with no latching answers: the fields the master may read. -/
def State.shown (s : State) (m : Master) (a : Nat) : Nat :=
  let s := s.begin.countAccess
  s.liveWord m a &&& (match findReg allRegs a with | none => 0 | some r => s.readMask m a r)

/-- A register whose read has no effect and answers what stands in it: no latched pair or group, no indirect data, no queue (R376, R377). -/
def plainReg (a : Nat) : Bool :=
  a % 4 == 0 && (pairOf a).isNone && !inGroup a && a != 0xC0008 && a != 0xC000C && !isLoWord (a - 4) && groupLen a == 0 && !isLoWord a
    && (instOf a 0xC100C 0x40 16).isNone && !(decide (0x41000 ≤ a) && decide (a < 0x41300))

/-- A register whose write only stores its fields: no command register, ring or pair, and none whose value other state follows at once. -/
def quietReg (a : Nat) : Bool :=
  a % 4 == 0 && (pairOf a).isNone && !isWonce a && a % 0x10000 != 0xE08 && (instOf a 0x10404 0x10 8).isNone
    && !([0x20, 0x2C, 0x30, 0x10188, 0x10300, 0x20000, 0x20018, 0x2001C, 0x20080, 0x30008, 0xF0014].contains a) && !(decide (0x41000 ≤ a) && decide (a < 0x41300))
    && ([0, 1, 2, 3, 4, 5, 6, 13, 14, 15].contains (a / 0x10000) || (a / 0x10000 == 12 && (instOf a 0xC0148 0x80 4).isNone && (instOf a 0xC0158 0x80 4).isNone && (instOf a 0xC0800 0x20 16).isNone))

/-- The master's answer status (R372), as the frame begins. -/
def State.spiStatusByte (s : State) : Nat := 1 + 2 * ofBool (s.privileged .spi) + 4 * s.get HIF_STICKY_ACC_ERR

/-- The entry a host insert presents (R347, R350): the staged words, the node's identity, the next `LSEQ`, and for a domain entry
the primary scale. -/
def State.staged (s : State) : List Nat :=
  let q := s.get TNS_SEQ_LSEQ
  let w := tnsWords ((List.range 7).map (fun i => s.get (TNS_STAGE_WORD i))) (s.get (TNS_STAGE_WORD 6) % 65536) (s.get CJL_NODE_NODE_ID) (q + 65536 * q)
  if tnsScope w = 1 then tnsOnScale w s.primary else w

/-- What the insert asks beside its words. -/
def askOf (w : List Nat) : TnsAsk := ⟨if tnsScope w = 1 then tnsDepth w else 0, false⟩

/-- The command by which a PTP message comes in on session `n` (R300 – R302, R305). -/
def messageCommand (n : Fin 512) : PtpIn → Instr
  | .sync h two o x => .syncReceive n h two o x
  | .followUp h o => .followUpReceive n h o
  | .delayReq h x => .delayReqReceive n h x
  | .delayResp h r q w => .delayRespReceive n h r q w
  | .announce m => .announceReceive n m
  | .signaling l => .signalingReceive n l

/-- A link frame that is not dropped (R321, R322): 64 bytes, a good CRC, version 1, a type from 1 to 7. -/
def frameGood (f : List Byte) : Bool :=
  f.length == 64 && crc32 (f.take 60) == frameLe f 60 4 && frameLe f 0 1 / 16 == 1 && decide (1 ≤ frameLe f 0 1 % 16) && decide (frameLe f 0 1 % 16 ≤ 7)

/-- A good frame of a type. -/
def frameOf (f : List Byte) (type : Nat) : Bool := frameGood f && frameLe f 0 1 % 16 == type

/-- The commands by which a frame comes in on link `k`, with the frame types they are for. -/
def frameCommands (k : Fin 8) (f : List Byte) : List (Nat × Instr) :=
  [(1, .timeFrameReceive k f), (2, .echoReqReceive k f), (3, .echoRspReceive k f), (4, .tenseFrameReceive k f), (5, .floodReceive k f),
   (6, .identReceive k f), (7, .mailReceive k f)]

/-! ## Frames -/

/-- The parts of the device's state beside its register fields: the shared window, the configuration SRAM, the OTP, the
loader, the running image, the values in force and the copies and uses of VOTE and WONCE fields, time, SYS, the items on
the rings, what the masters have latched, PCIe, resets and line faults, the observation counters but those of the fault
units, and each block's own. -/
inductive Part where
  | window | sram | otp | loader | image | force | time | sys | rings | access | pcie | resets | counters | free
  | refs | lanes | bankQ | arrivals | slots | channels | cask | syn | eth | ptp | cjl | tns | scales | txq | evtFrom | schedule
  deriving DecidableEq, Repr

/-- A part is as it was: the stores byte by byte, the counters one by one. -/
def Part.kept (s t : State) : Part → Prop
  | .window => ∀ a, tabGet 0 t.hif.window a = tabGet 0 s.hif.window a
  | .sram => ∀ a, tabGet 0 t.gld.sram a = tabGet 0 s.gld.sram a
  | .otp => t.otp = s.otp
  | .loader => { t.gld with sram := [] } = { s.gld with sram := [] }
  | .image => t.cfg = s.cfg ∧ t.applied = s.applied
  | .force => t.inForce = s.inForce ∧ t.upset = s.upset ∧ t.wonce = s.wonce
  | .time => t.coarse = s.coarse ∧ t.tick = s.tick ∧ t.target = s.target ∧ t.bound = s.bound ∧ t.stepped = s.stepped ∧ t.realigned = s.realigned
  | .sys => t.sys = s.sys
  | .rings => t.hif.item = s.hif.item ∧ t.hif.running = s.hif.running ∧ t.hif.held = s.hif.held
  | .access => t.hif.shadow = s.hif.shadow ∧ t.hif.lastRead = s.hif.lastRead ∧ t.hif.indLast = s.hif.indLast ∧ t.hif.indBusy = s.hif.indBusy
      ∧ t.hif.indBy = s.hif.indBy ∧ t.hif.stageBy = s.hif.stageBy
  | .pcie => t.hif.vecMask = s.hif.vecMask ∧ t.hif.perst = s.hif.perst
  | .resets => t.flt.hostReq = s.flt.hostReq ∧ t.flt.rstLeft = s.flt.rstLeft ∧ t.flt.shdLeft = s.flt.shdLeft ∧ t.flt.lineBad = s.flt.lineBad
      ∧ t.flt.missInv = s.flt.missInv ∧ t.flt.kept = s.flt.kept
  | .counters => ∀ k, k < 80 → tabGet 0 t.obs.cnt k = tabGet 0 s.obs.cnt k
  | .free => t.free = s.free
  | .refs => t.refs = s.refs
  | .lanes => t.lanes = s.lanes
  | .bankQ => t.bankQ = s.bankQ ∧ t.bankTurn = s.bankTurn
  | .arrivals => t.evtIn = s.evtIn ∧ t.echoIn = s.echoIn
  | .slots => t.ind.qul = s.ind.qul ∧ t.pend.qul = s.pend.qul
  | .channels => t.ind.chan = s.ind.chan ∧ t.pend.chan = s.pend.chan ∧ t.pend.ts = s.pend.ts ∧ t.pend.evs = s.pend.evs
  | .cask => t.cask = s.cask ∧ t.csk = s.csk
  | .syn => t.syn = s.syn
  | .eth => t.eth = s.eth
  | .ptp => t.ptp = s.ptp
  | .cjl => t.cjl = s.cjl
  | .tns => t.tns = s.tns
  | .scales => t.scales = s.scales
  | .txq => t.txq = s.txq ∧ t.txHeld = s.txHeld
  | .evtFrom => t.evtFrom = s.evtFrom
  | .schedule => t.deferd = s.deferd ∧ t.schedEnd = s.schedEnd ∧ t.subjSlots = s.subjSlots

/-- The keys of some fields. -/
def among (l : List Fld) (k : Nat) : Bool := l.any (fun f => f.key == k)

/-- The keys of some blocks' fields. -/
def inBlocks (l : List Nat) (k : Nat) : Bool := l.contains (keyBlock k)

/-- The keys of instance `n` of a repeated group of registers. -/
def inst (base stride n k : Nat) : Bool := decide (base + stride * n ≤ keyAddr k) && decide (keyAddr k < base + stride * (n + 1))

/-- The jobs of the loop engine run: an image is applied, and LPE is not in reset (R183, R193). -/
def State.jobsRun (s : State) : Bool := s.applied && !s.unitInRst 9

/-- The fields of `QUL_CFG_n`. -/
def qulCfg (n : Nat) : List Fld :=
  [QUL_CFG_SOAK n, QUL_CFG_BASE n, QUL_CFG_CHAN n, QUL_CFG_QL_EN n, QUL_CFG_QL_MAX n, QUL_CFG_INT_EN n, QUL_CFG_FORCE n, QUL_CFG_HOST_DQ n]

/-- The jobs of the loop engine that act on no register write. -/
def loopJob : Instr → Bool
  | .qualifyJob _ | .steepTimerExpiry _ | .srecExpiry _ | .lossTimeout _ | .driftIntJob _ | .adevJob _ | .selectJob _ | .transitionComplete _
  | .absorbComplete _ | .fadeComplete _ _ | .filterJob _ | .lockTimerExpiry _ | .holdoverPreviewJob _ | .tsRateUpdateJob _ | .packetServoJob _
  | .caskJob _ | .windowExportJob _ | .counterSnapshotJob _ | .sampleRecordJob _ => true
  | _ => false

/-- Nothing else: the queue, every register field outside `moves` in both banks (the fields of `gravityKey`, which follow
the sticky bits on their own, apart), and every part not listed are as they were. -/
def Frame (s t : State) (moves : Nat → Bool) (parts : List Part) : Prop :=
  t.pending = s.pending ∧
  (∀ g : Fld, gravityKey g.key = false → moves g.key = false → t.get g = s.get g ∧ t.pget g = s.pget g) ∧
  ∀ p, p ∉ parts → p.kept s t

end Sys2Proof.Machine
end

