-- ==== Sys2Proof/Certificates/Slice0/Obligations.lean ====
section
/-! DEFINITION. The statements for the provers, one definition each. -/
open Sys2Proof Sys2Proof.Machine

/-! ## The queue and the step -/

/-- A step takes the command at the front of the queue and runs it with the rest of the queue. -/
def Obligations.StepRunsFrontCommand : Prop :=
  ∀ (s : State) (c : Instr) (rest : List Instr), step { s with pending := c :: rest } = exec c { s with pending := rest }

/-- With no command waiting a step lets one edge of `TCK` pass, 2 ns, while the derived clocks run, and stops at the edge of the next tick boundary, with
the counts of the HCLK cycles gone by; while the clocks stand only the cask's time runs. The model's own choice (log entry 2). -/
def Obligations.EmptyQueueIdles : Prop :=
  ∀ s : State, s.pending = [] →
    (s.sys.clocks = false → step s = .next { s with csk := { s.csk with base := s.csk.base + 4 } }) ∧
    (s.sys.clocks = true → ∃ t, step s = .next t ∧ t.coarse = min (s.coarse + 4) s.nextBoundary ∧
      t = { s with coarse := t.coarse, regs := t.regs, obs := t.obs } ∧
      t.get TIM_BANKFULL_CNT_CYCLES = (if s.bankQ.length < 1024 then s.get TIM_BANKFULL_CNT_CYCLES
        else min (s.get TIM_BANKFULL_CNT_CYCLES + (t.coarse / 8 - s.coarse / 8)) TIM_BANKFULL_CNT_CYCLES.max) ∧
      (∀ g : Fld, among [TIM_BANKFULL_CNT_CYCLES] g.key = false → t.get g = s.get g) ∧
      ∀ k, k < 88 → tabGet 0 t.obs.cnt k = tabGet 0 s.obs.cnt k)

/-- In every state every command goes on to a next state, and it touches none of the commands waiting. -/
def Obligations.CommandsKeepQueue : Prop :=
  ∀ (c : Instr) (s : State), Goes c s (fun t => t.pending = s.pending)

/-- Reset meets the invariant. -/
def Obligations.ResetSound : Prop :=
  State.reset.Sound

/-- Every step keeps the canonical forms: the register stores, the shared window within 1 MiB and the configuration SRAM within 2 MiB. -/
def Obligations.StepsKeepSound : Prop :=
  ∀ s t : State, s.Sound → step s = .next t → t.Sound

/-- No step un-programs a key slot, changes a programmed hash, un-revokes a slot or lowers the anti-rollback count. -/
def Obligations.StepsGrowOtp : Prop :=
  ∀ s t : State, step s = .next t → s.otp.grows t.otp

/-- A write-once field that has taken its one write stays used up through every command but power-on and `RESET_N`, which re-arm every one; a partial
write that is dropped uses none up. -/
def Obligations.WonceKept : Prop :=
  (∀ (c : Instr) (s t : State), c ≠ .powerOnReset → c ≠ .resetNAssert → exec c s = .next t → ∀ k ∈ s.wonce, k ∈ t.wonce) ∧
  ∀ s : State,
    Goes .powerOnReset s (fun t => t.wonce = []) ∧
    (s.sys.por = false → s.sys.rstN = false → Goes .resetNAssert s (fun t => t.wonce = [])) ∧
    ∀ (a : Word) (w : HostWrite) (r : RegD), a.toNat % 4 = 0 → findReg allRegs a.toNat = some r → r.wholeWord = true → w.full = false →
      Goes (.registerWrite a w false) s (fun t => t.wonce = s.wonce)

/-! ## Resets, clocks, supplies -/

/-- Power-on reset leaves everything but the OTP, the pins and the supplies as reset has it, and holds the device. `RESET_N` held low leaves the OTP, the
cask's history and `TRIES`, which counts an unconfirmed boot; `RST_CAUSE` reads `RESET_N`; every other field is as reset has it. While power-on reset
holds, the pin is only noted. The internal reset ends at the later of the end of power-on reset and the rise of `RESET_N`: then, and only then, the
straps are read. The model's own readings in it: log entries 5, 16, 51. -/
def Obligations.InternalReset : Prop :=
  (∀ s : State, Goes .powerOnReset s (fun t =>
    t.sys.por = true ∧ t.sys.pdUp = State.reset.sys.pdUp ∧ t.sys.clocks = false ∧ t.pending = s.pending ∧ t.otp = s.otp ∧
    (∀ g : Fld, t.get g = resetValue g.key) ∧
    ∀ p, p ∉ [Part.otp, .sys, .free, .pcie] → p.kept State.reset t)) ∧
  (∀ s : State,
    (s.sys.por = false → s.sys.rstN = false → Goes .resetNAssert s (fun t =>
      t.sys.rstN = true ∧ t.sys.clocks = false ∧ t.pending = s.pending ∧ t.otp = s.otp ∧
      t.get SYS_STRAP_RST_CAUSE = 1 ∧
      t.get GLD_BOOT_TRIES = (if s.bit GLD_STAT_IMG_VALID && s.gld.bootRun && !s.bit GLD_BOOT_CONFIRM
        then min 3 (s.get GLD_BOOT_TRIES + 1) else s.get GLD_BOOT_TRIES) % 4 ∧
      (∀ g : Fld, caskField g.key = true → t.get g = s.get g) ∧
      (∀ g : Fld, gravityKey g.key = false → caskField g.key = false → among [SYS_STRAP_RST_CAUSE, GLD_BOOT_TRIES] g.key = false →
        t.get g = resetValue g.key) ∧
      ∀ p, p ∉ [Part.otp, .sys, .free, .pcie, .cask, .image, .force] → p.kept State.reset t)) ∧
    (s.sys.por = true → Goes .resetNAssert s (fun t => t.sys = { s.sys with rstN := true } ∧ Frame s t (fun _ => false) [.sys]))) ∧
  (∀ (s : State) (b : Fin 4) (spi test : Bool),
    (s.sys.por = true → s.sys.rstN = false → Goes (.powerOnResetEnd b spi test) s (fun t =>
      t.sys = { s.sys with por := false } ∧ t.get SYS_STRAP_BOOT_SEL = b.val ∧ t.get GLD_BOOT_BOOT_SEL = b.val ∧
      t.get SYS_STRAP_SPI_SEC = ofBool spi ∧ t.get SYS_STRAP_TEST_MODE = ofBool test ∧
      Frame s t (among [SYS_STRAP_BOOT_SEL, GLD_BOOT_BOOT_SEL, SYS_STRAP_SPI_SEC, SYS_STRAP_TEST_MODE, SYS_TEMP_TALARM, SYS_STICKY_TEMP_S]) [.sys])) ∧
    (s.sys.por = false → s.sys.rstN = true → Goes (.resetNRelease b spi test) s (fun t =>
      t.sys = { s.sys with rstN := false } ∧ t.get SYS_STRAP_BOOT_SEL = b.val ∧ t.get GLD_BOOT_BOOT_SEL = b.val ∧
      t.get SYS_STRAP_SPI_SEC = ofBool spi ∧ t.get SYS_STRAP_TEST_MODE = ofBool test ∧
      Frame s t (among [SYS_STRAP_BOOT_SEL, GLD_BOOT_BOOT_SEL, SYS_STRAP_SPI_SEC, SYS_STRAP_TEST_MODE, SYS_TEMP_TALARM, SYS_STICKY_TEMP_S]) [.sys])) ∧
    (s.sys.por = true → s.sys.rstN = true →
      Goes (.powerOnResetEnd b spi test) s (fun t => t.sys = { s.sys with por := false } ∧ Frame s t (fun _ => false) [.sys]) ∧
      Goes (.resetNRelease b spi test) s (fun t => t.sys = { s.sys with rstN := false } ∧ Frame s t (fun _ => false) [.sys])))

/-- `PERST_N` resets the endpoint and every HIF field, drops the items on the rings, and, with the seconds then open in the casks made invalid, has no
other effect; its release lets the endpoint go. -/
def Obligations.PerstResetsHif : Prop :=
  ∀ s : State,
    Goes .perstNAssert s (fun t =>
      t.hif.perst = true ∧ t.hif.item = [] ∧ t.hif.running = [] ∧ t.hif.held = [] ∧ t.hif.vecMask = State.reset.hif.vecMask ∧ t.hif.intWant = false ∧
      (∀ c : Fin 12, t.caskOf c.val = (s.caskOf c.val).resetOpen) ∧
      (∀ g : Fld, hifField g.key = true → t.get g = resetValue g.key) ∧
      Frame s t hifField [.pcie, .rings, .access, .force, .cask]) ∧
    Goes .perstNRelease s (fun t => t.hif.perst = false ∧ t.hif.vecMask = s.hif.vecMask ∧ Frame s t (fun _ => false) [.pcie])

/-- The end of the measurement chooses the code whose frequency lies within ±1.5 %, and with none sets `DET_FAIL`. A write of `OSC_SEL` starts the MPLL on
its code once, while `DET_FAIL` reads 1; a second one is a violation; at other times it is ignored. The first lock of the MPLL starts the coarse
counter, the tick and the four time scales at zero and ends the boot clock; the loader begins the boot its strap and `TRIES` name. A lock that does
not come within 2 ms leaves the boot clock. The loss of `OSCIN` clears `OSC_OK` and `MPLL_LOCK`, counts and reports both; its return sets both again.
A reading of the die sensor shows in `T_DIE` and raises the alarm at `T_HI`, which clears 2 °C below it. The model's own readings in it: log entries
15, 51. -/
def Obligations.OscillatorAndTemperature : Prop :=
  (∀ (s : State) (hz : Nat), s.busUp = true → s.sys.clocks = false → s.sys.locking = false → s.bit SYS_OSC_DET_FAIL = false →
    (∀ i : Fin 11, 985 * hz ≤ 1000 * oscCodes.getD i.val 0 → 1000 * oscCodes.getD i.val 0 ≤ 1015 * hz →
      Goes (.oscinDetectionDone hz) s (fun t =>
        t.get SYS_OSC_OSC_CODE = i.val ∧ t.get SYS_OSC_OSC_OK = 1 ∧ t.sys = { s.sys with locking := true } ∧
        Frame s t (among [SYS_OSC_OSC_CODE, SYS_OSC_OSC_OK]) [.sys])) ∧
    ((∀ f ∈ oscCodes, ¬ (985 * hz ≤ 1000 * f ∧ 1000 * f ≤ 1015 * hz)) →
      Goes (.oscinDetectionDone hz) s (fun t => t.get SYS_OSC_DET_FAIL = 1 ∧ Frame s t (among [SYS_OSC_DET_FAIL]) []))) ∧
  (∀ (s : State) (w : HostWrite), s.accepts w 0x18 = true →
    (s.bit SYS_OSC_DET_FAIL = false → Goes (.oscSelWrite w) s (fun t => Frame s t (fun _ => false) [.counters])) ∧
    (s.bit SYS_OSC_DET_FAIL = true → s.wonce.contains SYS_OSC_SEL_OSC_SEL.key = false → Goes (.oscSelWrite w) s (fun t =>
      t.get SYS_OSC_SEL_OSC_SEL = w.v.toNat % 16 ∧ t.get SYS_OSC_OSC_CODE = w.v.toNat % 16 ∧ t.sys = { s.sys with locking := true } ∧
      t.wonce = s.wonce ++ [SYS_OSC_SEL_OSC_SEL.key] ∧ Frame s t (among [SYS_OSC_SEL_OSC_SEL, SYS_OSC_OSC_CODE]) [.sys, .force, .counters])) ∧
    (s.bit SYS_OSC_DET_FAIL = true → s.wonce.contains SYS_OSC_SEL_OSC_SEL.key = true → Goes (.oscSelWrite w) s (fun t =>
      t.get SYS_STICKY_WONCE_VIOL = 1 ∧ t.get GLD_VIOL_ADDR_ADDR = 0x18 ∧ t.get GLD_VIOL_CNT_COUNT = min (s.get GLD_VIOL_CNT_COUNT + 1) GLD_VIOL_CNT_COUNT.max ∧
      Frame s t (among [SYS_STICKY_WONCE_VIOL, GLD_VIOL_ADDR_ADDR, GLD_VIOL_CNT_COUNT]) [.counters]))) ∧
  (∀ s : State, s.busUp = true → s.sys.clocks = false →
    (s.sys.locking = true → Goes .mpllLock s (fun t =>
      t.sys = { s.sys with clocks := true, locking := false } ∧ t.coarse = 0 ∧ t.tick = 0 ∧ t.bound = 0 ∧ t.target = s.period ∧
      (∀ k, k < 4 → t.scale k = Scale.started) ∧
      t.get SYS_OSC_MPLL_LOCK = 1 ∧ t.get SYS_OSC_OSC_OK = 1 ∧ t.get SYS_OSC_BOOTCLK = 0 ∧
      (s.get GLD_BOOT_BOOT_SEL = 2 → t.gld = s.gld ∧ t.get GLD_STAT_LOADER = s.get GLD_STAT_LOADER) ∧
      (s.get GLD_BOOT_BOOT_SEL ≠ 2 → t.gld.op = some .boot ∧ t.gld.fromFlash = true ∧ t.get GLD_STAT_LOADER = 1) ∧
      (s.get GLD_BOOT_BOOT_SEL < 2 → s.get GLD_BOOT_TRIES ≠ 3 → t.gld.slotB = (s.get GLD_BOOT_BOOT_SEL == 1) ∧ t.gld.alternate = false) ∧
      (s.get GLD_BOOT_BOOT_SEL < 2 → s.get GLD_BOOT_TRIES = 3 →
        t.gld.slotB = (s.get GLD_BOOT_BOOT_SEL == 0) ∧ t.gld.alternate = true ∧ t.get GLD_STICKY_FELL_BACK = 1) ∧
      Frame s t (among [SYS_OSC_MPLL_LOCK, SYS_OSC_OSC_OK, SYS_OSC_BOOTCLK, GLD_STAT_LOADER, GLD_STICKY_FELL_BACK]) [.sys, .time, .scales, .loader])) ∧
    Goes .mpllLockTimeout s (fun t => t.sys = { s.sys with locking := false } ∧ Frame s t (fun _ => false) [.sys])) ∧
  (∀ s : State, s.busUp = true → s.sys.clocks = true →
    (s.bit SYS_OSC_OSC_OK = true → s.bit SYS_OSC_MPLL_LOCK = true → Goes .oscinLoss s (fun t =>
      t.get SYS_OSC_OSC_OK = 0 ∧ t.get SYS_OSC_MPLL_LOCK = 0 ∧ t.get SYS_STICKY_OSC_S = 1 ∧ t.get SYS_STICKY_MPLL_S = 1 ∧
      t.get SYS_OSC_CNT_OSC_LOSS = min (s.get SYS_OSC_CNT_OSC_LOSS + 1) SYS_OSC_CNT_OSC_LOSS.max ∧
      t.get SYS_OSC_CNT_MPLL_UNLOCK = min (s.get SYS_OSC_CNT_MPLL_UNLOCK + 1) SYS_OSC_CNT_MPLL_UNLOCK.max ∧
      Frame s t (among [SYS_OSC_OSC_OK, SYS_OSC_MPLL_LOCK, SYS_STICKY_OSC_S, SYS_STICKY_MPLL_S, SYS_OSC_CNT_OSC_LOSS, SYS_OSC_CNT_MPLL_UNLOCK]) [])) ∧
    (s.bit SYS_OSC_OSC_OK = false → Goes .oscinRestore s (fun t =>
      t.get SYS_OSC_OSC_OK = 1 ∧ t.get SYS_OSC_MPLL_LOCK = 1 ∧ Frame s t (among [SYS_OSC_OSC_OK, SYS_OSC_MPLL_LOCK]) []))) ∧
  (∀ (s : State) (x : BitVec 16), s.busUp = true → Goes (.dieTempRead x) s (fun t =>
    t.get SYS_TEMP_T_DIE = x.toNat ∧
    (s.bit SYS_TEMP_TALARM = false → t.bit SYS_TEMP_TALARM = decide (s.getS SYS_TEMP_T_HI * 128 ≤ x.toInt)) ∧
    (s.bit SYS_TEMP_TALARM = true → t.bit SYS_TEMP_TALARM = decide (s.getS SYS_TEMP_T_HI * 128 - 256 < x.toInt)) ∧
    (s.bit SYS_TEMP_TALARM = false → s.getS SYS_TEMP_T_HI * 128 ≤ x.toInt → t.get SYS_STICKY_TEMP_S = 1) ∧
    Frame s t (among [SYS_TEMP_T_DIE, SYS_TEMP_TALARM, SYS_STICKY_TEMP_S]) []))

/-- A write of `SYS_BRST` asks for the reset of each unit it names, counts each and sets `BRST_S`. A requested reset starts and holds its unit for three
ticks more (one of ETH takes the activity of its ports' SyncE slots with it); a unit whose three ticks have passed is released with its sticky bit set
and stays in reset-shadow for 64 ticks; at the end of the 64th it leaves the shadow. The model's own readings in it: log entry 51. -/
def Obligations.ResetsOfBlocks : Prop :=
  (∀ (s : State) (w : HostWrite), s.accepts w 0x30 = true → Goes (.sysBlockResetWrite w) s (fun t =>
    t.flt.hostReq = s.flt.hostReq ++ brstUnits w.v.toNat ∧
    t.get SYS_BRST_CNT_BRST_CNT = min (s.get SYS_BRST_CNT_BRST_CNT + (brstUnits w.v.toNat).length) SYS_BRST_CNT_BRST_CNT.max ∧
    (brstUnits w.v.toNat ≠ [] → t.get SYS_STICKY_BRST_S = 1) ∧
    Frame s t (among [SYS_BRST_CNT_BRST_CNT, SYS_STICKY_BRST_S]) [.resets, .counters])) ∧
  (∀ (s : State) (u : Fin 24), s.busUp = true →
    (1 ≤ u.val → s.flt.hostReq = [u.val] → s.flt.rstReq = [] → s.gld.op = none → Goes (.blockResetStart u) s (fun t =>
      tabGet 0 t.flt.rstLeft u.val = 4 ∧ t.unitInShadow u.val = true ∧ t.flt.hostReq = [] ∧
      Frame s t (fun k => keyBlock k == unitBlock u.val || keyBlock k == 1 || (u.val == 12 && keyBlock k == 16)
          || (unitBlock u.val == 13 && inBlocks [5, 7] k))
        ([.resets, .force, .counters, .rings, .access, .refs, .lanes, .slots, .channels, .cask, .scales, .evtFrom, .eth, .ptp, .cjl, .tns]
          ++ if u.val = 12 then [.window] else []))) ∧
    (tabGet 0 s.flt.rstLeft u.val = 1 → s.unitHeld u.val = false → Goes (.blockResetRelease u) s (fun t =>
      tabGet 0 t.flt.rstLeft u.val = 0 ∧ tabGet 0 t.flt.shdLeft u.val = 65 ∧ (∀ f, rstSticky u.val = some f → t.bit f = true) ∧
      Frame s t (fun k => keyBlock k == unitBlock u.val) [.resets, .refs, .channels, .scales, .ptp, .evtFrom])) ∧
    (tabGet 0 s.flt.rstLeft u.val = 0 → tabGet 0 s.flt.shdLeft u.val = 1 → Goes (.resetShadowEnd u) s (fun t =>
      t.unitInShadow u.val = false ∧ Frame s t (fun _ => false) [.resets])))

/-- A write of `SYS_PD_EN` ramps each domain it switches on, and takes the power of each it switches off at once. The end of a ramp clears `RAMP`; the
domain is then released, its unit leaving reset with a shadow of 64 ticks. An output bank's supply keeps its latched class until it falls below 1.62
V; `SUP_PGOOD` says whether it lies in the class's band, and its fall sets `SUP_S`. A supply that stays in a band gives a bank with no class that
band's. The model's own readings in it: log entry 33. -/
def Obligations.DomainsAndSupplies : Prop :=
  (∀ (s : State) (w : HostWrite), s.accepts w 0x20 = true →
    Goes (.pdEnWrite w) s (fun t =>
      t.get SYS_PD_EN_PD_EN = s.merged w SYS_PD_EN_PD_EN ∧
      (∀ d : Fin 16,
        (bitAt (s.get SYS_PD_EN_PD_EN) d.val = false → bitAt (t.get SYS_PD_EN_PD_EN) d.val = true →
          bitAt (t.get SYS_PD_STAT_RAMP) d.val = true ∧ bitAt t.sys.pdUp d.val = bitAt s.sys.pdUp d.val ∧
          ∀ u, domainUnit d.val = some u → t.unitInRst u = true) ∧
        (bitAt (s.get SYS_PD_EN_PD_EN) d.val = true → bitAt (t.get SYS_PD_EN_PD_EN) d.val = false →
          bitAt (t.get SYS_PD_STAT_RAMP) d.val = false ∧ bitAt t.sys.pdUp d.val = false ∧ bitAt t.sys.pdWait d.val = false ∧
          (s.domainUp d.val = true → t.bit SYS_STICKY_PD_S = true)) ∧
        (bitAt (s.get SYS_PD_EN_PD_EN) d.val = bitAt (t.get SYS_PD_EN_PD_EN) d.val →
          bitAt (t.get SYS_PD_STAT_RAMP) d.val = bitAt (s.get SYS_PD_STAT_RAMP) d.val ∧ bitAt t.sys.pdUp d.val = bitAt s.sys.pdUp d.val ∧
          bitAt t.sys.pdWait d.val = bitAt s.sys.pdWait d.val)) ∧
      Frame s t (fun k => inBlocks [0, 5, 6, 7, 11, 13, 15] k)
        [.sys, .counters, .resets, .force, .lanes, .slots, .cask, .syn, .eth, .cjl])) ∧
  (∀ (s : State) (d : Fin 16), s.busUp = true →
    (bitAt (s.get SYS_PD_STAT_RAMP) d.val = true → Goes (.domainRampDone d) s (fun t =>
      bitAt (t.get SYS_PD_STAT_RAMP) d.val = false ∧ t.sys = { s.sys with pdWait := setBitAt s.sys.pdWait d.val } ∧
      Frame s t (among [SYS_PD_STAT_RAMP]) [.sys])) ∧
    (bitAt s.sys.pdWait d.val = true → Goes (.domainRelease d) s (fun t =>
      t.sys = { s.sys with pdWait := clearBitAt s.sys.pdWait d.val, pdUp := setBitAt s.sys.pdUp d.val } ∧
      (∀ u, domainUnit d.val = some u → s.unitInRst u = true → t.unitInRst u = false ∧ tabGet 0 t.flt.shdLeft u = 65) ∧
      Frame s t (fun k => among [SYS_STICKY_PD_S] k || (decide (d.val < 7) && keyBlock k == 11) || (decide (7 ≤ d.val) && inBlocks [6, 13, 15] k))
        (if d.val < 7 then [.sys, .syn, .counters] else [.sys, .resets, .cjl])))) ∧
  (∀ (s : State) (b : Fin 3) (mv : Nat), s.busUp = true →
    Goes (.outBankSupplyChange b mv) s (fun t =>
      tabGet 0 t.sys.bankMv b.val = mv ∧
      classOf (t.get SYS_SUP_STAT_VDDO_CLASS) b.val = (if mv < 1620 then 3 else classOf (s.get SYS_SUP_STAT_VDDO_CLASS) b.val) ∧
      bitAt (t.get SYS_SUP_STAT_SUP_PGOOD) b.val = supplyGood mv (classOf (s.get SYS_SUP_STAT_VDDO_CLASS) b.val) ∧
      (bitAt (s.get SYS_SUP_STAT_SUP_PGOOD) b.val = true → bitAt (t.get SYS_SUP_STAT_SUP_PGOOD) b.val = false → t.bit SYS_STICKY_SUP_S = true) ∧
      Frame s t (fun k => among [SYS_SUP_STAT_VDDO_CLASS, SYS_SUP_STAT_SUP_PGOOD, SYS_STICKY_SUP_S, SYS_STICKY_PD_S] k || keyBlock k == 11) [.sys, .syn, .counters]) ∧
    (classOf (s.get SYS_SUP_STAT_VDDO_CLASS) b.val = 3 → supplyClass (tabGet 0 s.sys.bankMv b.val) ≠ 3 → Goes (.outBankClassLatch b) s (fun t =>
      classOf (t.get SYS_SUP_STAT_VDDO_CLASS) b.val = supplyClass (tabGet 0 s.sys.bankMv b.val) ∧
      bitAt (t.get SYS_SUP_STAT_SUP_PGOOD) b.val = true ∧
      Frame s t (fun k => among [SYS_SUP_STAT_VDDO_CLASS, SYS_SUP_STAT_SUP_PGOOD, SYS_STICKY_PD_S] k || keyBlock k == 11) [.syn, .counters])))

/-! ## Reference inputs and measurement -/

/-- A REFIN bank's supply keeps its latched class until it falls below 1.62 V; `PGOOD` says whether it lies in the class's band, and its fall sets
`PFAIL_S`. A supply that stays in a band gives a bank with no class that band's. The level of an enabled pin clears and sets `LEVEL_OK`, its loss with
`LEVEL_S`; a pin that is not enabled is not watched. The model's own readings in it: log entry 35. -/
def Obligations.ReferenceInputs : Prop :=
  (∀ (s : State) (b : Fin 4) (mv : Nat),
    Goes (.refBankSupplyChange b mv) s (fun t =>
      t.sys = { s.sys with bankMv := tabPut 0 s.sys.bankMv (3 + b.val) mv } ∧
      classOf (t.get REF_BANK_STAT_CLASS) b.val = (if mv < 1620 then 3 else classOf (s.get REF_BANK_STAT_CLASS) b.val) ∧
      bitAt (t.get REF_BANK_STAT_PGOOD) b.val = supplyGood mv (classOf (s.get REF_BANK_STAT_CLASS) b.val) ∧
      (bitAt (s.get REF_BANK_STAT_PGOOD) b.val = true → bitAt (t.get REF_BANK_STAT_PGOOD) b.val = false → t.bit (REF_BANK_STAT_PFAIL_S b.val) = true) ∧
      Frame s t (among [REF_BANK_STAT_CLASS, REF_BANK_STAT_PGOOD, REF_BANK_STAT_PFAIL_S b.val]) [.sys]) ∧
    (s.busUp = true → classOf (s.get REF_BANK_STAT_CLASS) b.val = 3 → supplyClass (tabGet 0 s.sys.bankMv (3 + b.val)) ≠ 3 →
      Goes (.refBankClassLatch b) s (fun t =>
        classOf (t.get REF_BANK_STAT_CLASS) b.val = supplyClass (tabGet 0 s.sys.bankMv (3 + b.val)) ∧
        bitAt (t.get REF_BANK_STAT_PGOOD) b.val = true ∧ Frame s t (among [REF_BANK_STAT_CLASS, REF_BANK_STAT_PGOOD]) []))) ∧
  (∀ (s : State) (n : Fin 32), s.busUp = true →
    (s.inFb (REF_CFG_EN n.val) = true → s.bit (REF_STAT_LEVEL_OK n.val) = true → Goes (.levelLoss n) s (fun t =>
      t.get (REF_STAT_LEVEL_OK n.val) = 0 ∧ t.get (REF_STAT_LEVEL_S n.val) = 1 ∧
      Frame s t (among [REF_STAT_LEVEL_OK n.val, REF_STAT_LEVEL_S n.val]) [])) ∧
    (s.inFb (REF_CFG_EN n.val) = true → Goes (.levelRestore n) s (fun t =>
      t.get (REF_STAT_LEVEL_OK n.val) = 1 ∧ Frame s t (among [REF_STAT_LEVEL_OK n.val]) [])) ∧
    (s.inFb (REF_CFG_EN n.val) = false →
      Goes (.levelLoss n) s (fun t => Frame s t (fun _ => false) []) ∧ Goes (.levelRestore n) s (fun t => Frame s t (fun _ => false) [])))

/-- The conditioning chain. A source that delivers no edges, or an edge of a phase shorter than the glitch filter, goes no further; a leading edge counts
in the pre-divider; an edge out of it clears the missing edges and reaches the lane of its slot, and an edge of an output feeds its lane directly. The
leading edge of a pulse begins its width and starts the conversion of a vernier lane that is free. The model's own readings in it: log entries 1, 35. -/
def Obligations.EdgeConditioning : Prop :=
  ∀ (s : State) (n : Fin 104) (e : Nat) (rise : Bool) (hold : Nat), s.busUp = true →
    (n.val < 56 → s.refDelivers n.val = false → Goes (.refEdge n e rise hold) s (fun t => Frame s t (fun _ => false) [])) ∧
    (n.val < 32 → s.refDelivers n.val = true → (s.refSlot n.val).skip = true → Goes (.refEdge n e rise hold) s (fun t =>
      (t.refSlot n.val).skip = false ∧ Frame s t (fun _ => false) [.refs])) ∧
    (n.val < 32 → s.refDelivers n.val = true → (s.refSlot n.val).skip = false → hold < s.glitchWidth n.val →
      Goes (.refEdge n e rise hold) s (fun t =>
        (t.refSlot n.val).skip = true ∧ t.get (REF_CNT_GLITCHES n.val) = min (s.get (REF_CNT_GLITCHES n.val) + 1) (REF_CNT_GLITCHES n.val).max ∧
        t.get (REF_STAT_GLITCH_S n.val) = 1 ∧ Frame s t (among [REF_CNT_GLITCHES n.val, REF_STAT_GLITCH_S n.val]) [.refs, .counters])) ∧
    (n.val < 56 → s.refDelivers n.val = true → (n.val < 32 → (s.refSlot n.val).skip = false ∧ s.glitchWidth n.val ≤ hold) →
      rise ≠ (decide (n.val < 32) && s.inFb (REF_CFG_INV n.val)) →
      ((s.refSlot n.val).divPh + 1 ≠ Nat.max 1 (s.inF (REF_DIV_DIV n.val)) → Goes (.refEdge n e rise hold) s (fun t =>
        (t.refSlot n.val).divPh = ((s.refSlot n.val).divPh + 1) % Nat.max 1 (s.inF (REF_DIV_DIV n.val)) ∧
        Frame s t (fun _ => false) [.refs])) ∧
      ((s.refSlot n.val).divPh + 1 = Nat.max 1 (s.inF (REF_DIV_DIV n.val)) → s.isPulse n.val = false →
        (s.refSlot n.val).actPh + 1 = Nat.max 1 (s.inF (REF_ACT_ACT_DIV n.val)) → Goes (.refEdge n e rise hold) s (fun t =>
          (t.refSlot n.val).divPh = 0 ∧ (t.refSlot n.val).gateEdges = (s.refSlot n.val).gateEdges + 1 ∧ (t.refSlot n.val).lastMon = e ∧
          t.get (REF_STAT_MISSING n.val) = 0 ∧ (s.srcLocked n.val = true → t.get (REF_STAT_LOST n.val) = 0) ∧
          (∀ l, s.tdlOf n.val = some l → (t.laneOf l).edges = (s.laneOf l).edges + 1) ∧
          Frame s t (among [REF_STAT_MISSING n.val, REF_STAT_LOST n.val]) [.refs, .lanes])) ∧
      ((s.refSlot n.val).divPh + 1 = Nat.max 1 (s.inF (REF_DIV_DIV n.val)) → s.isPulse n.val = true → Goes (.refEdge n e rise hold) s (fun t =>
        (t.refSlot n.val).divPh = 0 ∧ (t.refSlot n.val).lead = some e ∧ (t.refSlot n.val).lastPulse = some e ∧ (t.refSlot n.val).lastMon = e ∧
        (t.refSlot n.val).missed = 0 ∧ t.get (REF_STAT_MISSING n.val) = 0 ∧ (s.srcLocked n.val = true → t.get (REF_STAT_LOST n.val) = 0) ∧
        (∀ l, s.vrnOf n.val = some l → (t.laneOf l).edges = (s.laneOf l).edges + 1 ∧
          ((s.laneOf l).busy = false → (s.laneOf l).cap = none → (s.laneOf l).phase % 2 ^ (s.laneOf l).dfact = 0 → (t.laneOf l).busy = true ∧
            ∃ w, (t.laneOf l).cap = some ⟨e, (s.laneOf l).edges + 1, none, w, false, none, s.scalingNow l⟩)) ∧
        Frame s t (fun k => among [REF_STAT_MISSING n.val, REF_STAT_LOST n.val, REF_STAT_WIN_OK n.val, REF_STAT_WIN_S n.val, REF_CNT_WIN_FAIL n.val] k
          || keyBlock k == 6) [.refs, .lanes, .counters]))) ∧
    (72 ≤ n.val → n.val < 96 → rise = true → ∀ l, s.tdlOf (0x80 + (n.val - 72)) = some l → Goes (.refEdge n e rise hold) s (fun t =>
      (t.laneOf l).edges = (s.laneOf l).edges + 1 ∧
      (∀ a, (s.laneOf l).armed = some a → a ≤ e → (s.laneOf l).cap = none →
        (t.laneOf l).armed = none ∧ (t.laneOf l).cap = some ⟨e, (s.laneOf l).edges + 1, none, false, false, none, s.scalingNow l⟩) ∧
      Frame s t (fun _ => false) [.lanes]))

/-- The monitors. A missing edge whose instant e + k · P + τ falls in the present tick counts and, at the tolerance, reports the loss; a gate of the
frequency window passes or fails; a pulse with no trailing edge by its limit and one period, where that falls in the tick, fails its width. The
model's own readings in it: log entry 35. -/
def Obligations.ReferenceMonitors : Prop :=
  ∀ (s : State) (n : Fin 56), s.busUp = true →
    (s.inFb (REF_CFG_EN n.val) = true → s.unitInRst 5 = false → s.refPeriod n.val ≠ 0 → s.inTick (s.missInstant n.val) = true →
      (s.bit (REF_STAT_LOST n.val) = true ∨ min 255 (s.get (REF_STAT_MISSING n.val) + 1) ≠ s.inF (REF_ACT_MISS_TOL n.val) → Goes (.missingEdge n) s (fun t =>
        t.get (REF_STAT_MISSING n.val) = min 255 (s.get (REF_STAT_MISSING n.val) + 1) ∧ t.get (REF_STAT_MISS_S n.val) = 1 ∧
        t.get (REF_CNT_MISSING n.val) = min (s.get (REF_CNT_MISSING n.val) + 1) (REF_CNT_MISSING n.val).max ∧
        (t.refSlot n.val).missed = (s.refSlot n.val).missed + 1 ∧
        Frame s t (among [REF_STAT_MISSING n.val, REF_STAT_MISS_S n.val, REF_CNT_MISSING n.val]) [.refs, .slots, .counters])) ∧
      (s.bit (REF_STAT_LOST n.val) = false → min 255 (s.get (REF_STAT_MISSING n.val) + 1) = s.inF (REF_ACT_MISS_TOL n.val) → Goes (.missingEdge n) s (fun t =>
        t.get (REF_STAT_LOST n.val) = 1 ∧ t.get (REF_STAT_LOST_S n.val) = 1 ∧
        (s.declared n.val = true → s.unitInRst 7 = false → t.get (QUL_STAT_LOW_REP n.val) = 1) ∧
        Frame s t (among [REF_STAT_MISSING n.val, REF_STAT_MISS_S n.val, REF_CNT_MISSING n.val, REF_STAT_LOST n.val, REF_STAT_LOST_S n.val,
          QUL_STAT_LOW_REP n.val, QUL_STAT_CAUSE_LOW n.val]) [.refs, .slots, .counters]))) ∧
    (s.isPulse n.val = false → s.inFb (REF_CFG_EN n.val) = true → s.inF (REF_WIN_WIN_PPM n.val) ≠ 0 →
      2 ^ s.inF (REF_WIN_GATE n.val) + 1 ≤ (s.refSlot n.val).gateTicks → ∀ nExp : Rat,
      nExp = (s.refFreq n.val : Rat) / 65536 * ((2 ^ s.inF (REF_WIN_GATE n.val) : Nat) : Rat) / (s.rate : Rat) →
      (absRat (((s.refSlot n.val).gateEdges : Rat) - nExp) ≤ nExp * (s.inF (REF_WIN_WIN_PPM n.val) : Rat) / 1000000 + 1 → Goes (.freqWindowGate n) s (fun t =>
        t.get (REF_STAT_WIN_OK n.val) = 1 ∧ (t.refSlot n.val).gateEdges = 0 ∧ Frame s t (among [REF_STAT_WIN_OK n.val]) [.refs])) ∧
      (absRat (((s.refSlot n.val).gateEdges : Rat) - nExp) > nExp * (s.inF (REF_WIN_WIN_PPM n.val) : Rat) / 1000000 + 1 → Goes (.freqWindowGate n) s (fun t =>
        t.get (REF_STAT_WIN_OK n.val) = 0 ∧ t.get (REF_STAT_WIN_S n.val) = 1 ∧
        t.get (REF_CNT_WIN_FAIL n.val) = min (s.get (REF_CNT_WIN_FAIL n.val) + 1) (REF_CNT_WIN_FAIL n.val).max ∧
        Frame s t (among [REF_STAT_WIN_OK n.val, REF_STAT_WIN_S n.val, REF_CNT_WIN_FAIL n.val]) [.refs, .counters]))) ∧
    (∀ h : n.val < 32, s.isPulse n.val = true → (∃ p, (s.refSlot n.val).lead = some p ∧ s.inTick ((p + (s.inF (REF_PW_MAX_PW n.val) + 1) * 8000 : Nat) : Rat) = true) →
      Goes (.pulseWidthTimeout ⟨n.val, h⟩) s (fun t =>
      (t.refSlot n.val).lead = none ∧ t.get (REF_STAT_PW_OK n.val) = 0 ∧ t.get (REF_STAT_PW_S n.val) = 1 ∧
      t.get (REF_CNT_PW_FAIL n.val) = min (s.get (REF_CNT_PW_FAIL n.val) + 1) (REF_CNT_PW_FAIL n.val).max ∧
      Frame s t (fun k => among [REF_STAT_PW_OK n.val, REF_STAT_PW_S n.val, REF_CNT_PW_FAIL n.val] k || keyBlock k == 6) [.refs, .lanes, .counters]))

/-- A lane that samples takes its calibration, and arms unless it decimates the instant. A record formed enters its lane queue and takes the next `SEQ`; a
full queue decimates, and at the highest decimation drops the record. The model's own readings in it: log entries 14, 35. -/
def Obligations.LanesSampleEdges : Prop :=
  (∀ (s : State) (l : Fin 64) (k : Fin 8) (c : Cal), s.busUp = true →
    (s.laneOn l.val = true → k.val < min 8 (s.inF (TIM_TDL_CFG_RPT l.val)) → Goes (.tdlSampleInstant l k c) s (fun t =>
      (t.laneOf l.val).cal = some c ∧ (t.laneOf l.val).phase = (s.laneOf l.val).phase + 1 ∧
      (t.laneOf l.val).armed = (if (s.laneOf l.val).phase % 2 ^ (s.laneOf l.val).dfact = 0
        then some ((s.sampleInstant (min 8 (s.inF (TIM_TDL_CFG_RPT l.val))) k.val + 8) * 8000) else none) ∧
      t.getS (TIM_TDL_STAT_GERR l.val) = c.gerr l.val ∧ (c.m1 = c.m2 → (t.laneOf l.val).calBad = true) ∧
      Frame s t (among [TIM_TDL_STAT_GERR l.val, TIM_TDL_STAT_OFS l.val, TIM_TDL_CNT_CALFAILS l.val, TIM_STICKY_CALFAIL])
        (if c.m1 = c.m2 then [.lanes, .counters, .free] else [.lanes, .counters]))) ∧
    ((s.laneOn l.val = false ∨ min 8 (s.inF (TIM_TDL_CFG_RPT l.val)) ≤ k.val) → Goes (.tdlSampleInstant l k c) s (fun t => Frame s t (fun _ => false) []))) ∧
  (∀ (s : State) (l : Fin 64) (raw : Nat), s.busUp = true → ∀ c : Capture, (s.laneOf l.val).cap = some c →
    ((s.laneOf l.val).queue.length < 32 → Goes (.tdlRecordForm l raw) s (fun t =>
      (t.laneOf l.val).queue = (s.laneOf l.val).queue ++
        [s.formRecord l.val c (s.lessDelay l.val ((c.t / 8000 * 8000 : Nat) + rnd (c.scaling.convert l.val raw)))] ∧
      (t.laneOf l.val).cap = none ∧ t.get (TIM_TDL_SEQ_SEQ l.val) = (s.get (TIM_TDL_SEQ_SEQ l.val) + 1) % 2 ^ 16 ∧
      Frame s t (among [TIM_TDL_SEQ_SEQ l.val, TIM_STICKY_OVF]) [.lanes, .counters])) ∧
    (32 ≤ (s.laneOf l.val).queue.length → (s.laneOf l.val).dfact < 12 → Goes (.tdlRecordForm l raw) s (fun t =>
      (t.laneOf l.val).queue = (s.laneOf l.val).queue ∧ (t.laneOf l.val).dfact = (s.laneOf l.val).dfact + 1 ∧ t.get TIM_STICKY_DECIM = 1 ∧
      t.get (TIM_TDL_CNT_DECIM_UP l.val) = min (s.get (TIM_TDL_CNT_DECIM_UP l.val) + 1) (TIM_TDL_CNT_DECIM_UP l.val).max ∧
      Frame s t (among [TIM_TDL_CNT_DECIM_UP l.val, TIM_STICKY_DECIM]) [.lanes, .counters])) ∧
    (32 ≤ (s.laneOf l.val).queue.length → 12 ≤ (s.laneOf l.val).dfact → Goes (.tdlRecordForm l raw) s (fun t =>
      (t.laneOf l.val).queue = (s.laneOf l.val).queue ∧ t.get TIM_STICKY_LANE_DROP = 1 ∧
      t.get (TIM_TDL_SEQ_DROP l.val) = min (s.get (TIM_TDL_SEQ_DROP l.val) + 1) (TIM_TDL_SEQ_DROP l.val).max ∧
      Frame s t (among [TIM_TDL_SEQ_DROP l.val, TIM_STICKY_LANE_DROP]) [.lanes, .counters])))

/-- A vernier conversion fixes the time of its edge back from the stop edge; the record of a pulse waits for its width, another is formed at once. After
its calibration the lane accepts edges again. A lane's oldest record moves to the bank queue, of 1,024 records, in its turn of the circle of the lanes
that hold one, while there is room; the record that fills the queue sets `BANK_FULL`; the bank queue delivers its oldest record by `KIND`. The model's
own readings in it: log entry 35. -/
def Obligations.RecordsConvertAndMove : Prop :=
  (∀ (s : State) (i : Fin 16) (sc : Nat) (fall : Bool) (n : Nat), s.busUp = true → ∀ x : Lane, x = s.laneOf (64 + i.val) →
    (∀ c : Capture, x.cap = some c → c.conv = none →
      ∀ tm : Nat, tm = s.lessDelay (64 + i.val) (((sc * 8000 + (if fall then 4000 else 0) : Nat) : Int) - rnd (c.scaling.convert (64 + i.val) n) - 32000) →
      (srcKind (64 + i.val) (s.laneSrc (64 + i.val)) = 1 → c.width = none → Goes (.vernierConversionDone i sc fall n) s (fun t =>
        t.laneOf (64 + i.val) = { x with cap := some { c with conv := some tm } } ∧ Frame s t (fun _ => false) [.lanes])) ∧
      ((srcKind (64 + i.val) (s.laneSrc (64 + i.val)) ≠ 1 ∨ c.width ≠ none) → x.queue.length < 32 → Goes (.vernierConversionDone i sc fall n) s (fun t =>
        (t.laneOf (64 + i.val)).queue = x.queue ++ [s.formRecord (64 + i.val) c tm] ∧ (t.laneOf (64 + i.val)).cap = none ∧
        t.get (TIM_VRN_SEQ_SEQ i.val) = (s.get (TIM_VRN_SEQ_SEQ i.val) + 1) % 2 ^ 16 ∧
        Frame s t (among [TIM_VRN_SEQ_SEQ i.val, TIM_STICKY_OVF]) [.lanes, .counters]))) ∧
    (∀ c : Cal, s.laneOn (64 + i.val) = true → (x.busy = false ∨ x.cap = none ∨ ∃ k, x.cap = some k ∧ k.conv ≠ none) →
      Goes (.vernierCalibrationDone i c) s (fun t =>
        (t.laneOf (64 + i.val)).busy = false ∧ (t.laneOf (64 + i.val)).cal = some c ∧ t.getS (TIM_VRN_STAT_GERR i.val) = c.gerr (64 + i.val) ∧
        Frame s t (among [TIM_VRN_STAT_GERR i.val, TIM_VRN_STAT_OFS i.val, TIM_VRN_CNT_CALFAILS i.val, TIM_STICKY_CALFAIL])
          (if c.m1 = c.m2 then [.lanes, .counters, .free] else [.lanes, .counters])))) ∧
  (∀ (s : State) (l : Fin 80), s.busUp = true →
    (∀ (r : Rec) (q : List Rec), (s.laneOf l.val).queue = r :: q → s.laneTurn = some l.val → s.bankQ.length < 1024 → Goes (.laneToBankTransfer l) s (fun t =>
      (t.laneOf l.val).queue = q ∧ t.bankTurn = l.val ∧
      t.bankQ = s.bankQ ++ [{ r with tick := s.tick16, win := if r.kind = 1 then r.win else if r.slot < 56 then (s.refSlot r.slot).gateBad else false }] ∧
      t.get TIM_QSTAT_HWM = max (s.get TIM_QSTAT_HWM) (s.bankQ.length + 1) ∧
      (s.bankQ.length = 1023 → t.get TIM_STICKY_BANK_FULL = 1) ∧
      Frame s t (fun k => among [TIM_QSTAT_HWM] k || (decide (s.bankQ.length = 1023) && among [TIM_STICKY_BANK_FULL] k)) [.lanes, .bankQ, .counters])) ∧
    (∀ (r : Rec) (q : List Rec), (s.laneOf l.val).queue = r :: q → s.laneTurn = some l.val → 1024 ≤ s.bankQ.length → Goes (.laneToBankTransfer l) s (fun t =>
      t.get TIM_STICKY_BANK_FULL = 1 ∧ Frame s t (among [TIM_STICKY_BANK_FULL]) [])) ∧
    ((s.laneOf l.val).queue = [] ∨ s.laneTurn ≠ some l.val → Goes (.laneToBankTransfer l) s (fun t => Frame s t (fun _ => false) [])) ∧
    (∀ (r : Rec) (q : List Rec), s.bankQ = r :: q →
      (s.bit TIM_TAP_TAP_EN = false ∨ s.get TIM_TAP_TAP_LANE ≠ r.lane →
        (r.kind = 2 → Goes .recordDelivery s (fun t => t.bankQ = q ∧ t.evtIn = s.evtIn ++ [r] ∧ Frame s t (fun _ => false) [.bankQ, .arrivals])) ∧
        (r.kind = 3 → s.unitInRst 15 = false → Goes .recordDelivery s (fun t =>
          t.bankQ = q ∧ t.echoIn = s.echoIn ++ [r] ∧ Frame s t (fun _ => false) [.bankQ, .arrivals])) ∧
        (r.kind = 6 → Goes .recordDelivery s (fun t => t.bankQ = q ∧ Frame s t (fun _ => false) [.bankQ, .syn])) ∧
        (r.kind ≠ 2 → r.kind ≠ 3 → r.kind ≠ 6 → s.unitInRst 9 = false → s.unitInRst 7 = false → r.slot < 88 → Goes .recordDelivery s (fun t =>
          t.bankQ = q ∧ (t.qslot r.slot).inbox = (s.qslot r.slot).inbox ++ [r] ∧ Frame s t (fun k => keyBlock k == 12) [.bankQ, .slots]))) ∧
      Goes .recordDelivery s (fun t => t.bankQ = q ∧
        Frame s t (fun k => keyBlock k == 12 || keyBlock k == 1) [.bankQ, .arrivals, .slots, .syn, .window, .rings, .counters])))

/-! ## Qualification and selection -/

/-- The transition of a declared slot outside reset-shadow, in a tick with no record and no second boundary: by its state, its conditions, its timers and
`FORCE`. What any qualify job leaves alone; one of a slot the image does not declare leaves it ABSENT. The model's own readings in it: log entry 36. -/
def Obligations.SlotQualifies : Prop :=
  (∀ (s : State) (n : Fin 88), s.busUp = true → s.jobsRun = true → s.unitInRst 7 = false → s.declared n.val = true → s.slotInShadow n.val = false →
    (s.qslot n.val).judged = false → (s.qslot n.val).inbox = [] → s.tickIndex ≠ 0 → ∀ c : Conds, c = s.evalConds n.val (s.qslot n.val) →
    ∀ st : Nat, st = s.pget (QUL_STAT_STATE n.val) → st ≤ 5 → Goes (.qualifyJob n) s (fun t =>
      t.pget (QUL_STAT_STATE n.val) = (
        if s.inFb (QUL_CFG_FORCE n.val) then qForced
        else if st = qAbsent then (if (s.qslot n.val).confirmed then qSteeping else qAbsent)
        else if st = qForced ∧ (s.qslot n.val).confirmed = false then qAbsent
        else if c.hard then qDisq
        else if st = qDisq then qSteeping
        else if c.soft then (if st = qSteeping then qSteeping else qSuspect)
        else if st = qSteeping ∧ 1 < (s.qslot n.val).steep then qSteeping
        else if st = qSuspect ∧ 1 < (s.qslot n.val).srec then qSuspect
        else qQualified) ∧ (t.qslot n.val).judged = true ∧
      Frame s t (inst 0x71000 0x80 n.val) [.slots, .channels])) ∧
  (∀ (s : State) (n : Fin 88), s.busUp = true → s.jobsRun = true → s.unitInRst 7 = false → Goes (.qualifyJob n) s (fun t =>
    (s.declared n.val = false → t.pget (QUL_STAT_STATE n.val) = qAbsent) ∧
    Frame s t (inst 0x71000 0x80 n.val) [.slots, .channels]))

/-- The timers. A steep or recovery timer in its last tick, with no condition in a tick that brings no record and no second, qualifies the slot; a loss
timeout that has passed at the last boundary raises `LOSS`, unless a confirmed record waits. The excess integrator: at tick 0, before the slot's own
job, it closes the second and raises `EXCESS` at the limit, clears it at half, and with the integrator off; at any other time it does nothing. The
Allan job reports each deviation once it has eight samples. The model's own readings in it: log entry 36. -/
def Obligations.SlotTimersAndStatistics : Prop :=
  (∀ (s : State) (n : Fin 88), s.busUp = true → s.jobsRun = true → s.unitInRst 7 = false → s.declared n.val = true → s.slotInShadow n.val = false →
    ((s.qslot n.val).judged = false → (s.qslot n.val).inbox = [] → s.tickIndex ≠ 0 → (s.evalConds n.val (s.qslot n.val)).none = true →
      s.inFb (QUL_CFG_FORCE n.val) = false →
      (s.pget (QUL_STAT_STATE n.val) = qSteeping → (s.qslot n.val).steep ≤ 1 → Goes (.steepTimerExpiry n) s (fun t =>
        t.pget (QUL_STAT_STATE n.val) = qQualified ∧ Frame s t (inst 0x71000 0x80 n.val) [.slots, .channels])) ∧
      (s.pget (QUL_STAT_STATE n.val) = qSuspect → (s.qslot n.val).srec ≤ 1 → Goes (.srecExpiry n) s (fun t =>
        t.pget (QUL_STAT_STATE n.val) = qQualified ∧ Frame s t (inst 0x71000 0x80 n.val) [.slots, .channels]))) ∧
    (s.pget (QUL_STAT_STATE n.val) ≠ qSteeping ∨ 1 < (s.qslot n.val).steep → Goes (.steepTimerExpiry n) s (fun t => Frame s t (fun _ => false) [])) ∧
    (s.pget (QUL_STAT_STATE n.val) ≠ qSuspect ∨ 1 < (s.qslot n.val).srec → Goes (.srecExpiry n) s (fun t => Frame s t (fun _ => false) [])) ∧
    ((s.qslot n.val).confirmed = true → (s.qslot n.val).lossOut = false → (s.qslot n.val).inbox.any Rec.confirms = false → s.lossDue n.val = true →
      Goes (.lossTimeout n) s (fun t =>
        t.get (QUL_STAT_LOSS n.val) = 1 ∧ t.pget (QUL_STAT_LOSS n.val) = 1 ∧ t.get (QUL_STICKY_LOSS_S n.val) = 1 ∧ (t.qslot n.val).lossOut = true ∧
        Frame s t (among [QUL_STAT_LOSS n.val, QUL_STICKY_LOSS_S n.val]) [.slots])) ∧
    (s.lossDue n.val = false → Goes (.lossTimeout n) s (fun t => Frame s t (fun _ => false) []))) ∧
  (∀ (s : State) (n : Fin 88), s.busUp = true → s.jobsRun = true → s.unitInRst 7 = false → s.declared n.val = true →
    ((s.qslot n.val).judged = true ∨ s.tickIndex ≠ 0 → Goes (.driftIntJob n) s (fun t => Frame s t (fun _ => false) [])) ∧
    ((s.qslot n.val).judged = false → s.tickIndex = 0 → s.slotInShadow n.val = false → Goes (.driftIntJob n) s (fun t =>
      (t.qslot n.val).secDone = true ∧ ((s.qslot n.val).secDone = true → (t.qslot n.val).exc = (s.qslot n.val).exc) ∧
      t.pbit (QUL_STAT_EXCESS n.val) = (if s.inFb (QUL_CFG_INT_EN n.val) = false ∨ s.inF (QUL_INT_LIM_INT_LIM n.val) = 0 then false
        else if (s.inF (QUL_INT_LIM_INT_LIM n.val) : Int) * 100 ≤ (t.qslot n.val).exc then true
        else if (t.qslot n.val).exc ≤ (s.inF (QUL_INT_LIM_INT_LIM n.val) : Int) * 50 then false else s.pbit (QUL_STAT_EXCESS n.val)) ∧
      (s.pbit (QUL_STAT_EXCESS n.val) = false → t.pbit (QUL_STAT_EXCESS n.val) = true → (16 + n.val, Ev.raise (QUL_STICKY_EXCESS_S n.val)) ∈ t.pend.evs) ∧
      Frame s t (inst 0x71000 0x80 n.val) [.slots, .channels])) ∧
    Goes (.adevJob n) s (fun t =>
      (t.qslot n.val).newPts = [] ∧
      t.get (QUL_ADEV1S_ADEV n.val) = adevReport ((t.qslot n.val).allan.getD 0 ⟨[]⟩) ∧
      t.get (QUL_ADEV10S_ADEV n.val) = adevReport ((t.qslot n.val).allan.getD 1 ⟨[]⟩) ∧
      t.get (QUL_ADEV100S_ADEV n.val) = adevReport ((t.qslot n.val).allan.getD 2 ⟨[]⟩) ∧
      t.get (QUL_ADEV1KS_ADEV n.val) = adevReport ((t.qslot n.val).allan.getD 3 ⟨[]⟩) ∧
      (∀ i : Fin 4, bitAt (t.get (QUL_STEEP_ADEV_OK n.val)) i.val = decide (8 ≤ ((t.qslot n.val).allan.getD i.val ⟨[]⟩).sq.length)) ∧
      Frame s t (among [QUL_ADEV1S_ADEV n.val, QUL_ADEV10S_ADEV n.val, QUL_ADEV100S_ADEV n.val, QUL_ADEV1KS_ADEV n.val, QUL_STEEP_ADEV_OK n.val,
        QUL_STICKY_ADEV_S n.val]) [.slots, .counters]))

/-- Host writes of a slot: `FORCE`, `HOST_DQ` and the rest of `QUL_CFG_n` take the written lanes, the window lengths too, and a window whose field a write
hits is marked to restart at the next boundary. Host writes of a channel: `SEL_CTL_c`, with a request for the named slot where its field is hit; a
word of the list; a word of the members. The model's own readings in it: log entries 36, 37. -/
def Obligations.LoopHostWrites : Prop :=
  (∀ (s : State) (n : Fin 88) (w : HostWrite),
    (s.accepts w (0x71000 + 0x80 * n.val) = true →
      Goes (.qulForceWrite n w) s (fun t => (∀ f ∈ qulCfg n.val, t.get f = s.merged w f) ∧ Frame s t (among (qulCfg n.val)) [.counters]) ∧
      Goes (.qulHostDqWrite n w) s (fun t => (∀ f ∈ qulCfg n.val, t.get f = s.merged w f) ∧ Frame s t (among (qulCfg n.val)) [.counters])) ∧
    (s.accepts w (0x71004 + 0x80 * n.val) = true → Goes (.qulWindowWrite n 0 w) s (fun t =>
      t.get (QUL_FWIN_W0 n.val) = s.merged w (QUL_FWIN_W0 n.val) ∧ t.get (QUL_FWIN_W1 n.val) = s.merged w (QUL_FWIN_W1 n.val) ∧
      (w.hits (QUL_FWIN_W0 n.val) = true → 0 ∈ (t.qslot n.val).restart) ∧ (w.hits (QUL_FWIN_W1 n.val) = true → 1 ∈ (t.qslot n.val).restart) ∧
      Frame s t (among [QUL_FWIN_W0 n.val, QUL_FWIN_W1 n.val]) [.slots, .counters])) ∧
    (s.accepts w (0x71008 + 0x80 * n.val) = true → Goes (.qulWindowWrite n 1 w) s (fun t =>
      t.get (QUL_FWIN2_W2 n.val) = s.merged w (QUL_FWIN2_W2 n.val) ∧ t.get (QUL_FWIN2_DW n.val) = s.merged w (QUL_FWIN2_DW n.val) ∧
      (w.hits (QUL_FWIN2_W2 n.val) = true → 2 ∈ (t.qslot n.val).restart) ∧ (w.hits (QUL_FWIN2_DW n.val) = true → 3 ∈ (t.qslot n.val).restart) ∧
      Frame s t (among [QUL_FWIN2_W2 n.val, QUL_FWIN2_DW n.val]) [.slots, .counters])) ∧
    (s.accepts w (0x71034 + 0x80 * n.val) = true → Goes (.qulWindowWrite n 2 w) s (fun t =>
      t.get (QUL_TIMES_WW n.val) = s.merged w (QUL_TIMES_WW n.val) ∧ t.get (QUL_TIMES_SREC n.val) = s.merged w (QUL_TIMES_SREC n.val) ∧
      (w.hits (QUL_TIMES_WW n.val) = true → 4 ∈ (t.qslot n.val).restart) ∧
      Frame s t (among [QUL_TIMES_WW n.val, QUL_TIMES_SREC n.val]) [.slots, .counters]))) ∧
  (∀ (s : State) (c : Fin 12) (i : Fin 4) (w : HostWrite),
    (s.accepts w (0x81000 + 0x100 * c.val) = true → Goes (.selNamedSlotWrite c w) s (fun t =>
      t.get (SEL_CTL_PRIMARY c.val) = s.merged w (SEL_CTL_PRIMARY c.val) ∧ t.get (SEL_CTL_OVR_SLOT c.val) = s.merged w (SEL_CTL_OVR_SLOT c.val) ∧
      (w.hits (s.namedFld c.val) = true → (t.chan c.val).reqDue = true ∧ (t.ind.chanOf c.val).reqDue = true) ∧
      Frame s t (fun k => keyAddr k == 0x81000 + 0x100 * c.val) [.channels, .counters])) ∧
    (s.accepts w (0x81004 + 0x100 * c.val + 4 * i.val) = true → Goes (.selListWrite c i w) s (fun t =>
      (∀ j : Fin 4, t.get (listSlot c.val (4 * i.val + j.val)) = s.merged w (listSlot c.val (4 * i.val + j.val)) ∧
        t.get (listV c.val (4 * i.val + j.val)) = s.merged w (listV c.val (4 * i.val + j.val))) ∧
      Frame s t (fun k => keyAddr k == 0x81004 + 0x100 * c.val + 4 * i.val) [.counters])) ∧
    (s.accepts w (0x81020 + 0x100 * c.val + 4 * i.val) = true → Goes (.selBiasWrite c i w) s (fun t =>
      (∀ j : Fin 2, t.get (memBias c.val (2 * i.val + j.val)) = s.merged w (memBias c.val (2 * i.val + j.val))) ∧
      Frame s t (fun k => keyAddr k == 0x81020 + 0x100 * c.val + 4 * i.val) [.counters])))

/-- The selection job of a single-reference channel with no tense request waiting: OFF while disabled, NO_REF on enabling or under a forced holdover; from
NO_REF it takes its first candidate, tracking it at once with no phase yet and by a transition with one; a tracked slot that is no longer usable is
left for the next target, or for NO_REF, and one that stays usable with nothing preferred stays tracked; a transition whose target stays usable moves
`K` on. The model's own readings in it: log entries 20, 37. -/
def Obligations.SelectorMoves : Prop :=
  ∀ (s : State) (c : Fin 12), s.busUp = true → s.jobsRun = true → (s.chan c.val).tns = [] →
    (s.chanEn c.val = false → s.pget (SEL_STAT_SSTATE c.val) ≠ ssOff → Goes (.selectJob c) s (fun t =>
      t.pget (SEL_STAT_SSTATE c.val) = ssOff ∧ t.pget (SEL_STAT_CUR c.val) = noSlot ∧ t.pget (SEL_STAT_TGT c.val) = noSlot ∧
      Frame s t (inst 0x81000 0x100 c.val) [.channels])) ∧
    (s.chanEn c.val = true → s.pget (SEL_STAT_SSTATE c.val) = ssOff → Goes (.selectJob c) s (fun t =>
      t.pget (SEL_STAT_SSTATE c.val) = ssNoRef ∧ Frame s t (inst 0x81000 0x100 c.val) [.channels])) ∧
    (s.chanEn c.val = true → s.pget (SEL_STAT_SSTATE c.val) ≠ ssOff → s.unitInShadow 8 = false → s.forcedHo c.val = true →
      Goes (.selectJob c) s (fun t =>
      t.pget (SEL_STAT_SSTATE c.val) = ssNoRef ∧ (t.chan c.val).est = none ∧ Frame s t (inst 0x81000 0x100 c.val) [.channels])) ∧
    (s.chanEn c.val = true → s.forcedHo c.val = false → s.unitInShadow 8 = false → s.qulAway = false → s.ensemble c.val = false →
      (s.chan c.val).carried = [] →
      (s.pget (SEL_STAT_SSTATE c.val) = ssNoRef →
        (s.firstCand c.val [] = none → Goes (.selectJob c) s (fun t =>
          t.pget (SEL_STAT_SSTATE c.val) = ssNoRef ∧ (t.chan c.val).est = none ∧ Frame s t (inst 0x81000 0x100 c.val) [.channels])) ∧
        (∀ n : Nat, s.firstCand c.val [] = some n → Goes (.selectJob c) s (fun t =>
          (s.pbit (LPE_STAT_HAS_PHASE c.val) = false → t.pget (SEL_STAT_SSTATE c.val) = ssTracking ∧ t.pget (SEL_STAT_CUR c.val) = n) ∧
          (s.pbit (LPE_STAT_HAS_PHASE c.val) = true →
            t.pget (SEL_STAT_SSTATE c.val) = ssTransition ∧ t.pget (SEL_STAT_TGT c.val) = n ∧ t.pget (SEL_PROG_K c.val) = 0) ∧
          Frame s t (inst 0x81000 0x100 c.val) [.channels]))) ∧
      (s.pget (SEL_STAT_SSTATE c.val) = ssTracking → isUsable (s.pget (QUL_STAT_STATE (s.pget (SEL_STAT_CUR c.val)))) = false →
        (s.firstCand c.val [s.pget (SEL_STAT_CUR c.val)] = none → Goes (.selectJob c) s (fun t =>
          t.pget (SEL_STAT_SSTATE c.val) = ssNoRef ∧ t.pget (SEL_STAT_CUR c.val) = noSlot ∧ Frame s t (inst 0x81000 0x100 c.val) [.channels])) ∧
        (∀ n : Nat, s.firstCand c.val [s.pget (SEL_STAT_CUR c.val)] = some n → Goes (.selectJob c) s (fun t =>
          t.pget (SEL_STAT_SSTATE c.val) = ssTransition ∧ t.pget (SEL_STAT_TGT c.val) = n ∧ t.pget (SEL_PROG_K c.val) = 0 ∧
          Frame s t (inst 0x81000 0x100 c.val) [.channels]))) ∧
      (s.pget (SEL_STAT_SSTATE c.val) = ssTracking → isUsable (s.slotState (s.pget (SEL_STAT_CUR c.val))) = true → (s.chan c.val).cut = [] →
        s.preferred c.val (s.pget (SEL_STAT_CUR c.val)) = none → Goes (.selectJob c) s (fun t =>
          t.pget (SEL_STAT_SSTATE c.val) = ssTracking ∧ t.pget (SEL_STAT_CUR c.val) = s.pget (SEL_STAT_CUR c.val) ∧
          Frame s t (inst 0x81000 0x100 c.val) [.channels])) ∧
      (s.pget (SEL_STAT_SSTATE c.val) = ssTransition → isUsable (s.slotState (s.pget (SEL_STAT_TGT c.val))) = true → (s.chan c.val).cut = [] →
        s.preferred c.val (s.pget (SEL_STAT_TGT c.val)) = none → s.pget (SEL_PROG_K c.val) + 1 < s.pget (SEL_XLEN_XLEN c.val) →
        s.pget (SEL_XLEN_XLEN c.val) < 2 ^ 24 → Goes (.selectJob c) s (fun t =>
          t.pget (SEL_STAT_SSTATE c.val) = ssTransition ∧ t.pget (SEL_STAT_TGT c.val) = s.pget (SEL_STAT_TGT c.val) ∧
          t.pget (SEL_PROG_K c.val) = s.pget (SEL_PROG_K c.val) + 1 ∧ Frame s t (inst 0x81000 0x100 c.val) [.channels])))

/-- A transition whose `K` has reached `XLEN` tracks its target; absorption ends at an offset of 0; a member faded to 0 has no weight. The model's own
readings in it: log entries 20, 37. -/
def Obligations.SelectorCompletions : Prop :=
  ∀ (s : State) (c : Fin 12), s.busUp = true → s.jobsRun = true →
    (s.pget (SEL_STAT_SSTATE c.val) = ssTransition → s.pget (SEL_XLEN_XLEN c.val) ≤ s.pget (SEL_PROG_K c.val) → Goes (.transitionComplete c) s (fun t =>
      t.pget (SEL_STAT_SSTATE c.val) = ssTracking ∧ t.pget (SEL_STAT_CUR c.val) = s.pget (SEL_STAT_TGT c.val) % 128 ∧
      t.pget (SEL_STAT_TGT c.val) = noSlot ∧ (t.chan c.val).curOfs = (s.chan c.val).tgtOfs ∧
      (s.inFb (SEL_CTL_BO_MODE c.val) = true → (s.chan c.val).tgtOfs ≠ 0 → t.pget (SEL_STAT_ABSORBING c.val) = 1) ∧
      Frame s t (inst 0x81000 0x100 c.val) [.channels])) ∧
    (s.pbit (SEL_STAT_ABSORBING c.val) = true →
      (if s.pget (SEL_STAT_SSTATE c.val) = ssCombining then (s.chan c.val).ebo else (s.chan c.val).curOfs) = 0 → Goes (.absorbComplete c) s (fun t =>
        t.pget (SEL_STAT_ABSORBING c.val) = 0 ∧ Frame s t (among [SEL_STAT_ABSORBING c.val]) [])) ∧
    (∀ (j : Fin 8) (m : Member), (s.chan c.val).members[j.val]? = some m → m.inn = true → s.roleState c.val m.slot = qSuspect → m.f = 0 →
      Goes (.fadeComplete c j) s (fun t => t.pget (wtW c.val j.val) = 0 ∧ Frame s t (inst 0x81000 0x100 c.val) [.channels]))

/-! ## The loop engine and the cask -/

/-- The filter job of a channel: OFF clears the words; enabling frees the channel at the free-run word; a first estimate begins to acquire; holdover ends
at an estimate; in the other states a tick with no input keeps the integrator, shown as `MISSING`. An update of the filter keeps the channel in
ACQUIRE or LOCKED, shows the phase error, and holds the word within `FRANGE`. The model's own readings in it: log entry 38. -/
def Obligations.FilterJob : Prop :=
  (∀ (s : State) (c : Fin 12), s.busUp = true → s.jobsRun = true →
    (s.chanEn c.val = false → s.get (LPE_STAT_LSTATE c.val) ≠ lsOff → Goes (.filterJob c) s (fun t =>
      t.pget (LPE_STAT_LSTATE c.val) = lsOff ∧ t.pFw c.val = 0 ∧ t.pget (LPE_PH_PH c.val) = 0 ∧ t.pget (LPE_STAT_HAS_PHASE c.val) = 0 ∧
      (t.chan c.val).x = 0 ∧ (t.chan c.val).int = 0 ∧ Frame s t (fun k => inst 0x91000 0x100 c.val k || among [SEL_STAT_HAS_PHASE c.val] k) [.channels])) ∧
    (s.chanEn c.val = true → s.get (LPE_STAT_LSTATE c.val) = lsOff → Goes (.filterJob c) s (fun t =>
      t.pget (LPE_STAT_LSTATE c.val) = lsFreerun ∧ t.pFw c.val = s.clampFw c.val s.freeRun ∧ Frame s t (inst 0x91000 0x100 c.val) [.channels])) ∧
    (s.chanEn c.val = true → s.get (LPE_STAT_LSTATE c.val) = lsFreerun → s.pget (LPE_STAT_LSTATE c.val) = lsFreerun →
      ((s.chan c.val).est = none → Goes (.filterJob c) s (fun t =>
        t.pget (LPE_STAT_LSTATE c.val) = lsFreerun ∧ t.pFw c.val = s.clampFw c.val s.freeRun ∧
        t.pget (LPE_STAT_MISSING c.val) = 1 ∧ Frame s t (inst 0x91000 0x100 c.val) [.channels, .free])) ∧
      ((s.chan c.val).est ≠ none → Goes (.filterJob c) s (fun t =>
        t.pget (LPE_STAT_LSTATE c.val) = lsAcquire ∧ t.pget (LPE_STAT_HAS_PHASE c.val) = 1 ∧ t.pget (LPE_STAT_FAST c.val) = 1 ∧
        Frame s t (fun k => inst 0x91000 0x100 c.val k || among [SEL_STAT_HAS_PHASE c.val] k) [.channels, .free]))) ∧
    (s.chanEn c.val = true → s.get (LPE_STAT_LSTATE c.val) = lsHoldover → s.pget (LPE_STAT_LSTATE c.val) = lsHoldover →
      ((s.chan c.val).est ≠ none → s.pget (SEL_STAT_SSTATE c.val) ≠ ssNoRef → Goes (.filterJob c) s (fun t =>
        t.pget (LPE_STAT_LSTATE c.val) = lsLocked ∧ (t.chan c.val).int = s.chanFw c.val * 65536 ∧ Frame s t (inst 0x91000 0x100 c.val) [.channels, .free])) ∧
      ((s.chan c.val).est = none ∨ s.pget (SEL_STAT_SSTATE c.val) = ssNoRef → Goes (.filterJob c) s (fun t =>
        t.pget (LPE_STAT_LSTATE c.val) = lsHoldover ∧ Frame s t (inst 0x91000 0x100 c.val) [.channels, .free]))) ∧
    (s.chanEn c.val = true → lsAcquire ≤ s.get (LPE_STAT_LSTATE c.val) → s.get (LPE_STAT_LSTATE c.val) ≤ lsLocked → s.missingInput c.val = true →
      Goes (.filterJob c) s (fun t =>
        t.pget (LPE_STAT_MISSING c.val) = 1 ∧ (t.chan c.val).int = (s.chan c.val).int ∧ t.pget (LPE_STAT_LSTATE c.val) = s.pget (LPE_STAT_LSTATE c.val) ∧
        Frame s t (inst 0x91000 0x100 c.val) [.channels, .free]))) ∧
  (∀ (s : State) (c : Fin 12) (e : Rat), s.busUp = true → s.jobsRun = true → s.chanEn c.val = true → (s.chan c.val).est = some e →
    s.get (LPE_STAT_LSTATE c.val) = s.pget (LPE_STAT_LSTATE c.val) → lsAcquire ≤ s.get (LPE_STAT_LSTATE c.val) →
    s.get (LPE_STAT_LSTATE c.val) ≤ lsLocked → s.missingInput c.val = false → Goes (.filterJob c) s (fun t =>
      t.pget (LPE_STAT_MISSING c.val) = 0 ∧ lsAcquire ≤ t.pget (LPE_STAT_LSTATE c.val) ∧ t.pget (LPE_STAT_LSTATE c.val) ≤ lsLocked ∧
      (t.pFw c.val).natAbs ≤ (s.frange48 c.val).natAbs ∧
      t.pgetS2 (LPE_PERR_LO_PERR c.val) (LPE_PERR_HI_PERR c.val)
        = signed 64 (unsigned 64 (rnd (((rnd ((e - s.phiOut c.val) * 65536) : Int) : Rat) / 65536))) ∧
      Frame s t (inst 0x91000 0x100 c.val) [.channels, .free]))

/-- The lock timer locks the channel; a write of `PADJ` sets the target of `PH`; a preview starts at a start condition, and one that lives is cancelled by
a confirmed sample. The job that serves them evaluates the cask's prediction, once in a second. The model's own readings in it: log entry 38. -/
def Obligations.LoopCommands : Prop :=
  ∀ (s : State) (c : Fin 12),
    (s.busUp = true → s.jobsRun = true →
      (s.pget (LPE_STAT_LSTATE c.val) = lsAcquire → 0 < (s.chan c.val).lockT → s.inF (LPE_LOCK_T_LOCK_T c.val) * s.rate ≤ (s.chan c.val).lockT →
        Goes (.lockTimerExpiry c) s (fun t => t.pget (LPE_STAT_LSTATE c.val) = lsLocked ∧ t.pget (LPE_STAT_LOL c.val) = 0 ∧
          Frame s t (among [LPE_STAT_LSTATE c.val, LPE_STAT_LOL c.val]) [.channels])) ∧
      (lsAcquire ≤ s.get (LPE_STAT_LSTATE c.val) → s.get (LPE_STAT_LSTATE c.val) ≤ lsLocked → ∀ u : State, u = s.predictEval c.val →
        ((u.chan c.val).preview = none → u.previewCause c.val ≠ 0 → Goes (.holdoverPreviewJob c) s (fun t =>
          (t.chan c.val).preview = some (u.newPreview c.val (u.previewCause c.val)) ∧
          (t.chan c.val).cancel = u.beginsTransition c.val ∧ Frame s t (fun _ => false) [.channels])) ∧
        ((u.chan c.val).preview = none → u.previewCause c.val = 0 → Goes (.holdoverPreviewJob c) s (fun t =>
          (t.chan c.val).preview = none ∧ Frame s t (fun _ => false) [.channels])) ∧
        ((u.chan c.val).preview ≠ none → Goes (.holdoverPreviewJob c) s (fun t =>
          (t.chan c.val).preview ≠ none ∧
          (t.chan c.val).cancel = ((decide (u.previewCause c.val = 0) && u.confirmedSample c.val) || u.beginsTransition c.val) ∧
          Frame s t (fun _ => false) [.channels]))) ∧
      (s.get (LPE_STAT_LSTATE c.val) < lsAcquire ∨ lsLocked < s.get (LPE_STAT_LSTATE c.val) → Goes (.holdoverPreviewJob c) s (fun t =>
        (t.chan c.val).preview = (s.chan c.val).preview ∧ Frame s t (fun _ => false) [.channels]))) ∧
    (∀ w : HostWrite, s.accepts w (0x91024 + 0x100 * c.val) = true → ∀ v : Nat,
      v = ((s.tns.padj.find? (fun e => e.1 == c.val)).map (fun e => e.2 % 2 ^ 32)).getD (s.merged w (LPE_PADJ_PADJ c.val)) →
      Goes (.lpePadjWrite c w) s (fun t =>
        t.get (LPE_PADJ_PADJ c.val) = v ∧
        (s.pget (LPE_STAT_LSTATE c.val) ≠ lsOff → t.pbit (LPE_STAT_SLEWING c.val) = decide (t.pget (LPE_PH_PH c.val) ≠ v)) ∧
        (s.pget (LPE_STAT_LSTATE c.val) ≠ lsOff → s.unitInRst 9 = false → (s.slopes c.val).1 = 0 → t.pget (LPE_PH_PH c.val) = v) ∧
        (s.pget (LPE_STAT_LSTATE c.val) = lsOff ∨ s.unitInRst 9 = true ∨ (s.slopes c.val).1 ≠ 0 → t.pget (LPE_PH_PH c.val) = s.pget (LPE_PH_PH c.val)) ∧
        Frame s t (among [LPE_PADJ_PADJ c.val, LPE_PH_PH c.val, LPE_STAT_SLEWING c.val]) [.counters]))

/-- The other jobs of the schedule: the rate update is done for the tick; a packet servo with exchanges leaves for the commit either one record of those
that pass its gate, with what it writes, or the count of those it gated; an export and a snapshot leave their record for the commit; the sample record
job has no work of its own. The model's own readings in it: log entries 3, 38. -/
def Obligations.OtherJobs : Prop :=
  ∀ s : State, s.busUp = true → s.jobsRun = true →
    (∀ k : Fin 4, s.unitInRst 12 = false → s.scaleEn k.val = true → Goes (.tsRateUpdateJob k) s (fun t =>
      k.val ∈ t.pend.ts ∧ Frame s t (fun _ => false) [.channels])) ∧
    (∀ g : Fin 32, s.unitInRst 14 = false → (s.grp g.val).got ≠ [] → ∀ x : Grp, x = s.grp g.val →
      ∀ r : List GrpX × List Rat × Nat, r = gateFold (s.get (PTP_GRP_GATE_MPD_GATE g.val)) x.got x.mpds →
      (r.1 = [] → Goes (.packetServoJob g) s (fun t =>
        t.pend.evs = s.pend.evs ++ [(72 + g.val, .count (PTP_GRP_CNT_GATED g.val) r.2.2),
          (72 + g.val, .servo g.val x.got.length x.gm x.mpds x.epoch x.seq)] ∧ Frame s t (fun _ => false) [.channels])) ∧
      (∀ (u : GrpX) (l : List GrpX), r.1 = u :: l → Goes (.packetServoJob g) s (fun t =>
        (72 + g.val, Ev.servo g.val x.got.length x.gm r.2.1 (some (x.epoch.getD (rndDown (u.v / 1000000000)))) ((x.seq + 1) % 65536)) ∈ t.pend.evs ∧
        (72 + g.val, Ev.count (PTP_GRP_CNT_GATED g.val) r.2.2) ∈ t.pend.evs ∧ (72 + g.val, Ev.count (PTP_GRP_CNT_USED g.val) r.1.length) ∈ t.pend.evs ∧
        (t.qslot (56 + g.val)).inbox.take (s.qslot (56 + g.val)).inbox.length = (s.qslot (56 + g.val)).inbox ∧
        ((t.qslot (56 + g.val)).inbox.drop (s.qslot (56 + g.val)).inbox.length).map (fun p => (p.kind, p.slot, p.edges)) = [(8, 56 + g.val, r.1.length)] ∧
        Frame s t (fun _ => false) [.channels, .slots]))) ∧
    (∀ g : Fin 32, (s.grp g.val).got = [] → Goes (.packetServoJob g) s (fun t => Frame s t (fun _ => false) [])) ∧
    (∀ c : Fin 12, Goes (.windowExportJob c) s (fun t =>
      t.pend.evs = s.pend.evs ++ [(104 + c.val, .post 3 (s.exportWords c.val))] ∧ Frame s t (fun _ => false) [.channels])) ∧
    (∀ g : Fin 256, g.val ≤ 11 → Goes (.counterSnapshotJob g) s (fun t =>
      t.pend.evs = s.pend.evs ++ [(116 + g.val, .post 7 (s.snapshotWords g.val))] ∧ Frame s t (fun _ => false) [.channels])) ∧
    (∀ g : Fin 256, 11 < g.val → Goes (.counterSnapshotJob g) s (fun t => Frame s t (fun _ => false) [])) ∧
    (∀ i : Fin 256, Goes (.sampleRecordJob i) s (fun t => Frame s t (fun _ => false) []))

/-- No job runs while no image is applied or LPE is in reset. The model's own readings in it: log entry 4. -/
def Obligations.JobsWaitForImage : Prop :=
  ∀ (s : State) (j : Instr), loopJob j = true → s.jobsRun = false → Goes j s (fun t => Frame s t (fun _ => false) [])

/-- The sensor: at tick 0 the die is read and the first transaction with an external sensor goes out; a reading out of range or too far from the last is
rejected, another taken; an attempt that fails is counted and repeated up to three times; `SNS_TO` seconds after the last accepted reading the cask
falls back to the die, and returns after ten accepted readings. A clear that waits is made at a tick 0: it empties the channel's history, fit and
grade, and freezes the prediction of a channel in HOLDOVER; the cask job takes the open seconds, grades the channel and names its prediction source; a
holdover at `HO_LIMIT` is reported. The model's own readings in it: log entry 39. -/
def Obligations.CaskAndSensor : Prop :=
  (∀ s : State, s.busUp = true → ∀ ask : Wire, ask = .sensor (s.inF CSK_SNS_CFG_ADDR) (s.inF CSK_SNS_CFG_PTR) (s.inFb CSK_SNS_CFG_SPEED) →
    (s.unitInRst 10 = false → Goes .sensorRead s (fun t =>
      t.get CSK_TEMP_T_DIE = s.get SYS_TEMP_T_DIE % 2 ^ 16 ∧ t.csk.attempts = (if s.inFb CSK_SNS_CFG_SNS_EN then 1 else 0) ∧
      (s.inFb CSK_SNS_CFG_SNS_EN = false → t.get CSK_TUSE_SRC = 0 ∧ t.wire = []) ∧ (s.inFb CSK_SNS_CFG_SNS_EN = true → t.wire = [ask]) ∧
      Frame s t (among [CSK_TEMP_T_DIE, CSK_TUSE_SRC, CSK_TUSE_T_USE]) [.cask])) ∧
    (s.csk.attempts ≠ 0 →
      Goes .sensorAttemptTimeout s (fun t =>
        t.csk.attempts = (if 3 ≤ s.csk.attempts then 0 else s.csk.attempts + 1) ∧ t.wire = (if 3 ≤ s.csk.attempts then [] else [ask]) ∧
        t.get CSK_SNS_CNT_NAK = min (s.get CSK_SNS_CNT_NAK + 1) CSK_SNS_CNT_NAK.max ∧
        Frame s t (among [CSK_SNS_CNT_NAK, CSK_TUSE_T_USE]) [.cask]) ∧
      (∀ (v : BitVec 16) (x : Rat), x = s.sensorValue v →
        ((x < -7040 ∨ x > 19200 ∨ ∃ e, s.csk.ext = some e ∧ absRat (x - (e : Rat)) > (s.inF CSK_SNS_LIM_SNS_STEP : Rat) * 128 / 10) →
          Goes (.sensorReadDone v) s (fun t =>
            t.csk.attempts = 0 ∧ t.csk.ext = s.csk.ext ∧ t.csk.okRun = 0 ∧ t.get CSK_STICKY_SNS_REJ_S = 1 ∧
            t.get CSK_SNS_CNT_REJ = min (s.get CSK_SNS_CNT_REJ + 1) CSK_SNS_CNT_REJ.max ∧
            Frame s t (among [CSK_SNS_CNT_REJ, CSK_STICKY_SNS_REJ_S, CSK_TUSE_T_USE]) [.cask])) ∧
        (-7040 ≤ x → x ≤ 19200 → (∀ e, s.csk.ext = some e → absRat (x - (e : Rat)) ≤ (s.inF CSK_SNS_LIM_SNS_STEP : Rat) * 128 / 10) →
          Goes (.sensorReadDone v) s (fun t =>
            t.csk.attempts = 0 ∧ t.csk.ext = some (rnd x) ∧ t.csk.okRun = s.csk.okRun + 1 ∧ t.csk.extAt = some s.cskTime ∧
            t.getS CSK_TEMP_T_EXT = signed 16 (unsigned 16 (rnd x)) ∧
            (s.bit CSK_TUSE_FALLBACK = false → t.get CSK_TUSE_SRC = 1) ∧
            (s.bit CSK_TUSE_FALLBACK = true → 10 ≤ s.csk.okRun + 1 → t.get CSK_TUSE_SRC = 1 ∧ t.get CSK_TUSE_FALLBACK = 0) ∧
            Frame s t (among [CSK_TEMP_T_EXT, CSK_TOFS_TOFS, CSK_TUSE_SRC, CSK_TUSE_FALLBACK, CSK_TUSE_T_USE]) [.cask])))) ∧
    (s.inFb CSK_SNS_CFG_SNS_EN = true → s.bit CSK_TUSE_FALLBACK = false → s.unitInRst 10 = false → s.sensorDue = true → Goes .sensorTimeout s (fun t =>
      t.get CSK_TUSE_FALLBACK = 1 ∧ t.get CSK_TUSE_SRC = 0 ∧ t.csk.okRun = 0 ∧ t.get CSK_STICKY_SNS_FB_S = 1 ∧
      Frame s t (among [CSK_TUSE_FALLBACK, CSK_TUSE_SRC, CSK_STICKY_SNS_FB_S]) [.cask])) ∧
    (s.sensorDue = false → Goes .sensorTimeout s (fun t => Frame s t (fun _ => false) [])) ∧
    (3600 ≤ s.csk.tofsRun → Goes .tofsLearned s (fun t => t.get CSK_TUSE_TOFS_OK = 1 ∧ Frame s t (among [CSK_TUSE_TOFS_OK]) []))) ∧
  (∀ (s : State) (c : Fin 12),
    (s.busUp = true →
      ((s.caskOf c.val).clear = true → s.tickIndex = 0 → Goes (.caskClear c) s (fun t =>
        (t.caskOf c.val).ringS = [] ∧ (t.caskOf c.val).ringM = [] ∧ (t.caskOf c.val).ringH = [] ∧ (t.caskOf c.val).bins = [] ∧
        (t.caskOf c.val).clear = false ∧ t.get (CSK_STAT_GRADE c.val) = 0 ∧ t.get (CSK_FIT_MIN_FIT_MIN c.val) = 0 ∧
        (s.get (CSK_STAT_GRADE c.val) ≠ 0 → t.get (CSK_STICKY_GRADE_S c.val) = 1) ∧ t.get (CSK_EPOCH_EPOCH c.val) = s.cskSec ∧
        t.get (CSK_FILL_S_VALID c.val) = 0 ∧ t.get (CSK_FILL_M_VALID c.val) = 0 ∧ t.get (CSK_STICKY_CLR_S c.val) = 1 ∧
        (s.get (LPE_STAT_LSTATE c.val) = lsHoldover → (t.chan c.val).frozen = true ∧ t.get (CSK_STAT_PSRC c.val) = s.get (CSK_STAT_PSRC c.val)) ∧
        (s.get (LPE_STAT_LSTATE c.val) ≠ lsHoldover → t.get (CSK_STAT_PSRC c.val) = 0) ∧
        Frame s t (inst 0xA1000 0x100 c.val) (if s.get (LPE_STAT_LSTATE c.val) = lsHoldover then [.cask, .channels] else [.cask]))) ∧
      ((s.caskOf c.val).clear = false ∨ s.tickIndex ≠ 0 → Goes (.caskClear c) s (fun t => Frame s t (fun _ => false) [])) ∧
      (s.get (LPE_STAT_LSTATE c.val) = lsHoldover → s.inF (CSK_HO_LIMIT_HO_LIMIT c.val) ≠ 0 →
        s.inF (CSK_HO_LIMIT_HO_LIMIT c.val) * s.rate ≤ (s.chan c.val).hoDur → Goes (.hoLimitReached c) s (fun t =>
          t.get (CSK_STICKY_HOLIM_S c.val) = 1 ∧ Frame s t (among [CSK_STICKY_HOLIM_S c.val]) [])) ∧
      (s.jobsRun = true → s.unitInRst 10 = false → Goes (.caskJob c) s (fun t =>
        (t.caskOf c.val).opn = [] ∧
        (s.tickIndex = 0 ∨ (s.caskOf c.val).opn ≠ [] → t.get (CSK_STAT_GRADE c.val) = t.gradeNow c.val ∧
          (s.get (CSK_STAT_GRADE c.val) ≠ t.get (CSK_STAT_GRADE c.val) → t.get (CSK_STICKY_GRADE_S c.val) = 1) ∧
          t.get (CSK_STAT_PSRC c.val) = (if s.get (LPE_STAT_LSTATE c.val) = lsHoldover then (s.chan c.val).hoPsrc
            else t.psrcOf c.val (t.get (CSK_STAT_GRADE c.val))) % 8) ∧
        (s.tickIndex ≠ 0 → (s.caskOf c.val).opn = [] → Frame s t (fun _ => false) [.cask]) ∧
        Frame s t (inst 0xA1000 0x100 c.val) [.cask, .counters]))) ∧
    (∀ w : HostWrite, s.accepts w 0xA0004 = true → Goes (.caskClearWrite w) s (fun t =>
      (∀ i : Fin 12, bitAt w.v.toNat i.val = true → (t.caskOf i.val).clear = true) ∧
      Frame s t (among [CSK_CLEAR_CLEAR]) [.cask, .counters])))

/-! ## Output synthesis -/

/-- The states of an analogue PLL: a band found leaves CAL for ACQ; a search that finds none starts again; a detector in lock makes it LOCKED; no lock
within 2 ms returns it to CAL; a detector out of lock returns it to ACQ. In another state, and before the time given (3 ms for the search) has run
out, each changes nothing. The loss of the XO holds every enabled, powered APLL in CAL; its return lets those that are OFF calibrate. The follower
locks once its error has stayed below 1 ns for a second. The model's own readings in it: log entry 40. -/
def Obligations.ApllAndXo : Prop :=
  (∀ (s : State) (m : Fin 4), s.busUp = true →
    (s.astate m.val = apCal → s.bit SYN_XO_STAT_XO_OK = true →
      (∀ (b : Fin 128) (tu : Fin 65536), Goes (.apllBandFound m b tu) s (fun t =>
        t.astate m.val = apAcq ∧ t.get (SYN_APLL_STAT_BAND m.val) = b.val ∧ (t.apll m.val).tune = tu.val ∧
        Frame s t (inBlocks [11]) [.syn, .counters])) ∧
      (s.dueBy ((s.apll m.val).since + 6000000) = true → Goes (.apllCalTimeout m) s (fun t =>
        (t.apll m.val).since = (s.apll m.val).since + 6000000 ∧
        t.get (SYN_APLL_CNT_RECALS m.val) = min (s.get (SYN_APLL_CNT_RECALS m.val) + 1) (SYN_APLL_CNT_RECALS m.val).max ∧
        t.get (SYN_APLL_STICKY_CALFAIL_S m.val) = 1 ∧ Frame s t (among [SYN_APLL_CNT_RECALS m.val, SYN_APLL_STICKY_CALFAIL_S m.val]) [.syn])) ∧
      (s.dueBy ((s.apll m.val).since + 6000000) = false → Goes (.apllCalTimeout m) s (fun t => Frame s t (fun _ => false) []))) ∧
    (s.astate m.val = apAcq →
      Goes (.apllLockDetect m) s (fun t =>
        t.astate m.val = apLocked ∧ t.get (SYN_APLL_STAT_LOCK m.val) = 1 ∧ t.get (SYN_APLL_STICKY_LOCK_S m.val) = 1 ∧
        Frame s t (inBlocks [11]) [.syn, .counters]) ∧
      (s.dueBy ((s.apll m.val).since + 4000000) = true → Goes (.apllAcqTimeout m) s (fun t =>
        t.astate m.val = apCal ∧ t.get (SYN_APLL_CNT_RECALS m.val) = min (s.get (SYN_APLL_CNT_RECALS m.val) + 1) (SYN_APLL_CNT_RECALS m.val).max ∧
        Frame s t (among [SYN_APLL_STAT_ASTATE m.val, SYN_APLL_STAT_LOCK m.val, SYN_APLL_CNT_RECALS m.val]) [.syn])) ∧
      (s.dueBy ((s.apll m.val).since + 4000000) = false → Goes (.apllAcqTimeout m) s (fun t => Frame s t (fun _ => false) []))) ∧
    (s.astate m.val = apLocked → Goes (.apllUnlockDetect m) s (fun t =>
      t.astate m.val = apAcq ∧ t.get (SYN_APLL_STAT_LOCK m.val) = 0 ∧ t.get (SYN_APLL_STICKY_UNLOCK_S m.val) = 1 ∧
      t.get (SYN_APLL_CNT_UNLOCKS m.val) = min (s.get (SYN_APLL_CNT_UNLOCKS m.val) + 1) (SYN_APLL_CNT_UNLOCKS m.val).max ∧
      Frame s t (inBlocks [11]) [.syn, .counters])) ∧
    (s.astate m.val ≠ apCal → Goes (.apllCalTimeout m) s (fun t => Frame s t (fun _ => false) []) ∧
      ∀ (b : Fin 128) (tu : Fin 65536), Goes (.apllBandFound m b tu) s (fun t => Frame s t (fun _ => false) [])) ∧
    (s.astate m.val ≠ apAcq →
      Goes (.apllLockDetect m) s (fun t => Frame s t (fun _ => false) []) ∧ Goes (.apllAcqTimeout m) s (fun t => Frame s t (fun _ => false) [])) ∧
    (s.astate m.val ≠ apLocked → Goes (.apllUnlockDetect m) s (fun t => Frame s t (fun _ => false) []))) ∧
  (∀ s : State, s.busUp = true →
    (s.bit SYN_XO_STAT_XO_OK = true → Goes .xoLoss s (fun t =>
      t.get SYN_XO_STAT_XO_OK = 0 ∧ t.get SYN_STICKY_XO_LOSS_S = 1 ∧
      (∀ m : Fin 4, t.astate m.val = (if s.domainUp m.val && s.bit (SYN_APLL_CFG_EN m.val) then (if s.astate m.val = apOff then apOff else apCal) else apOff)) ∧
      Frame s t (inBlocks [11]) [.syn, .counters])) ∧
    (s.bit SYN_XO_STAT_XO_OK = false → Goes .xoRestore s (fun t =>
      t.get SYN_XO_STAT_XO_OK = 1 ∧
      (∀ m : Fin 4, t.astate m.val = (if s.domainUp m.val && s.bit (SYN_APLL_CFG_EN m.val) then (if s.astate m.val = apOff then apCal else s.astate m.val) else apOff)) ∧
      Frame s t (inBlocks [11]) [.syn, .counters])) ∧
    (s.bit SYN_XO_STAT_XF_LOCK = false → s.rate ≤ s.syn.xoT → Goes .xfLock s (fun t =>
      t.get SYN_XO_STAT_XF_LOCK = 1 ∧ Frame s t (inBlocks [11]) [.syn, .counters])))

/-- The state an output takes from its causes, and its driver: it holds its static level once squelched or gated, and gives its first edge once running.
The model's own readings in it: log entry 40. -/
def Obligations.OutputStates : Prop :=
  ∀ (s : State) (j : Fin 24), s.busUp = true →
    (s.unitInRst 11 = false → s.get (SYN_OUT_STAT_OSTATE j.val) ≤ 3 → Goes (.sqCauseChange j) s (fun t =>
      t.get (SYN_OUT_STAT_OSTATE j.val) = (
        if s.outIsOff j.val then osOff
        else if s.get (SYN_OUT_STAT_OSTATE j.val) = osOff then osSquelched
        else if s.sqCause j.val ≠ 0 then osSquelched
        else if s.get (SYN_OUT_STAT_OSTATE j.val) = osSquelched then (if s.gatedOff j.val then osGated else osRunning)
        else s.get (SYN_OUT_STAT_OSTATE j.val)) ∧
      (s.get (SYN_OUT_STAT_OSTATE j.val) = osSquelched → t.get (SYN_OUT_STAT_OSTATE j.val) = osRunning → t.get (SYN_OUT_STICKY_RUN_S j.val) = 1) ∧
      (osRunning ≤ s.get (SYN_OUT_STAT_OSTATE j.val) → t.get (SYN_OUT_STAT_OSTATE j.val) = osSquelched → t.get (SYN_OUT_STICKY_SQ_S j.val) = 1) ∧
      t.get (SYN_OUT_STAT_SQ_CAUSE j.val) = t.sqCause j.val ∧
      Frame s t (fun k => inst 0xB1000 0x40 j.val k || among [SYN_OUT_GO_GO] k) [.syn, .counters])) ∧
    (∀ p : Bool, (s.get (SYN_OUT_STAT_OSTATE j.val) = osSquelched ∨ s.get (SYN_OUT_STAT_OSTATE j.val) = osGated) → (s.out j.val).drive = .active →
      Goes (.outputSquelchEntry j p) s (fun t =>
        (t.out j.val).drive = .static ∧
        (p = true → s.bit (SYN_OUT_CFG_PULSE j.val) = true → s.get (SYN_OUT_STAT_OSTATE j.val) = osSquelched →
          bitAt (s.get (SYN_OUT_STAT_SQ_CAUSE j.val)) 0 = true → t.get (SYN_OUT_STICKY_TRUNC_S j.val) = 1) ∧
        Frame s t (among [SYN_OUT_STICKY_TRUNC_S j.val]) [.syn])) ∧
    (s.get (SYN_OUT_STAT_OSTATE j.val) = osRunning → (s.out j.val).drive ≠ .active → Goes (.outputStart j) s (fun t =>
      (t.out j.val).drive = .active ∧
      (s.bit (SYN_OUT_CFG_TS_EN j.val) = true → (t.out j.val).edge = s.epochAfter j.val ((s.out j.val).clearAt + 2 * s.period)) ∧
      Frame s t (fun _ => false) [.syn]))

/-- Host writes of the outputs: `SYN_SQ_FORCE` and `SYN_OUT_GO` take the written lanes; a changed `SET`, `OUT_PHASE` or `TRIM` of an output that is not
OFF asks for a reload, a step or a movement, and in SYN's reset-shadow is only stored. After `ALIGN_N` records the mean shows in `AERR` and `ATRIM`
gets a new target. At a period boundary the one action that is due acts: a phase step, a gate, a reload. The model's own readings in it: log entry 40. -/
def Obligations.OutputWritesAndActions : Prop :=
  (∀ (s : State) (j : Fin 24) (w : HostWrite),
    (s.accepts w 0xB0030 = true → Goes (.sqForceWrite w) s (fun t =>
      t.get SYN_SQ_FORCE_SQ_FORCE = s.merged w SYN_SQ_FORCE_SQ_FORCE ∧ Frame s t (inBlocks [11]) [.syn, .counters])) ∧
    (s.accepts w 0xB0034 = true → s.unitInRst 11 = true → Goes (.outGoWrite w) s (fun t =>
      t.get SYN_OUT_GO_GO = (s.get SYN_OUT_GO_GO ||| writtenBits w.be w.v 0 24) % 2 ^ 24 ∧ Frame s t (among [SYN_OUT_GO_GO]) [.counters])) ∧
    (s.accepts w 0xB0034 = true → s.unitInRst 11 = false → Goes (.outGoWrite w) s (fun t =>
      (∀ i : Fin 24, t.get (SYN_OUT_STAT_OSTATE i.val) = s.get (SYN_OUT_STAT_OSTATE i.val) →
        bitAt (t.get SYN_OUT_GO_GO) i.val = (bitAt (s.get SYN_OUT_GO_GO) i.val || bitAt (writtenBits w.be w.v 0 24) i.val)) ∧
      Frame s t (inBlocks [11]) [.syn, .counters])) ∧
    (s.accepts w (0xB1000 + 0x40 * j.val) = true → Goes (.outSetWrite j w) s (fun t =>
      t.get (SYN_OUT_CFG_SET j.val) = s.merged w (SYN_OUT_CFG_SET j.val) ∧
      (s.unitInShadow 11 = false → t.get (SYN_OUT_CFG_SET j.val) ≠ s.get (SYN_OUT_CFG_SET j.val) → t.outIsOff j.val = false →
        (t.out j.val).acts = (s.out j.val).acts ++ [(.reload (t.bit (SYN_OUT_CFG_SET j.val)), s.coarse + 128, [])]) ∧
      (s.unitInShadow 11 = true → t.syn = s.syn) ∧
      Frame s t (fun k => inst 0xB1000 0x40 j.val k || among [SYN_OUT_GO_GO] k) [.syn, .counters])) ∧
    (s.accepts w (0xB1028 + 0x40 * j.val) = true → Goes (.outPhaseWrite j w) s (fun t =>
      t.get (SYN_OUT_PHASE_OUT_PHASE j.val) = s.merged w (SYN_OUT_PHASE_OUT_PHASE j.val) ∧
      (s.unitInShadow 11 = false → t.get (SYN_OUT_PHASE_OUT_PHASE j.val) ≠ s.get (SYN_OUT_PHASE_OUT_PHASE j.val) → t.outIsOff j.val = false →
        (t.out j.val).acts = (s.out j.val).acts ++ [(.phaseTo (t.getS (SYN_OUT_PHASE_OUT_PHASE j.val)), s.coarse + 128, [])]) ∧
      (s.unitInShadow 11 = true → t.syn = s.syn) ∧
      Frame s t (fun k => inst 0xB1000 0x40 j.val k || among [SYN_OUT_GO_GO] k) [.syn, .counters])) ∧
    (s.accepts w (0xB102C + 0x40 * j.val) = true → Goes (.outTrimWrite j w) s (fun t =>
      t.get (SYN_OUT_TRIM_TRIM j.val) = s.merged w (SYN_OUT_TRIM_TRIM j.val) ∧
      (s.unitInShadow 11 = false → t.get (SYN_OUT_TRIM_TRIM j.val) ≠ s.get (SYN_OUT_TRIM_TRIM j.val) →
        (t.out j.val).trimTo = t.getS (SYN_OUT_TRIM_TRIM j.val)) ∧
      (s.unitInShadow 11 = true → t.syn = s.syn) ∧
      Frame s t (fun k => inst 0xB1000 0x40 j.val k || among [SYN_OUT_GO_GO] k) [.syn, .counters]))) ∧
  (∀ (s : State) (j : Fin 24), s.busUp = true →
    (s.synAway = false → s.get (SYN_OUT_ACFG_ALIGN_N j.val) ≠ 0 → s.get (SYN_OUT_ACFG_ALIGN_N j.val) ≤ (s.out j.val).diffs.length →
      Goes (.alignUpdate j) s (fun t =>
        t.getS (SYN_OUT_AERR_AERR j.val) = clampInt (-(2 ^ 31)) (2 ^ 31 - 1) (rnd (meanRat ((s.out j.val).diffs.take (s.get (SYN_OUT_ACFG_ALIGN_N j.val))))) ∧
        (t.out j.val).diffs = (s.out j.val).diffs.drop (s.get (SYN_OUT_ACFG_ALIGN_N j.val)) ∧
        (t.out j.val).bad = decide (s.get (SYN_OUT_ACFG_ALIGN_LIM j.val) * 16 ≤ (t.getS (SYN_OUT_AERR_AERR j.val)).natAbs) ∧
        ((t.out j.val).bad = true → t.get (SYN_OUT_STAT_ALIGNED j.val) = 0 ∧ t.get (SYN_OUT_STICKY_ALIGN_S j.val) = 1) ∧
        Frame s t (fun k => inst 0xB1000 0x40 j.val k || among [SYN_OUT_GO_GO] k) [.syn, .counters])) ∧
    (∀ (a : OutAct) (b : Nat) (r : List Nat), (s.out j.val).acts = [(a, b, r)] → b ≤ s.coarse → s.outIsOff j.val = false → s.unitInRst 11 = false →
      s.sqCause j.val = 0 → s.get (SYN_OUT_STAT_OSTATE j.val) = osRunning →
      (∀ d : Int, a = .phaseAdd d → Goes (.outputPhaseStep j) s (fun t =>
        (t.out j.val).phase = (s.out j.val).phase + d ∧ (t.out j.val).acts = [] ∧ t.get (SYN_OUT_STICKY_STEP_S j.val) = 1 ∧
        Frame s t (fun k => inst 0xB1000 0x40 j.val k || inBlocks [1, 16] k) [.syn, .counters, .window, .rings])) ∧
      (a = .gateOff → s.gatedOff j.val = false → Goes (.outputGateOff j) s (fun t =>
        t.get (SYN_OUT_STAT_OSTATE j.val) = osGated ∧ t.gatedOff j.val = true ∧ t.get (SYN_OUT_STICKY_GATE_S j.val) = 1 ∧ (t.out j.val).acts = [] ∧
        Frame s t (fun k => inst 0xB1000 0x40 j.val k || among [SYN_GATE_GATE_OFF] k || inBlocks [1, 16] k) [.syn, .counters, .window, .rings])) ∧
      (∀ x : Bool, a = .reload x → Goes (.dividerReload j) s (fun t =>
        (t.out j.val).setB = x ∧ t.bit (SYN_OUT_STAT_SET_ACT j.val) = x ∧ (t.out j.val).acts = [] ∧
        Frame s t (fun k => inst 0xB1000 0x40 j.val k || inBlocks [1, 16] k) [.syn, .counters, .window, .rings]))) ∧
    (∀ (b : Nat) (r : List Nat), (s.out j.val).acts = [(.gateOn, b, r)] → b ≤ s.coarse → s.outIsOff j.val = false → s.unitInRst 11 = false →
      s.sqCause j.val = 0 → s.get (SYN_OUT_STAT_OSTATE j.val) = osGated → Goes (.outputGateOn j) s (fun t =>
        t.get (SYN_OUT_STAT_OSTATE j.val) = osRunning ∧ t.gatedOff j.val = false ∧ t.get (SYN_OUT_STICKY_RUN_S j.val) = 1 ∧ (t.out j.val).acts = [] ∧
        Frame s t (fun k => inst 0xB1000 0x40 j.val k || among [SYN_GATE_GATE_OFF] k || inBlocks [1, 16] k) [.syn, .counters, .window, .rings])))

/-! ## Time -/

/-- At a tick boundary the tick turns: the pending bank has become the indicative one and the next starts as its copy, the tick counter is one on, the
accounting names the tick that ended, and the boundary is the present edge. The model's own readings in it: log entries 18, 19. -/
def Obligations.TickTurns : Prop :=
  ∀ (s : State) (inp : TickIn), s.busUp = true →
    (s.sys.clocks = true → Goes (.tickBoundary inp) s (fun t =>
      t.tick = s.tick + 1 ∧ t.bound = t.coarse ∧ s.coarse ≤ t.coarse ∧ t.get OBS_ACCT_TICK_TICK = s.tick % 2 ^ 32 ∧
      (∀ g : Fld, t.get g = t.pget g) ∧ t.ind.chan = t.pend.chan ∧ t.pend.ts = [] ∧ t.pend.evs = [] ∧
      t.pending = s.pending ∧ t.otp = s.otp ∧ (∀ a, tabGet 0 t.gld.sram a = tabGet 0 s.gld.sram a))) ∧
    (s.sys.clocks = false → Goes (.tickBoundary inp) s (fun t => Frame s t (fun _ => false) []))

/-- The one step: a write of `GO` while the right is armed makes the step wait for a `TCK` edge 32 ns or more on; a later one is rejected, its values kept
and reported; at its edge the step adds its delta to the counter. The model's own readings in it: log entry 41. -/
def Obligations.TimeStep : Prop :=
  ∀ (s : State) (k : Fin 4),
    (∀ w : HostWrite, s.accepts w (0xC0130 + 0x80 * k.val) = true →
      (bitAt w.v.toNat 0 = false → Goes (.timeStepGoWrite k w) s (fun t => Frame s t (fun _ => false) [.counters])) ∧
      (bitAt w.v.toNat 0 = true → s.wonce.contains (TME_STEP_GO_GO k.val).key = false → s.unitInRst 12 = false → s.scaleEn k.val = true →
        Goes (.timeStepGoWrite k w) s (fun t =>
          t.get (TME_STEP_GO_GO k.val) = 1 ∧ t.wonce = s.wonce ++ [(TME_STEP_GO_GO k.val).key] ∧
          (t.scale k.val).step = some (s.stepDelta k.val, (s.coarse + 64 + 3) / 4 * 4) ∧
          t.inForce = s.inForce ∧ t.upset = s.upset ∧ Frame s t (among [TME_STEP_GO_GO k.val]) [.scales, .force, .counters])) ∧
      (bitAt w.v.toNat 0 = true → s.wonce.contains (TME_STEP_GO_GO k.val).key = true → Goes (.timeStepGoWrite k w) s (fun t =>
        t.get (TME_STEP_INFO_REJ k.val) = min (s.get (TME_STEP_INFO_REJ k.val) + 1) (TME_STEP_INFO_REJ k.val).max ∧
        t.get (TME_REJ_SEC_LO_SEC k.val) = s.get (TME_STEP_SEC_LO_SEC k.val) ∧ t.get (TME_REJ_SEC_HI_SEC k.val) = s.get (TME_STEP_SEC_HI_SEC k.val) ∧
        t.get (TME_REJ_NS_NS k.val) = s.get (TME_STEP_NS_NS k.val) ∧ t.get (TME_STICKY_STEP_REJ_S k.val) = 1 ∧ t.get TME_STICKY_WONCE_VIOL = 1 ∧
        t.get GLD_VIOL_ADDR_ADDR = (0xC0130 + 0x80 * k.val) % 2 ^ 22 ∧
        Frame s t (among [TME_STEP_INFO_REJ k.val, TME_REJ_SEC_LO_SEC k.val, TME_REJ_SEC_HI_SEC k.val, TME_REJ_NS_NS k.val, TME_STICKY_STEP_REJ_S k.val,
          TME_STICKY_WONCE_VIOL, GLD_VIOL_ADDR_ADDR, GLD_VIOL_CNT_COUNT]) [.counters]))) ∧
    (s.busUp = true →
      (∀ (d : Int) (n : Nat), (s.scale k.val).step = some (d, n) → (s.dueBy n = true ∨ s.applied = false) →
        Goes (.timeStepApply k) s (fun t =>
          t.coarse = max s.coarse n ∧ t.now k.val = (((s.scale k.val).at t.coarse : Int) + d).toNat ∧ (t.scale k.val).step = none ∧
          t.get (TME_STAT_STEPPED k.val) = 1 ∧ t.get (TME_STAT_ARMED k.val) = 0 ∧ t.get (TME_STICKY_STEP_S k.val) = 1 ∧
          t.get (TME_STEP_INFO_STEP_TICK k.val) = s.tick % 65536 ∧ (k.val ≠ s.primary → t.target = s.target) ∧
          Frame s t (fun g => inBlocks [1, 2, 3, 9, 11, 12, 16] g || among [TIM_BANKFULL_CNT_CYCLES] g) [.time, .scales, .tns, .syn, .rings, .window, .channels, .counters, .loader, .slots, .force, .free])) ∧
      (∀ (d : Int) (n : Nat), (s.scale k.val).step = some (d, n) → s.dueBy n = false → s.applied = true → s.gld.op ≠ some .swap →
        Goes (.timeStepApply k) s (fun t => Frame s t (fun _ => false) [])) ∧
      ((s.scale k.val).step = none → s.gld.op ≠ some .swap → Goes (.timeStepApply k) s (fun t => Frame s t (fun _ => false) [])))

/-- A rate adjustment: a write of `DUR` asks for one, which starts in place of any that runs, and ends after its ticks. UTC data: a write of `COMMIT`
holds the fields as they stand, the boundary puts them in force together, and when the seconds reach `LEAP_SEC` the offset moves by one and the flags
clear. The model's own readings in it: log entries 21, 41. -/
def Obligations.RateAndUtc : Prop :=
  (∀ (s : State) (k : Fin 4),
    (∀ w : HostWrite, s.accepts w (0xC0148 + 0x80 * k.val) = true → Goes (.rateAdjDurWrite k w) s (fun t =>
      (w.v.toNat % 2 ^ 24 ≠ 0 → s.scaleEn k.val = true → (t.scale k.val).radjNext = some (s.getS (TME_RADJ_RADJ k.val), w.v.toNat % 2 ^ 24)) ∧
      (w.v.toNat % 2 ^ 24 = 0 ∨ s.scaleEn k.val = false → t.scales = s.scales) ∧
      (t.scale k.val).radj = (s.scale k.val).radj ∧ (t.scale k.val).radjTense = (s.scale k.val).radjTense ∧ Frame s t (fun _ => false) [.scales, .counters])) ∧
    (s.busUp = true →
      (∀ (r : Int) (d : Nat), (s.scale k.val).radjNext = some (r, d) → Goes (.rateAdjStart k) s (fun t =>
        (t.scale k.val).radjNext = none ∧ (t.scale k.val).radj = some ⟨r, d, 0⟩ ∧ (t.scale k.val).radjTense = (s.scale k.val).radjTense ∧ t.now k.val = s.now k.val ∧ Frame s t (fun _ => false) [.scales])) ∧
      ((s.scale k.val).radjNext = none → Goes (.rateAdjStart k) s (fun t => Frame s t (fun _ => false) [])) ∧
      (∀ a : Radj, (s.scale k.val).radj = some a →
        (a.left = 0 → Goes (.rateAdjDone k) s (fun t =>
          (t.scale k.val).radj = none ∧ t.get (TME_STICKY_RADJ_S k.val) = 1 ∧ Frame s t (among [TME_STICKY_RADJ_S k.val]) [.scales])) ∧
        (a.left ≠ 0 → Goes (.rateAdjDone k) s (fun t => Frame s t (fun _ => false) []))))) ∧
  (∀ (s : State) (k : Fin 4),
    (∀ w : HostWrite, s.accepts w (0xC0158 + 0x80 * k.val) = true →
      (bitAt w.v.toNat 0 = true → Goes (.utcCommitWrite k w) s (fun t =>
        (t.scale k.val).utcDue = some { ofs := s.getS (TME_UTC_UTC_OFS k.val), valid := s.bit (TME_UTC_UTC_VALID k.val), leap61 := s.bit (TME_UTC_LEAP61 k.val), leap59 := s.bit (TME_UTC_LEAP59 k.val), sec := s.get2 (TME_LEAP_SEC_LO_LEAP_SEC k.val) (TME_LEAP_SEC_HI_LEAP_SEC k.val) } ∧
        (t.scale k.val).utc = (s.scale k.val).utc ∧ Frame s t (fun _ => false) [.scales, .counters])) ∧
      (bitAt w.v.toNat 0 = false → Goes (.utcCommitWrite k w) s (fun t => Frame s t (fun _ => false) [.counters]))) ∧
    (s.busUp = true →
      (∀ u : UtcData, (s.scale k.val).utcDue = some u → Goes (.utcApply k) s (fun t =>
        (t.scale k.val).utc = u ∧ (t.scale k.val).utcDue = none ∧ Frame s t (fun _ => false) [.scales])) ∧
      ((s.scale k.val).utcDue = none → Goes (.utcApply k) s (fun t => Frame s t (fun _ => false) [])) ∧
      ((s.scale k.val).secSeen < (s.scale k.val).utc.sec → (s.scale k.val).utc.sec ≤ tsSec (s.now k.val) →
        ((s.scale k.val).utc.leap61 = true → (s.scale k.val).utc.leap59 = false → Goes (.leapSecond k) s (fun t =>
          (t.scale k.val).utc = { (s.scale k.val).utc with ofs := (s.scale k.val).utc.ofs + 1, leap61 := false } ∧
          t.getS (TME_UTC_UTC_OFS k.val) = signed 16 (unsigned 16 ((s.scale k.val).utc.ofs + 1)) ∧
          t.get (TME_UTC_LEAP61 k.val) = 0 ∧ t.get (TME_UTC_LEAP59 k.val) = 0 ∧ t.get (TME_STICKY_LEAP_S k.val) = 1 ∧
          Frame s t (among [TME_UTC_UTC_OFS k.val, TME_UTC_LEAP61 k.val, TME_UTC_LEAP59 k.val, TME_STICKY_LEAP_S k.val]) [.scales])) ∧
        ((s.scale k.val).utc.leap61 = false → (s.scale k.val).utc.leap59 = true → Goes (.leapSecond k) s (fun t =>
          (t.scale k.val).utc = { (s.scale k.val).utc with ofs := (s.scale k.val).utc.ofs - 1, leap59 := false } ∧
          t.getS (TME_UTC_UTC_OFS k.val) = signed 16 (unsigned 16 ((s.scale k.val).utc.ofs - 1)) ∧
          t.get (TME_UTC_LEAP61 k.val) = 0 ∧ t.get (TME_UTC_LEAP59 k.val) = 0 ∧ t.get (TME_STICKY_LEAP_S k.val) = 1 ∧
          Frame s t (among [TME_UTC_UTC_OFS k.val, TME_UTC_LEAP61 k.val, TME_UTC_LEAP59 k.val, TME_STICKY_LEAP_S k.val]) [.scales]))) ∧
      ((s.scale k.val).utc.leap61 = false → (s.scale k.val).utc.leap59 = false → Goes (.leapSecond k) s (fun t =>
        (t.scale k.val).utc = (s.scale k.val).utc ∧ Frame s t (fun _ => false) [.scales]))))

/-- Stamps: a read of a group's `NS` register answers it and latches the group for the master; a stamped record of an enabled pin shows in the pin's
registers; a pin with no stamp for `EVT_TO` ms raises `MISS_S`, not again before its next stamp; a read of a queue's `ID` pops its oldest entry. The
model's own readings in it: log entry 41. -/
def Obligations.StampsRead : Prop :=
  ∀ s : State,
    (∀ (m : Master) (g : TimeGroup), s.serves m g.addr = true → s.allMember g.addr = false → Goes (.timeLatchRead m g) s (fun t =>
      t.hif.resp = [BitVec.ofNat 32 (s.shown m g.addr)] ∧
      (∀ a ∈ s.latchSet g.addr, a ≠ 0xC0008 → a ≠ 0xC000C → t.latched m a = some (s.liveWord m a)) ∧
      Frame s t (among (if g.addr = 0xC0108 ∧ s.bit TME_CTL_LATCH_ALL = true then [TME_LATCH_COARSE_LO_COARSE, TME_LATCH_COARSE_HI_COARSE] else []))
        [.access, .counters])) ∧
    (∀ (i : Fin 16) (r : Rec), s.evtIn.find? (fun r => r.srcidx == i.val) = some r → s.busUp = true →
      (s.bit (TME_EVT_CFG_EN i.val) = true → s.scaleEn (s.get (TME_EVT_CFG_TS i.val)) = true → Goes (.evtStamp i) s (fun t =>
        t.get (TME_EVT_NS_NS i.val) = tsNs (s.stampOf (s.get (TME_EVT_CFG_TS i.val)) r.phase) % 2 ^ 32 ∧
        t.get (TME_EVT_FRAC_FRAC i.val) = tsFrac (s.stampOf (s.get (TME_EVT_CFG_TS i.val)) r.phase) % 2 ^ 32 ∧
        t.get (TME_EVT_SEC_LO_SEC i.val) = tsSec (s.stampOf (s.get (TME_EVT_CFG_TS i.val)) r.phase) % 2 ^ 32 ∧
        t.get (TME_EVT_STAT_SEQ i.val) = (s.get (TME_EVT_STAT_SEQ i.val) + 1) % 65536 ∧
        t.get (TME_EVT_STAT_MASKED i.val) = ofBool (r.masked || r.calfail) ∧ t.get (TME_EVT_STAT_EVT_S i.val) = 1 ∧ tabGet none t.evtFrom i.val = some s.coarse ∧ t.evtIn = s.evtIn.erase r ∧ t.echoIn = s.echoIn ∧
        Frame s t (fun k => inst 0xC0800 0x20 i.val k || inBlocks [1] k) [.arrivals, .evtFrom, .window, .counters])) ∧
      (s.bit (TME_EVT_CFG_EN i.val) = false ∨ s.scaleEn (s.get (TME_EVT_CFG_TS i.val)) = false → Goes (.evtStamp i) s (fun t =>
        t.evtIn = s.evtIn.erase r ∧ t.echoIn = s.echoIn ∧ Frame s t (fun _ => false) [.arrivals]))) ∧
    (∀ i : Fin 16, s.busUp = true →
      (∀ c : Nat, tabGet none s.evtFrom i.val = some c → s.get (TME_EVT_CFG_EVT_TO i.val) ≠ 0 → s.bit (TME_EVT_CFG_EN i.val) = true → s.unitInRst 12 = false →
        (s.dueBy (c + s.get (TME_EVT_CFG_EVT_TO i.val) * 2000000) = true → Goes (.evtTimeout i) s (fun t =>
          tabGet none t.evtFrom i.val = none ∧ (∀ n : Fin 16, n ≠ i → tabGet none t.evtFrom n.val = tabGet none s.evtFrom n.val) ∧
          t.get (TME_EVT_STAT_MISS_S i.val) = 1 ∧ Frame s t (among [TME_EVT_STAT_MISS_S i.val]) [.evtFrom])) ∧
        (s.dueBy (c + s.get (TME_EVT_CFG_EVT_TO i.val) * 2000000) = false → Goes (.evtTimeout i) s (fun t => Frame s t (fun _ => false) []))) ∧
      (tabGet none s.evtFrom i.val = none ∨ s.get (TME_EVT_CFG_EVT_TO i.val) = 0 ∨ s.bit (TME_EVT_CFG_EN i.val) = false ∨ s.unitInRst 12 = true →
        Goes (.evtTimeout i) s (fun t => Frame s t (fun _ => false) []))) ∧
    (∀ (m : Master) (p : Fin 16), s.serves m (0xC100C + 0x40 * p.val) = true →
      (∀ (e : TxEntry) (q : List TxEntry), s.txQueue p.val = e :: q → Goes (.txqPopRead m p) s (fun t =>
        t.txQueue p.val = q ∧ t.get (TME_TXQ_ID_ID p.val) = e.id % 65536 ∧ t.get (TME_TXQ_ID_VALID p.val) = 1 ∧
        t.get (TME_TXQ_ID_OCC p.val) = (q.length + 1) % 32 ∧ t.get (TME_TXQ_NS_NS p.val) = e.ns % 2 ^ 32 ∧
        t.get (TME_TXQ_FRAC_FRAC p.val) = e.frac % 2 ^ 32 ∧ t.get (TME_TXQ_SEC_LO_SEC p.val) = e.sec % 2 ^ 32 ∧ t.txHeld = s.txHeld ∧
        t.hif.resp = [BitVec.ofNat 32 (t.get (TME_TXQ_ID_ID p.val) + 2 ^ 16 * t.get (TME_TXQ_ID_VALID p.val) + 2 ^ 17 * t.get (TME_TXQ_ID_OCC p.val))] ∧
        Frame s t (inst 0xC1000 0x40 p.val) [.txq, .access, .counters])) ∧
      (s.txQueue p.val = [] → Goes (.txqPopRead m p) s (fun t =>
        t.get (TME_TXQ_ID_VALID p.val) = 0 ∧ t.get (TME_TXQ_ID_OCC p.val) = 0 ∧ t.get (TME_TXQ_NS_NS p.val) = 0 ∧ t.get (TME_TXQ_FRAC_FRAC p.val) = 0 ∧ t.get (TME_TXQ_SEC_LO_SEC p.val) = 0 ∧ t.get (TME_TXQ_SEC_HI_SEC p.val) = 0 ∧
        Frame s t (inst 0xC1000 0x40 p.val) [.access, .counters])))

/-! ## Ports, PTP -/

/-- A port in service: its `LINK` follows the lines, a change is counted and raises `LINK_S`; one out of service reads no lock. The enabled SyncE slot of
a port that is not UP loses its activity. A quad's transmit PLL out of lock stops its ports and raises `QUAD_S`; they go on when it locks again. The
model's own readings in it: log entry 42. -/
def Obligations.PortLines : Prop :=
  ∀ s : State, s.busUp = true →
    (∀ (p : Fin 16) (pcs an : Bool),
      (s.portLive p.val = true → ((pcs && (s.get (ETH_CFG_MODE p.val) != 0 || !s.bit (ETH_CFG_AN_EN p.val) || an)) = true ∨ s.inFb (REF_CFG_EN (32 + p.val)) = false ∨ s.unitInRst 5 = true) →
        Goes (.linkChange p pcs an) s (fun t =>
          t.bit (ETH_STAT_PCS_LOCK p.val) = pcs ∧ t.bit (ETH_STAT_AN_DONE p.val) = an ∧
          t.bit (ETH_STAT_LINK p.val) = (pcs && (s.get (ETH_CFG_MODE p.val) != 0 || !s.bit (ETH_CFG_AN_EN p.val) || an)) ∧
          (t.bit (ETH_STAT_LINK p.val) ≠ s.bit (ETH_STAT_LINK p.val) → t.get (ETH_STICKY_LINK_S p.val) = 1) ∧
          Frame s t (inst 0xD1000 0x80 p.val) [.counters])) ∧
      (s.portLive p.val = true → (pcs && (s.get (ETH_CFG_MODE p.val) != 0 || !s.bit (ETH_CFG_AN_EN p.val) || an)) = false → s.inFb (REF_CFG_EN (32 + p.val)) = true → s.unitInRst 5 = false → Goes (.linkChange p pcs an) s (fun t =>
        t.bit (ETH_STAT_PCS_LOCK p.val) = pcs ∧ t.bit (ETH_STAT_AN_DONE p.val) = an ∧ t.get (ETH_STAT_LINK p.val) = 0 ∧ t.get (REF_STAT_LOST (32 + p.val)) = 1 ∧
        Frame s t (fun k => inst 0xD1000 0x80 p.val k || inst 0x51000 0x40 (32 + p.val) k || inBlocks [7] k) [.refs, .slots, .counters])) ∧
      (s.portLive p.val = false → Goes (.linkChange p pcs an) s (fun t =>
        t.get (ETH_STAT_PCS_LOCK p.val) = 0 ∧ t.get (ETH_STAT_AN_DONE p.val) = 0 ∧ t.get (ETH_STAT_LINK p.val) = 0 ∧
        (s.inFb (REF_CFG_EN (32 + p.val)) = true → s.unitInRst 5 = false → t.get (REF_STAT_LOST (32 + p.val)) = 1) ∧
        Frame s t (fun k => inst 0xD1000 0x80 p.val k || inst 0x51000 0x40 (32 + p.val) k || inBlocks [7] k) [.refs, .slots, .counters]))) ∧
    (∀ q : Fin 4,
      Goes (.quadTxPllLoss q) s (fun t =>
        t.get (ETH_QUAD_QTX_LOCK q.val) = 0 ∧ (s.bit (ETH_QUAD_QTX_LOCK q.val) = true → t.get ETH_STICKY_QUAD_S = 1) ∧
        (∀ p : Fin 16, p.val / 4 = q.val → t.portTx p.val = false) ∧ Frame s t (among [ETH_QUAD_QTX_LOCK q.val, ETH_STICKY_QUAD_S]) []) ∧
      Goes (.quadTxPllRelock q) s (fun t =>
        t.get (ETH_QUAD_QTX_LOCK q.val) = 1 ∧ (∀ p : Fin 16, p.val / 4 = q.val → t.portTx p.val = s.portUp p.val) ∧
        Frame s t (among [ETH_QUAD_QTX_LOCK q.val]) []))

/-- A received frame: one with a bad FCS or length is counted and raises `RXERR_S`; one for neither a session nor ESMC nor the host leaves nothing; one
for the host that finds no room is counted and raises `HDROP_S`, another is posted behind its stamp. An ESMC PDU of a port that handles them, and a
message that a session of the port takes, do what their own commands do; a message that none takes is a frame like another. A host frame: a refused
descriptor is returned with its status and nothing leaves; a port out of its PLL's lock keeps it waiting; another leaves as its bytes stand in the
window, and its descriptor is returned with status 0. ESMC: a PDU shows its codes and sets `ESMC_OK`; five seconds with none since the last clear it;
an information PDU goes out in tick 0 of a second, an event PDU when the codes to be sent have changed. The model's own readings in it: log entry 42. -/
def Obligations.FramesReceived : Prop :=
  (∀ (s : State) (p : Fin 16) (f : List Byte) (x : PcsTime), s.busUp = true →
    (s.portUp p.val = false → ∀ fcs, Goes (.frameReceive p f fcs x none) s (fun t => Frame s t (fun _ => false) [])) ∧
    (s.portUp p.val = true → ∀ fcs, (fcs = false ∨ f.length + 4 < 64 ∨ 9216 < f.length + 4) → Goes (.frameReceive p f fcs x none) s (fun t =>
      t.get (ETH_STICKY_RXERR_S p.val) = 1 ∧ t.get (ETH_CNT_RXERR p.val) = min (s.get (ETH_CNT_RXERR p.val) + 1) (ETH_CNT_RXERR p.val).max ∧
      Frame s t (among [ETH_CNT_RXERR p.val, ETH_STICKY_RXERR_S p.val]) [.counters])) ∧
    (s.portUp p.val = true → 64 ≤ f.length + 4 → f.length + 4 ≤ 9216 → (s.bit (ETH_CFG_ESMC_EN p.val) = false ∨ parseEsmc f = none) →
      (s.forHost p.val f = false → Goes (.frameReceive p f true x none) s (fun t => Frame s t (fun _ => false) [.counters])) ∧
      (s.forHost p.val f = true → (s.hostToken p.val (f.length + 4)).2 = false ∨ s.frameRoom = false → Goes (.frameReceive p f true x none) s (fun t =>
        t.get (ETH_STICKY_HDROP_S p.val) = 1 ∧ t.get (ETH_CNT_HDROP p.val) = min (s.get (ETH_CNT_HDROP p.val) + 1) (ETH_CNT_HDROP p.val).max ∧
        Frame s t (among [ETH_CNT_HDROP p.val, ETH_STICKY_HDROP_S p.val, HIF_RING_CNT_DROPS 0, HIF_RING_STICKY_DROP_S 0]) [.eth, .counters])) ∧
      (s.forHost p.val f = true → (s.hostToken p.val (f.length + 4)).2 = true → s.frameRoom = true → s.portAnnounce p.val = false → s.hif.held = [] →
        s.winWord (s.descAt 0 (s.ringIdx 0) + 4) % 2 ^ 20 / 16 * 16 + s.winWord (s.descAt 0 (s.ringIdx 0)) % 65536 ≤ 2 ^ 20 →
        f.length + 16 ≤ s.winWord (s.descAt 0 (s.ringIdx 0)) % 65536 → Goes (.frameReceive p f true x none) s (fun t =>
          t.get (HIF_RING_IDX_IDX 0) = (s.ringIdx 0 + 1) % s.ringSize 0 ∧ t.get (HIF_RING_IDX_RSEQ 0) = (s.get (HIF_RING_IDX_RSEQ 0) + 1) % 65536 ∧
          t.get (HIF_RING_STICKY_DONE_S 0) = 1 ∧ t.ownAt (s.descAt 0 (s.ringIdx 0)) = false ∧
          Frame s t (among [HIF_RING_IDX_IDX 0, HIF_RING_IDX_RSEQ 0, HIF_RING_STICKY_DONE_S 0]) [.eth, .window, .counters]))) ∧
    (s.portUp p.val = true → 64 ≤ f.length + 4 → f.length + 4 ≤ 9216 →
      (∀ (q : Fin 16) (e : Option (Fin 256)), s.bit (ETH_CFG_ESMC_EN p.val) = true → parseEsmc f = some (q.val, e.map Fin.val) →
        ∀ m, exec (.frameReceive p f true x m) s = exec (.esmcPduReceive p q e) s) ∧
      (∀ (n : Fin 512) (y : PtpIn), (s.bit (ETH_CFG_ESMC_EN p.val) = false ∨ parseEsmc f = none) →
        exec (.frameReceive p f true x (some (n, y))) s
          = (if (s.sess n.val).port = p.val ∧ s.consumes n.val y = true then exec (messageCommand n y) s else exec (.frameReceive p f true x none) s)))) ∧
  (∀ (s : State) (x : PcsTime) (d : Desc), s.itemOf 1 = some d → s.busUp = true →
    (s.txStatus d ≠ 0 → Goes (.hostFrameTransmit x) s (fun t =>
      t.wire = [] ∧ t.get (HIF_RING_IDX_IDX 1) = (s.ringIdx 1 + 1) % s.ringSize 1 ∧ t.get (HIF_RING_STICKY_DONE_S 1) = 1 ∧ t.get (HIF_RING_STICKY_ERR_S 1) = 1 ∧
      bitsAt (t.winWord (s.descAt 1 (s.ringIdx 1))) 16 8 = s.txStatus d ∧
      Frame s t (among [HIF_RING_IDX_IDX 1, HIF_RING_IDX_RSEQ 1, HIF_RING_STICKY_DONE_S 1, HIF_RING_STICKY_ERR_S 1]) [.rings, .window, .counters])) ∧
    (s.txStatus d = 0 → s.portTx d.port = false → Goes (.hostFrameTransmit x) s (fun t => t.wire = [] ∧ Frame s t (fun _ => false) [])) ∧
    (s.txStatus d = 0 → s.portTx d.port = true → Goes (.hostFrameTransmit x) s (fun t =>
      t.wire = [.frame d.port (s.itemBytes d)] ∧ t.get (HIF_RING_IDX_IDX 1) = (s.ringIdx 1 + 1) % s.ringSize 1 ∧ t.get (HIF_RING_STICKY_DONE_S 1) = 1 ∧
      bitsAt (t.winWord (s.descAt 1 (s.ringIdx 1))) 16 8 = 0 ∧
      (d.tsreq = false → t.txq = s.txq ∧ t.txHeld = s.txHeld) ∧
      (d.tsreq = true → s.portAnnounce d.port = false → (s.txQueue d.port).length < 16 →
        t.txQueue d.port = s.txQueue d.port ++ [TxEntry.mk' d.id (s.portStamp d.port (s.egressAt d.port x))]) ∧
      Frame s t (fun k => among [HIF_RING_IDX_IDX 1, HIF_RING_IDX_RSEQ 1, HIF_RING_STICKY_DONE_S 1] k || inst 0xC1000 0x40 d.port k) [.rings, .window, .txq, .counters]))) ∧
  (∀ (s : State) (p : Fin 16), s.busUp = true →
    (∀ (q : Fin 16) (e : Option (Fin 256)),
      (s.portUp p.val = true → s.bit (ETH_CFG_ESMC_EN p.val) = true → Goes (.esmcPduReceive p q e) s (fun t =>
        t.get (ETH_STAT_ESMC_OK p.val) = 1 ∧ tabGet 0 t.eth.esmcAt p.val = s.coarse ∧ t.get (ETH_STAT_RX_SSM p.val) = q.val ∧ t.bit (ETH_STAT_RX_EXT p.val) = e.isSome ∧
        (∀ n : Fin 256, e = some n → t.get (ETH_STAT_RX_ECODE p.val) = n.val) ∧
        Frame s t (among [ETH_STAT_ESMC_OK p.val, ETH_STAT_RX_SSM p.val, ETH_STAT_RX_EXT p.val, ETH_STAT_RX_ECODE p.val]) [.eth, .counters])) ∧
      (s.portUp p.val = true → s.bit (ETH_CFG_ESMC_EN p.val) = false → Goes (.esmcPduReceive p q e) s (fun t => Frame s t (fun _ => false) [.counters]))) ∧
    (s.bit (ETH_STAT_ESMC_OK p.val) = true → s.portFrozen p.val = false → tabGet none s.eth.esmcTick p.val ≠ some s.tick →
      s.dueBy (tabGet 0 s.eth.esmcAt p.val + 10000000000) = true → Goes (.esmcTimeout p) s (fun t =>
      t.get (ETH_STAT_ESMC_OK p.val) = 0 ∧ t.ethRank p.val = 15 ∧ t.get (ETH_STICKY_ESMC_FAIL_S p.val) = 1 ∧
      Frame s t (among [ETH_STAT_ESMC_OK p.val, ETH_STICKY_ESMC_FAIL_S p.val]) [])) ∧
    (s.bit (ETH_STAT_ESMC_OK p.val) = false ∨ tabGet none s.eth.esmcTick p.val = some s.tick ∨ s.dueBy (tabGet 0 s.eth.esmcAt p.val + 10000000000) = false →
      Goes (.esmcTimeout p) s (fun t => Frame s t (fun _ => false) [])) ∧
    (s.bit (ETH_CFG_ESMC_EN p.val) = true → s.portTx p.val = true →
      (s.tickIndex = 0 → Goes (.esmcInfoSend p) s (fun t =>
        t.wire = [.esmc p.val false (s.esmcCodes p.val).1 (s.esmcCodes p.val).2] ∧ tabGet none t.eth.sent p.val = some (s.esmcCodes p.val) ∧
        Frame s t (fun _ => false) [.eth, .counters])) ∧
      (tabGet none s.eth.sent p.val ≠ none → tabGet none s.eth.sent p.val ≠ some (s.esmcCodes p.val) → Goes (.esmcEventSend p) s (fun t =>
        t.wire = [.esmc p.val true (s.esmcCodes p.val).1 (s.esmcCodes p.val).2] ∧ tabGet none t.eth.sent p.val = some (s.esmcCodes p.val) ∧
        Frame s t (fun _ => false) [.eth, .counters]))) ∧
    (s.bit (ETH_CFG_ESMC_EN p.val) = false ∨ s.portTx p.val = false →
      Goes (.esmcInfoSend p) s (fun t => t.wire = [] ∧ Frame s t (fun _ => false) []) ∧ Goes (.esmcEventSend p) s (fun t => t.wire = [] ∧ Frame s t (fun _ => false) [])))

/-- `VALID` rising starts a session, in NEGOTIATING, WAIT or RUNNING by its role, its configuration read once; `VALID` falling frees its contexts, cancels
its grants and leaves it DISABLED. While the engine is in reset it compares nothing. The model's own readings in it: log entries 43, 44. -/
def Obligations.Sessions : Prop :=
  ∀ (s : State) (n : Fin 512),
    (s.ctxFld n.val 0 0 1 = 0 → (s.sess n.val).on = false → s.unitInRst 14 = false →
      (s.begin.ptpWrite (256 * n.val) (s.ptpRead (256 * n.val) / 2 * 2 + 1)).sessionMisuse n.val = false →
      Goes (.sessionEnable n) s (fun t =>
        (t.sess n.val).on = true ∧ t.ctxFld n.val 0 0 1 = 1 ∧ (t.sess n.val).w = (List.range 11).map (t.ctxWord n.val) ∧
        (t.sess n.val).syncs = [] ∧ (t.sess n.val).dreqs = [] ∧ t.ctxFld n.val 12 6 1 = 0 ∧
        t.sstate n.val = (if (t.sess n.val).flag 0 9 && ((t.sess n.val).role == 0 || (t.sess n.val).role == 2) then ssnNegotiating
          else if (t.sess n.val).freeMaster then ssnRunning else ssnWait) ∧
        Frame s t (inBlocks [7, 14]) [.ptp, .slots, .counters])) ∧
    (s.ctxFld n.val 0 0 1 = 1 → (s.sess n.val).on = true → s.unitInRst 14 = false → Goes (.sessionDisable n) s (fun t =>
      (t.sess n.val).on = false ∧ t.ctxFld n.val 0 0 1 = 0 ∧ t.sstate n.val = ssnDisabled ∧ (t.sess n.val).syncs = [] ∧ (t.sess n.val).dreqs = [] ∧
      (t.sess n.val).grants = [] ∧ Frame s t (inBlocks [7, 14]) [.ptp, .slots, .counters])) ∧
    (s.ctxFld n.val 0 0 1 = 1 → s.unitInRst 14 = true → Goes (.sessionDisable n) s (fun t =>
      t.ctxFld n.val 0 0 1 = 0 ∧ t.sess n.val = s.sess n.val ∧ Frame s t (fun _ => false) [.ptp]))

/-- A SLAVE's messages: a Sync of its partner takes a context with its stamp; a Follow_Up gives the Sync its time, and a one-way exchange its result; a
message of another sender is rejected and counted; one the limits do not admit is dropped; one not for the session leaves nothing. The model's own
readings in it: log entries 43, 44. -/
def Obligations.SlaveTakesSync : Prop :=
  ∀ (s : State) (n : Fin 512) (h : PtpHdr) (o : PtpTime) (x : PcsTime), s.busUp = true →
    (s.sessTakes n.val 0 = false → s.portUp (s.sess n.val).port = true →
      Goes (.syncReceive n h true o x) s (fun t => Frame s t (fun _ => false) [.counters]) ∧
      Goes (.followUpReceive n h o) s (fun t => Frame s t (fun _ => false) [.counters])) ∧
    (s.sessTakes n.val 0 = true → (s.admitRx n.val true).2 = true →
      (s.fromPartner n.val h = true → Goes (.syncReceive n h true o x) s (fun t =>
        (t.sess n.val).syncs = { seq := h.seq.toNat, t2 := nsOf (s.portStamp (s.sess n.val).port (s.ingressAt (s.sess n.val).port x)), b2 := (s.ingressAt (s.sess n.val).port x : Rat) / 16000, side := s.afterStep (s.portScale (s.sess n.val).port) (s.ingressAt (s.sess n.val).port x), t1 := none, c := h.c, since := s.coarse } :: (s.sess n.val).syncs ∧
        (t.sess n.val).dreqs = (s.sess n.val).dreqs ∧ t.ctxWord n.val 26 = (s.ctxWord n.val 26 + 1) % 2 ^ 32 ∧
        s.get PTP_CTX_HWM_HWM ≤ t.get PTP_CTX_HWM_HWM ∧ Frame s t (among [PTP_CTX_HWM_HWM]) [.ptp, .counters])) ∧
      (s.fromPartner n.val h = false → Goes (.syncReceive n h true o x) s (fun t =>
        (t.sess n.val).syncs = (s.sess n.val).syncs ∧ t.ctxFld n.val 29 0 16 = min 65535 (s.ctxFld n.val 29 0 16 + 1) ∧
        bitAt (t.ctxWord n.val 30) 3 = true ∧ Frame s t (among [PTP_SESS_EVT_PEND (n.val / 32)]) [.ptp, .counters]))) ∧
    (s.sessTakes n.val 0 = true → (s.sessToken n.val).2 = false → Goes (.syncReceive n h true o x) s (fun t =>
      (t.sess n.val).syncs = (s.sess n.val).syncs ∧ t.ctxFld n.val 28 16 16 = min 65535 (s.ctxFld n.val 28 16 16 + 1) ∧ bitAt (t.ctxWord n.val 30) 4 = true ∧
      Frame s t (among [PTP_SESS_EVT_PEND (n.val / 32)]) [.ptp, .counters])) ∧
    (s.sessTakes n.val 0 = true → (s.admitRx n.val false).2 = true →
      (s.fromPartner n.val h = false → Goes (.followUpReceive n h o) s (fun t =>
        (t.sess n.val).syncs = (s.sess n.val).syncs.filter (fun y => !(y.seq == h.seq.toNat && y.t1.isNone)) ∧
        t.ctxFld n.val 29 0 16 = min 65535 (s.ctxFld n.val 29 0 16 + 1) ∧ Frame s t (among [PTP_SESS_EVT_PEND (n.val / 32)]) [.ptp, .counters])) ∧
      (∀ y : SyncX, (s.sess n.val).syncs = [y] → y.seq = h.seq.toNat → y.t1 = none → s.fromPartner n.val h = true →
        ((s.sess n.val).flag 0 10 = false → (s.sess n.val).dreqs = [] → Goes (.followUpReceive n h o) s (fun t =>
          (t.sess n.val).syncs = [{ y with t1 := some o.ns', c := y.c + h.c }] ∧ Frame s t (fun _ => false) [.ptp, .counters])) ∧
        ((s.sess n.val).flag 0 10 = true → s.portFrozen (s.sess n.val).port = false → Goes (.followUpReceive n h o) s (fun t =>
          (t.sess n.val).syncs = [] ∧ t.ctxWord n.val 23 = 0 ∧ t.ctxFld n.val 24 0 16 = s.tick % 65536 ∧
          t.ctxWord n.val 21 = unsigned 64 (rnd ((y.t2 - o.ns' - (y.c + h.c) - (s.sess n.val).asym) * 16000)) % 2 ^ 32 ∧
          Frame s t (inBlocks [7, 14]) [.ptp, .slots, .counters])) ∧
        ((s.sess n.val).flag 0 10 = true → s.portFrozen (s.sess n.val).port = true → Goes (.followUpReceive n h o) s (fun t =>
          (t.sess n.val).syncs = [] ∧ t.ctxWord n.val 21 = s.ctxWord n.val 21 ∧ Frame s t (fun _ => false) [.ptp, .counters]))))

/-- A delay exchange whose four times are known: within `MPD_MAX` it is accepted and shows its path delay and offset; outside, or with a step between its
stamps, it is rejected. A Delay_Req goes out with its stamp kept. An exchange with no answer 1 s after its context was taken is rejected, and a
context is freed after 1 s; before that neither does anything. The model's own readings in it: log entries 43, 44. -/
def Obligations.DelayExchanges : Prop :=
  ∀ (s : State) (n : Fin 512) (h : PtpHdr) (o : PtpTime) (x : PcsTime), s.busUp = true →
    (∀ (d : DreqX) (y : SyncX) (t1 : Rat), (s.sess n.val).dreqs = [d] → (s.sess n.val).syncs = [y] → y.t1 = some t1 → d.sy = some y → d.t4 = none →
      d.seq = h.seq.toNat → s.fromPartner n.val h = true → s.sessTakes n.val 0 = true → s.portFrozen (s.sess n.val).port = false → (s.admitRx n.val false).2 = true →
      ∀ p : BitVec 16, p.toNat = (s.sess n.val).fld 7 0 16 →
      ∀ i : BitVec 64, i.toNat = s.get PTP_CLOCK_ID_LO_CLOCK_ID + 2 ^ 32 * s.get PTP_CLOCK_ID_HI_CLOCK_ID →
        (y.side = d.side → 0 ≤ ((y.t2 - d.t3) + (o.ns' - t1) - y.c - h.c) / 2 → ((y.t2 - d.t3) + (o.ns' - t1) - y.c - h.c) / 2 ≤ (s.sess n.val).mpdMax →
          Goes (.delayRespReceive n h o i p) s (fun t =>
            (t.sess n.val).dreqs = [] ∧ (t.sess n.val).syncs = [] ∧
            t.ctxWord n.val 23 = (rnd (((y.t2 - d.t3) + (o.ns' - t1) - y.c - h.c) / 2 * 1000)).toNat % 2 ^ 32 ∧
            t.ctxWord n.val 21 = unsigned 64 (rnd ((y.t2 - t1 - ((y.t2 - d.t3) + (o.ns' - t1) - y.c - h.c) / 2 - y.c - (s.sess n.val).asym) * 16000)) % 2 ^ 32 ∧
            Frame s t (inBlocks [7, 14]) [.ptp, .slots, .counters])) ∧
        (y.side = d.side → ((y.t2 - d.t3) + (o.ns' - t1) - y.c - h.c) / 2 < 0 ∨ (s.sess n.val).mpdMax < ((y.t2 - d.t3) + (o.ns' - t1) - y.c - h.c) / 2 →
          Goes (.delayRespReceive n h o i p) s (fun t =>
            (t.sess n.val).dreqs = [] ∧ t.ctxWord n.val 21 = s.ctxWord n.val 21 ∧ t.ctxFld n.val 29 0 16 = min 65535 (s.ctxFld n.val 29 0 16 + 1) ∧
            bitAt (t.ctxWord n.val 30) 3 = true ∧ Frame s t (among [PTP_SESS_EVT_PEND (n.val / 32)]) [.ptp, .counters])) ∧
        (y.side ≠ d.side → Goes (.delayRespReceive n h o i p) s (fun t =>
          (t.sess n.val).dreqs = [] ∧ t.ctxWord n.val 21 = s.ctxWord n.val 21 ∧ bitAt (t.ctxWord n.val 30) 3 = true ∧ bitAt (t.ctxWord n.val 30) 6 = true ∧
          Frame s t (among [PTP_SESS_EVT_PEND (n.val / 32)]) [.ptp, .counters]))) ∧
    (s.sessTakes n.val 0 = true → (s.sess n.val).flag 0 10 = false → ssnWait ≤ s.sstate n.val → s.sessFrozen n.val = false → (s.sess n.val).flag 0 9 = false →
      (s.sendPtp n.val true (.delayReq (s.seqTx n.val))).2 = true → Goes (.delayReqSend n x) s (fun t =>
        t.wire = [.ptp n.val (s.sess n.val).port (.delayReq (s.seqTx n.val))] ∧ t.seqTx n.val = (s.seqTx n.val + 1) % 65536 ∧
        ((t.sess n.val).dreqs.head?).map (fun d => (d.seq, d.t3, d.t4)) = some (s.seqTx n.val, nsOf (s.portStamp (s.sess n.val).port (s.egressAt (s.sess n.val).port x)), none) ∧
        ((t.sess n.val).dreqs.head?).bind (·.sy) = ((s.sess n.val).last.toList ++ (s.sess n.val).syncs).find?
          (fun y => decide ((y.b2 * 16000 : Rat) < (s.egressAt (s.sess n.val).port x : Rat))) ∧
        (t.sess n.val).dreqs.tail = (s.sess n.val).dreqs ∧ Frame s t (among [PTP_CTX_HWM_HWM]) [.ptp, .counters])) ∧
    (s.sessTakes n.val 0 = false → Goes (.delayReqSend n x) s (fun t => t.wire = [] ∧ Frame s t (fun _ => false) [])) ∧
    (∀ q : BitVec 16, s.sessFrozen n.val = false →
      ((s.sess n.val).dreqs.any (fun d => d.seq == q.toNat && d.t4.isNone && s.aged d.since) = true → Goes (.exchangeTimeout n q true) s (fun t =>
        (t.sess n.val).dreqs = (s.sess n.val).dreqs.filter (fun d => !(d.seq == q.toNat && d.t4.isNone && s.aged d.since)) ∧
        t.ctxFld n.val 29 0 16 = min 65535 (s.ctxFld n.val 29 0 16 + 1) ∧ bitAt (t.ctxWord n.val 30) 3 = true ∧
        Frame s t (among [PTP_SESS_EVT_PEND (n.val / 32)]) [.ptp, .counters])) ∧
      ((s.sess n.val).syncs.any (fun y => y.seq == q.toNat && y.t1.isNone && s.aged y.since) = true → Goes (.exchangeTimeout n q false) s (fun t =>
        (t.sess n.val).syncs = (s.sess n.val).syncs.filter (fun y => !(y.seq == q.toNat && y.t1.isNone && s.aged y.since)) ∧
        s.ctxFld n.val 29 0 16 ≤ t.ctxFld n.val 29 0 16 ∧ bitAt (t.ctxWord n.val 30) 3 = true ∧
        Frame s t (among [PTP_SESS_EVT_PEND (n.val / 32)]) [.ptp, .counters])) ∧
      Goes (.contextExpiry n q true) s (fun t =>
        (t.sess n.val).dreqs = (s.sess n.val).dreqs.filter (fun d => !(d.seq == q.toNat && s.aged d.since)) ∧
        Frame s t (among [PTP_SESS_EVT_PEND (n.val / 32)]) [.ptp, .counters]) ∧
      Goes (.contextExpiry n q false) s (fun t =>
        (t.sess n.val).syncs = (s.sess n.val).syncs.filter (fun y => !(y.seq == q.toNat && s.aged y.since)) ∧
        Frame s t (among [PTP_SESS_EVT_PEND (n.val / 32)]) [.ptp, .counters]) ∧
      ((s.sess n.val).dreqs.any (fun d => d.seq == q.toNat && s.aged d.since) = false →
        Goes (.exchangeTimeout n q true) s (fun t => Frame s t (fun _ => false) []) ∧
        Goes (.contextExpiry n q true) s (fun t => t.sess n.val = s.sess n.val ∧ Frame s t (fun _ => false) [.ptp])) ∧
      ((s.sess n.val).syncs.any (fun y => y.seq == q.toNat && s.aged y.since) = false →
        Goes (.exchangeTimeout n q false) s (fun t => Frame s t (fun _ => false) []) ∧
        Goes (.contextExpiry n q false) s (fun t => t.sess n.val = s.sess n.val ∧ Frame s t (fun _ => false) [.ptp]))) ∧
    (∀ (q : BitVec 16) (b : Bool), s.sessFrozen n.val = true →
      Goes (.exchangeTimeout n q b) s (fun t => Frame s t (fun _ => false) []) ∧ Goes (.contextExpiry n q b) s (fun t => Frame s t (fun _ => false) []))

/-- Announce: one that is admitted sets `ANN_OK`, keeps the sender's dataset and makes a comparison due; once the Announce budget has run out `ANN_OK`
falls; `SESS_TO` after its last success a session is LOST, but not in a tick with a success. A MASTER: a served Delay_Req is answered with its ingress
stamp, a Sync goes out with its egress stamp or a Follow_Up, an Announce with the local or copied dataset, each with the next `sequenceId`. The
model's own readings in it: log entries 23, 44. -/
def Obligations.AnnounceAndMaster : Prop :=
  (∀ (s : State) (n : Fin 512) (m : AnnMsg), s.busUp = true →
    ((s.sessTakes n.val 0 || s.sessTakes n.val 2) = true → (s.admitRx n.val false).2 = true → Goes (.announceReceive n m) s (fun t =>
      t.ctxFld n.val 12 6 1 = 1 ∧ t.gmId n.val = m.gmId.toNat ∧ t.ctxFld n.val 16 8 8 = m.cls.toNat ∧ t.ctxFld n.val 15 16 16 = m.steps.toNat ∧
      t.ctxFld n.val 15 0 16 = m.hdr.port.toNat ∧ t.ctxWord n.val 20 = m.utc.toNat ∧ t.ptp.bmca = true ∧
      (t.sess n.val).annAt = s.coarse ∧ ((s.sess n.val).role = 2 → ssnWait ≤ s.sstate n.val → t.sstate n.val = ssnRunning) ∧
      Frame s t (inBlocks [7, 14]) [.ptp, .slots, .counters])) ∧
    ((s.sess n.val).on = true → s.sessFrozen n.val = false →
      ((s.sess n.val).role ≠ 1 → (s.sess n.val).flag 0 9 = false → s.dueBy ((s.sess n.val).annAt + (s.sess n.val).annBudget) = true →
        Goes (.announceReceiptTimeout n) s (fun t =>
        t.ctxFld n.val 12 6 1 = 0 ∧ t.ctxFld n.val 29 16 16 = min 65535 (s.ctxFld n.val 29 16 16 + 1) ∧ bitAt (t.ctxWord n.val 30) 0 = true ∧
        t.ptp.bmca = true ∧ t.sstate n.val = s.sstate n.val ∧ Frame s t (among [PTP_SESS_EVT_PEND (n.val / 32)]) [.ptp])) ∧
      (s.dueBy ((s.sess n.val).annAt + (s.sess n.val).annBudget) = false → Goes (.announceReceiptTimeout n) s (fun t => Frame s t (fun _ => false) [])) ∧
      ((s.sess n.val).freeMaster = false → ssnNegotiating ≤ s.sstate n.val → s.sstate n.val ≤ ssnRunning → (s.sess n.val).okTick ≠ some s.tick →
        s.dueBy ((s.sess n.val).okAt + (s.sess n.val).fld 8 0 32 * 2000000) = true → Goes (.sessionTimeout n) s (fun t =>
          t.sstate n.val = ssnLost ∧ bitAt (t.ctxWord n.val 30) 1 = true ∧ Frame s t (inBlocks [7, 14]) [.ptp, .slots])) ∧
      ((s.sess n.val).okTick = some s.tick ∨ (s.sess n.val).freeMaster = true ∨ s.dueBy ((s.sess n.val).okAt + (s.sess n.val).fld 8 0 32 * 2000000) = false → Goes (.sessionTimeout n) s (fun t => Frame s t (fun _ => false) []))) ∧
    ((s.sess n.val).on = false → Goes (.announceReceiptTimeout n) s (fun t => Frame s t (fun _ => false) []) ∧
      Goes (.sessionTimeout n) s (fun t => Frame s t (fun _ => false) []))) ∧
  (∀ (s : State) (n : Fin 512) (h : PtpHdr) (x : PcsTime), s.busUp = true →
    (s.sessTakes n.val 1 = true → s.sstate n.val = ssnRunning → (s.sess n.val).flag 0 9 = false → (s.admitRx n.val true).2 = true → s.portTx (s.sess n.val).port = true →
      4000000000 ≤ refill (s.sess n.val).lvl (s.sess n.val).lvlAt s.coarse 256 32 → Goes (.delayReqReceive n h x) s (fun t =>
        t.wire = [.ptp n.val (s.sess n.val).port (.delayResp h.seq.toNat (s.portStamp (s.sess n.val).port (s.ingressAt (s.sess n.val).port x)) h.id.toNat h.port.toNat h.corr.toInt)] ∧
        t.ctxWord n.val 26 = (s.ctxWord n.val 26 + 1) % 2 ^ 32 ∧ Frame s t (fun _ => false) [.ptp, .counters])) ∧
    (s.mayServe n.val 0 = true → (s.sendPtp n.val false (.announce (s.seqTx n.val) (s.announceDs n.val))).2 = true → Goes (.announceSend n) s (fun t =>
      t.wire = [.ptp n.val (s.sess n.val).port (.announce (s.seqTx n.val) (s.announceDs n.val))] ∧ t.seqTx n.val = (s.seqTx n.val + 1) % 65536 ∧
      Frame s t (fun _ => false) [.ptp, .counters, .free])) ∧
    (s.mayServe n.val 1 = true → (s.sendPtp n.val true (.sync (s.seqTx n.val) ((s.sess n.val).flag 0 7) 0)).2 = true →
      4000000000 ≤ refill (s.sess n.val).lvl (s.sess n.val).lvlAt s.coarse 256 32 → Goes (.syncSend n x) s (fun t =>
        t.seqTx n.val = (s.seqTx n.val + 1) % 65536 ∧ t.ctxWord n.val 27 = (s.ctxWord n.val 27 + 1) % 2 ^ 32 ∧
        t.wire = (if (s.sess n.val).flag 0 7 then
          [.ptp n.val (s.sess n.val).port (.sync (s.seqTx n.val) true 0), .ptp n.val (s.sess n.val).port (.followUp (s.seqTx n.val) (s.portStamp (s.sess n.val).port (s.egressAt (s.sess n.val).port x)))]
          else [.ptp n.val (s.sess n.val).port (.sync (s.seqTx n.val) false (s.portStamp (s.sess n.val).port (s.egressAt (s.sess n.val).port x)))]) ∧
        Frame s t (fun _ => false) [.ptp, .counters])) ∧
    (s.mayServe n.val 0 = false → Goes (.announceSend n) s (fun t => t.wire = [] ∧ Frame s t (fun _ => false) [])) ∧
    (s.mayServe n.val 1 = false → Goes (.syncSend n x) s (fun t => t.wire = [] ∧ Frame s t (fun _ => false) [])))

/-- Unicast negotiation: a MASTER grants a request within its limits and refuses another with duration 0; a refusal is reported; a renewal asks again once
a quarter of the grant remains, a retry 1 s after the last request; grants whose time is up go, and with none left a unicast MASTER waits. A session
group: an ACTIVE one with no used exchange for `MISS_TO` declares a missing exchange; one that holds after a change of grandmaster becomes ACTIVE
again after `GMHOLD` seconds, with a new epoch. The model's own readings in it: log entry 44. -/
def Obligations.NegotiationAndGroups : Prop :=
  (∀ (s : State) (n : Fin 512), s.busUp = true →
    ((s.admitRx n.val false).2 = true →
      ((s.sessTakes n.val 0 || s.sessTakes n.val 1 || s.sessTakes n.val 2) = true → Goes (.signalingReceive n []) s (fun t =>
        t.sstate n.val = s.sstate n.val ∧ (t.sess n.val).grants = (s.sess n.val).grants ∧ Frame s t (fun _ => false) [.ptp, .counters])) ∧
      (∀ (y : Fin 3) (l : BitVec 8) (d : BitVec 32), s.sessTakes n.val 1 = true → (s.sess n.val).flag 0 9 = true → s.portTx (s.sess n.val).port = true →
        4000000000 ≤ refill (s.sess n.val).lvl (s.sess n.val).lvlAt s.coarse 256 32 →
        ((s.sess n.val).logInt y.val ≤ l.toInt → d.toNat ≤ (s.sess n.val).fld 9 0 16 → d.toNat ≠ 0 → Goes (.signalingReceive n [.request y l d]) s (fun t =>
          t.wire = [.ptp n.val (s.sess n.val).port (.grant y.val l.toInt d.toNat)] ∧ ⟨y.val, s.coarse + d.toNat * 2000000000, d.toNat * 2000000000⟩ ∈ (t.sess n.val).grants ∧
          (ssnWait ≤ s.sstate n.val → t.sstate n.val ≠ ssnWait) ∧ Frame s t (inBlocks [7, 14]) [.ptp, .slots, .counters])) ∧
        (l.toInt < (s.sess n.val).logInt y.val ∨ (s.sess n.val).fld 9 0 16 < d.toNat ∨ d.toNat = 0 → Goes (.signalingReceive n [.request y l d]) s (fun t =>
          t.wire = [.ptp n.val (s.sess n.val).port (.grant y.val l.toInt 0)] ∧ (t.sess n.val).grants = (s.sess n.val).grants ∧
          Frame s t (fun _ => false) [.ptp, .counters]))) ∧
      (∀ (y : Fin 3) (l : BitVec 8), s.sessTakes n.val 0 = true → (s.sess n.val).flag 0 9 = true → Goes (.signalingReceive n [.grant y l 0]) s (fun t =>
        (t.sess n.val).asking y.val = true ∧ bitAt (t.ctxWord n.val 30) 5 = true ∧ (t.sess n.val).grants = (s.sess n.val).grants ∧
        Frame s t (among [PTP_SESS_EVT_PEND (n.val / 32)]) [.ptp, .counters]))) ∧
    (∀ y : Fin 3, (s.sess n.val).on = true → s.sessFrozen n.val = false →
      ((s.sess n.val).role ≠ 1 → (s.sess n.val).grants.any (fun g => g.type == y.val && s.dueBy (g.till - g.dur / 4)) = true → (s.sess n.val).asking y.val = false →
        (s.sendPtp n.val false (.request y.val ((s.sess n.val).logInt y.val) ((s.sess n.val).fld 9 0 16))).2 = true → Goes (.grantRenew n y) s (fun t =>
          t.wire = [.ptp n.val (s.sess n.val).port (.request y.val ((s.sess n.val).logInt y.val) ((s.sess n.val).fld 9 0 16))] ∧
          (t.sess n.val).grants = (s.sess n.val).grants ∧ (y.val, s.coarse) ∈ (t.sess n.val).asks ∧ Frame s t (fun _ => false) [.ptp, .counters])) ∧
      ((s.sess n.val).role = 1 ∨ (s.sess n.val).asking y.val = true ∨ (s.sess n.val).grants.any (fun g => g.type == y.val && s.dueBy (g.till - g.dur / 4)) = false →
        Goes (.grantRenew n y) s (fun t => t.wire = [] ∧ Frame s t (fun _ => false) [])) ∧
      ((s.sess n.val).asks.any (fun a => a.1 == y.val && s.aged a.2) = true → Goes (.grantRetry n y) s (fun t =>
        bitAt (t.ctxWord n.val 30) 5 = true ∧ (y.val, s.coarse) ∈ (t.sess n.val).asks ∧
        Frame s t (among [PTP_SESS_EVT_PEND (n.val / 32)]) [.ptp, .counters])) ∧
      ((s.sess n.val).asks.any (fun a => a.1 == y.val && s.aged a.2) = false → Goes (.grantRetry n y) s (fun t => t.wire = [] ∧ Frame s t (fun _ => false) []))) ∧
    ((s.sess n.val).on = true → (s.sess n.val).role = 1 → (s.sess n.val).flag 0 8 = true → (s.sess n.val).flag 0 9 = true → s.sessFrozen n.val = false →
      Goes (.grantExpiry n) s (fun t => (t.sess n.val).grants = (s.sess n.val).grants.filter (fun g => !s.dueBy g.till) ∧
        t.sstate n.val = (if s.sstate n.val = ssnRunning ∧ (t.sess n.val).grants = [] then ssnWait else s.sstate n.val) ∧
        Frame s t (inBlocks [7, 14]) [.ptp, .slots])) ∧
    ((s.sess n.val).on = false → Goes (.grantExpiry n) s (fun t => Frame s t (fun _ => false) []) ∧
      ∀ y, Goes (.grantRenew n y) s (fun t => Frame s t (fun _ => false) []))) ∧
  (∀ (s : State) (g : Fin 32), s.busUp = true →
    (s.bit (PTP_GRP_STAT_GSTATE g.val) = true → s.unitInShadow 14 = false → s.groupFrozen g.val = false →
      s.dueBy ((s.grp g.val).usedAt + s.get (PTP_GRP_CFG_MISS_TO g.val) * 2000000) = true → Goes (.missingExchange g) s (fun t =>
      (t.grp g.val).usedAt = (s.grp g.val).usedAt + s.get (PTP_GRP_CFG_MISS_TO g.val) * 2000000 ∧ (t.qslot (56 + g.val)).missNow = true ∧
      (t.qslot (56 + g.val)).missAt = some ((((s.grp g.val).usedAt + s.get (PTP_GRP_CFG_MISS_TO g.val) * 2000000 : Nat) : Int) * 8000) ∧ t.get (PTP_GRP_STICKY_MISS_S g.val) = 1 ∧ Frame s t (among [PTP_GRP_STICKY_MISS_S g.val]) [.slots, .ptp])) ∧
    (s.bit (PTP_GRP_STAT_GSTATE g.val) = false ∨ s.unitInShadow 14 = true ∨ s.groupFrozen g.val = true ∨
      s.dueBy ((s.grp g.val).usedAt + s.get (PTP_GRP_CFG_MISS_TO g.val) * 2000000) = false → Goes (.missingExchange g) s (fun t =>
      Frame s t (fun _ => false) [])) ∧
    (s.bit (PTP_GRP_STAT_HOLDING g.val) = true → s.unitInShadow 14 = false →
      s.dueBy ((s.grp g.val).holdAt + s.get (PTP_GRP_CFG_GMHOLD g.val) * 2000000000) = true → Goes (.gmholdExpiry g) s (fun t =>
      (t.grp g.val).epoch = none ∧ (t.grp g.val).got = [] ∧ t.get (PTP_GRP_STAT_HOLDING g.val) = 0 ∧ t.get (PTP_GRP_STAT_GSTATE g.val) = 1 ∧
      Frame s t (among [PTP_GRP_STAT_HOLDING g.val, PTP_GRP_STAT_GSTATE g.val]) [.ptp])) ∧
    (s.bit (PTP_GRP_STAT_HOLDING g.val) = false ∨ s.unitInShadow 14 = true ∨
      s.dueBy ((s.grp g.val).holdAt + s.get (PTP_GRP_CFG_GMHOLD g.val) * 2000000000) = false → Goes (.gmholdExpiry g) s (fun t => Frame s t (fun _ => false) [])))

/-! ## Conjunction Links -/

/-- Word sync: the transmit PLL's lock lets a link with a role and power leave OFF; 64 clean characters put it in SYNC with its counts restarted; a loss
of word sync voids what is outstanding, ends its role, raises `LINK_S`, and loses the activity of the link's enabled slot. The model's own readings in
it: log entry 45. -/
def Obligations.LinkWordSync : Prop :=
  ∀ s : State, s.busUp = true →
    Goes (.cjlTxPllLock true) s (fun t => t.get CJL_CTL_TX_LOCK = 1 ∧
      (∀ k : Fin 8, t.get (CJL_STAT_KSTATE k.val) = (if s.get (CJL_STAT_KSTATE k.val) = ksOff ∧ s.get (CJL_CFG_ROLE k.val) ≠ 0 ∧ s.domainUp 15 = true then ksNoSync
        else s.get (CJL_STAT_KSTATE k.val))) ∧
      Frame s t (among (CJL_CTL_TX_LOCK :: (List.range 8).map CJL_STAT_KSTATE)) []) ∧
    Goes (.cjlTxPllLock false) s (fun t => t.get CJL_CTL_TX_LOCK = 0 ∧ Frame s t (among [CJL_CTL_TX_LOCK]) []) ∧
    (∀ k : Fin 8,
      (s.get (CJL_STAT_KSTATE k.val) = ksNoSync → Goes (.wordSyncGain k) s (fun t =>
        t.get (CJL_STAT_KSTATE k.val) = ksSync ∧ (t.link k.val).fseq = 0 ∧ (t.link k.val).rmc = 0 ∧ (t.link k.val).marks = [] ∧
        t.get (CJL_STICKY_LINK_S k.val) = 1 ∧ (s.unitInRst 15 = false → t.bit (CJL_STAT_INIT k.val) = (s.roleNow k.val).1) ∧
        Frame s t (inst 0xF1000 0x80 k.val) [.cjl])) ∧
      (s.get (CJL_STAT_KSTATE k.val) ≠ ksNoSync → Goes (.wordSyncGain k) s (fun t => Frame s t (fun _ => false) [])) ∧
      (s.get (CJL_STAT_KSTATE k.val) = ksSync → (s.inFb (REF_CFG_EN (48 + k.val)) = false ∨ s.unitInRst 5 = true) → Goes (.wordSyncLoss k) s (fun t =>
        t.get (CJL_STAT_KSTATE k.val) = ksNoSync ∧ (t.link k.val).out = [] ∧ t.get (CJL_STAT_HSTATE k.val) = hsNone ∧ t.get (CJL_STAT_HOP_OK k.val) = 0 ∧
        t.get (CJL_STAT_INIT k.val) = 0 ∧ (t.link k.val).timeOk = false ∧ t.get (CJL_STICKY_LINK_S k.val) = 1 ∧ t.get (CJL_STAT_RANK k.val) = 15 ∧
        Frame s t (inst 0xF1000 0x80 k.val) [.cjl, .counters])) ∧
      (s.get (CJL_STAT_KSTATE k.val) = ksSync → s.inFb (REF_CFG_EN (48 + k.val)) = true → s.unitInRst 5 = false → Goes (.wordSyncLoss k) s (fun t =>
        t.get (CJL_STAT_KSTATE k.val) = ksNoSync ∧ (t.link k.val).out = [] ∧ t.get (CJL_STAT_HSTATE k.val) = hsNone ∧ t.get (CJL_STICKY_LINK_S k.val) = 1 ∧
        t.get (REF_STAT_LOST (48 + k.val)) = 1 ∧
        Frame s t (fun n => inst 0xF1000 0x80 k.val n || inst 0x51000 0x40 (48 + k.val) n || inBlocks [7] n) [.cjl, .refs, .slots, .counters])) ∧
      (s.get (CJL_STAT_KSTATE k.val) ≠ ksSync → Goes (.wordSyncLoss k) s (fun t => Frame s t (fun _ => false) [])))

/-- A frame slot: a TIME frame after 15 slots without one, or where nothing waits; else the first waiting of response, request, flood. A received frame
that fails its length, CRC, version or type is dropped, counted and reported, whatever it was to be; out of word sync none is taken. A TIME frame
gives the peer's rank, depth and root; 64 slots without one make the rank 15. The model's own readings in it: log entry 45. -/
def Obligations.LinkFrames : Prop :=
  (∀ (s : State) (k : Fin 8), s.busUp = true →
    (s.get (CJL_STAT_KSTATE k.val) = ksOff ∨ s.unitInRst 15 = true → Goes (.cjlFrameSlot k) s (fun t => t.wire = [] ∧ Frame s t (fun _ => false) [])) ∧
    (s.get (CJL_STAT_KSTATE k.val) ≠ ksOff → s.unitInRst 15 = false → s.get (CJL_DELEG_SIZE k.val) = 0 →
      (15 ≤ (s.link k.val).sinceT → Goes (.cjlFrameSlot k) s (fun t =>
        t.wire = [.link k.val (s.cjlFrame k.val 1 s.timePayload)] ∧ (t.link k.val).sinceT = 0 ∧ (t.link k.val).fseq = ((s.link k.val).fseq + 1) % 65536 ∧
        (t.link k.val).rsps = (s.link k.val).rsps ∧ Frame s t (fun _ => false) [.cjl, .counters])) ∧
      ((s.link k.val).rsps = [] → (s.link k.val).reqs = [] → (s.link k.val).floods = [] → (s.link k.val).tenses = [] → s.bit (CJL_MAIL_SEND k.val) = false →
        Goes (.cjlFrameSlot k) s (fun t =>
          t.wire = [.link k.val (s.cjlFrame k.val 1 s.timePayload)] ∧ (t.link k.val).sinceT = 0 ∧ Frame s t (fun _ => false) [.cjl, .counters])) ∧
      ((s.link k.val).sinceT < 15 →
        (∀ (r : EchoRsp) (l : List EchoRsp), (s.link k.val).rsps = r :: l → Goes (.cjlFrameSlot k) s (fun t =>
          t.wire = [.link k.val (s.cjlFrame k.val 3 (leBytes 2 r.eseq ++ leBytes 1 r.status ++ [0] ++ leBytes 2 r.rmc ++ timeBytes r.t2 ++ leBytes 4 r.turn))] ∧
          (t.link k.val).rsps = l ∧ (t.link k.val).sinceT = (s.link k.val).sinceT + 1 ∧ Frame s t (fun _ => false) [.cjl, .counters])) ∧
        (∀ (e : Nat) (l : List Nat), (s.link k.val).reqs = e :: l → (s.link k.val).rsps = [] → Goes (.cjlFrameSlot k) s (fun t =>
          t.wire = [.link k.val (s.cjlFrame k.val 2 (leBytes 2 e))] ∧ (t.link k.val).reqs = l ∧ Frame s t (fun _ => false) [.cjl, .counters])) ∧
        (∀ (x : Flood) (l : List Flood), (s.link k.val).floods = x :: l → (s.link k.val).rsps = [] → (s.link k.val).reqs = [] → Goes (.cjlFrameSlot k) s (fun t =>
          t.wire = [.link k.val (s.cjlFrame k.val 5 (leBytes 2 x.origin ++ leBytes 2 x.seq ++ leBytes 1 x.code ++ leBytes 1 x.hops ++ timeBytes x.at_))] ∧
          (t.link k.val).floods = l ∧ Frame s t (fun _ => false) [.cjl, .counters]))))) ∧
  (∀ (s : State) (k : Fin 8) (f : List Byte), s.busUp = true →
    (s.linkSync k.val = false → ∀ e ∈ frameCommands k f, Goes e.2 s (fun t => Frame s t (fun _ => false) [])) ∧
    (s.linkSync k.val = true → frameGood f = false → ∀ e ∈ frameCommands k f, Goes e.2 s (fun t =>
      t.get (CJL_CNT2_CRCERR k.val) = min (s.get (CJL_CNT2_CRCERR k.val) + 1) (CJL_CNT2_CRCERR k.val).max ∧ t.get (CJL_STICKY_CRC_S k.val) = 1 ∧
      Frame s t (among [CJL_CNT2_CRCERR k.val, CJL_STICKY_CRC_S k.val]) [.counters])) ∧
    (s.linkSync k.val = true → frameOf f 1 = true → Goes (.timeFrameReceive k f) s (fun t =>
      t.get (CJL_PEER_PEER_RANK k.val) = frameLe f 6 1 % 16 ∧ t.get (CJL_PEER_PEER_DEPTH k.val) = frameLe f 6 1 / 16 % 16 ∧
      t.get (CJL_PEER_PEER_ID k.val) = frameLe f 2 2 % 65536 ∧ t.bit (CJL_STAT_PEER_INIT k.val) = bitAt (frameLe f 1 1) 0 ∧
      (t.link k.val).timeOk = true ∧ (t.link k.val).timeAt = s.coarse ∧ (t.link k.val).root = frameLe f 8 2 ∧ Frame s t (inst 0xF1000 0x80 k.val) [.cjl, .counters])) ∧
    (s.dueBy ((s.link k.val).timeAt + 131072) = true → Goes (.timeFrameTimeout k) s (fun t =>
      (t.link k.val).timeOk = false ∧ t.get (CJL_STAT_RANK k.val) = 15 ∧ Frame s t (among [CJL_STAT_RANK k.val, CJL_STAT_OUTST k.val]) [.cjl])) ∧
    (s.dueBy ((s.link k.val).timeAt + 131072) = false → Goes (.timeFrameTimeout k) s (fun t => Frame s t (fun _ => false) [])))

/-- The initiating end: `ECHO_PER` slots after the last request one goes out stamped, once a slot is free for it (DEDUCED, log entry 45), or is skipped at
64 outstanding; a retry, 4 slots after it, only when one is due and the budget is not spent; a response marker is matched to the oldest request
without one; waiting longer than `ECHO_WAIT` voids the oldest exchange, excused where a reset-shadow met it; the budget spent, it gives up; with no
exchange for `TL_TO` its time layer is lost. The model's own readings in it: log entries 3, 45. -/
def Obligations.EchoInitiator : Prop :=
  ∀ (s : State) (k : Fin 8) (x : Nat), s.busUp = true →
    (∀ b : Bool, s.initiates k.val = true → (s.link k.val).retry = b → (b = true → (s.link k.val).giveUp = false) →
      (if b then 4 else s.get (CJL_CFG_ECHO_PER k.val)) ≤ (s.link k.val).sinceR → (s.link k.val).slotFree = true →
      ((s.link k.val).out.length < 64 → Goes (if b then .echoRetry k x else .echoRequestSend k x) s (fun t =>
        t.wire = [.marker k.val] ∧ (t.link k.val).eseq = ((s.link k.val).eseq + 1) % 65536 ∧ (t.link k.val).reqs = (s.link k.val).reqs ++ [(s.link k.val).eseq] ∧
        (t.link k.val).out = (s.link k.val).out ++ [⟨(s.link k.val).eseq, s.primStamp x, s.primSide x, none, false, false, x / 8000, s.echoShadow⟩] ∧ (t.link k.val).sinceR = 0 ∧
        Frame s t (among [CJL_STAT_RANK k.val, CJL_STAT_OUTST k.val]) [.cjl])) ∧
      (64 ≤ (s.link k.val).out.length → Goes (if b then .echoRetry k x else .echoRequestSend k x) s (fun t =>
        t.wire = [] ∧ t.get (CJL_CNT_SKIPS k.val) = min (s.get (CJL_CNT_SKIPS k.val) + 1) (CJL_CNT_SKIPS k.val).max ∧ (t.link k.val).out = (s.link k.val).out ∧
        Frame s t (among [CJL_CNT_SKIPS k.val, CJL_STAT_RANK k.val, CJL_STAT_OUTST k.val]) [.cjl, .counters])) ∧
      Goes (if b then .echoRequestSend k x else .echoRetry k x) s (fun t => t.wire = [] ∧ Frame s t (fun _ => false) [])) ∧
    ((s.link k.val).sinceR < s.get (CJL_CFG_ECHO_PER k.val) ∨ (s.link k.val).slotFree = false → Goes (.echoRequestSend k x) s (fun t => t.wire = [] ∧ Frame s t (fun _ => false) [])) ∧
    ((s.link k.val).sinceR < 4 ∨ (s.link k.val).giveUp = true ∨ (s.link k.val).slotFree = false → Goes (.echoRetry k x) s (fun t => t.wire = [] ∧ Frame s t (fun _ => false) [])) ∧
    (s.linkSync k.val = true → ∀ (e : EchoX) (l : List EchoX), (s.link k.val).out = e :: l → e.seen = false → Goes (.responseMarkerReceive k) s (fun t =>
      (t.link k.val).rmc = ((s.link k.val).rmc + 1) % 65536 ∧ (t.link k.val).out.tail = l ∧ ((t.link k.val).out.head?).map (·.seen) = some true ∧
      ((s.echoIn.find? (fun r => r.srcidx == k.val)) = none → ((t.link k.val).out.head?).map (·.t4) = some e.t4) ∧ Frame s t (fun _ => false) [.cjl, .arrivals])) ∧
    (s.linkSync k.val = false → Goes (.responseMarkerReceive k) s (fun t => Frame s t (fun _ => false) [])) ∧
    (s.initiates k.val = false → ((s.link k.val).out = [] → Goes (.responseMarkerReceive k) s (fun t => Frame s t (fun _ => false) [])) ∧
      Goes (.echoRequestSend k x) s (fun t => Frame s t (fun _ => false) []) ∧ Goes (.echoRetry k x) s (fun t => Frame s t (fun _ => false) [])) ∧
    (∀ (e : EchoX) (l : List EchoX), (s.link k.val).out = e :: l → s.unitInRst 15 = false →
      (s.dueBy (e.since + s.get (CJL_CFG_ECHO_WAIT k.val) * 2000) = false → Goes (.echoWaitTimeout k) s (fun t => Frame s t (fun _ => false) [])) ∧
      (s.dueBy (e.since + s.get (CJL_CFG_ECHO_WAIT k.val) * 2000) = true → Goes (.echoWaitTimeout k) s (fun t =>
      (t.link k.val).out = l ∧ (t.link k.val).run = 0 ∧
      t.get (CJL_CNT_VOIDS k.val) = min (s.get (CJL_CNT_VOIDS k.val) + 1) (CJL_CNT_VOIDS k.val).max ∧
      (s.echoShadow = true ∨ e.shadow = true → t.get (CJL_TICK_LASTVOID k.val) = 10 ∧ (t.link k.val).budget = (s.link k.val).budget ∧
        t.get (CJL_TICK_VSTREAK k.val) = s.get (CJL_TICK_VSTREAK k.val)) ∧
      (s.echoShadow = false → e.shadow = false → t.get (CJL_TICK_LASTVOID k.val) = 6 ∧ (t.link k.val).retry = true ∧ (t.link k.val).budget = (s.link k.val).budget + 1) ∧
      (s.echoShadow = false → e.shadow = false → s.get (CJL_STAT_HSTATE k.val) = hsGood → 2 ≤ s.get (CJL_TICK_VSTREAK k.val) → t.get (CJL_STAT_HSTATE k.val) = hsDegraded ∧ t.get (CJL_STICKY_DEG_S k.val) = 1) ∧
      Frame s t (inst 0xF1000 0x80 k.val) [.cjl, .counters]))) ∧
    ((s.link k.val).out = [] ∨ s.unitInRst 15 = true → Goes (.echoWaitTimeout k) s (fun t => Frame s t (fun _ => false) [])) ∧
    (s.unitInShadow 15 = false →
      ((s.link k.val).giveUp = true → Goes (.echoGiveUp k) s (fun t =>
        (t.link k.val).giveUp = false ∧ (t.link k.val).retry = false ∧ (t.link k.val).budget = 0 ∧ t.get (CJL_STICKY_GIVEUP_S k.val) = 1 ∧
        Frame s t (among [CJL_STICKY_GIVEUP_S k.val]) [.cjl])) ∧
      ((s.link k.val).giveUp = false → Goes (.echoGiveUp k) s (fun t => Frame s t (fun _ => false) [])) ∧
      (s.bit (CJL_STAT_TL_OK k.val) = true → (s.link k.val).doneTick ≠ some s.tick → s.tlDue k.val = true → Goes (.tlTimeout k) s (fun t =>
        t.get (CJL_STAT_TL_OK k.val) = 0 ∧ t.get (CJL_STICKY_TL_LOST_S k.val) = 1 ∧ t.get (CJL_STAT_RANK k.val) = 15 ∧
        Frame s t (among [CJL_STAT_TL_OK k.val, CJL_STICKY_TL_LOST_S k.val, CJL_STAT_RANK k.val, CJL_STAT_OUTST k.val]) [.cjl])) ∧
      (s.bit (CJL_STAT_TL_OK k.val) = false ∨ (s.link k.val).doneTick = some s.tick ∨ s.tlDue k.val = false → Goes (.tlTimeout k) s (fun t => Frame s t (fun _ => false) [])))

/-- An ECHO_RSP: a judged one with code 0 completes its exchange, shows its turn time and restarts the void streak; any other voids it with the first code
that applies, an excused one before the others (DEDUCED, log entry 45); one of no outstanding exchange changes no exchange. The answering end: a
request marker is stamped and waits; its response marker goes out stamped; an ECHO_REQ takes the marker before it, and with none before it is answered
with status 3. The model's own readings in it: log entry 45. -/
def Obligations.EchoEnds : Prop :=
  (∀ (s : State) (k : Fin 8) (f : List Byte), s.busUp = true → s.linkSync k.val = true → frameOf f 3 = true →
    ((∀ e ∈ (s.link k.val).out, e.eseq ≠ frameLe f 6 2) → Goes (.echoRspReceive k f) s (fun t =>
      (s.bit (CJL_STAT_INIT k.val) = t.bit (CJL_STAT_INIT k.val) → (t.link k.val).out = (s.link k.val).out ∧ (t.link k.val).run = (s.link k.val).run) ∧
      Frame s t (inst 0xF1000 0x80 k.val) [.cjl, .counters])) ∧
    (∀ (e : EchoX) (l : List EchoX), (s.link k.val).out = e :: l → e.eseq = frameLe f 6 2 → (∀ y ∈ l, y.eseq ≠ e.eseq) →
      (echoCode e (frameLe f 8 1) (frameLe f 28 4) (frameLe f 10 2 == (s.link k.val).rmc) (s.unitInShadow 15 || s.unitInShadow 19)
          ((e.t4.getD 0 - e.t1 - (frameLe f 28 4 : Rat) / 16000) / 2) = 0 →
        Goes (.echoRspReceive k f) s (fun t =>
          t.get (CJL_TURN_TURN k.val) = frameLe f 28 4 % 2 ^ 32 ∧ t.get (CJL_TICK_TICK k.val) = s.tick % 65536 ∧ t.get (CJL_TICK_VSTREAK k.val) = 0 ∧
          (t.link k.val).out = l ∧ (t.link k.val).doneTick = some s.tick ∧ (t.link k.val).doneAt = s.coarse ∧ (t.link k.val).rmc = frameLe f 10 2 ∧
          (t.bit (CJL_STAT_INIT k.val) = s.bit (CJL_STAT_INIT k.val) → s.bit (CJL_STAT_INIT k.val) = true → t.get (CJL_STAT_TL_OK k.val) = 1 ∧ (t.link k.val).run = (s.link k.val).run + 1) ∧
          Frame s t (inst 0xF1000 0x80 k.val) [.cjl, .counters])) ∧
      (∀ c : Nat, c = echoCode e (frameLe f 8 1) (frameLe f 28 4) (frameLe f 10 2 == (s.link k.val).rmc) (s.unitInShadow 15 || s.unitInShadow 19)
          ((e.t4.getD 0 - e.t1 - (frameLe f 28 4 : Rat) / 16000) / 2) → c ≠ 0 →
        Goes (.echoRspReceive k f) s (fun t =>
          t.get (CJL_TICK_LASTVOID k.val) = c % 16 ∧ t.get (CJL_CNT_VOIDS k.val) = min (s.get (CJL_CNT_VOIDS k.val) + 1) (CJL_CNT_VOIDS k.val).max ∧
          (t.link k.val).out = l ∧ (t.link k.val).run = 0 ∧ (excused c = true → t.get (CJL_TICK_VSTREAK k.val) = s.get (CJL_TICK_VSTREAK k.val)) ∧
          Frame s t (inst 0xF1000 0x80 k.val) [.cjl, .counters])))) ∧
  (∀ (s : State) (k : Fin 8) (x : Nat) (f : List Byte), s.busUp = true →
    (s.answers k.val = true → Goes (.echoMarkerReceive k) s (fun t =>
      (t.link k.val).marks.length = (s.link k.val).marks.length + 1 ∧ (t.link k.val).marks.take (s.link k.val).marks.length = (s.link k.val).marks ∧
      (s.echoIn.find? (fun r => r.srcidx == k.val) = none → ((t.link k.val).marks.getLast?).map (·.t2) = some none) ∧
      (∀ r : Rec, s.echoIn.find? (fun r => r.srcidx == k.val) = some r → r.calfail = false →
        ((t.link k.val).marks.getLast?).map (·.t2) = some (some (s.primStamp r.phase)) ∧ t.echoIn = s.echoIn.erase r) ∧
      Frame s t (fun _ => false) [.cjl, .arrivals])) ∧
    (s.answers k.val = false → Goes (.echoMarkerReceive k) s (fun t => Frame s t (fun _ => false) []) ∧
      Goes (.echoResponseInsert k x) s (fun t => t.wire = [] ∧ Frame s t (fun _ => false) [])) ∧
    (s.answers k.val = true → (∀ (m : EchoR) (l : List EchoR), (s.link k.val).marks = m :: l → m.t3 = none →
      Goes (.echoResponseInsert k x) s (fun t =>
        t.wire = [.marker k.val] ∧ (t.link k.val).sentM = ((s.link k.val).sentM + 1) % 65536 ∧
        (m.met = false → ((t.link k.val).marks.head?).map (fun m => (m.t3, m.side3)) = some (some (s.primStamp x), s.primSide x)) ∧
        (m.met = true → (t.link k.val).marks.length ≤ l.length ∧ (m.eseq ≠ none → (s.link k.val).rsps.length < (t.link k.val).rsps.length)) ∧
        Frame s t (fun _ => false) [.cjl]))) ∧
    (s.linkSync k.val = true → frameOf f 2 = true →
      ((∀ m ∈ (s.link k.val).marks, m.met = true) → Goes (.echoReqReceive k f) s (fun t =>
        (t.link k.val).rsps = (s.link k.val).rsps ++ [⟨frameLe f 6 2, 3, (s.link k.val).sentM, 0, 0⟩] ∧ (t.link k.val).marks = (s.link k.val).marks ∧
        Frame s t (inst 0xF1000 0x80 k.val) [.cjl, .counters])) ∧
      (∀ (m : EchoR) (l : List EchoR), (s.link k.val).marks = m :: l → m.met = false → m.t3 = none → Goes (.echoReqReceive k f) s (fun t =>
        ((t.link k.val).marks.head?).map (fun m => (m.eseq, m.met)) = some (some (frameLe f 6 2), true) ∧
        ((∀ y ∈ l, y.met = true) → ((t.link k.val).marks.head?).map (·.wrong) = some false) ∧
        (l.any (fun y => !y.met) = true → ((t.link k.val).marks.head?).map (·.wrong) = some true) ∧
        Frame s t (inst 0xF1000 0x80 k.val) [.cjl, .counters]))))

/-- Floods: a new one on the uplink is reported and goes on one hop further wherever the node answers, a repeated one is reported only, a stray one is
dropped and counted; a host write of a code from 0x80 originates one. Identities, mail and tenses: an offer on the uplink is taken under `ID_MODE` 1
where it does not hold the node's own; a mail fills the mailbox; `SEND` marks the transmit mailbox to go; a TENSE frame off the uplink is stray. The
model's own readings in it: log entry 45. -/
def Obligations.LinkMessages : Prop :=
  (∀ s : State,
    (∀ (k : Fin 8) (f : List Byte), s.busUp = true → s.linkSync k.val = true → frameOf f 5 = true →
      (s.isUplink k.val = true → Goes (.floodReceive k f) s (fun t =>
        t.get CJL_FLOOD_LAST_ORIGIN = frameLe f 6 2 % 65536 ∧ t.get CJL_FLOOD_LAST_CODE = frameLe f 10 1 % 256 ∧
        t.get CJL_FLOOD_CNT_RX = min (s.get CJL_FLOOD_CNT_RX + 1) CJL_FLOOD_CNT_RX.max ∧ t.get CJL_STICKY_FLOOD_S = 1 ∧
        (s.cjl.seen.contains (frameLe f 6 2, frameLe f 8 2) = true → t.cjl.seen = s.cjl.seen ∧ t.get CJL_FLOOD_CNT_FWD = s.get CJL_FLOOD_CNT_FWD) ∧
        (s.cjl.seen.contains (frameLe f 6 2, frameLe f 8 2) = false → t.cjl.seen.head? = some (frameLe f 6 2, frameLe f 8 2) ∧
          t.get CJL_FLOOD_CNT_FWD = min (s.get CJL_FLOOD_CNT_FWD + 1) CJL_FLOOD_CNT_FWD.max ∧
          ∀ j : Fin 8, j ≠ k → s.answers j.val = true → ((t.link j.val).floods.getLast?).map (fun x => (x.origin, x.seq, x.code, x.hops))
            = some (frameLe f 6 2, frameLe f 8 2, frameLe f 10 1, frameLe f 11 1 + 1)) ∧
        Frame s t (fun n => inst 0xF1000 0x80 k.val n || among [CJL_FLOOD_LAST_ORIGIN, CJL_FLOOD_LAST_CODE, CJL_FLOOD_LAST_HOPS, CJL_FLOOD_CNT_RX, CJL_FLOOD_CNT_FWD, CJL_STICKY_FLOOD_S] n)
          [.cjl, .counters])) ∧
      (s.isUplink k.val = false → Goes (.floodReceive k f) s (fun t =>
        t.get (CJL_CNT2_DROPS k.val) = min (s.get (CJL_CNT2_DROPS k.val) + 1) (CJL_CNT2_DROPS k.val).max ∧ t.get (CJL_STICKY_STRAY_S k.val) = 1 ∧
        t.cjl.seen = s.cjl.seen ∧ Frame s t (inst 0xF1000 0x80 k.val) [.cjl, .counters]))) ∧
    (∀ w : HostWrite, s.accepts w 0xF0014 = true →
      (w.v.toNat % 256 < 0x80 ∨ s.unitInRst 15 = true → Goes (.cjlFloodTxWrite w) s (fun t => Frame s t (fun _ => false) [.counters])) ∧
      (0x80 ≤ w.v.toNat % 256 → s.unitInRst 15 = false → Goes (.cjlFloodTxWrite w) s (fun t =>
        t.cjl.flseq = (s.cjl.flseq + 1) % 65536 ∧ t.cjl.seen.head? = some (s.get CJL_NODE_NODE_ID, s.cjl.flseq) ∧
        (∀ j : Fin 8, s.answers j.val = true → (t.link j.val).floods = (s.link j.val).floods ++ [⟨s.get CJL_NODE_NODE_ID, s.cjl.flseq, w.v.toNat % 256, 0, s.now s.primary⟩]) ∧
        Frame s t (fun _ => false) [.cjl, .counters])))) ∧
  (∀ s : State,
    (∀ (k : Fin 8) (f : List Byte), s.busUp = true → s.linkSync k.val = true →
      (frameOf f 6 = true →
        (s.bit CJL_CTL_ID_MODE = true → s.isUplink k.val = true → s.bit CJL_NODE_ID_VALID = false → Goes (.identReceive k f) s (fun t =>
          t.get CJL_NODE_NODE_ID = frameLe f 6 2 % 65536 ∧ t.get CJL_NODE_ID_VALID = 1 ∧ t.get CJL_RANGE_BASE = frameLe f 6 2 % 65536 ∧
          t.get CJL_RANGE_SIZE = frameLe f 8 2 % 65536 ∧ t.get CJL_STICKY_ID_S = 1 ∧
          Frame s t (fun n => inst 0xF1000 0x80 k.val n || among [CJL_NODE_NODE_ID, CJL_NODE_ID_VALID, CJL_RANGE_BASE, CJL_RANGE_SIZE, CJL_STICKY_ID_S] n) [.cjl, .counters])) ∧
        (s.bit CJL_CTL_ID_MODE = false ∨ s.isUplink k.val = false → Goes (.identReceive k f) s (fun t =>
          t.get CJL_NODE_NODE_ID = s.get CJL_NODE_NODE_ID ∧ Frame s t (inst 0xF1000 0x80 k.val) [.cjl, .counters]))) ∧
      (frameOf f 7 = true → Goes (.mailReceive k f) s (fun t =>
        (∀ i : Fin 12, t.cjlRead (0x100 * k.val + 0x40 + 4 * i.val) = frameLe f (8 + 4 * i.val) 4) ∧ t.get (CJL_MAIL_RX_LEN k.val) = frameLe f 6 1 % 2 ^ (CJL_MAIL_RX_LEN k.val).len ∧
        t.get (CJL_STICKY_MAIL_S k.val) = 1 ∧ Frame s t (inst 0xF1000 0x80 k.val) [.cjl, .counters])) ∧
      (frameOf f 4 = true → s.isUplink k.val = false → Goes (.tenseFrameReceive k f) s (fun t =>
        t.get (CJL_CNT2_DROPS k.val) = min (s.get (CJL_CNT2_DROPS k.val) + 1) (CJL_CNT2_DROPS k.val).max ∧ t.get (CJL_STICKY_STRAY_S k.val) = 1 ∧
        Frame s t (inst 0xF1000 0x80 k.val) [.cjl, .counters])) ∧
      (frameOf f 4 = true → s.isUplink k.val = true → s.unitInRst 16 = false → Goes (.tenseFrameReceive k f) s (fun t =>
        t.get TNS_CNT_RX_RX = min (s.get TNS_CNT_RX_RX + 1) TNS_CNT_RX_RX.max ∧
        Frame s t (inBlocks [1, 15, 16]) [.cjl, .tns, .window, .rings, .counters]))) ∧
    (∀ (k : Fin 8) (w : HostWrite), s.accepts w (0xF103C + 0x80 * k.val) = true → Goes (.mailSendWrite k w) s (fun t =>
      t.get (CJL_MAIL_SEND k.val) = (s.get (CJL_MAIL_SEND k.val) ||| writtenBits w.be w.v (CJL_MAIL_SEND k.val).lo 1) ∧
      t.get (CJL_MAIL_LEN k.val) = s.merged w (CJL_MAIL_LEN k.val) ∧ Frame s t (among [CJL_MAIL_SEND k.val, CJL_MAIL_LEN k.val]) [.counters])))

/-! ## The tense table -/

/-- A host insert: with no `GO` nothing is inserted; an entry that passes every check is stored at the lowest free index with the next `LSEQ` and, in a
domain, goes out to the links the node answers; a Cancel that passes removes the entry it names; a refused one leaves the table, and shows why unless
an insert is in progress, which it does not disturb. The model's own readings in it: log entries 25, 26, 46. -/
def Obligations.TenseInsert : Prop :=
  ∀ (s : State) (w : HostWrite) (d : Fin 4001), s.accepts w 0x10002C = true →
    (bitAt w.v.toNat 0 = false → Goes (.tnsInsert w d) s (fun t => t.tns = s.tns ∧ Frame s t (fun _ => false) [.counters])) ∧
    (bitAt w.v.toNat 0 = true → tnsAction s.staged ≠ 12 → s.insertResult s.staged (askOf s.staged) = 0 → Goes (.tnsInsert w d) s (fun t =>
      t.get TNS_INS_STAT_RESULT = 0 ∧ t.get TNS_INS_STAT_INDEX = s.freeIndex % 4096 ∧ tabGet [] t.tns.entry s.freeIndex = s.staged ∧
      (∀ i : Fin 4096, i.val ≠ s.freeIndex → tabGet [] t.tns.entry i.val = tabGet [] s.tns.entry i.val) ∧
      t.get TNS_SEQ_LSEQ = (s.get TNS_SEQ_LSEQ + 1) % 65536 ∧ t.tns.busyTo = s.coarse + d.val ∧ t.tns.pin = s.tns.pin ∧
      (tnsScope s.staged = 1 → t.tns.lastDom = some s.coarse ∧ ∀ k : Fin 8, s.answers k.val = true → (s.link k.val).tenses.length < 8 →
        (t.link k.val).tenses = (s.link k.val).tenses ++ [⟨tnsOrigin s.staged, tnsTseq s.staged, tnsDepth s.staged - 1, s.staged⟩]) ∧
      (tnsScope s.staged ≠ 1 → t.tns.lastDom = s.tns.lastDom ∧ t.cjl = s.cjl) ∧
      Frame s t (fun k => among [TNS_SEQ_LSEQ, TNS_OCC_HWM, TNS_INS_STAT_RESULT, TNS_INS_STAT_INDEX] k ||
        among ((List.range 8).map CJL_CNT2_DROPS ++ (List.range 8).map CJL_STICKY_TNS_DROP_S) k) [.tns, .cjl, .access, .counters])) ∧
    (bitAt w.v.toNat 0 = true → tnsAction s.staged ≠ 12 → s.insertResult s.staged (askOf s.staged) ≠ 0 → Goes (.tnsInsert w d) s (fun t =>
      t.get TNS_INS_STAT_RESULT = (if s.tnsBusy then s.get TNS_INS_STAT_RESULT else s.insertResult s.staged (askOf s.staged)) ∧
      t.tns.entry = s.tns.entry ∧ t.tns.pin = s.tns.pin ∧ t.tns.lastDom = s.tns.lastDom ∧
      (s.insertResult s.staged (askOf s.staged) = 5 → t.get TNS_STICKY_LATE_S = 1 ∧ t.get TNS_CNT_REF_LATE = min (s.get TNS_CNT_REF_LATE + 1) TNS_CNT_REF_LATE.max) ∧
      (s.insertResult s.staged (askOf s.staged) = 6 → t.get TNS_STICKY_FULL_S = 1 ∧ t.get TNS_CNT_REF_FULL = min (s.get TNS_CNT_REF_FULL + 1) TNS_CNT_REF_FULL.max) ∧
      (s.insertResult s.staged (askOf s.staged) ≠ 5 → s.insertResult s.staged (askOf s.staged) ≠ 6 → t.get TNS_STICKY_REFUSE_S = 1) ∧
      t.get TNS_SEQ_LSEQ = s.get TNS_SEQ_LSEQ ∧ Frame s t (inBlocks [1, 16]) [.tns, .window, .access, .counters])) ∧
    (bitAt w.v.toNat 0 = true → tnsAction s.staged = 12 → ∀ (e : Nat × List Nat), s.cancelResult s.staged (askOf s.staged) = (0, some e) →
      Goes (.tnsInsert w d) s (fun t =>
        t.get TNS_INS_STAT_RESULT = 0 ∧ t.get TNS_INS_STAT_INDEX = e.1 % 4096 ∧ t.tns.entry = tabDel e.1 s.tns.entry ∧ t.tns.pin = s.tns.pin ∧
        Frame s t (inBlocks [1, 15, 16]) [.tns, .cjl, .window, .access, .counters]))

/-- A cancel by index removes that pending entry alone, and one of a free index, or of an entry whose firing edge is reached, removes none. A pulse whose
width is up ends at the level the pin held before it. A firing edge before the next boundary: time comes to it, every entry of the scale that is due
leaves the table and no other, and each is counted as fired unless TNS is in reset. With no such edge nothing fires. The model's own readings in it:
log entries 27, 46. -/
def Obligations.TenseCancelAndFire : Prop :=
  (∀ s : State,
    (∀ w : HostWrite, s.accepts w 0x100034 = true → Goes (.tnsCancelWrite w) s (fun t =>
      t.tns = { s.tns with entry := if s.tns.entry.any (fun e => e.1 == w.v.toNat % 4096 && s.tnsPending e.2) then tabDel (w.v.toNat % 4096) s.tns.entry else s.tns.entry } ∧
      t.get TNS_SEQ_LSEQ = s.get TNS_SEQ_LSEQ ∧ Frame s t (inBlocks [1, 16]) [.tns, .window, .counters])) ∧
    (∀ i : Fin 16, s.busUp = true → Goes (.evtPulseTrailing i) s (fun t =>
      ((s.evtPin i.val).pulse = true → s.dueBy (s.evtPin i.val).till = true → t.evtPin i.val = ⟨(s.evtPin i.val).base, (s.evtPin i.val).base, false, 0⟩) ∧
      ((s.evtPin i.val).pulse = false ∨ s.dueBy (s.evtPin i.val).till = false → t.tns = s.tns) ∧
      t.tns.entry = s.tns.entry ∧ (∀ j : Fin 16, j ≠ i → t.evtPin j.val = s.evtPin j.val) ∧ Frame s t (fun _ => false) [.tns]))) ∧
  (∀ (s : State) (k : Fin 4), s.busUp = true →
    (∀ f : Nat, s.nextFire k.val = some f → s.scaleEn k.val = true → s.dueBy f = true → Goes (.tenseFire k) s (fun t =>
      t.coarse = max s.coarse f ∧ t.tick = s.tick ∧ t.bound = s.bound ∧ t.target = s.target ∧
      (∀ e ∈ t.tns.entry, e ∈ s.tns.entry ∧ ¬(tnsTs e.2 = k.val ∧ tnsDue e.2 ≤ (s.scale k.val).at (max s.coarse f))) ∧
      (∀ e ∈ s.tns.entry, ¬(tnsTs e.2 = k.val ∧ tnsDue e.2 ≤ (s.scale k.val).at (max s.coarse f)) → e ∈ t.tns.entry) ∧
      (s.unitInRst 16 = false → t.get TNS_FIRED_FIRED = (s.get TNS_FIRED_FIRED
        + (s.tns.entry.filter (fun e => tnsTs e.2 == k.val && decide (tnsDue e.2 ≤ (s.scale k.val).at (max s.coarse f)))).length) % 2 ^ TNS_FIRED_FIRED.len) ∧
      (s.unitInRst 16 = true → t.get TNS_FIRED_FIRED = s.get TNS_FIRED_FIRED ∧ t.scales = s.scales ∧ t.syn = s.syn) ∧
      Frame s t (fun n => inBlocks [1, 8, 9, 11, 16] n || among [TIM_BANKFULL_CNT_CYCLES] n) [.tns, .time, .window, .channels, .syn, .scales, .counters])) ∧
    (s.nextFire k.val = none ∨ s.scaleEn k.val = false → Goes (.tenseFire k) s (fun t => Frame s t (fun _ => false) [])) ∧
    (∀ f : Nat, s.nextFire k.val = some f → s.dueBy f = false → Goes (.tenseFire k) s (fun t => Frame s t (fun _ => false) [])))

/-! ## The grist loader -/

/-- `START` begins an operation, from flash or SRAM, if none is in progress; else the result is BUSY. `ABORT` ends one, unless a full load is past its
last check. Reading an image from flash: its first 64 bytes go to the SRAM and are checked, the rest follow, and the checks begin. A read that is not
due changes nothing. The model's own readings in it: log entries 15, 50. -/
def Obligations.LoaderRuns : Prop :=
  (∀ (s : State) (m : Master) (src fb sw : Bool),
    (s.accepts ⟨m, beAll, ctlWord true false 0 src fb false⟩ 0x20000 = true →
      (s.gld.op = none → Goes (.gldStartFull m src fb) s (fun t =>
        t.gld.op = some .full ∧ t.gld.fromFlash = src ∧ t.gld.slotB = fb ∧ t.gld.hdr = false ∧ t.get GLD_STAT_LOADER = (if src then 1 else 2) ∧
        Frame s t (among [GLD_CTL_START, GLD_CTL_ABORT, GLD_CTL_MODE, GLD_CTL_SRC, GLD_CTL_FLASH_SLOT, GLD_CTL_SWAP_AT_EN, GLD_STAT_LOADER]) [.loader, .counters])) ∧
      (s.gld.op ≠ none → Goes (.gldStartFull m src fb) s (fun t =>
        t.gld = s.gld ∧ t.get GLD_STAT_RESULT = 0x15 ∧
        Frame s t (among [GLD_CTL_START, GLD_CTL_ABORT, GLD_CTL_MODE, GLD_CTL_SRC, GLD_CTL_FLASH_SLOT, GLD_CTL_SWAP_AT_EN, GLD_STAT_RESULT]) [.counters]))) ∧
    (s.accepts ⟨m, beAll, ctlWord true false 1 src fb sw⟩ 0x20000 = true →
      (s.gld.op = none → Goes (.gldStartSwap m src fb sw) s (fun t =>
        t.gld.op = some .swap ∧ t.gld.fromFlash = src ∧ t.gld.slotB = fb ∧ t.bit GLD_CTL_SWAP_AT_EN = sw ∧ t.get GLD_STAT_LOADER = (if src then 1 else 2) ∧
        Frame s t (among [GLD_CTL_START, GLD_CTL_ABORT, GLD_CTL_MODE, GLD_CTL_SRC, GLD_CTL_FLASH_SLOT, GLD_CTL_SWAP_AT_EN, GLD_STAT_LOADER]) [.loader, .counters])) ∧
      (s.gld.op ≠ none → Goes (.gldStartSwap m src fb sw) s (fun t =>
        t.gld = s.gld ∧ t.get GLD_STAT_RESULT = 0x15 ∧
        Frame s t (among [GLD_CTL_START, GLD_CTL_ABORT, GLD_CTL_MODE, GLD_CTL_SRC, GLD_CTL_FLASH_SLOT, GLD_CTL_SWAP_AT_EN, GLD_STAT_RESULT]) [.counters]))) ∧
    (s.accepts ⟨m, beAll, ctlWord false true (s.get GLD_CTL_MODE) (s.bit GLD_CTL_SRC) (s.bit GLD_CTL_FLASH_SLOT) (s.bit GLD_CTL_SWAP_AT_EN)⟩ 0x20000 = true →
      ((s.gld.applying = false ∨ s.gld.op = some .swap) → Goes (.gldAbort m) s (fun t =>
        t.gld.op = none ∧ (s.gld.op ≠ none → t.get GLD_STAT_RESULT = 0x16 ∧ t.get GLD_STAT_LOADER = 0) ∧
        Frame s t (inBlocks [2]) [.loader, .counters])) ∧
      (s.gld.applying = true → s.gld.op ≠ some .swap → Goes (.gldAbort m) s (fun t =>
        t.gld = s.gld ∧ Frame s t (among [GLD_CTL_START, GLD_CTL_ABORT, GLD_CTL_MODE, GLD_CTL_SRC, GLD_CTL_FLASH_SLOT, GLD_CTL_SWAP_AT_EN]) [.counters])))) ∧
  (∀ (s : State) (b : List Byte), s.busUp = true →
    (s.gld.op ≠ none → s.get GLD_STAT_LOADER = 1 →
      (s.gld.hdr = false → b.length = 64 → headerCheck b = 0 → Goes (.headerReadDone b) s (fun t =>
        t.gld.hdr = true ∧ getBytes t.gld.sram 0 64 = b ∧ t.gld.op = s.gld.op ∧ t.get GLD_STAT_SRAM_MATCH = 0 ∧
        (∀ a, 64 ≤ a → tabGet 0 t.gld.sram a = tabGet 0 s.gld.sram a) ∧ Frame s t (among [GLD_STAT_SRAM_MATCH]) [.loader, .sram])) ∧
      (s.gld.hdr = false → b.length = 64 → headerCheck b ≠ 0 → (s.gld.op ≠ some .boot ∨ s.gld.alternate = true) → Goes (.headerReadDone b) s (fun t =>
        t.gld.op = none ∧ t.get GLD_STAT_RESULT = headerCheck b ∧ t.get GLD_STAT_LOADER = 0 ∧ Frame s t (inBlocks [2]) [.loader, .sram])) ∧
      (s.gld.hdr = false → b.length = 64 → headerCheck b ≠ 0 → s.gld.op = some .boot → s.gld.alternate = false → s.get GLD_BOOT_BOOT_SEL ≤ 1 →
        Goes (.headerReadDone b) s (fun t =>
          t.gld.op = some .boot ∧ t.gld.slotB = !s.gld.slotB ∧ t.gld.alternate = true ∧ t.get GLD_STICKY_FELL_BACK = 1 ∧ t.get GLD_STAT_LOADER = 1 ∧
          t.get GLD_STAT_RESULT = headerCheck b ∧
          Frame s t (among [GLD_STAT_SRAM_MATCH, GLD_STICKY_FELL_BACK, GLD_STAT_LOADER, GLD_STAT_RESULT]) [.loader, .sram])) ∧
      (s.gld.hdr = true → Goes (.imageReadDone b) s (fun t =>
        t.get GLD_STAT_LOADER = 2 ∧ t.gld.op = s.gld.op ∧ (∀ a, a < 64 → tabGet 0 t.gld.sram a = tabGet 0 s.gld.sram a) ∧
        (b.length ≤ 2097088 → getBytes t.gld.sram 64 b.length = b) ∧ Frame s t (among [GLD_STAT_SRAM_MATCH, GLD_STAT_LOADER]) [.sram]))) ∧
    (s.gld.op = none ∨ s.get GLD_STAT_LOADER ≠ 1 → Goes (.headerReadDone b) s (fun t => Frame s t (fun _ => false) []) ∧
      Goes (.imageReadDone b) s (fun t => Frame s t (fun _ => false) [])))

/-- The checks end: the first that fails ends a load that is no boot with its code, the image before running on; an image that passes is taken for the
apply step, a swap's with nothing reset, a load's with time, the running image's values and the keys as they were. The apply step ends: a full load
runs its image; a swap is ARMED, or too late for its second. At its boundary an ARMED swap's image runs and the swap is counted, with the rest of what
that tick boundary does. The model's own readings in it: log entries 11, 12, 50. -/
def Obligations.ImageChecksAndApplies : Prop :=
  (∀ s : State, s.busUp = true →
    (s.gld.op ≠ none → s.gld.op ≠ some .boot → s.get GLD_STAT_LOADER = 2 → (s.imageCheck s.sramImage ≠ 0 ∨ s.imageSound (imageCfgOf s.sramImage) = true) →
      Goes .imageVerifyDone s (fun t =>
        (s.imageCheck s.sramImage ≠ 0 → t.gld.op = none ∧ t.get GLD_STAT_RESULT = s.imageCheck s.sramImage % 256 ∧ t.get GLD_STAT_LOADER = 0 ∧
          Frame s t (inBlocks [2]) [.loader]) ∧
        (s.imageCheck s.sramImage = 0 → t.gld.next = some (imageCfgOf s.sramImage) ∧ t.gld.applying = true ∧ t.get GLD_STAT_LOADER = 3 ∧
          t.cfg = s.cfg ∧ t.applied = s.applied ∧ t.otp = s.otp ∧ t.scales = s.scales ∧
          (s.gld.op = some .swap → Frame s t (among [GLD_STAT_LOADER]) [.loader])))) ∧
    (s.gld.op = some .boot → s.get GLD_STAT_LOADER = 2 → s.imageCheck s.sramImage ≠ 0 → s.gld.alternate = false → s.get GLD_BOOT_BOOT_SEL ≤ 1 →
      Goes .imageVerifyDone s (fun t =>
        t.gld.op = some .boot ∧ t.gld.slotB = !s.gld.slotB ∧ t.gld.alternate = true ∧ t.get GLD_STICKY_FELL_BACK = 1 ∧ t.get GLD_STAT_LOADER = 1 ∧
        t.get GLD_STAT_RESULT = s.imageCheck s.sramImage % 256 ∧ Frame s t (among [GLD_STICKY_FELL_BACK, GLD_STAT_LOADER, GLD_STAT_RESULT]) [.loader])) ∧
    (s.gld.op = none ∨ s.get GLD_STAT_LOADER ≠ 2 → Goes .imageVerifyDone s (fun t => Frame s t (fun _ => false) []))) ∧
  (∀ s : State, s.busUp = true → ∀ c : ImageCfg, s.gld.next = some c →
    (s.gld.applying = true → s.get GLD_STAT_LOADER = 3 →
      (s.gld.op ≠ some .swap → Goes .imageApplyDone s (fun t =>
        t.applied = true ∧ t.cfg = c ∧ t.gld.op = none ∧ t.gld.applying = false ∧ t.get GLD_STAT_IMG_VALID = 1 ∧ t.get GLD_STAT_RESULT = 0 ∧
        t.get GLD_STAT_LOADER = 0 ∧ t.get GLD_BOOT_CONFIRM = 0 ∧ t.get GLD_IMG_VER_IMAGE_VER = c.ver % 2 ^ 32 ∧ t.get LPE_DEMAND_DEMAND = schedDemand c.sched % 2 ^ LPE_DEMAND_DEMAND.len ∧
        t.otp = s.otp ∧ t.tick = s.tick ∧ t.coarse = s.coarse)) ∧
      (s.gld.op = some .swap → s.swapTooLate = false → Goes .imageApplyDone s (fun t => t.get GLD_STAT_LOADER = 4 ∧ Frame s t (among [GLD_STAT_LOADER]) [])) ∧
      (s.gld.op = some .swap → s.swapTooLate = true → Goes .imageApplyDone s (fun t =>
        t.gld.op = none ∧ t.get GLD_STAT_RESULT = 0x14 ∧ Frame s t (inBlocks [2]) [.loader]))) ∧
    (s.gld.applying = false ∨ s.get GLD_STAT_LOADER ≠ 3 → Goes .imageApplyDone s (fun t => Frame s t (fun _ => false) [])) ∧
    (s.swapDue = true → s.sys.clocks = true → s.dueBefore = none → Goes .swapBoundary s (fun t =>
      exec (.tickBoundary TickIn.allDone) s = .next t ∧ t.tick = s.tick + 1 ∧ t.cfg = c ∧ t.gld.op = none ∧ t.get GLD_STAT_LOADER = 0 ∧ t.get GLD_STAT_RESULT = 0 ∧
      t.get GLD_SWAP_TICK_TICK = s.tick % 65536 ∧ t.get GLD_SWAP_TICK_SWAPS = (s.get GLD_SWAP_TICK_SWAPS + 1) % 2 ^ GLD_SWAP_TICK_SWAPS.len ∧ t.otp = s.otp)) ∧
    (s.swapDue = false ∨ s.sys.clocks = false → Goes .swapBoundary s (fun t => Frame s t (fun _ => false) [])))

/-- `CONFIRM` under a running image confirms it and clears `TRIES`. The anti-rollback counter advances only within a confirmed image's version, and holds
its new value once programmed. A blank key slot is programmed with the staged hash; the last live slot is not revoked. The model's own readings in it:
log entry 50. -/
def Obligations.OtpWrites : Prop :=
  ∀ (s : State) (w : HostWrite),
    (s.accepts w 0x2001C = true → w.hits GLD_BOOT_CONFIRM = true →
      (s.bit GLD_STAT_IMG_VALID = true → writtenBits w.be w.v GLD_BOOT_CONFIRM.lo 1 = 1 → Goes (.gldConfirmWrite w) s (fun t =>
        t.get GLD_BOOT_CONFIRM = 1 ∧ t.get GLD_BOOT_TRIES = 0 ∧ Frame s t (among [GLD_BOOT_CONFIRM, GLD_BOOT_TRIES]) [.counters])) ∧
      (s.bit GLD_STAT_IMG_VALID = false ∨ writtenBits w.be w.v GLD_BOOT_CONFIRM.lo 1 = 0 → Goes (.gldConfirmWrite w) s (fun t =>
        Frame s t (fun _ => false) [.counters]))) ∧
    (s.accepts w 0x20018 = true →
      (s.gld.arbTarget = none → s.otp.arb < w.v.toNat % 256 → s.bit GLD_STAT_IMG_VALID = true → w.v.toNat % 256 ≤ s.cfg.svn → s.bit GLD_BOOT_CONFIRM = true →
        Goes (.arbAdvanceWrite w) s (fun t => t.gld.arbTarget = some (w.v.toNat % 256) ∧ t.otp = s.otp ∧ Frame s t (fun _ => false) [.loader, .counters])) ∧
      (s.gld.arbTarget ≠ none ∨ w.v.toNat % 256 ≤ s.otp.arb ∨ s.bit GLD_STAT_IMG_VALID = false ∨ s.cfg.svn < w.v.toNat % 256 ∨ s.bit GLD_BOOT_CONFIRM = false →
        Goes (.arbAdvanceWrite w) s (fun t => t.get GLD_STICKY_ARB_REFUSED = 1 ∧ Frame s t (among [GLD_STICKY_ARB_REFUSED]) [.counters]))) ∧
    (s.busUp = true →
      (∀ n : Nat, s.gld.arbTarget = some n → Goes .arbProgramDone s (fun t =>
        t.otp = { s.otp with arb := max s.otp.arb n } ∧ t.gld.arbTarget = none ∧ Frame s t (fun _ => false) [.loader, .otp])) ∧
      (s.gld.arbTarget = none → Goes .arbProgramDone s (fun t => Frame s t (fun _ => false) []))) ∧
    (s.accepts w 0x20080 = true →
      (∀ k : Fin 4, writtenBits w.be w.v GLD_KEY_PROG.lo 4 = 2 ^ k.val → writtenBits w.be w.v GLD_KEY_REVOKE.lo 4 = 0 →
        (bitAt s.otp.programmed k.val = false → bitAt s.otp.revoked k.val = false → Goes (.keyProgWrite w) s (fun t =>
          t.otp = { s.otp with programmed := setBitAt s.otp.programmed k.val, keyHash := tabPut 0 s.otp.keyHash k.val s.stagedHash } ∧
          Frame s t (among [GLD_KEY_PROG, GLD_KEY_REVOKE]) [.otp, .counters])) ∧
        (bitAt s.otp.programmed k.val = true ∨ bitAt s.otp.revoked k.val = true → Goes (.keyProgWrite w) s (fun t =>
          t.get GLD_STICKY_ARB_REFUSED = 1 ∧ Frame s t (among [GLD_KEY_PROG, GLD_KEY_REVOKE, GLD_STICKY_ARB_REFUSED]) [.counters]))) ∧
      (∀ k : Fin 4, writtenBits w.be w.v GLD_KEY_REVOKE.lo 4 = 2 ^ k.val → writtenBits w.be w.v GLD_KEY_PROG.lo 4 = 0 →
        ((List.range 4).filter (fun i => bitAt s.otp.programmed i && !bitAt s.otp.revoked i) ≠ [k.val] → Goes (.keyRevokeWrite w) s (fun t =>
          t.otp = { s.otp with revoked := setBitAt s.otp.revoked k.val } ∧ Frame s t (among [GLD_KEY_PROG, GLD_KEY_REVOKE]) [.otp, .counters])) ∧
        ((List.range 4).filter (fun i => bitAt s.otp.programmed i && !bitAt s.otp.revoked i) = [k.val] → Goes (.keyRevokeWrite w) s (fun t =>
          t.get GLD_STICKY_ARB_REFUSED = 1 ∧ Frame s t (among [GLD_KEY_PROG, GLD_KEY_REVOKE, GLD_STICKY_ARB_REFUSED]) [.counters]))))

/-! ## Register access, rings -/

/-- A write that is made acts field by field by access type: RW stores the enabled lanes, W1C clears and W1S sets the bits written 1, RO stays. A register
that starts nothing moves nothing else. The model's own readings in it: log entry 7. -/
def Obligations.WritesByAccessType : Prop :=
  ∀ (s : State) (a : Word) (w : HostWrite), s.accepts w a.toNat = true → a.toNat % 4 = 0 → pairOf a.toNat = none →
    a.toNat < 0x41000 ∨ 0x41300 ≤ a.toNat → Goes (.registerWrite a w false) s (fun t =>
      (∀ r : RegD, findReg allRegs a.toNat = some r → ∀ d ∈ r.fields, s.heldField ⟨a.toNat, d.lo, d.len⟩ = false →
        (d.acc = .rw → (gravityKey (Fld.key ⟨a.toNat, d.lo, d.len⟩) = false ∨ a.toNat % 16 < 8) → w.hits ⟨a.toNat, d.lo, d.len⟩ = true → (d.priv = false ∨ s.privileged w.m = true) →
          t.get ⟨a.toNat, d.lo, d.len⟩ = s.merged w ⟨a.toNat, d.lo, d.len⟩) ∧
        (d.acc = .w1c → gravityKey (Fld.key ⟨a.toNat, d.lo, d.len⟩) = false → s.w1cHeld ⟨a.toNat, d.lo, d.len⟩ = false →
          t.get ⟨a.toNat, d.lo, d.len⟩ = s.get ⟨a.toNat, d.lo, d.len⟩ - (s.get ⟨a.toNat, d.lo, d.len⟩ &&& writtenBits w.be w.v d.lo d.len))) ∧
      (quietReg a.toNat = true → Frame s t (fun k => keyAddr k == a.toNat) [.counters, .force]))

/-- A write that is not made: nothing responds; a whole-word register written in part, dropped with cause 1; a PRIV field written by an unprivileged
master, ignored and counted; a locked register, ignored and recorded as a violation. -/
def Obligations.WritesRefused : Prop :=
  ∀ (s : State) (a : Word) (w : HostWrite), a.toNat % 4 = 0 → a.toNat < 0x200000 →
    (s.begin.countAccess.responds a.toNat = false → Goes (.registerWrite a w false) s (fun t => Frame s t (fun _ => false) [.counters])) ∧
    (∀ r : RegD, findReg allRegs a.toNat = some r → s.begin.countAccess.responds a.toNat = true →
      (r.wholeWord = true ∨ pairOf a.toNat ≠ none → w.full = false → Goes (.registerWrite a w false) s (fun t =>
        t.get HIF_ACC_ERR_ADDR_ADDR = a.toNat ∧ t.get HIF_ACC_ERR_INFO_CAUSE = 1 ∧ t.get HIF_ACC_ERR_INFO_MASTER = w.m.code ∧ t.get HIF_STICKY_ACC_ERR = 1 ∧
        Frame s t (among [HIF_ACC_ERR_ADDR_ADDR, HIF_ACC_ERR_INFO_CAUSE, HIF_ACC_ERR_INFO_MASTER, HIF_STICKY_ACC_ERR]) [.counters])) ∧
      ((r.wholeWord = false ∨ w.full = true) → pairOf a.toNat = none → s.locked a.toNat = false → s.privileged w.m = false →
        (∀ d ∈ r.fields, d.acc ≠ .ro → d.priv = true) → r.fields.any (fun d => d.acc != .ro && w.hits ⟨a.toNat, d.lo, d.len⟩) = true →
        Goes (.registerWrite a w false) s (fun t =>
          t.get HIF_CNT_PRIV_CNT = min (s.get HIF_CNT_PRIV_CNT + 1) HIF_CNT_PRIV_CNT.max ∧ t.get HIF_STICKY_PRIV_S = 1 ∧
          Frame s t (among [HIF_CNT_PRIV_CNT, HIF_STICKY_PRIV_S]) [.counters])) ∧
      (((r.wholeWord = false ∧ pairOf a.toNat = none) ∨ w.full = true) → s.locked a.toNat = true →
        r.fields.any (fun d => w.hits ⟨a.toNat, d.lo, d.len⟩ && (s.privileged w.m || !d.priv)) = true →
        Goes (.registerWrite a w false) s (fun t =>
          t.get GLD_VIOL_ADDR_ADDR = a.toNat % 2 ^ 22 ∧ t.get GLD_VIOL_CNT_COUNT = min (s.get GLD_VIOL_CNT_COUNT + 1) GLD_VIOL_CNT_COUNT.max ∧
          t.get (wonceViol (a.toNat / 0x10000)) = 1 ∧
          Frame s t (fun k => among [GLD_VIOL_ADDR_ADDR, GLD_VIOL_CNT_COUNT, wonceViol (a.toNat / 0x10000)] k ||
            (!s.privileged w.m && among [HIF_CNT_PRIV_CNT, HIF_STICKY_PRIV_S] k)) [.counters]))) ∧
    (s.accepts w a.toNat = true → (a.toNat = 0x18 ∧ s.bit SYS_OSC_DET_FAIL = true ∧ s.wonce.contains SYS_OSC_SEL_OSC_SEL.key = true) ∨
        (∃ k : Fin 4, a.toNat = 0xC0130 + 0x80 * k.val ∧ bitAt w.v.toNat 0 = true ∧ s.wonce.contains (TME_STEP_GO_GO k.val).key = true) →
      Goes (.registerWrite a w false) s (fun t =>
        t.get GLD_VIOL_ADDR_ADDR = a.toNat ∧ t.get GLD_VIOL_CNT_COUNT = min (s.get GLD_VIOL_CNT_COUNT + 1) GLD_VIOL_CNT_COUNT.max ∧
        t.get (wonceViol (a.toNat / 0x10000)) = 1 ∧ t.wonce = s.wonce ∧ t.coarse = s.coarse ∧ t.scales = s.scales))

/-- A read answers what a register shows the master, and changes nothing but what the master last read: by SPI with a status byte, by I²C to the device's
address, by PCIe, each word of a frame in turn. Where nothing responds it answers 0. A read of a low word latches the high one. The model's own
readings in it: log entries 7, 28. -/
def Obligations.BusReads : Prop :=
  ∀ (s : State) (a : Word) (n : Nat), a.toNat + 4 * n < 0x200000 → n ≤ 16 →
    (∀ i : Nat, i < n → plainReg (a.toNat / 4 * 4 + 4 * i) = true ∧ s.allMember (a.toNat / 4 * 4 + 4 * i) = false ∧ s.serves .spi (a.toNat / 4 * 4 + 4 * i) = true) →
      Goes (.spiRead a n) s (fun t =>
        t.hif.resp = (List.range n).map (fun i => BitVec.ofNat 32 (s.shown .spi (a.toNat / 4 * 4 + 4 * i))) ∧
        t.hif.status = List.replicate n s.spiStatusByte ∧ Frame s t (fun _ => false) [.access, .counters]) ∧
      (1 ≤ n → Goes (.spiReadFixed a n) s (fun t =>
        t.hif.resp = List.replicate n (BitVec.ofNat 32 (s.shown .spi (a.toNat / 4 * 4))) ∧ Frame s t (fun _ => false) [.access, .counters])) ∧
    ((∀ i : Nat, i < n → plainReg (a.toNat / 4 * 4 + 4 * i) = true ∧ s.allMember (a.toNat / 4 * 4 + 4 * i) = false ∧ s.serves .i2c (a.toNat / 4 * 4 + 4 * i) = true) →
      Goes (.i2cRead (BitVec.ofNat 7 (s.get HIF_I2C_ADDR_ADDR)) [a.extractLsb' 24 8, a.extractLsb' 16 8, a.extractLsb' 8 8, a.extractLsb' 0 8] n) s (fun t =>
        t.hif.resp = (List.range n).map (fun i => BitVec.ofNat 32 (s.shown .i2c (a.toNat / 4 * 4 + 4 * i))) ∧ Frame s t (fun _ => false) [.access, .counters])) ∧
    (∀ (d : BitVec 7) (l : List Byte), (d.toNat ≠ s.get HIF_I2C_ADDR_ADDR ∨ l.length < 4) →
      Goes (.i2cRead d l n) s (fun t => t.hif.resp = [] ∧ Frame s t (fun _ => false) [])) ∧
    (s.begin.countAccess.responds (a.toNat / 4 * 4) = false → Goes (.spiReadFixed a 1) s (fun t => t.hif.resp = [0] ∧ Frame s t (fun _ => false) [.access, .counters])) ∧
    (∀ m : Master, isLoWord a.toNat = true → s.allMember a.toNat = false → inGroup a.toNat = false → isLoWord (a.toNat - 4) = false → s.serves m a.toNat = true → a.toNat % 4 = 0 → pairOf a.toNat = none →
      groupLen a.toNat = 0 → Goes (.lowWordLatchRead m a) s (fun t =>
        t.hif.resp = [BitVec.ofNat 32 (s.shown m a.toNat)] ∧ t.latched m (a.toNat + 4) = some (s.begin.countAccess.liveWord m (a.toNat + 4)) ∧
        Frame s t (fun _ => false) [.access, .counters]))

/-- A write frame writes its words in turn: one word is the write it spells; a word cut short is dropped with cause 5; a frame with no word makes no
access. A request outside a function's windows is Unsupported, and masking a vector holds its message. The model's own readings in it: log entries 7,
28, 47. -/
def Obligations.BusWrites : Prop :=
  ∀ (s : State) (a : Word) (v : Word),
    (s.accepts ⟨.spi, beAll, v⟩ a.toNat = true → quietReg a.toNat = true →
      Goes (.spiWrite a [v] false) s (fun t => exec (.registerWrite a ⟨.spi, beAll, v⟩ false) s = .next t ∧ Frame s t (fun k => keyAddr k == a.toNat) [.counters, .force]) ∧
      Goes (.spiWriteFixed a [v, v] false) s (fun t => Frame s t (fun k => keyAddr k == a.toNat) [.counters, .force])) ∧
    (s.accepts ⟨.i2c, beAll, v⟩ a.toNat = true → quietReg a.toNat = true →
      Goes (.i2cWrite (BitVec.ofNat 7 (s.get HIF_I2C_ADDR_ADDR)) [a.extractLsb' 24 8, a.extractLsb' 16 8, a.extractLsb' 8 8, a.extractLsb' 0 8,
          v.extractLsb' 24 8, v.extractLsb' 16 8, v.extractLsb' 8 8, v.extractLsb' 0 8]) s (fun t =>
        exec (.registerWrite a ⟨.i2c, beAll, v⟩ false) s = .next t ∧ Frame s t (fun k => keyAddr k == a.toNat) [.counters, .force])) ∧
    (∀ (d : BitVec 7) (l : List Byte), (d.toNat ≠ s.get HIF_I2C_ADDR_ADDR ∨ l.length < 4) → Goes (.i2cWrite d l) s (fun t => Frame s t (fun _ => false) [])) ∧
    (s.busUp = true →
      Goes (.spiWrite a [] true) s (fun t =>
        t.get HIF_ACC_ERR_ADDR_ADDR = a.toNat ∧ t.get HIF_ACC_ERR_INFO_CAUSE = 5 ∧ t.get HIF_ACC_ERR_INFO_MASTER = Master.spi.code ∧ t.get HIF_STICKY_ACC_ERR = 1 ∧
        Frame s t (among [HIF_ACC_ERR_ADDR_ADDR, HIF_ACC_ERR_INFO_CAUSE, HIF_ACC_ERR_INFO_MASTER, HIF_STICKY_ACC_ERR]) []) ∧
      Goes .spiStatus s (fun t => t.hif.status = [s.spiStatusByte] ∧ t.hif.resp = [] ∧ Frame s t (fun _ => false) []) ∧
      Goes .spiReadLast s (fun t => t.hif.status = [s.spiStatusByte] ∧ t.hif.resp = [BitVec.ofNat 32 (tabGet 0 s.hif.lastRead Master.spi.code)] ∧ Frame s t (fun _ => false) []) ∧
      Goes .spiUnknownCommand s (fun t =>
        t.get HIF_ACC_ERR_INFO_CAUSE = 4 ∧ t.get HIF_ACC_ERR_INFO_MASTER = Master.spi.code ∧ t.get HIF_STICKY_ACC_ERR = 1 ∧
        Frame s t (among [HIF_ACC_ERR_ADDR_ADDR, HIF_ACC_ERR_INFO_CAUSE, HIF_ACC_ERR_INFO_MASTER, HIF_STICKY_ACC_ERR]) [.free])) ∧
    (∀ (pf1 : Bool) (b : Fin 16), s.pcieUp = true → a.toNat < 0x200000 →
      (s.accepts ⟨fnMaster pf1, b, v⟩ a.toNat = true → quietReg a.toNat = true → a.toNat % 4 = 0 → Goes (.pcieRequest (.write pf1 false (BitVec.ofNat 22 a.toNat) [v] b 0)) s (fun t =>
        exec (.registerWrite a ⟨fnMaster pf1, b, v⟩ false) s = .next t)) ∧
      (plainReg a.toNat = true → s.allMember a.toNat = false → s.serves (fnMaster pf1) a.toNat = true →
        Goes (.pcieRequest (.read pf1 false (BitVec.ofNat 22 a.toNat) 1 beAll 0)) s (fun t =>
          t.hif.resp = [BitVec.ofNat 32 (s.shown (fnMaster pf1) a.toNat)] ∧ t.hif.ur = false ∧ Frame s t (fun _ => false) [.access, .counters])) ∧
      (∀ n : Fin 129, 16 < n.val → Goes (.pcieRequest (.read pf1 false (BitVec.ofNat 22 a.toNat) n b b)) s (fun t =>
        t.hif.ur = true ∧ t.hif.resp = [] ∧ Frame s t (fun _ => false) [])) ∧
      Goes (.pcieRequest (.read true true (BitVec.ofNat 22 a.toNat) 1 b b)) s (fun t => t.hif.ur = true ∧ t.hif.resp = [] ∧ Frame s t (fun _ => false) [])) ∧
    (∀ (x : Fin 32) (on : Bool), s.pcieUp = true → Goes (.pcieRequest (.mask x on)) s (fun t =>
      bitAt t.hif.vecMask x.val = on ∧ (∀ y : Fin 32, y ≠ x → bitAt t.hif.vecMask y.val = bitAt s.hif.vecMask y.val) ∧ t.hif.perst = s.hif.perst ∧
      Frame s t (fun _ => false) [.pcie])) ∧
    (s.pcieUp = false → ∀ q : PcieReq, Goes (.pcieRequest q) s (fun t => t.hif.resp = [] ∧ Frame s t (fun _ => false) []))

/-- An indirect pair: a write of the address sets it and its mode, a read answers the word there, a write puts it and stays in progress, each moving the
address where its mode says; a PRIV region is zero to an unprivileged master and its write is ignored and counted. The model's own readings in it: log
entry 7. -/
def Obligations.IndirectPairs : Prop :=
  ∀ (s : State) (b : Fin 17), indirectBlocks.contains b.val = true → s.begin.countAccess.responds (0x10000 * b.val + 0xFF4) = true →
    (∀ w : HostWrite, w.full = true → s.locked (0x10000 * b.val + 0xFF0) = false → tabGet 0 s.hif.indBusy b.val = 0 → Goes (.indAddrWrite b w) s (fun t =>
      t.get (BLK_IND_ADDR_ADDR b.val) = w.v.toNat % 2 ^ (BLK_IND_ADDR_ADDR b.val).len ∧ t.get (BLK_IND_ADDR_INC b.val) = w.v.toNat / 2 ^ 30 % 4 ∧
      Frame s t (among [BLK_IND_ADDR_ADDR b.val, BLK_IND_ADDR_INC b.val]) [.access, .counters])) ∧
    (∀ w : HostWrite, w.full = false → Goes (.indAddrWrite b w) s (fun t =>
      t.get HIF_ACC_ERR_INFO_CAUSE = 1 ∧ t.get HIF_STICKY_ACC_ERR = 1 ∧
      Frame s t (among [HIF_ACC_ERR_ADDR_ADDR, HIF_ACC_ERR_INFO_CAUSE, HIF_ACC_ERR_INFO_MASTER, HIF_STICKY_ACC_ERR]) [.counters])) ∧
    (∀ m : Master, pairMoved (s.pairUse b.val) m = false → tabGet 0 s.hif.indBusy b.val = 0 → (indirectPriv b.val = false ∨ s.privileged m = true) →
      Goes (.indDataRead m b) s (fun t =>
        t.hif.resp = [BitVec.ofNat 32 (if b.val = 10 then (s.caskRead (s.indirectAddr 10)).2 else s.indirectWord b.val (s.indirectAddr b.val))] ∧
        t.cask = s.cask ∧ (b.val = 10 → t.csk.latch = (s.caskRead (s.indirectAddr 10)).1.csk.latch) ∧
        t.get (BLK_IND_ADDR_ADDR b.val) = (s.get (BLK_IND_ADDR_ADDR b.val) + (if bitAt (s.get (BLK_IND_ADDR_INC b.val)) 0 then 4 else 0)) % 2 ^ (BLK_IND_ADDR_ADDR b.val).len ∧
        Frame s t (among [BLK_IND_ADDR_ADDR b.val]) ([.access, .counters, .free] ++ if b.val = 10 then [.cask] else []))) ∧
    (∀ m : Master, pairMoved (s.pairUse b.val) m = false → tabGet 0 s.hif.indBusy b.val = 0 → indirectPriv b.val = true → s.privileged m = false →
      Goes (.indDataRead m b) s (fun t => t.hif.resp = [0] ∧ Frame s t (among [BLK_IND_ADDR_ADDR b.val]) [.access, .counters, .free]) ∧
      ∀ v : Word, s.locked (0x10000 * b.val + 0xFF4) = false → Goes (.indDataWrite b ⟨m, beAll, v⟩) s (fun t =>
        t.get HIF_CNT_PRIV_CNT = min (s.get HIF_CNT_PRIV_CNT + 1) HIF_CNT_PRIV_CNT.max ∧ t.get HIF_STICKY_PRIV_S = 1 ∧
        t.get (BLK_IND_ADDR_ADDR b.val) = (s.get (BLK_IND_ADDR_ADDR b.val) + (if bitAt (s.get (BLK_IND_ADDR_INC b.val)) 1 then 4 else 0)) % 2 ^ (BLK_IND_ADDR_ADDR b.val).len ∧
        Frame s t (among [BLK_IND_ADDR_ADDR b.val, HIF_CNT_PRIV_CNT, HIF_STICKY_PRIV_S]) [.access, .counters])) ∧
    (∀ w : HostWrite, w.full = true → s.locked (0x10000 * b.val + 0xFF4) = false → s.privileged w.m = true → pairMoved (s.pairUse b.val) w.m = false → tabGet 0 s.hif.indBusy b.val = 0 → b.val ≠ 14 →
      Goes (.indDataWrite b w) s (fun t =>
        tabGet 0 t.hif.indBusy b.val = 1 ∧
        (b.val = 2 → s.indirectAddr 2 < 0x200000 → s.sramBlocked = false → t.gldWord (s.indirectAddr 2) = w.v.toNat) ∧
        (b.val = 15 → s.indirectAddr 15 / 0x100 < 8 → s.indirectAddr 15 % 0x100 ≤ 0x2C → t.cjlRead (s.indirectAddr 15) = w.v.toNat) ∧
        t.get (BLK_IND_ADDR_ADDR b.val) = (s.get (BLK_IND_ADDR_ADDR b.val) + (if bitAt (s.get (BLK_IND_ADDR_INC b.val)) 1 then 4 else 0)) % 2 ^ (BLK_IND_ADDR_ADDR b.val).len ∧
        Frame s t (among [BLK_IND_ADDR_ADDR b.val, GLD_STAT_SRAM_MATCH, GLD_STICKY_SRAM_WR_BLOCKED]) [.access, .counters, .sram, .loader, .syn, .eth, .cjl])) ∧
    (s.busUp = true → Goes (.indirectComplete b) s (fun t => tabGet 0 t.hif.indBusy b.val = 0 ∧ Frame s t (fun _ => false) [.access]))

/-- Misuse goes on, and leaves alone what R12 says: a write that is a row of R396's table, a word written where a descriptor is the device's, an indirect
pair used in turn by two masters, and an image that breaks a check the loader does not repeat. The model's own readings in it: log entry 57. -/
def Obligations.MisuseBounded : Prop :=
  ∀ s : State,
    (∀ (a : Word) (w : HostWrite), a.toNat % 4 = 0 → a.toNat < 0x200000 → s.misuses w a.toNat = true → Goes (.registerWrite a w false) s s.bounded) ∧
    (∀ (a : Word) (w : HostWrite), 0x200000 ≤ a.toNat → a.toNat < 0x300000 → Goes (.registerWrite a w false) s s.bounded) ∧
    (∀ (b : Fin 17) (m : Master), indirectBlocks.contains b.val = true → pairMoved (s.pairUse b.val) m = true →
      s.begin.countAccess.responds (0x10000 * b.val + 0xFF4) = true →
      Goes (.indDataRead m b) s (fun t => s.bounded t ∧ (indirectPriv b.val = true → s.privileged m = false → t.hif.resp = [0])) ∧
      ∀ w : HostWrite, Goes (.indDataWrite b { w with m := m }) s s.bounded) ∧
    (s.busUp = true → s.gld.op ≠ none → s.get GLD_STAT_LOADER = 2 → Goes .imageVerifyDone s (fun t => s.bounded t ∧
      (s.imageCheck s.sramImage = 0 →
        t.gld.op = s.gld.op ∧ t.gld.next = some (imageCfgOf s.sramImage) ∧ t.gld.applying = true ∧ t.get GLD_STAT_LOADER = 3)))

/-- A doorbell takes the descriptor at the index of an enabled ring that the host has handed over; enabling a ring starts it at index 0; an `EOI` of an
asserted, unmasked vector sends its message again. Items: one for a device-to-host ring goes into the device's descriptor, or is dropped and counted
where it owns none; an IMAGE item goes into the SRAM and is returned; held FRAME_RX items go out with the announcing edge's stamp. The model's own
readings in it: log entries 34, 47. -/
def Obligations.RingsMove : Prop :=
  (∀ (s : State) (w : HostWrite),
    (s.accepts w 0x10300 = true →
      (∀ r : Fin 3, 1 ≤ r.val → w.v.toNat / 2 % 4 = r.val → s.bit (HIF_RING_CFG_RING_EN r.val) = true → s.itemOf r.val = none → s.ownAt (s.descAt r.val (s.ringIdx r.val)) = true →
        Goes (.ringDoorbell w) s (fun t =>
          ((t.itemOf r.val).map (fun d => (d.idx, d.len, d.port))) = some (s.ringIdx r.val, s.winWord (s.descAt r.val (s.ringIdx r.val)) % 65536, bitsAt (s.winWord (s.descAt r.val (s.ringIdx r.val))) 24 4) ∧
          t.itemOf (3 - r.val) = s.itemOf (3 - r.val) ∧ t.hif.held = s.hif.held ∧ Frame s t (fun _ => false) [.rings, .counters])) ∧
      (w.v.toNat / 2 % 4 = 0 ∨ (s.bit (HIF_RING_CFG_RING_EN 1) = false ∧ s.bit (HIF_RING_CFG_RING_EN 2) = false) → Goes (.ringDoorbell w) s (fun t =>
        Frame s t (fun _ => false) [.counters]))) ∧
    (∀ r : Fin 8, s.accepts w (0x10404 + 0x10 * r.val) = true → Goes (.ringEnableWrite r w) s (fun t =>
      t.get (HIF_RING_CFG_RING_EN r.val) = s.merged w (HIF_RING_CFG_RING_EN r.val) ∧ t.get (HIF_RING_CFG_SIZE r.val) = s.merged w (HIF_RING_CFG_SIZE r.val) ∧
      (s.bit (HIF_RING_CFG_RING_EN r.val) = false → t.bit (HIF_RING_CFG_RING_EN r.val) = true → t.get (HIF_RING_IDX_IDX r.val) = 0) ∧
      (s.bit (HIF_RING_CFG_RING_EN r.val) = true ∨ t.bit (HIF_RING_CFG_RING_EN r.val) = false → t.get (HIF_RING_IDX_IDX r.val) = s.get (HIF_RING_IDX_IDX r.val)) ∧
      Frame s t (among [HIF_RING_CFG_RING_EN r.val, HIF_RING_CFG_SIZE r.val, HIF_RING_IDX_IDX r.val]) [.counters])) ∧
    (s.accepts w 0x10188 = true → Goes (.eoiWrite w) s (fun t =>
      (bitAt s.vectors (w.v.toNat % 32) = true → bitAt s.hif.vecMask (w.v.toNat % 32) = false → t.hif.msgs.head? = some (w.v.toNat % 32)) ∧
      Frame s t (fun _ => false) [.counters]))) ∧
  (∀ s : State, s.busUp = true →
    (∀ (r : Fin 8) (p : Fin 16) (l : List Byte), 3 ≤ r.val →
      (s.bit (HIF_RING_CFG_RING_EN r.val) = false → Goes (.ringItemPost r p l) s (fun t => Frame s t (fun _ => false) [])) ∧
      (s.bit (HIF_RING_CFG_RING_EN r.val) = true → s.ownAt (s.descAt r.val (s.ringIdx r.val)) = false → Goes (.ringItemPost r p l) s (fun t =>
        t.get (HIF_RING_CNT_DROPS r.val) = min (s.get (HIF_RING_CNT_DROPS r.val) + 1) (HIF_RING_CNT_DROPS r.val).max ∧ t.get (HIF_RING_STICKY_DROP_S r.val) = 1 ∧
        Frame s t (among [HIF_RING_CNT_DROPS r.val, HIF_RING_STICKY_DROP_S r.val]) [.counters])) ∧
      (s.bit (HIF_RING_CFG_RING_EN r.val) = true → s.ownAt (s.descAt r.val (s.ringIdx r.val)) = true →
        s.winWord (s.descAt r.val (s.ringIdx r.val) + 4) % 2 ^ 20 / 16 * 16 + s.winWord (s.descAt r.val (s.ringIdx r.val)) % 65536 ≤ 2 ^ 20 →
        l.length ≤ s.winWord (s.descAt r.val (s.ringIdx r.val)) % 65536 → Goes (.ringItemPost r p l) s (fun t =>
          t.ownAt (s.descAt r.val (s.ringIdx r.val)) = false ∧ t.winWord (s.descAt r.val (s.ringIdx r.val)) % 65536 = l.length ∧
          t.get (HIF_RING_IDX_IDX r.val) = (s.ringIdx r.val + 1) % s.ringSize r.val ∧ t.get (HIF_RING_IDX_RSEQ r.val) = (s.get (HIF_RING_IDX_RSEQ r.val) + 1) % 65536 ∧
          t.get (HIF_RING_STICKY_DONE_S r.val) = 1 ∧
          Frame s t (among [HIF_RING_IDX_IDX r.val, HIF_RING_IDX_RSEQ r.val, HIF_RING_STICKY_DONE_S r.val]) [.window, .counters]))) ∧
    (∀ d : Desc, s.itemOf 2 = some d →
      Goes (.hostItemComplete none) s (fun t =>
        (s.imageStatus d = 0 → getBytes t.gld.sram d.sramOfs d.len = s.itemBytes d ∧ t.get GLD_STAT_SRAM_MATCH = 0) ∧
        (s.imageStatus d ≠ 0 → (∀ a, tabGet 0 t.gld.sram a = tabGet 0 s.gld.sram a) ∧ t.get (HIF_RING_STICKY_ERR_S 2) = 1) ∧
        (s.imageStatus d = 4 → t.get GLD_STICKY_SRAM_WR_BLOCKED = 1) ∧ t.get (HIF_RING_STICKY_DONE_S 2) = 1 ∧
        t.get (HIF_RING_IDX_IDX 2) = (s.ringIdx 2 + 1) % s.ringSize 2 ∧ bitsAt (t.winWord (s.descAt 2 (s.ringIdx 2))) 16 8 = s.imageStatus d ∧
        Frame s t (among [HIF_RING_IDX_IDX 2, HIF_RING_IDX_RSEQ 2, HIF_RING_STICKY_DONE_S 2, HIF_RING_STICKY_ERR_S 2, GLD_STAT_SRAM_MATCH, GLD_STICKY_SRAM_WR_BLOCKED])
          [.rings, .window, .sram, .counters])) ∧
    (s.itemOf 2 = none → Goes (.hostItemComplete none) s (fun t => Frame s t (fun _ => false) [])) ∧
    (∀ e : Nat, s.coarse + 128 ≤ 4 * e →
      (s.announceWaits 104 = false → Goes (.frameRxRelease false e) s (fun t =>
        t.hif.held = [] ∧ t.hif.item = s.hif.item ∧ Frame s t (among [HIF_RING_IDX_IDX 0, HIF_RING_IDX_RSEQ 0, HIF_RING_STICKY_DONE_S 0, HIF_RING_STICKY_DROP_S 0,
          HIF_RING_STICKY_ERR_S 0, HIF_RING_CNT_DROPS 0]) [.rings, .window, .counters])) ∧
      (s.announceWaits 105 = false → Goes (.frameRxRelease true e) s (fun t =>
        t.txHeld = [] ∧ Frame s t (inBlocks [12]) [.txq, .counters])) ∧
      (s.announceWaits 104 = true → Goes (.frameRxRelease false e) s (fun t => Frame s t (fun _ => false) []))))

/-! ## Faults and observation -/

/-- The gravity window of a source moves by one bucket once a sixteenth of it has passed; a severe bit written 1 clears, unless its source is live at its
threshold; `V` written 1 clears a block's capture, or the first-block latch; an escalation written 1 lifts. The dual-rail lines: an inversion seen
ends a line fault and its count of misses, the second miss in a row declares one; a fault declared is shown once in `FLT_LINE` and raises `LINE_S`.
FLT itself drives no line. The model's own readings in it: log entry 48. -/
def Obligations.FaultLogic : Prop :=
  (∀ (s : State),
    (∀ x : Fin 128, s.busUp = true → s.inF (BLK_FLT_WIN (unitOfSource x.val).1 (unitOfSource x.val).2) ≠ 0 →
      (s.dueBy (tabGet 0 s.flt.bucketAt x.val + s.bucketLen x.val) = false → Goes (.gravityBucketAdvance x) s (fun t => Frame s t (fun _ => false) [])) ∧
      (s.dueBy (tabGet 0 s.flt.bucketAt x.val + s.bucketLen x.val) = true → Goes (.gravityBucketAdvance x) s (fun t =>
      tabGet 0 t.flt.bucketAt x.val = tabGet 0 s.flt.bucketAt x.val + s.bucketLen x.val ∧
      (s.pinHolders = s.flt.holders → t.wcount x.val = (((tabGet [] s.flt.buckets x.val).take 15).foldl (· + ·) 0)) ∧
      (s.pinHolders = s.flt.holders → ∀ y : Fin 128, y ≠ x → t.wcount y.val = s.wcount y.val) ∧ Frame s t (fun _ => false) []))) ∧
    (∀ (b : Fin 17) (w : HostWrite) (j : Fin 16), s.accepts w (0x10000 * b.val + 0xE04) = true → j.val < unitSources b.val →
      writtenBits w.be w.v j.val 1 = 1 → s.pinHolders = s.flt.holders → Goes (.sevClearWrite b w) s (fun t =>
        (s.w1cHeld (BLK_FLT_SEV b.val j.val) = false → s.unitInRst 3 = true ∨ s.flt.holders.contains b.val = false ∨ s.flt.holders.length ≠ 1 → t.get (BLK_FLT_SEV b.val j.val) = 0) ∧
        (s.w1cHeld (BLK_FLT_SEV b.val j.val) = true → t.get (BLK_FLT_SEV b.val j.val) = s.get (BLK_FLT_SEV b.val j.val)) ∧
        Frame s t (fun _ => false) [.counters])) ∧
    (∀ (b : Fin 18) (w : HostWrite), s.pinHolders = s.flt.holders →
      (b.val ≠ 17 → s.accepts w (0x10000 * b.val + 0xE08) = true → bitAt (w.v.toNat &&& beMask w.be) 7 = true → Goes (.captureClearWrite b w) s (fun t =>
        t.get (BLK_FLT_FIRST_V b.val) = 0 ∧ t.get (BLK_FLT_FIRST_SRC b.val) = 0 ∧ t.get (BLK_FLT_FIRST_OVF b.val) = 0 ∧ t.get (BLK_FLT_FIRST_TICK b.val) = 0 ∧
        Frame s t (fun _ => false) [.counters])) ∧
      (b.val = 17 → s.accepts w 0x30008 = true → writtenBits w.be w.v FLT_PIN_FIRST_V.lo 1 = 1 → Goes (.captureClearWrite b w) s (fun t =>
        t.get FLT_PIN_FIRST_V = 0 ∧ t.get FLT_PIN_FIRST_BLK = 0 ∧ t.get FLT_PIN_FIRST_OVF = 0 ∧ Frame s t (fun _ => false) [.counters]))) ∧
    (∀ (w : HostWrite) (b : Fin 17), s.accepts w 0x30018 = true → Goes (.escClearWrite w) s (fun t =>
      t.get (FLT_ESC_BLK b.val) = s.get (FLT_ESC_BLK b.val) - (s.get (FLT_ESC_BLK b.val) &&& writtenBits w.be w.v b.val 1) ∧
      Frame s t (among ((List.range 17).map FLT_ESC_BLK)) [.counters]))) ∧
  (∀ (s : State) (b : Fin 17), s.busUp = true →
    (b.val = 3 → Goes (.lineFault b) s (fun t => Frame s t (fun _ => false) []) ∧ ∀ x : Bool, Goes (.lineInversion b x) s (fun t => Frame s t (fun _ => false) [])) ∧
    (b.val ≠ 3 →
      (s.flt.lineBad.contains b.val = false → Goes (.lineFault b) s (fun t =>
        t.flt.lineBad = s.flt.lineBad ++ [b.val] ∧ t.get (FLT_LINE_S_BLK b.val) = 1 ∧ t.get FLT_STICKY_LINE_S = 1 ∧ t.flt.missInv = s.flt.missInv ∧
        t.flt.rstLeft = s.flt.rstLeft ∧ Frame s t (among [FLT_LINE_S_BLK b.val, FLT_STICKY_LINE_S]) [.resets])) ∧
      (s.flt.lineBad.contains b.val = true → Goes (.lineFault b) s (fun t => Frame s t (fun _ => false) [])) ∧
      (s.unitInRst 3 = false →
        Goes (.lineInversion b true) s (fun t =>
          tabGet 0 t.flt.missInv b.val = 0 ∧ t.flt.lineBad = s.flt.lineBad.filter (· != b.val) ∧ Frame s t (fun _ => false) [.resets]) ∧
        (tabGet 0 s.flt.missInv b.val = 0 → Goes (.lineInversion b false) s (fun t =>
          tabGet 0 t.flt.missInv b.val = 1 ∧ t.flt.lineBad = s.flt.lineBad ∧ Frame s t (fun _ => false) [.resets])) ∧
        (1 ≤ tabGet 0 s.flt.missInv b.val → Goes (.lineInversion b false) s (fun t =>
          b.val ∈ t.flt.lineBad ∧ Frame s t (among [FLT_LINE_S_BLK b.val, FLT_STICKY_LINE_S]) [.resets])))))

/-- The observation counters: an increment past 2^48 - 1 goes on from the remainder, sets `OVF` and owes the samplers that name it a capture; a write of
one word wins over an event of its cycle, which `COLLIDE` reports; a capture that is owed leaves one record or none; thresholds are stored. The
model's own readings in it: log entry 49. -/
def Obligations.ObservationCounters : Prop :=
  ∀ s : State,
    (∀ (k : Fin 96) (n : Nat), s.busUp = true → n < 2 ^ 48 → tabGet 0 s.obs.cnt k.val < 2 ^ 48 →
      (tabGet 0 s.obs.cnt k.val + n < 2 ^ 48 → Goes (.counterWrap k n) s (fun t => Frame s t (fun _ => false) [])) ∧
      (2 ^ 48 ≤ tabGet 0 s.obs.cnt k.val + n → s.unitInRst 4 = false → Goes (.counterWrap k n) s (fun t =>
        (k.val < 80 → s.obs.wrapped = [] → t.get (OBS_OVF_OVF (k.val / 32) (k.val % 32)) = 1) ∧
        (∀ i : Fin 4, s.bit (OBS_SMP_CFG_EN i.val) = true → s.get (OBS_SMP_CFG_CNT i.val) = k.val → i.val ∈ t.obs.pend) ∧
        (∀ j : Nat, j < 80 → j ≠ k.val → tabGet 0 t.obs.cnt j = tabGet 0 s.obs.cnt j) ∧ Frame s t (fun _ => false) [.counters]))) ∧
    (∀ (k : Fin 96) (hi : Bool) (w : HostWrite), s.accepts w (0x41000 + 8 * k.val + (if hi then 4 else 0)) = true → k.val ≠ 76 → k.val < 80 →
      Goes (.obsCounterWrite k hi 0 w) s (fun t =>
        tabGet 0 t.obs.cnt k.val = (if hi then tabGet 0 s.obs.cnt k.val % 2 ^ 32 + 2 ^ 32 * mergeField w.be w.v 0 16 (tabGet 0 s.obs.cnt k.val / 2 ^ 32)
          else tabGet 0 s.obs.cnt k.val / 2 ^ 32 * 2 ^ 32 + mergeField w.be w.v 0 32 (tabGet 0 s.obs.cnt k.val % 2 ^ 32)) ∧
        Frame s t (fun _ => false) [.counters]) ∧
      ∀ n : Nat, 0 < n → Goes (.obsCounterWrite k hi n w) s (fun t =>
        tabGet 0 t.obs.cnt k.val = (if hi then tabGet 0 s.obs.cnt k.val % 2 ^ 32 + 2 ^ 32 * mergeField w.be w.v 0 16 (tabGet 0 s.obs.cnt k.val / 2 ^ 32)
          else tabGet 0 s.obs.cnt k.val / 2 ^ 32 * 2 ^ 32 + mergeField w.be w.v 0 32 (tabGet 0 s.obs.cnt k.val % 2 ^ 32)) ∧
        t.get (OBS_COLLIDE_COLLIDE (k.val / 32) (k.val % 32)) = 1 ∧
        (2 ^ 48 ≤ tabGet 0 s.obs.cnt k.val + n → t.get (OBS_OVF_OVF (k.val / 32) (k.val % 32)) = 1) ∧
        Frame s t (among [OBS_COLLIDE_COLLIDE (k.val / 32) (k.val % 32)]) [.counters])) ∧
    (∀ (i : Fin 4) (c : SampleAt), s.busUp = true →
      (s.obs.pend.contains i.val = false → Goes (.samplerCapture i c) s (fun t => Frame s t (fun _ => false) [])) ∧
      (s.obs.pend.contains i.val = true → Goes (.samplerCapture i c) s (fun t =>
        i.val ∉ t.obs.pend ∧
        (s.blockInShadow 4 = false → s.bit (HIF_RING_CFG_RING_EN 7) = true → s.ownAt (s.descAt 7 (s.ringIdx 7)) = true →
          s.winWord (s.descAt 7 (s.ringIdx 7) + 4) % 2 ^ 20 / 16 * 16 + s.winWord (s.descAt 7 (s.ringIdx 7)) % 65536 ≤ 2 ^ 20 →
          32 ≤ s.winWord (s.descAt 7 (s.ringIdx 7)) % 65536 →
          t.get OBS_SMP_SEQ_SEQ = (s.get OBS_SMP_SEQ_SEQ + 1) % 2 ^ OBS_SMP_SEQ_SEQ.len ∧ t.get OBS_STICKY_SMP_S = 1) ∧
        (s.blockInShadow 4 = false → s.bit (HIF_RING_CFG_RING_EN 7) = true → s.ownAt (s.descAt 7 (s.ringIdx 7)) = false → t.get OBS_STICKY_SMP_DROP_S = 1) ∧
        Frame s t (fun k => among [OBS_SMP_SEQ_SEQ, OBS_STICKY_SMP_S, OBS_STICKY_SMP_DROP_S] k || inBlocks [1] k) [.window, .counters]))) ∧
    (∀ (i : Fin 8) (w : HostWrite), s.accepts w (0x40040 + 4 * i.val) = true → Goes (.obsThrWrite i w) s (fun t =>
      t.get (OBS_THR_N i.val) = s.merged w (OBS_THR_N i.val) ∧ t.inF (OBS_THR_N i.val) = s.inF (OBS_THR_N i.val) ∧
      Frame s t (among [OBS_THR_N i.val]) [.counters]))
end

