-- ==== Sys2Proof/Laws/Tab.lean ====
section
/-!
SUPPORT. Sparse tables and byte memories: a read after a write, and the canonical form every operation keeps.
-/
namespace Sys2Proof.Machine

variable {α : Type}

theorem tabGet_of_not_mem (d : α) (t : Tab α) (k : Nat) (h : ∀ e ∈ t, e.1 ≠ k) : tabGet d t k = d := by
  induction t with
  | nil => rfl
  | cons e r ih => simp [tabGet, h e (by simp), ih (fun x hx => h x (by simp [hx]))]

theorem tabGet_filter (d : α) (p : Nat × α → Bool) (t : Tab α) (k : Nat) (h : ∀ e ∈ t, e.1 = k → p e = true) :
    tabGet d (t.filter p) k = tabGet d t k := by
  induction t with
  | nil => rfl
  | cons e r ih =>
    have ih' := ih (fun x hx => h x (by simp [hx]))
    by_cases hp : p e = true
    · by_cases hk : e.1 = k <;> simp [hp, tabGet, hk, ih']
    · have hk : e.1 ≠ k := fun hk => hp (h e (by simp) hk)
      simp [hp, tabGet, hk, ih']

theorem tabGet_filter_out (d : α) (p : Nat × α → Bool) (t : Tab α) (k : Nat) (h : ∀ e ∈ t, e.1 = k → p e = false) :
    tabGet d (t.filter p) k = d := by
  apply tabGet_of_not_mem
  intro e he hk
  have := List.mem_filter.mp he
  simp [h e this.1 hk] at this

@[simp] theorem tabGet_tabDel_same (d : α) (t : Tab α) (k : Nat) : tabGet d (tabDel k t) k = d :=
  tabGet_filter_out d _ t k (by intro e _ h; simp [h])

theorem tabGet_tabDel_other (d : α) (t : Tab α) {k k' : Nat} (h : k' ≠ k) : tabGet d (tabDel k t) k' = tabGet d t k' :=
  tabGet_filter d _ t k' (by intro e _ he; simp [he, h])

theorem tabGet_tabInsert_same (d v : α) (t : Tab α) (k : Nat) (h : ∀ e ∈ t, e.1 ≠ k) : tabGet d (tabInsert k v t) k = v := by
  induction t with
  | nil => simp [tabInsert, tabGet]
  | cons e r ih =>
    have hk := h e (by simp)
    have ih' := ih (fun x hx => h x (by simp [hx]))
    by_cases hlt : k < e.1 <;> simp [tabInsert, hlt, tabGet, hk, ih']

theorem tabGet_tabInsert_other (d v : α) (t : Tab α) {k k' : Nat} (h : k' ≠ k) : tabGet d (tabInsert k v t) k' = tabGet d t k' := by
  induction t with
  | nil => simp [tabInsert, tabGet, Ne.symm h]
  | cons e r ih =>
    by_cases hlt : k < e.1
    · simp [tabInsert, hlt, tabGet, Ne.symm h]
    · show tabGet d (if k < e.1 then (k, v) :: e :: r else e :: tabInsert k v r) k' = tabGet d (e :: r) k'
      rw [if_neg hlt]
      by_cases hk : e.1 = k' <;> simp [tabGet, hk, ih]

theorem mem_tabDel {t : Tab α} {k : Nat} {e : Nat × α} : e ∈ tabDel k t ↔ e ∈ t ∧ e.1 ≠ k := by
  simp [tabDel]

theorem tabGet_tabPut_same [DecidableEq α] (d : α) (t : Tab α) (k : Nat) (v : α) : tabGet d (tabPut d t k v) k = v := by
  unfold tabPut
  split
  · simp [*]
  · exact tabGet_tabInsert_same d v _ k (fun e he => (mem_tabDel.mp he).2)

theorem tabGet_tabPut_other [DecidableEq α] (d d' : α) (t : Tab α) (k : Nat) (v : α) {k' : Nat} (h : k' ≠ k) :
    tabGet d (tabPut d' t k v) k' = tabGet d t k' := by
  unfold tabPut
  split
  · exact tabGet_tabDel_other d t h
  · rw [tabGet_tabInsert_other d v _ h, tabGet_tabDel_other d t h]

theorem tabRising_iff (t : Tab α) : tabRising t = true ↔ t.Pairwise (fun a b => a.1 < b.1) := by
  induction t with
  | nil => simp [tabRising]
  | cons e r ih =>
    cases r with
    | nil => simp [tabRising]
    | cons e' r' =>
      rw [List.pairwise_cons, ← ih]
      simp only [tabRising, Bool.and_eq_true, decide_eq_true_eq, List.mem_cons, forall_eq_or_imp]
      constructor
      · rintro ⟨h1, h2⟩
        refine ⟨⟨h1, fun a ha => ?_⟩, h2⟩
        exact Nat.lt_trans h1 ((List.pairwise_cons.mp (ih.mp h2)).1 a ha)
      · rintro ⟨⟨h1, _⟩, h2⟩
        exact ⟨h1, h2⟩

theorem tabWf_iff [DecidableEq α] (d : Nat → α) (t : Tab α) :
    tabWf d t = true ↔ t.Pairwise (fun a b => a.1 < b.1) ∧ ∀ e ∈ t, e.2 ≠ d e.1 := by
  simp [tabWf, tabRising_iff]

/-- A table cut down by a test stays canonical. -/
theorem tabWf_filter [DecidableEq α] {d : Nat → α} {t : Tab α} (p : Nat × α → Bool) (h : tabWf d t = true) :
    tabWf d (t.filter p) = true := by
  rw [tabWf_iff] at *
  exact ⟨h.1.filter _, fun e he => h.2 e (List.mem_filter.mp he).1⟩

theorem mem_tabInsert {t : Tab α} {k : Nat} {v : α} {e : Nat × α} (h : e ∈ tabInsert k v t) : e = (k, v) ∨ e ∈ t := by
  induction t with
  | nil => simpa [tabInsert] using h
  | cons x r ih =>
    simp only [tabInsert] at h
    split at h
    · simpa using h
    · rcases List.mem_cons.mp h with h | h
      · exact .inr (by simp [h])
      · rcases ih h with h | h
        · exact .inl h
        · exact .inr (by simp [h])

theorem pairwise_tabInsert {t : Tab α} {k : Nat} {v : α} (h : t.Pairwise (fun a b => a.1 < b.1)) (hk : ∀ e ∈ t, e.1 ≠ k) :
    (tabInsert k v t).Pairwise (fun a b => a.1 < b.1) := by
  induction t with
  | nil => simp [tabInsert]
  | cons x r ih =>
    rw [List.pairwise_cons] at h
    simp only [tabInsert]
    split
    · rename_i hlt
      refine List.pairwise_cons.mpr ⟨?_, List.pairwise_cons.mpr h⟩
      intro e he
      rcases List.mem_cons.mp he with he | he
      · rw [he]; exact hlt
      · exact Nat.lt_trans hlt (h.1 e he)
    · rename_i hlt
      refine List.pairwise_cons.mpr ⟨?_, ih h.2 (fun e he => hk e (by simp [he]))⟩
      intro e he
      rcases mem_tabInsert he with he | he
      · rw [he]
        have := hk x (by simp)
        show x.1 < k
        omega
      · exact h.1 e he

/-- Writing an entry keeps the canonical form. -/
theorem tabWf_tabPut [DecidableEq α] {d : Nat → α} {t : Tab α} (k : Nat) (v : α) (h : tabWf d t = true) :
    tabWf d (tabPut (d k) t k v) = true := by
  unfold tabPut
  split
  · exact tabWf_filter _ h
  · rename_i hv
    have hd := tabWf_filter (fun e => e.1 != k) h
    rw [tabWf_iff] at *
    refine ⟨pairwise_tabInsert hd.1 (fun e he => (mem_tabDel.mp he).2), ?_⟩
    intro e he
    rcases mem_tabInsert he with he | he
    · rw [he]; exact hv
    · exact hd.2 e he

/-! ## Byte memories -/

theorem Memory.wf_iff (t : Tab Byte) : Memory.wf t = true ↔ t.Pairwise (fun a b => a.1 < b.1) ∧ ∀ e ∈ t, e.2 ≠ 0 := by
  unfold Memory.wf
  exact tabWf_iff _ t

theorem mem_byteEntries {a : Nat} {l : List Byte} {e : Nat × Byte} (h : e ∈ byteEntries a l) :
    a ≤ e.1 ∧ e.1 < a + l.length ∧ e.2 ≠ 0 := by
  induction l generalizing a with
  | nil => simp [byteEntries] at h
  | cons b r ih =>
    simp only [byteEntries] at h
    split at h
    · have h' := ih h
      exact ⟨by omega, by simp only [List.length_cons]; omega, h'.2.2⟩
    · rename_i hb
      rcases List.mem_cons.mp h with h | h
      · subst h; exact ⟨Nat.le_refl _, by simp, hb⟩
      · have h' := ih h
        exact ⟨by omega, by simp only [List.length_cons]; omega, h'.2.2⟩

theorem pairwise_byteEntries (a : Nat) (l : List Byte) : (byteEntries a l).Pairwise (fun x y => x.1 < y.1) := by
  induction l generalizing a with
  | nil => simp [byteEntries]
  | cons b r ih =>
    simp only [byteEntries]
    split
    · exact ih _
    · refine List.pairwise_cons.mpr ⟨fun e he => ?_, ih _⟩
      have := mem_byteEntries he
      show a < e.1
      omega

/-- Storing bytes keeps the canonical form. -/
theorem Memory.wf_putBytes {t : Tab Byte} (a : Nat) (l : List Byte) (h : Memory.wf t = true) : Memory.wf (putBytes t a l) = true := by
  rw [Memory.wf_iff] at *
  unfold putBytes
  refine ⟨?_, ?_⟩
  · rw [List.pairwise_append, List.pairwise_append]
    refine ⟨⟨h.1.filter _, pairwise_byteEntries a l, ?_⟩, h.1.filter _, ?_⟩
    · intro x hx y hy
      have h1 := (List.mem_filter.mp hx).2
      have h2 := mem_byteEntries hy
      simp at h1; omega
    · intro x hx y hy
      have h2 := (List.mem_filter.mp hy).2
      simp at h2
      rcases List.mem_append.mp hx with hx | hx
      · have h1 := (List.mem_filter.mp hx).2
        simp at h1; omega
      · have h1 := mem_byteEntries hx
        omega
  · intro e he
    rcases List.mem_append.mp he with he | he
    · rcases List.mem_append.mp he with he | he
      · exact h.2 e (List.mem_filter.mp he).1
      · exact (mem_byteEntries he).2.2
    · exact h.2 e (List.mem_filter.mp he).1

/-- Storing bytes that lie below a bound keeps every listed address below it. -/
theorem Memory.below_putBytes {t : Tab Byte} {n a : Nat} {l : List Byte} (hl : a + l.length ≤ n) (h : Memory.below n t = true) :
    Memory.below n (putBytes t a l) = true := by
  simp only [Memory.below, List.all_eq_true, decide_eq_true_eq, putBytes, List.mem_append, List.mem_filter] at *
  rintro e ((⟨he, _⟩ | he) | ⟨he, _⟩)
  · exact h e he
  · have := mem_byteEntries he; omega
  · exact h e he

theorem tabGet_append (d : α) (l m : Tab α) (k : Nat) (h : ∀ e ∈ l, e.1 ≠ k) : tabGet d (l ++ m) k = tabGet d m k := by
  induction l with
  | nil => rfl
  | cons e r ih => simp [tabGet, h e (by simp), ih (fun x hx => h x (by simp [hx]))]

theorem tabGet_append_left (d : α) (l m : Tab α) (k : Nat) (h : ∀ e ∈ m, e.1 ≠ k) : tabGet d (l ++ m) k = tabGet d l k := by
  induction l with
  | nil => simpa [tabGet] using tabGet_of_not_mem d m k h
  | cons e r ih => by_cases hk : e.1 = k <;> simp [tabGet, hk, ih]

/-- A byte outside the stored ones reads as before. -/
theorem tabGet_putBytes_other (t : Tab Byte) (a : Nat) (l : List Byte) (k : Nat) (h : k < a ∨ a + l.length ≤ k) :
    tabGet 0 (putBytes t a l) k = tabGet 0 t k := by
  unfold putBytes
  have hb : ∀ e ∈ byteEntries a l, e.1 ≠ k := fun e he => by have := mem_byteEntries he; omega
  rcases h with h | h
  · rw [tabGet_append_left, tabGet_append_left _ _ _ _ hb, tabGet_filter]
    · intro e _ he; simp; omega
    · intro e he; have := (List.mem_filter.mp he).2; simp at this; omega
  · rw [tabGet_append, tabGet_filter]
    · intro e _ he; simp; omega
    · intro e he
      rcases List.mem_append.mp he with he | he
      · have := (List.mem_filter.mp he).2; simp at this; omega
      · exact hb e he

theorem tabGet_byteEntries (a i : Nat) (l : List Byte) (h : i < l.length) : tabGet 0 (byteEntries a l) (a + i) = l[i] := by
  induction l generalizing a i with
  | nil => simp at h
  | cons b r ih =>
    simp only [byteEntries]
    cases i with
    | zero =>
      split
      · rename_i hb
        simp only [Nat.add_zero, List.getElem_cons_zero, hb]
        exact tabGet_of_not_mem _ _ _ (fun e he => by have := mem_byteEntries he; omega)
      · simp [tabGet]
    | succ i =>
      have := ih (a + 1) i (by simpa using h)
      rw [show a + 1 + i = a + (i + 1) by omega] at this
      split
      · simpa using this
      · have hk : a ≠ a + (i + 1) := by omega
        simp only [tabGet, hk, if_false, List.getElem_cons_succ]
        exact this

/-- A stored byte reads back. -/
theorem tabGet_putBytes_same (t : Tab Byte) (a i : Nat) (l : List Byte) (h : i < l.length) :
    tabGet 0 (putBytes t a l) (a + i) = l[i] := by
  unfold putBytes
  rw [tabGet_append_left, tabGet_append, tabGet_byteEntries a i l h]
  · intro e he; have := (List.mem_filter.mp he).2; simp at this; omega
  · intro e he; have := (List.mem_filter.mp he).2; simp at this; omega

end Sys2Proof.Machine
end

