-- ==== Sys2Proof/Laws/Fields.lean ====
section
/-!
SUPPORT. Reading a register field after a field was written, in both banks, and the canonical form of the register stores.
-/
namespace Sys2Proof.Machine

theorem regGet_regPut_same (t : Tab Nat) (k v : Nat) : regGet (regPut t k v) k = v := tabGet_tabPut_same _ _ _ _

theorem regGet_regPut_other (t : Tab Nat) {k k' : Nat} (v : Nat) (h : k' ≠ k) : regGet (regPut t k v) k' = regGet t k' :=
  tabGet_tabPut_other _ _ _ _ _ h

/-- Writing a field keeps the canonical form. -/
theorem Regs.wf_regPut {t : Tab Nat} (k v : Nat) (h : Regs.wf t = true) : Regs.wf (regPut t k v) = true := tabWf_tabPut k v h

theorem get_set_same (s : State) (f : Fld) (v : Nat) : (s.set f v).get f = v % 2 ^ f.len := by
  unfold State.set State.get
  split <;> simp [*, regGet_regPut_same]

theorem get_set_other (s : State) {f g : Fld} (v : Nat) (h : g.key ≠ f.key) : (s.set f v).get g = s.get g := by
  unfold State.set State.get
  by_cases hf : isBanked f.key <;> by_cases hg : isBanked g.key <;> simp [hf, hg, regGet_regPut_other _ _ h]

theorem pget_set_same (s : State) (f : Fld) (v : Nat) : (s.set f v).pget f = v % 2 ^ f.len := by
  unfold State.set State.pget
  split <;> simp [*, regGet_regPut_same]

theorem pget_set_other (s : State) {f g : Fld} (v : Nat) (h : g.key ≠ f.key) : (s.set f v).pget g = s.pget g := by
  unfold State.set State.pget
  by_cases hf : isBanked f.key <;> by_cases hg : isBanked g.key <;> simp [hf, hg, regGet_regPut_other _ _ h]

theorem pget_pset_same (s : State) (f : Fld) (v : Nat) : (s.pset f v).pget f = v % 2 ^ f.len := by
  unfold State.pset State.pget
  split <;> simp [*, regGet_regPut_same]

theorem pget_pset_other (s : State) {f g : Fld} (v : Nat) (h : g.key ≠ f.key) : (s.pset f v).pget g = s.pget g := by
  unfold State.pset State.pget
  by_cases hf : isBanked f.key <;> by_cases hg : isBanked g.key <;> simp [hf, hg, regGet_regPut_other _ _ h]

/-- A job's write of a banked field does not reach the indicative bank (R26). -/
theorem get_pset_banked (s : State) {f : Fld} (g : Fld) (v : Nat) (hf : isBanked f.key = true) : (s.pset f v).get g = s.get g := by
  unfold State.pset State.get
  simp [hf]

theorem get_pset_plain_same (s : State) {f : Fld} (v : Nat) (hf : isBanked f.key = false) : (s.pset f v).get f = v % 2 ^ f.len := by
  unfold State.pset State.get
  simp [hf, regGet_regPut_same]

theorem get_pset_other (s : State) {f g : Fld} (v : Nat) (h : g.key ≠ f.key) : (s.pset f v).get g = s.get g := by
  unfold State.pset State.get
  by_cases hf : isBanked f.key <;> by_cases hg : isBanked g.key <;> simp [hf, hg, regGet_regPut_other _ _ h]

@[simp] theorem inF_set (s : State) (f g : Fld) (v : Nat) : (s.set f v).inF g = s.inF g := by
  unfold State.set State.inF; split <;> rfl

@[simp] theorem inF_pset (s : State) (f g : Fld) (v : Nat) : (s.pset f v).inF g = s.inF g := by
  unfold State.pset State.inF; split <;> rfl

/-- A field outside the banks reads the same in both. -/
theorem pget_eq_get (s : State) {f : Fld} (h : isBanked f.key = false) : s.pget f = s.get f := by
  unfold State.pget State.get; simp [h]

theorem regsOk_iff (s : State) : s.regsOk = true ↔
    Regs.wf s.regs = true ∧ Regs.wf s.inForce = true ∧ Regs.wf s.ind.regs = true ∧ Regs.wf s.pend.regs = true := by
  simp [State.regsOk, and_assoc]

theorem memoryOk_iff (s : State) : s.memoryOk = true ↔
    Memory.wf s.hif.window = true ∧ Memory.below (2 ^ 20) s.hif.window = true ∧ Memory.wf s.gld.sram = true ∧ Memory.below (2 ^ 21) s.gld.sram = true := by
  simp [State.memoryOk, and_assoc]

theorem regsOk_set {s : State} (f : Fld) (v : Nat) (h : s.regsOk = true) : (s.set f v).regsOk = true := by
  rw [regsOk_iff] at *
  unfold State.set
  split
  · exact ⟨h.1, h.2.1, Regs.wf_regPut _ _ h.2.2.1, Regs.wf_regPut _ _ h.2.2.2⟩
  · exact ⟨Regs.wf_regPut _ _ h.1, h.2⟩

theorem regsOk_pset {s : State} (f : Fld) (v : Nat) (h : s.regsOk = true) : (s.pset f v).regsOk = true := by
  rw [regsOk_iff] at *
  unfold State.pset
  split
  · exact ⟨h.1, h.2.1, h.2.2.1, Regs.wf_regPut _ _ h.2.2.2⟩
  · exact ⟨Regs.wf_regPut _ _ h.1, h.2⟩

end Sys2Proof.Machine
end

