-- ==== Sys2Proof/Laws/State.lean ====
section
/-!
SUPPORT. One lemma for each field of the state and each named update: what the update leaves of the field.
-/
namespace Sys2Proof.Machine

/-! ### `State.set` -/

@[simp] theorem set_pending (s : State) (f : Fld) (v : Nat) : (s.set f v).pending = s.pending := by unfold State.set; split <;> rfl
@[simp] theorem set_free (s : State) (f : Fld) (v : Nat) : (s.set f v).free = s.free := by unfold State.set; split <;> rfl
@[simp] theorem set_inForce (s : State) (f : Fld) (v : Nat) : (s.set f v).inForce = s.inForce := by unfold State.set; split <;> rfl
@[simp] theorem set_upset (s : State) (f : Fld) (v : Nat) : (s.set f v).upset = s.upset := by unfold State.set; split <;> rfl
@[simp] theorem set_wonce (s : State) (f : Fld) (v : Nat) : (s.set f v).wonce = s.wonce := by unfold State.set; split <;> rfl
@[simp] theorem set_cfg (s : State) (f : Fld) (v : Nat) : (s.set f v).cfg = s.cfg := by unfold State.set; split <;> rfl
@[simp] theorem set_applied (s : State) (f : Fld) (v : Nat) : (s.set f v).applied = s.applied := by unfold State.set; split <;> rfl
@[simp] theorem set_coarse (s : State) (f : Fld) (v : Nat) : (s.set f v).coarse = s.coarse := by unfold State.set; split <;> rfl
@[simp] theorem set_tick (s : State) (f : Fld) (v : Nat) : (s.set f v).tick = s.tick := by unfold State.set; split <;> rfl
@[simp] theorem set_target (s : State) (f : Fld) (v : Nat) : (s.set f v).target = s.target := by unfold State.set; split <;> rfl
@[simp] theorem set_bound (s : State) (f : Fld) (v : Nat) : (s.set f v).bound = s.bound := by unfold State.set; split <;> rfl
@[simp] theorem set_stepped (s : State) (f : Fld) (v : Nat) : (s.set f v).stepped = s.stepped := by unfold State.set; split <;> rfl
@[simp] theorem set_realigned (s : State) (f : Fld) (v : Nat) : (s.set f v).realigned = s.realigned := by unfold State.set; split <;> rfl
@[simp] theorem set_sys (s : State) (f : Fld) (v : Nat) : (s.set f v).sys = s.sys := by unfold State.set; split <;> rfl
@[simp] theorem set_hif (s : State) (f : Fld) (v : Nat) : (s.set f v).hif = s.hif := by unfold State.set; split <;> rfl
@[simp] theorem set_gld (s : State) (f : Fld) (v : Nat) : (s.set f v).gld = s.gld := by unfold State.set; split <;> rfl
@[simp] theorem set_otp (s : State) (f : Fld) (v : Nat) : (s.set f v).otp = s.otp := by unfold State.set; split <;> rfl
@[simp] theorem set_flt (s : State) (f : Fld) (v : Nat) : (s.set f v).flt = s.flt := by unfold State.set; split <;> rfl
@[simp] theorem set_obs (s : State) (f : Fld) (v : Nat) : (s.set f v).obs = s.obs := by unfold State.set; split <;> rfl
@[simp] theorem set_refs (s : State) (f : Fld) (v : Nat) : (s.set f v).refs = s.refs := by unfold State.set; split <;> rfl
@[simp] theorem set_lanes (s : State) (f : Fld) (v : Nat) : (s.set f v).lanes = s.lanes := by unfold State.set; split <;> rfl
@[simp] theorem set_bankQ (s : State) (f : Fld) (v : Nat) : (s.set f v).bankQ = s.bankQ := by unfold State.set; split <;> rfl
@[simp] theorem set_bankTurn (s : State) (f : Fld) (v : Nat) : (s.set f v).bankTurn = s.bankTurn := by unfold State.set; split <;> rfl
@[simp] theorem set_evtIn (s : State) (f : Fld) (v : Nat) : (s.set f v).evtIn = s.evtIn := by unfold State.set; split <;> rfl
@[simp] theorem set_echoIn (s : State) (f : Fld) (v : Nat) : (s.set f v).echoIn = s.echoIn := by unfold State.set; split <;> rfl
@[simp] theorem set_cask (s : State) (f : Fld) (v : Nat) : (s.set f v).cask = s.cask := by unfold State.set; split <;> rfl
@[simp] theorem set_csk (s : State) (f : Fld) (v : Nat) : (s.set f v).csk = s.csk := by unfold State.set; split <;> rfl
@[simp] theorem set_syn (s : State) (f : Fld) (v : Nat) : (s.set f v).syn = s.syn := by unfold State.set; split <;> rfl
@[simp] theorem set_eth (s : State) (f : Fld) (v : Nat) : (s.set f v).eth = s.eth := by unfold State.set; split <;> rfl
@[simp] theorem set_ptp (s : State) (f : Fld) (v : Nat) : (s.set f v).ptp = s.ptp := by unfold State.set; split <;> rfl
@[simp] theorem set_cjl (s : State) (f : Fld) (v : Nat) : (s.set f v).cjl = s.cjl := by unfold State.set; split <;> rfl
@[simp] theorem set_tns (s : State) (f : Fld) (v : Nat) : (s.set f v).tns = s.tns := by unfold State.set; split <;> rfl
@[simp] theorem set_wire (s : State) (f : Fld) (v : Nat) : (s.set f v).wire = s.wire := by unfold State.set; split <;> rfl
@[simp] theorem set_scales (s : State) (f : Fld) (v : Nat) : (s.set f v).scales = s.scales := by unfold State.set; split <;> rfl
@[simp] theorem set_txq (s : State) (f : Fld) (v : Nat) : (s.set f v).txq = s.txq := by unfold State.set; split <;> rfl
@[simp] theorem set_txHeld (s : State) (f : Fld) (v : Nat) : (s.set f v).txHeld = s.txHeld := by unfold State.set; split <;> rfl
@[simp] theorem set_evtFrom (s : State) (f : Fld) (v : Nat) : (s.set f v).evtFrom = s.evtFrom := by unfold State.set; split <;> rfl
@[simp] theorem set_deferd (s : State) (f : Fld) (v : Nat) : (s.set f v).deferd = s.deferd := by unfold State.set; split <;> rfl
@[simp] theorem set_schedEnd (s : State) (f : Fld) (v : Nat) : (s.set f v).schedEnd = s.schedEnd := by unfold State.set; split <;> rfl
@[simp] theorem set_subjSlots (s : State) (f : Fld) (v : Nat) : (s.set f v).subjSlots = s.subjSlots := by unfold State.set; split <;> rfl

@[simp] theorem set_ind_qul (s : State) (f : Fld) (v : Nat) : (s.set f v).ind.qul = s.ind.qul := by unfold State.set; split <;> rfl
@[simp] theorem set_ind_chan (s : State) (f : Fld) (v : Nat) : (s.set f v).ind.chan = s.ind.chan := by unfold State.set; split <;> rfl
@[simp] theorem set_ind_ts (s : State) (f : Fld) (v : Nat) : (s.set f v).ind.ts = s.ind.ts := by unfold State.set; split <;> rfl
@[simp] theorem set_ind_evs (s : State) (f : Fld) (v : Nat) : (s.set f v).ind.evs = s.ind.evs := by unfold State.set; split <;> rfl
@[simp] theorem set_pend_qul (s : State) (f : Fld) (v : Nat) : (s.set f v).pend.qul = s.pend.qul := by unfold State.set; split <;> rfl
@[simp] theorem set_pend_chan (s : State) (f : Fld) (v : Nat) : (s.set f v).pend.chan = s.pend.chan := by unfold State.set; split <;> rfl
@[simp] theorem set_pend_ts (s : State) (f : Fld) (v : Nat) : (s.set f v).pend.ts = s.pend.ts := by unfold State.set; split <;> rfl
@[simp] theorem set_pend_evs (s : State) (f : Fld) (v : Nat) : (s.set f v).pend.evs = s.pend.evs := by unfold State.set; split <;> rfl

/-! ### `State.pset` -/

@[simp] theorem pset_pending (s : State) (f : Fld) (v : Nat) : (s.pset f v).pending = s.pending := by unfold State.pset; split <;> rfl
@[simp] theorem pset_free (s : State) (f : Fld) (v : Nat) : (s.pset f v).free = s.free := by unfold State.pset; split <;> rfl
@[simp] theorem pset_inForce (s : State) (f : Fld) (v : Nat) : (s.pset f v).inForce = s.inForce := by unfold State.pset; split <;> rfl
@[simp] theorem pset_upset (s : State) (f : Fld) (v : Nat) : (s.pset f v).upset = s.upset := by unfold State.pset; split <;> rfl
@[simp] theorem pset_wonce (s : State) (f : Fld) (v : Nat) : (s.pset f v).wonce = s.wonce := by unfold State.pset; split <;> rfl
@[simp] theorem pset_ind (s : State) (f : Fld) (v : Nat) : (s.pset f v).ind = s.ind := by unfold State.pset; split <;> rfl
@[simp] theorem pset_cfg (s : State) (f : Fld) (v : Nat) : (s.pset f v).cfg = s.cfg := by unfold State.pset; split <;> rfl
@[simp] theorem pset_applied (s : State) (f : Fld) (v : Nat) : (s.pset f v).applied = s.applied := by unfold State.pset; split <;> rfl
@[simp] theorem pset_coarse (s : State) (f : Fld) (v : Nat) : (s.pset f v).coarse = s.coarse := by unfold State.pset; split <;> rfl
@[simp] theorem pset_tick (s : State) (f : Fld) (v : Nat) : (s.pset f v).tick = s.tick := by unfold State.pset; split <;> rfl
@[simp] theorem pset_target (s : State) (f : Fld) (v : Nat) : (s.pset f v).target = s.target := by unfold State.pset; split <;> rfl
@[simp] theorem pset_bound (s : State) (f : Fld) (v : Nat) : (s.pset f v).bound = s.bound := by unfold State.pset; split <;> rfl
@[simp] theorem pset_stepped (s : State) (f : Fld) (v : Nat) : (s.pset f v).stepped = s.stepped := by unfold State.pset; split <;> rfl
@[simp] theorem pset_realigned (s : State) (f : Fld) (v : Nat) : (s.pset f v).realigned = s.realigned := by unfold State.pset; split <;> rfl
@[simp] theorem pset_sys (s : State) (f : Fld) (v : Nat) : (s.pset f v).sys = s.sys := by unfold State.pset; split <;> rfl
@[simp] theorem pset_hif (s : State) (f : Fld) (v : Nat) : (s.pset f v).hif = s.hif := by unfold State.pset; split <;> rfl
@[simp] theorem pset_gld (s : State) (f : Fld) (v : Nat) : (s.pset f v).gld = s.gld := by unfold State.pset; split <;> rfl
@[simp] theorem pset_otp (s : State) (f : Fld) (v : Nat) : (s.pset f v).otp = s.otp := by unfold State.pset; split <;> rfl
@[simp] theorem pset_flt (s : State) (f : Fld) (v : Nat) : (s.pset f v).flt = s.flt := by unfold State.pset; split <;> rfl
@[simp] theorem pset_obs (s : State) (f : Fld) (v : Nat) : (s.pset f v).obs = s.obs := by unfold State.pset; split <;> rfl
@[simp] theorem pset_refs (s : State) (f : Fld) (v : Nat) : (s.pset f v).refs = s.refs := by unfold State.pset; split <;> rfl
@[simp] theorem pset_lanes (s : State) (f : Fld) (v : Nat) : (s.pset f v).lanes = s.lanes := by unfold State.pset; split <;> rfl
@[simp] theorem pset_bankQ (s : State) (f : Fld) (v : Nat) : (s.pset f v).bankQ = s.bankQ := by unfold State.pset; split <;> rfl
@[simp] theorem pset_bankTurn (s : State) (f : Fld) (v : Nat) : (s.pset f v).bankTurn = s.bankTurn := by unfold State.pset; split <;> rfl
@[simp] theorem pset_evtIn (s : State) (f : Fld) (v : Nat) : (s.pset f v).evtIn = s.evtIn := by unfold State.pset; split <;> rfl
@[simp] theorem pset_echoIn (s : State) (f : Fld) (v : Nat) : (s.pset f v).echoIn = s.echoIn := by unfold State.pset; split <;> rfl
@[simp] theorem pset_cask (s : State) (f : Fld) (v : Nat) : (s.pset f v).cask = s.cask := by unfold State.pset; split <;> rfl
@[simp] theorem pset_csk (s : State) (f : Fld) (v : Nat) : (s.pset f v).csk = s.csk := by unfold State.pset; split <;> rfl
@[simp] theorem pset_syn (s : State) (f : Fld) (v : Nat) : (s.pset f v).syn = s.syn := by unfold State.pset; split <;> rfl
@[simp] theorem pset_eth (s : State) (f : Fld) (v : Nat) : (s.pset f v).eth = s.eth := by unfold State.pset; split <;> rfl
@[simp] theorem pset_ptp (s : State) (f : Fld) (v : Nat) : (s.pset f v).ptp = s.ptp := by unfold State.pset; split <;> rfl
@[simp] theorem pset_cjl (s : State) (f : Fld) (v : Nat) : (s.pset f v).cjl = s.cjl := by unfold State.pset; split <;> rfl
@[simp] theorem pset_tns (s : State) (f : Fld) (v : Nat) : (s.pset f v).tns = s.tns := by unfold State.pset; split <;> rfl
@[simp] theorem pset_wire (s : State) (f : Fld) (v : Nat) : (s.pset f v).wire = s.wire := by unfold State.pset; split <;> rfl
@[simp] theorem pset_scales (s : State) (f : Fld) (v : Nat) : (s.pset f v).scales = s.scales := by unfold State.pset; split <;> rfl
@[simp] theorem pset_txq (s : State) (f : Fld) (v : Nat) : (s.pset f v).txq = s.txq := by unfold State.pset; split <;> rfl
@[simp] theorem pset_txHeld (s : State) (f : Fld) (v : Nat) : (s.pset f v).txHeld = s.txHeld := by unfold State.pset; split <;> rfl
@[simp] theorem pset_evtFrom (s : State) (f : Fld) (v : Nat) : (s.pset f v).evtFrom = s.evtFrom := by unfold State.pset; split <;> rfl
@[simp] theorem pset_deferd (s : State) (f : Fld) (v : Nat) : (s.pset f v).deferd = s.deferd := by unfold State.pset; split <;> rfl
@[simp] theorem pset_schedEnd (s : State) (f : Fld) (v : Nat) : (s.pset f v).schedEnd = s.schedEnd := by unfold State.pset; split <;> rfl
@[simp] theorem pset_subjSlots (s : State) (f : Fld) (v : Nat) : (s.pset f v).subjSlots = s.subjSlots := by unfold State.pset; split <;> rfl

@[simp] theorem pset_pend_qul (s : State) (f : Fld) (v : Nat) : (s.pset f v).pend.qul = s.pend.qul := by unfold State.pset; split <;> rfl
@[simp] theorem pset_pend_chan (s : State) (f : Fld) (v : Nat) : (s.pset f v).pend.chan = s.pend.chan := by unfold State.pset; split <;> rfl
@[simp] theorem pset_pend_ts (s : State) (f : Fld) (v : Nat) : (s.pset f v).pend.ts = s.pend.ts := by unfold State.pset; split <;> rfl
@[simp] theorem pset_pend_evs (s : State) (f : Fld) (v : Nat) : (s.pset f v).pend.evs = s.pend.evs := by unfold State.pset; split <;> rfl

/-! ### `State.setChan` -/

@[simp] theorem setChan_pending (s : State) (n : Nat) (c : Chan) : (s.setChan n c).pending = s.pending := rfl
@[simp] theorem setChan_free (s : State) (n : Nat) (c : Chan) : (s.setChan n c).free = s.free := rfl
@[simp] theorem setChan_regs (s : State) (n : Nat) (c : Chan) : (s.setChan n c).regs = s.regs := rfl
@[simp] theorem setChan_inForce (s : State) (n : Nat) (c : Chan) : (s.setChan n c).inForce = s.inForce := rfl
@[simp] theorem setChan_upset (s : State) (n : Nat) (c : Chan) : (s.setChan n c).upset = s.upset := rfl
@[simp] theorem setChan_wonce (s : State) (n : Nat) (c : Chan) : (s.setChan n c).wonce = s.wonce := rfl
@[simp] theorem setChan_ind (s : State) (n : Nat) (c : Chan) : (s.setChan n c).ind = s.ind := rfl
@[simp] theorem setChan_cfg (s : State) (n : Nat) (c : Chan) : (s.setChan n c).cfg = s.cfg := rfl
@[simp] theorem setChan_applied (s : State) (n : Nat) (c : Chan) : (s.setChan n c).applied = s.applied := rfl
@[simp] theorem setChan_coarse (s : State) (n : Nat) (c : Chan) : (s.setChan n c).coarse = s.coarse := rfl
@[simp] theorem setChan_tick (s : State) (n : Nat) (c : Chan) : (s.setChan n c).tick = s.tick := rfl
@[simp] theorem setChan_target (s : State) (n : Nat) (c : Chan) : (s.setChan n c).target = s.target := rfl
@[simp] theorem setChan_bound (s : State) (n : Nat) (c : Chan) : (s.setChan n c).bound = s.bound := rfl
@[simp] theorem setChan_stepped (s : State) (n : Nat) (c : Chan) : (s.setChan n c).stepped = s.stepped := rfl
@[simp] theorem setChan_realigned (s : State) (n : Nat) (c : Chan) : (s.setChan n c).realigned = s.realigned := rfl
@[simp] theorem setChan_sys (s : State) (n : Nat) (c : Chan) : (s.setChan n c).sys = s.sys := rfl
@[simp] theorem setChan_hif (s : State) (n : Nat) (c : Chan) : (s.setChan n c).hif = s.hif := rfl
@[simp] theorem setChan_gld (s : State) (n : Nat) (c : Chan) : (s.setChan n c).gld = s.gld := rfl
@[simp] theorem setChan_otp (s : State) (n : Nat) (c : Chan) : (s.setChan n c).otp = s.otp := rfl
@[simp] theorem setChan_flt (s : State) (n : Nat) (c : Chan) : (s.setChan n c).flt = s.flt := rfl
@[simp] theorem setChan_obs (s : State) (n : Nat) (c : Chan) : (s.setChan n c).obs = s.obs := rfl
@[simp] theorem setChan_refs (s : State) (n : Nat) (c : Chan) : (s.setChan n c).refs = s.refs := rfl
@[simp] theorem setChan_lanes (s : State) (n : Nat) (c : Chan) : (s.setChan n c).lanes = s.lanes := rfl
@[simp] theorem setChan_bankQ (s : State) (n : Nat) (c : Chan) : (s.setChan n c).bankQ = s.bankQ := rfl
@[simp] theorem setChan_bankTurn (s : State) (n : Nat) (c : Chan) : (s.setChan n c).bankTurn = s.bankTurn := rfl
@[simp] theorem setChan_evtIn (s : State) (n : Nat) (c : Chan) : (s.setChan n c).evtIn = s.evtIn := rfl
@[simp] theorem setChan_echoIn (s : State) (n : Nat) (c : Chan) : (s.setChan n c).echoIn = s.echoIn := rfl
@[simp] theorem setChan_cask (s : State) (n : Nat) (c : Chan) : (s.setChan n c).cask = s.cask := rfl
@[simp] theorem setChan_csk (s : State) (n : Nat) (c : Chan) : (s.setChan n c).csk = s.csk := rfl
@[simp] theorem setChan_syn (s : State) (n : Nat) (c : Chan) : (s.setChan n c).syn = s.syn := rfl
@[simp] theorem setChan_eth (s : State) (n : Nat) (c : Chan) : (s.setChan n c).eth = s.eth := rfl
@[simp] theorem setChan_ptp (s : State) (n : Nat) (c : Chan) : (s.setChan n c).ptp = s.ptp := rfl
@[simp] theorem setChan_cjl (s : State) (n : Nat) (c : Chan) : (s.setChan n c).cjl = s.cjl := rfl
@[simp] theorem setChan_tns (s : State) (n : Nat) (c : Chan) : (s.setChan n c).tns = s.tns := rfl
@[simp] theorem setChan_wire (s : State) (n : Nat) (c : Chan) : (s.setChan n c).wire = s.wire := rfl
@[simp] theorem setChan_scales (s : State) (n : Nat) (c : Chan) : (s.setChan n c).scales = s.scales := rfl
@[simp] theorem setChan_txq (s : State) (n : Nat) (c : Chan) : (s.setChan n c).txq = s.txq := rfl
@[simp] theorem setChan_txHeld (s : State) (n : Nat) (c : Chan) : (s.setChan n c).txHeld = s.txHeld := rfl
@[simp] theorem setChan_evtFrom (s : State) (n : Nat) (c : Chan) : (s.setChan n c).evtFrom = s.evtFrom := rfl
@[simp] theorem setChan_deferd (s : State) (n : Nat) (c : Chan) : (s.setChan n c).deferd = s.deferd := rfl
@[simp] theorem setChan_schedEnd (s : State) (n : Nat) (c : Chan) : (s.setChan n c).schedEnd = s.schedEnd := rfl
@[simp] theorem setChan_subjSlots (s : State) (n : Nat) (c : Chan) : (s.setChan n c).subjSlots = s.subjSlots := rfl

/-! ### `State.emit` -/

@[simp] theorem emit_pending (s : State) (owner : Nat) (e : Ev) : (s.emit owner e).pending = s.pending := rfl
@[simp] theorem emit_free (s : State) (owner : Nat) (e : Ev) : (s.emit owner e).free = s.free := rfl
@[simp] theorem emit_regs (s : State) (owner : Nat) (e : Ev) : (s.emit owner e).regs = s.regs := rfl
@[simp] theorem emit_inForce (s : State) (owner : Nat) (e : Ev) : (s.emit owner e).inForce = s.inForce := rfl
@[simp] theorem emit_upset (s : State) (owner : Nat) (e : Ev) : (s.emit owner e).upset = s.upset := rfl
@[simp] theorem emit_wonce (s : State) (owner : Nat) (e : Ev) : (s.emit owner e).wonce = s.wonce := rfl
@[simp] theorem emit_ind (s : State) (owner : Nat) (e : Ev) : (s.emit owner e).ind = s.ind := rfl
@[simp] theorem emit_cfg (s : State) (owner : Nat) (e : Ev) : (s.emit owner e).cfg = s.cfg := rfl
@[simp] theorem emit_applied (s : State) (owner : Nat) (e : Ev) : (s.emit owner e).applied = s.applied := rfl
@[simp] theorem emit_coarse (s : State) (owner : Nat) (e : Ev) : (s.emit owner e).coarse = s.coarse := rfl
@[simp] theorem emit_tick (s : State) (owner : Nat) (e : Ev) : (s.emit owner e).tick = s.tick := rfl
@[simp] theorem emit_target (s : State) (owner : Nat) (e : Ev) : (s.emit owner e).target = s.target := rfl
@[simp] theorem emit_bound (s : State) (owner : Nat) (e : Ev) : (s.emit owner e).bound = s.bound := rfl
@[simp] theorem emit_stepped (s : State) (owner : Nat) (e : Ev) : (s.emit owner e).stepped = s.stepped := rfl
@[simp] theorem emit_realigned (s : State) (owner : Nat) (e : Ev) : (s.emit owner e).realigned = s.realigned := rfl
@[simp] theorem emit_sys (s : State) (owner : Nat) (e : Ev) : (s.emit owner e).sys = s.sys := rfl
@[simp] theorem emit_hif (s : State) (owner : Nat) (e : Ev) : (s.emit owner e).hif = s.hif := rfl
@[simp] theorem emit_gld (s : State) (owner : Nat) (e : Ev) : (s.emit owner e).gld = s.gld := rfl
@[simp] theorem emit_otp (s : State) (owner : Nat) (e : Ev) : (s.emit owner e).otp = s.otp := rfl
@[simp] theorem emit_flt (s : State) (owner : Nat) (e : Ev) : (s.emit owner e).flt = s.flt := rfl
@[simp] theorem emit_obs (s : State) (owner : Nat) (e : Ev) : (s.emit owner e).obs = s.obs := rfl
@[simp] theorem emit_refs (s : State) (owner : Nat) (e : Ev) : (s.emit owner e).refs = s.refs := rfl
@[simp] theorem emit_lanes (s : State) (owner : Nat) (e : Ev) : (s.emit owner e).lanes = s.lanes := rfl
@[simp] theorem emit_bankQ (s : State) (owner : Nat) (e : Ev) : (s.emit owner e).bankQ = s.bankQ := rfl
@[simp] theorem emit_bankTurn (s : State) (owner : Nat) (e : Ev) : (s.emit owner e).bankTurn = s.bankTurn := rfl
@[simp] theorem emit_evtIn (s : State) (owner : Nat) (e : Ev) : (s.emit owner e).evtIn = s.evtIn := rfl
@[simp] theorem emit_echoIn (s : State) (owner : Nat) (e : Ev) : (s.emit owner e).echoIn = s.echoIn := rfl
@[simp] theorem emit_cask (s : State) (owner : Nat) (e : Ev) : (s.emit owner e).cask = s.cask := rfl
@[simp] theorem emit_csk (s : State) (owner : Nat) (e : Ev) : (s.emit owner e).csk = s.csk := rfl
@[simp] theorem emit_syn (s : State) (owner : Nat) (e : Ev) : (s.emit owner e).syn = s.syn := rfl
@[simp] theorem emit_eth (s : State) (owner : Nat) (e : Ev) : (s.emit owner e).eth = s.eth := rfl
@[simp] theorem emit_ptp (s : State) (owner : Nat) (e : Ev) : (s.emit owner e).ptp = s.ptp := rfl
@[simp] theorem emit_cjl (s : State) (owner : Nat) (e : Ev) : (s.emit owner e).cjl = s.cjl := rfl
@[simp] theorem emit_tns (s : State) (owner : Nat) (e : Ev) : (s.emit owner e).tns = s.tns := rfl
@[simp] theorem emit_wire (s : State) (owner : Nat) (e : Ev) : (s.emit owner e).wire = s.wire := rfl
@[simp] theorem emit_scales (s : State) (owner : Nat) (e : Ev) : (s.emit owner e).scales = s.scales := rfl
@[simp] theorem emit_txq (s : State) (owner : Nat) (e : Ev) : (s.emit owner e).txq = s.txq := rfl
@[simp] theorem emit_txHeld (s : State) (owner : Nat) (e : Ev) : (s.emit owner e).txHeld = s.txHeld := rfl
@[simp] theorem emit_evtFrom (s : State) (owner : Nat) (e : Ev) : (s.emit owner e).evtFrom = s.evtFrom := rfl
@[simp] theorem emit_deferd (s : State) (owner : Nat) (e : Ev) : (s.emit owner e).deferd = s.deferd := rfl
@[simp] theorem emit_schedEnd (s : State) (owner : Nat) (e : Ev) : (s.emit owner e).schedEnd = s.schedEnd := rfl
@[simp] theorem emit_subjSlots (s : State) (owner : Nat) (e : Ev) : (s.emit owner e).subjSlots = s.subjSlots := rfl

/-! ### `State.setQslot` -/

@[simp] theorem setQslot_pending (s : State) (n : Nat) (q : QSlot) : (s.setQslot n q).pending = s.pending := rfl
@[simp] theorem setQslot_free (s : State) (n : Nat) (q : QSlot) : (s.setQslot n q).free = s.free := rfl
@[simp] theorem setQslot_regs (s : State) (n : Nat) (q : QSlot) : (s.setQslot n q).regs = s.regs := rfl
@[simp] theorem setQslot_inForce (s : State) (n : Nat) (q : QSlot) : (s.setQslot n q).inForce = s.inForce := rfl
@[simp] theorem setQslot_upset (s : State) (n : Nat) (q : QSlot) : (s.setQslot n q).upset = s.upset := rfl
@[simp] theorem setQslot_wonce (s : State) (n : Nat) (q : QSlot) : (s.setQslot n q).wonce = s.wonce := rfl
@[simp] theorem setQslot_ind (s : State) (n : Nat) (q : QSlot) : (s.setQslot n q).ind = s.ind := rfl
@[simp] theorem setQslot_cfg (s : State) (n : Nat) (q : QSlot) : (s.setQslot n q).cfg = s.cfg := rfl
@[simp] theorem setQslot_applied (s : State) (n : Nat) (q : QSlot) : (s.setQslot n q).applied = s.applied := rfl
@[simp] theorem setQslot_coarse (s : State) (n : Nat) (q : QSlot) : (s.setQslot n q).coarse = s.coarse := rfl
@[simp] theorem setQslot_tick (s : State) (n : Nat) (q : QSlot) : (s.setQslot n q).tick = s.tick := rfl
@[simp] theorem setQslot_target (s : State) (n : Nat) (q : QSlot) : (s.setQslot n q).target = s.target := rfl
@[simp] theorem setQslot_bound (s : State) (n : Nat) (q : QSlot) : (s.setQslot n q).bound = s.bound := rfl
@[simp] theorem setQslot_stepped (s : State) (n : Nat) (q : QSlot) : (s.setQslot n q).stepped = s.stepped := rfl
@[simp] theorem setQslot_realigned (s : State) (n : Nat) (q : QSlot) : (s.setQslot n q).realigned = s.realigned := rfl
@[simp] theorem setQslot_sys (s : State) (n : Nat) (q : QSlot) : (s.setQslot n q).sys = s.sys := rfl
@[simp] theorem setQslot_hif (s : State) (n : Nat) (q : QSlot) : (s.setQslot n q).hif = s.hif := rfl
@[simp] theorem setQslot_gld (s : State) (n : Nat) (q : QSlot) : (s.setQslot n q).gld = s.gld := rfl
@[simp] theorem setQslot_otp (s : State) (n : Nat) (q : QSlot) : (s.setQslot n q).otp = s.otp := rfl
@[simp] theorem setQslot_flt (s : State) (n : Nat) (q : QSlot) : (s.setQslot n q).flt = s.flt := rfl
@[simp] theorem setQslot_obs (s : State) (n : Nat) (q : QSlot) : (s.setQslot n q).obs = s.obs := rfl
@[simp] theorem setQslot_refs (s : State) (n : Nat) (q : QSlot) : (s.setQslot n q).refs = s.refs := rfl
@[simp] theorem setQslot_lanes (s : State) (n : Nat) (q : QSlot) : (s.setQslot n q).lanes = s.lanes := rfl
@[simp] theorem setQslot_bankQ (s : State) (n : Nat) (q : QSlot) : (s.setQslot n q).bankQ = s.bankQ := rfl
@[simp] theorem setQslot_bankTurn (s : State) (n : Nat) (q : QSlot) : (s.setQslot n q).bankTurn = s.bankTurn := rfl
@[simp] theorem setQslot_evtIn (s : State) (n : Nat) (q : QSlot) : (s.setQslot n q).evtIn = s.evtIn := rfl
@[simp] theorem setQslot_echoIn (s : State) (n : Nat) (q : QSlot) : (s.setQslot n q).echoIn = s.echoIn := rfl
@[simp] theorem setQslot_cask (s : State) (n : Nat) (q : QSlot) : (s.setQslot n q).cask = s.cask := rfl
@[simp] theorem setQslot_csk (s : State) (n : Nat) (q : QSlot) : (s.setQslot n q).csk = s.csk := rfl
@[simp] theorem setQslot_syn (s : State) (n : Nat) (q : QSlot) : (s.setQslot n q).syn = s.syn := rfl
@[simp] theorem setQslot_eth (s : State) (n : Nat) (q : QSlot) : (s.setQslot n q).eth = s.eth := rfl
@[simp] theorem setQslot_ptp (s : State) (n : Nat) (q : QSlot) : (s.setQslot n q).ptp = s.ptp := rfl
@[simp] theorem setQslot_cjl (s : State) (n : Nat) (q : QSlot) : (s.setQslot n q).cjl = s.cjl := rfl
@[simp] theorem setQslot_tns (s : State) (n : Nat) (q : QSlot) : (s.setQslot n q).tns = s.tns := rfl
@[simp] theorem setQslot_wire (s : State) (n : Nat) (q : QSlot) : (s.setQslot n q).wire = s.wire := rfl
@[simp] theorem setQslot_scales (s : State) (n : Nat) (q : QSlot) : (s.setQslot n q).scales = s.scales := rfl
@[simp] theorem setQslot_txq (s : State) (n : Nat) (q : QSlot) : (s.setQslot n q).txq = s.txq := rfl
@[simp] theorem setQslot_txHeld (s : State) (n : Nat) (q : QSlot) : (s.setQslot n q).txHeld = s.txHeld := rfl
@[simp] theorem setQslot_evtFrom (s : State) (n : Nat) (q : QSlot) : (s.setQslot n q).evtFrom = s.evtFrom := rfl
@[simp] theorem setQslot_deferd (s : State) (n : Nat) (q : QSlot) : (s.setQslot n q).deferd = s.deferd := rfl
@[simp] theorem setQslot_schedEnd (s : State) (n : Nat) (q : QSlot) : (s.setQslot n q).schedEnd = s.schedEnd := rfl
@[simp] theorem setQslot_subjSlots (s : State) (n : Nat) (q : QSlot) : (s.setQslot n q).subjSlots = s.subjSlots := rfl

/-! ### `State.setRef` -/

@[simp] theorem setRef_pending (s : State) (n : Nat) (r : RefSlot) : (s.setRef n r).pending = s.pending := rfl
@[simp] theorem setRef_free (s : State) (n : Nat) (r : RefSlot) : (s.setRef n r).free = s.free := rfl
@[simp] theorem setRef_regs (s : State) (n : Nat) (r : RefSlot) : (s.setRef n r).regs = s.regs := rfl
@[simp] theorem setRef_inForce (s : State) (n : Nat) (r : RefSlot) : (s.setRef n r).inForce = s.inForce := rfl
@[simp] theorem setRef_upset (s : State) (n : Nat) (r : RefSlot) : (s.setRef n r).upset = s.upset := rfl
@[simp] theorem setRef_wonce (s : State) (n : Nat) (r : RefSlot) : (s.setRef n r).wonce = s.wonce := rfl
@[simp] theorem setRef_ind (s : State) (n : Nat) (r : RefSlot) : (s.setRef n r).ind = s.ind := rfl
@[simp] theorem setRef_pend (s : State) (n : Nat) (r : RefSlot) : (s.setRef n r).pend = s.pend := rfl
@[simp] theorem setRef_cfg (s : State) (n : Nat) (r : RefSlot) : (s.setRef n r).cfg = s.cfg := rfl
@[simp] theorem setRef_applied (s : State) (n : Nat) (r : RefSlot) : (s.setRef n r).applied = s.applied := rfl
@[simp] theorem setRef_coarse (s : State) (n : Nat) (r : RefSlot) : (s.setRef n r).coarse = s.coarse := rfl
@[simp] theorem setRef_tick (s : State) (n : Nat) (r : RefSlot) : (s.setRef n r).tick = s.tick := rfl
@[simp] theorem setRef_target (s : State) (n : Nat) (r : RefSlot) : (s.setRef n r).target = s.target := rfl
@[simp] theorem setRef_bound (s : State) (n : Nat) (r : RefSlot) : (s.setRef n r).bound = s.bound := rfl
@[simp] theorem setRef_stepped (s : State) (n : Nat) (r : RefSlot) : (s.setRef n r).stepped = s.stepped := rfl
@[simp] theorem setRef_realigned (s : State) (n : Nat) (r : RefSlot) : (s.setRef n r).realigned = s.realigned := rfl
@[simp] theorem setRef_sys (s : State) (n : Nat) (r : RefSlot) : (s.setRef n r).sys = s.sys := rfl
@[simp] theorem setRef_hif (s : State) (n : Nat) (r : RefSlot) : (s.setRef n r).hif = s.hif := rfl
@[simp] theorem setRef_gld (s : State) (n : Nat) (r : RefSlot) : (s.setRef n r).gld = s.gld := rfl
@[simp] theorem setRef_otp (s : State) (n : Nat) (r : RefSlot) : (s.setRef n r).otp = s.otp := rfl
@[simp] theorem setRef_flt (s : State) (n : Nat) (r : RefSlot) : (s.setRef n r).flt = s.flt := rfl
@[simp] theorem setRef_obs (s : State) (n : Nat) (r : RefSlot) : (s.setRef n r).obs = s.obs := rfl
@[simp] theorem setRef_lanes (s : State) (n : Nat) (r : RefSlot) : (s.setRef n r).lanes = s.lanes := rfl
@[simp] theorem setRef_bankQ (s : State) (n : Nat) (r : RefSlot) : (s.setRef n r).bankQ = s.bankQ := rfl
@[simp] theorem setRef_bankTurn (s : State) (n : Nat) (r : RefSlot) : (s.setRef n r).bankTurn = s.bankTurn := rfl
@[simp] theorem setRef_evtIn (s : State) (n : Nat) (r : RefSlot) : (s.setRef n r).evtIn = s.evtIn := rfl
@[simp] theorem setRef_echoIn (s : State) (n : Nat) (r : RefSlot) : (s.setRef n r).echoIn = s.echoIn := rfl
@[simp] theorem setRef_cask (s : State) (n : Nat) (r : RefSlot) : (s.setRef n r).cask = s.cask := rfl
@[simp] theorem setRef_csk (s : State) (n : Nat) (r : RefSlot) : (s.setRef n r).csk = s.csk := rfl
@[simp] theorem setRef_syn (s : State) (n : Nat) (r : RefSlot) : (s.setRef n r).syn = s.syn := rfl
@[simp] theorem setRef_eth (s : State) (n : Nat) (r : RefSlot) : (s.setRef n r).eth = s.eth := rfl
@[simp] theorem setRef_ptp (s : State) (n : Nat) (r : RefSlot) : (s.setRef n r).ptp = s.ptp := rfl
@[simp] theorem setRef_cjl (s : State) (n : Nat) (r : RefSlot) : (s.setRef n r).cjl = s.cjl := rfl
@[simp] theorem setRef_tns (s : State) (n : Nat) (r : RefSlot) : (s.setRef n r).tns = s.tns := rfl
@[simp] theorem setRef_wire (s : State) (n : Nat) (r : RefSlot) : (s.setRef n r).wire = s.wire := rfl
@[simp] theorem setRef_scales (s : State) (n : Nat) (r : RefSlot) : (s.setRef n r).scales = s.scales := rfl
@[simp] theorem setRef_txq (s : State) (n : Nat) (r : RefSlot) : (s.setRef n r).txq = s.txq := rfl
@[simp] theorem setRef_txHeld (s : State) (n : Nat) (r : RefSlot) : (s.setRef n r).txHeld = s.txHeld := rfl
@[simp] theorem setRef_evtFrom (s : State) (n : Nat) (r : RefSlot) : (s.setRef n r).evtFrom = s.evtFrom := rfl
@[simp] theorem setRef_deferd (s : State) (n : Nat) (r : RefSlot) : (s.setRef n r).deferd = s.deferd := rfl
@[simp] theorem setRef_schedEnd (s : State) (n : Nat) (r : RefSlot) : (s.setRef n r).schedEnd = s.schedEnd := rfl
@[simp] theorem setRef_subjSlots (s : State) (n : Nat) (r : RefSlot) : (s.setRef n r).subjSlots = s.subjSlots := rfl

/-! ### `State.setLane` -/

@[simp] theorem setLane_pending (s : State) (l : Nat) (x : Lane) : (s.setLane l x).pending = s.pending := rfl
@[simp] theorem setLane_free (s : State) (l : Nat) (x : Lane) : (s.setLane l x).free = s.free := rfl
@[simp] theorem setLane_regs (s : State) (l : Nat) (x : Lane) : (s.setLane l x).regs = s.regs := rfl
@[simp] theorem setLane_inForce (s : State) (l : Nat) (x : Lane) : (s.setLane l x).inForce = s.inForce := rfl
@[simp] theorem setLane_upset (s : State) (l : Nat) (x : Lane) : (s.setLane l x).upset = s.upset := rfl
@[simp] theorem setLane_wonce (s : State) (l : Nat) (x : Lane) : (s.setLane l x).wonce = s.wonce := rfl
@[simp] theorem setLane_ind (s : State) (l : Nat) (x : Lane) : (s.setLane l x).ind = s.ind := rfl
@[simp] theorem setLane_pend (s : State) (l : Nat) (x : Lane) : (s.setLane l x).pend = s.pend := rfl
@[simp] theorem setLane_cfg (s : State) (l : Nat) (x : Lane) : (s.setLane l x).cfg = s.cfg := rfl
@[simp] theorem setLane_applied (s : State) (l : Nat) (x : Lane) : (s.setLane l x).applied = s.applied := rfl
@[simp] theorem setLane_coarse (s : State) (l : Nat) (x : Lane) : (s.setLane l x).coarse = s.coarse := rfl
@[simp] theorem setLane_tick (s : State) (l : Nat) (x : Lane) : (s.setLane l x).tick = s.tick := rfl
@[simp] theorem setLane_target (s : State) (l : Nat) (x : Lane) : (s.setLane l x).target = s.target := rfl
@[simp] theorem setLane_bound (s : State) (l : Nat) (x : Lane) : (s.setLane l x).bound = s.bound := rfl
@[simp] theorem setLane_stepped (s : State) (l : Nat) (x : Lane) : (s.setLane l x).stepped = s.stepped := rfl
@[simp] theorem setLane_realigned (s : State) (l : Nat) (x : Lane) : (s.setLane l x).realigned = s.realigned := rfl
@[simp] theorem setLane_sys (s : State) (l : Nat) (x : Lane) : (s.setLane l x).sys = s.sys := rfl
@[simp] theorem setLane_hif (s : State) (l : Nat) (x : Lane) : (s.setLane l x).hif = s.hif := rfl
@[simp] theorem setLane_gld (s : State) (l : Nat) (x : Lane) : (s.setLane l x).gld = s.gld := rfl
@[simp] theorem setLane_otp (s : State) (l : Nat) (x : Lane) : (s.setLane l x).otp = s.otp := rfl
@[simp] theorem setLane_flt (s : State) (l : Nat) (x : Lane) : (s.setLane l x).flt = s.flt := rfl
@[simp] theorem setLane_obs (s : State) (l : Nat) (x : Lane) : (s.setLane l x).obs = s.obs := rfl
@[simp] theorem setLane_refs (s : State) (l : Nat) (x : Lane) : (s.setLane l x).refs = s.refs := rfl
@[simp] theorem setLane_bankQ (s : State) (l : Nat) (x : Lane) : (s.setLane l x).bankQ = s.bankQ := rfl
@[simp] theorem setLane_bankTurn (s : State) (l : Nat) (x : Lane) : (s.setLane l x).bankTurn = s.bankTurn := rfl
@[simp] theorem setLane_evtIn (s : State) (l : Nat) (x : Lane) : (s.setLane l x).evtIn = s.evtIn := rfl
@[simp] theorem setLane_echoIn (s : State) (l : Nat) (x : Lane) : (s.setLane l x).echoIn = s.echoIn := rfl
@[simp] theorem setLane_cask (s : State) (l : Nat) (x : Lane) : (s.setLane l x).cask = s.cask := rfl
@[simp] theorem setLane_csk (s : State) (l : Nat) (x : Lane) : (s.setLane l x).csk = s.csk := rfl
@[simp] theorem setLane_syn (s : State) (l : Nat) (x : Lane) : (s.setLane l x).syn = s.syn := rfl
@[simp] theorem setLane_eth (s : State) (l : Nat) (x : Lane) : (s.setLane l x).eth = s.eth := rfl
@[simp] theorem setLane_ptp (s : State) (l : Nat) (x : Lane) : (s.setLane l x).ptp = s.ptp := rfl
@[simp] theorem setLane_cjl (s : State) (l : Nat) (x : Lane) : (s.setLane l x).cjl = s.cjl := rfl
@[simp] theorem setLane_tns (s : State) (l : Nat) (x : Lane) : (s.setLane l x).tns = s.tns := rfl
@[simp] theorem setLane_wire (s : State) (l : Nat) (x : Lane) : (s.setLane l x).wire = s.wire := rfl
@[simp] theorem setLane_scales (s : State) (l : Nat) (x : Lane) : (s.setLane l x).scales = s.scales := rfl
@[simp] theorem setLane_txq (s : State) (l : Nat) (x : Lane) : (s.setLane l x).txq = s.txq := rfl
@[simp] theorem setLane_txHeld (s : State) (l : Nat) (x : Lane) : (s.setLane l x).txHeld = s.txHeld := rfl
@[simp] theorem setLane_evtFrom (s : State) (l : Nat) (x : Lane) : (s.setLane l x).evtFrom = s.evtFrom := rfl
@[simp] theorem setLane_deferd (s : State) (l : Nat) (x : Lane) : (s.setLane l x).deferd = s.deferd := rfl
@[simp] theorem setLane_schedEnd (s : State) (l : Nat) (x : Lane) : (s.setLane l x).schedEnd = s.schedEnd := rfl
@[simp] theorem setLane_subjSlots (s : State) (l : Nat) (x : Lane) : (s.setLane l x).subjSlots = s.subjSlots := rfl

/-! ### `State.setScale` -/

@[simp] theorem setScale_pending (s : State) (k : Nat) (x : Scale) : (s.setScale k x).pending = s.pending := rfl
@[simp] theorem setScale_free (s : State) (k : Nat) (x : Scale) : (s.setScale k x).free = s.free := rfl
@[simp] theorem setScale_regs (s : State) (k : Nat) (x : Scale) : (s.setScale k x).regs = s.regs := rfl
@[simp] theorem setScale_inForce (s : State) (k : Nat) (x : Scale) : (s.setScale k x).inForce = s.inForce := rfl
@[simp] theorem setScale_upset (s : State) (k : Nat) (x : Scale) : (s.setScale k x).upset = s.upset := rfl
@[simp] theorem setScale_wonce (s : State) (k : Nat) (x : Scale) : (s.setScale k x).wonce = s.wonce := rfl
@[simp] theorem setScale_ind (s : State) (k : Nat) (x : Scale) : (s.setScale k x).ind = s.ind := rfl
@[simp] theorem setScale_pend (s : State) (k : Nat) (x : Scale) : (s.setScale k x).pend = s.pend := rfl
@[simp] theorem setScale_cfg (s : State) (k : Nat) (x : Scale) : (s.setScale k x).cfg = s.cfg := rfl
@[simp] theorem setScale_applied (s : State) (k : Nat) (x : Scale) : (s.setScale k x).applied = s.applied := rfl
@[simp] theorem setScale_coarse (s : State) (k : Nat) (x : Scale) : (s.setScale k x).coarse = s.coarse := rfl
@[simp] theorem setScale_tick (s : State) (k : Nat) (x : Scale) : (s.setScale k x).tick = s.tick := rfl
@[simp] theorem setScale_target (s : State) (k : Nat) (x : Scale) : (s.setScale k x).target = s.target := rfl
@[simp] theorem setScale_bound (s : State) (k : Nat) (x : Scale) : (s.setScale k x).bound = s.bound := rfl
@[simp] theorem setScale_stepped (s : State) (k : Nat) (x : Scale) : (s.setScale k x).stepped = s.stepped := rfl
@[simp] theorem setScale_realigned (s : State) (k : Nat) (x : Scale) : (s.setScale k x).realigned = s.realigned := rfl
@[simp] theorem setScale_sys (s : State) (k : Nat) (x : Scale) : (s.setScale k x).sys = s.sys := rfl
@[simp] theorem setScale_hif (s : State) (k : Nat) (x : Scale) : (s.setScale k x).hif = s.hif := rfl
@[simp] theorem setScale_gld (s : State) (k : Nat) (x : Scale) : (s.setScale k x).gld = s.gld := rfl
@[simp] theorem setScale_otp (s : State) (k : Nat) (x : Scale) : (s.setScale k x).otp = s.otp := rfl
@[simp] theorem setScale_flt (s : State) (k : Nat) (x : Scale) : (s.setScale k x).flt = s.flt := rfl
@[simp] theorem setScale_obs (s : State) (k : Nat) (x : Scale) : (s.setScale k x).obs = s.obs := rfl
@[simp] theorem setScale_refs (s : State) (k : Nat) (x : Scale) : (s.setScale k x).refs = s.refs := rfl
@[simp] theorem setScale_lanes (s : State) (k : Nat) (x : Scale) : (s.setScale k x).lanes = s.lanes := rfl
@[simp] theorem setScale_bankQ (s : State) (k : Nat) (x : Scale) : (s.setScale k x).bankQ = s.bankQ := rfl
@[simp] theorem setScale_bankTurn (s : State) (k : Nat) (x : Scale) : (s.setScale k x).bankTurn = s.bankTurn := rfl
@[simp] theorem setScale_evtIn (s : State) (k : Nat) (x : Scale) : (s.setScale k x).evtIn = s.evtIn := rfl
@[simp] theorem setScale_echoIn (s : State) (k : Nat) (x : Scale) : (s.setScale k x).echoIn = s.echoIn := rfl
@[simp] theorem setScale_cask (s : State) (k : Nat) (x : Scale) : (s.setScale k x).cask = s.cask := rfl
@[simp] theorem setScale_csk (s : State) (k : Nat) (x : Scale) : (s.setScale k x).csk = s.csk := rfl
@[simp] theorem setScale_syn (s : State) (k : Nat) (x : Scale) : (s.setScale k x).syn = s.syn := rfl
@[simp] theorem setScale_eth (s : State) (k : Nat) (x : Scale) : (s.setScale k x).eth = s.eth := rfl
@[simp] theorem setScale_ptp (s : State) (k : Nat) (x : Scale) : (s.setScale k x).ptp = s.ptp := rfl
@[simp] theorem setScale_cjl (s : State) (k : Nat) (x : Scale) : (s.setScale k x).cjl = s.cjl := rfl
@[simp] theorem setScale_tns (s : State) (k : Nat) (x : Scale) : (s.setScale k x).tns = s.tns := rfl
@[simp] theorem setScale_wire (s : State) (k : Nat) (x : Scale) : (s.setScale k x).wire = s.wire := rfl
@[simp] theorem setScale_txq (s : State) (k : Nat) (x : Scale) : (s.setScale k x).txq = s.txq := rfl
@[simp] theorem setScale_txHeld (s : State) (k : Nat) (x : Scale) : (s.setScale k x).txHeld = s.txHeld := rfl
@[simp] theorem setScale_evtFrom (s : State) (k : Nat) (x : Scale) : (s.setScale k x).evtFrom = s.evtFrom := rfl
@[simp] theorem setScale_deferd (s : State) (k : Nat) (x : Scale) : (s.setScale k x).deferd = s.deferd := rfl
@[simp] theorem setScale_schedEnd (s : State) (k : Nat) (x : Scale) : (s.setScale k x).schedEnd = s.schedEnd := rfl
@[simp] theorem setScale_subjSlots (s : State) (k : Nat) (x : Scale) : (s.setScale k x).subjSlots = s.subjSlots := rfl

/-! ### `State.took` -/

@[simp] theorem took_pending (s : State) : (s.took).pending = s.pending := rfl
@[simp] theorem took_regs (s : State) : (s.took).regs = s.regs := rfl
@[simp] theorem took_inForce (s : State) : (s.took).inForce = s.inForce := rfl
@[simp] theorem took_upset (s : State) : (s.took).upset = s.upset := rfl
@[simp] theorem took_wonce (s : State) : (s.took).wonce = s.wonce := rfl
@[simp] theorem took_ind (s : State) : (s.took).ind = s.ind := rfl
@[simp] theorem took_pend (s : State) : (s.took).pend = s.pend := rfl
@[simp] theorem took_cfg (s : State) : (s.took).cfg = s.cfg := rfl
@[simp] theorem took_applied (s : State) : (s.took).applied = s.applied := rfl
@[simp] theorem took_coarse (s : State) : (s.took).coarse = s.coarse := rfl
@[simp] theorem took_tick (s : State) : (s.took).tick = s.tick := rfl
@[simp] theorem took_target (s : State) : (s.took).target = s.target := rfl
@[simp] theorem took_bound (s : State) : (s.took).bound = s.bound := rfl
@[simp] theorem took_stepped (s : State) : (s.took).stepped = s.stepped := rfl
@[simp] theorem took_realigned (s : State) : (s.took).realigned = s.realigned := rfl
@[simp] theorem took_sys (s : State) : (s.took).sys = s.sys := rfl
@[simp] theorem took_hif (s : State) : (s.took).hif = s.hif := rfl
@[simp] theorem took_gld (s : State) : (s.took).gld = s.gld := rfl
@[simp] theorem took_otp (s : State) : (s.took).otp = s.otp := rfl
@[simp] theorem took_flt (s : State) : (s.took).flt = s.flt := rfl
@[simp] theorem took_obs (s : State) : (s.took).obs = s.obs := rfl
@[simp] theorem took_refs (s : State) : (s.took).refs = s.refs := rfl
@[simp] theorem took_lanes (s : State) : (s.took).lanes = s.lanes := rfl
@[simp] theorem took_bankQ (s : State) : (s.took).bankQ = s.bankQ := rfl
@[simp] theorem took_bankTurn (s : State) : (s.took).bankTurn = s.bankTurn := rfl
@[simp] theorem took_evtIn (s : State) : (s.took).evtIn = s.evtIn := rfl
@[simp] theorem took_echoIn (s : State) : (s.took).echoIn = s.echoIn := rfl
@[simp] theorem took_cask (s : State) : (s.took).cask = s.cask := rfl
@[simp] theorem took_csk (s : State) : (s.took).csk = s.csk := rfl
@[simp] theorem took_syn (s : State) : (s.took).syn = s.syn := rfl
@[simp] theorem took_eth (s : State) : (s.took).eth = s.eth := rfl
@[simp] theorem took_ptp (s : State) : (s.took).ptp = s.ptp := rfl
@[simp] theorem took_cjl (s : State) : (s.took).cjl = s.cjl := rfl
@[simp] theorem took_tns (s : State) : (s.took).tns = s.tns := rfl
@[simp] theorem took_wire (s : State) : (s.took).wire = s.wire := rfl
@[simp] theorem took_scales (s : State) : (s.took).scales = s.scales := rfl
@[simp] theorem took_txq (s : State) : (s.took).txq = s.txq := rfl
@[simp] theorem took_txHeld (s : State) : (s.took).txHeld = s.txHeld := rfl
@[simp] theorem took_evtFrom (s : State) : (s.took).evtFrom = s.evtFrom := rfl
@[simp] theorem took_deferd (s : State) : (s.took).deferd = s.deferd := rfl
@[simp] theorem took_schedEnd (s : State) : (s.took).schedEnd = s.schedEnd := rfl
@[simp] theorem took_subjSlots (s : State) : (s.took).subjSlots = s.subjSlots := rfl

/-! ### `State.begin` -/

@[simp] theorem begin_pending (s : State) : (s.begin).pending = s.pending := rfl
@[simp] theorem begin_free (s : State) : (s.begin).free = s.free := rfl
@[simp] theorem begin_regs (s : State) : (s.begin).regs = s.regs := rfl
@[simp] theorem begin_inForce (s : State) : (s.begin).inForce = s.inForce := rfl
@[simp] theorem begin_upset (s : State) : (s.begin).upset = s.upset := rfl
@[simp] theorem begin_wonce (s : State) : (s.begin).wonce = s.wonce := rfl
@[simp] theorem begin_ind (s : State) : (s.begin).ind = s.ind := rfl
@[simp] theorem begin_pend (s : State) : (s.begin).pend = s.pend := rfl
@[simp] theorem begin_cfg (s : State) : (s.begin).cfg = s.cfg := rfl
@[simp] theorem begin_applied (s : State) : (s.begin).applied = s.applied := rfl
@[simp] theorem begin_coarse (s : State) : (s.begin).coarse = s.coarse := rfl
@[simp] theorem begin_tick (s : State) : (s.begin).tick = s.tick := rfl
@[simp] theorem begin_target (s : State) : (s.begin).target = s.target := rfl
@[simp] theorem begin_bound (s : State) : (s.begin).bound = s.bound := rfl
@[simp] theorem begin_stepped (s : State) : (s.begin).stepped = s.stepped := rfl
@[simp] theorem begin_realigned (s : State) : (s.begin).realigned = s.realigned := rfl
@[simp] theorem begin_sys (s : State) : (s.begin).sys = s.sys := rfl
@[simp] theorem begin_gld (s : State) : (s.begin).gld = s.gld := rfl
@[simp] theorem begin_otp (s : State) : (s.begin).otp = s.otp := rfl
@[simp] theorem begin_obs (s : State) : (s.begin).obs = s.obs := rfl
@[simp] theorem begin_refs (s : State) : (s.begin).refs = s.refs := rfl
@[simp] theorem begin_lanes (s : State) : (s.begin).lanes = s.lanes := rfl
@[simp] theorem begin_bankQ (s : State) : (s.begin).bankQ = s.bankQ := rfl
@[simp] theorem begin_bankTurn (s : State) : (s.begin).bankTurn = s.bankTurn := rfl
@[simp] theorem begin_evtIn (s : State) : (s.begin).evtIn = s.evtIn := rfl
@[simp] theorem begin_echoIn (s : State) : (s.begin).echoIn = s.echoIn := rfl
@[simp] theorem begin_cask (s : State) : (s.begin).cask = s.cask := rfl
@[simp] theorem begin_csk (s : State) : (s.begin).csk = s.csk := rfl
@[simp] theorem begin_syn (s : State) : (s.begin).syn = s.syn := rfl
@[simp] theorem begin_eth (s : State) : (s.begin).eth = s.eth := rfl
@[simp] theorem begin_ptp (s : State) : (s.begin).ptp = s.ptp := rfl
@[simp] theorem begin_cjl (s : State) : (s.begin).cjl = s.cjl := rfl
@[simp] theorem begin_tns (s : State) : (s.begin).tns = s.tns := rfl
@[simp] theorem begin_scales (s : State) : (s.begin).scales = s.scales := rfl
@[simp] theorem begin_txq (s : State) : (s.begin).txq = s.txq := rfl
@[simp] theorem begin_txHeld (s : State) : (s.begin).txHeld = s.txHeld := rfl
@[simp] theorem begin_evtFrom (s : State) : (s.begin).evtFrom = s.evtFrom := rfl
@[simp] theorem begin_deferd (s : State) : (s.begin).deferd = s.deferd := rfl
@[simp] theorem begin_schedEnd (s : State) : (s.begin).schedEnd = s.schedEnd := rfl
@[simp] theorem begin_subjSlots (s : State) : (s.begin).subjSlots = s.subjSlots := rfl

/-! ### `State.vectorUpdate` -/

@[simp] theorem vectorUpdate_pending (s : State) : (s.vectorUpdate).pending = s.pending := rfl
@[simp] theorem vectorUpdate_free (s : State) : (s.vectorUpdate).free = s.free := rfl
@[simp] theorem vectorUpdate_regs (s : State) : (s.vectorUpdate).regs = s.regs := rfl
@[simp] theorem vectorUpdate_inForce (s : State) : (s.vectorUpdate).inForce = s.inForce := rfl
@[simp] theorem vectorUpdate_upset (s : State) : (s.vectorUpdate).upset = s.upset := rfl
@[simp] theorem vectorUpdate_wonce (s : State) : (s.vectorUpdate).wonce = s.wonce := rfl
@[simp] theorem vectorUpdate_ind (s : State) : (s.vectorUpdate).ind = s.ind := rfl
@[simp] theorem vectorUpdate_pend (s : State) : (s.vectorUpdate).pend = s.pend := rfl
@[simp] theorem vectorUpdate_cfg (s : State) : (s.vectorUpdate).cfg = s.cfg := rfl
@[simp] theorem vectorUpdate_applied (s : State) : (s.vectorUpdate).applied = s.applied := rfl
@[simp] theorem vectorUpdate_coarse (s : State) : (s.vectorUpdate).coarse = s.coarse := rfl
@[simp] theorem vectorUpdate_tick (s : State) : (s.vectorUpdate).tick = s.tick := rfl
@[simp] theorem vectorUpdate_target (s : State) : (s.vectorUpdate).target = s.target := rfl
@[simp] theorem vectorUpdate_bound (s : State) : (s.vectorUpdate).bound = s.bound := rfl
@[simp] theorem vectorUpdate_stepped (s : State) : (s.vectorUpdate).stepped = s.stepped := rfl
@[simp] theorem vectorUpdate_realigned (s : State) : (s.vectorUpdate).realigned = s.realigned := rfl
@[simp] theorem vectorUpdate_sys (s : State) : (s.vectorUpdate).sys = s.sys := rfl
@[simp] theorem vectorUpdate_gld (s : State) : (s.vectorUpdate).gld = s.gld := rfl
@[simp] theorem vectorUpdate_otp (s : State) : (s.vectorUpdate).otp = s.otp := rfl
@[simp] theorem vectorUpdate_flt (s : State) : (s.vectorUpdate).flt = s.flt := rfl
@[simp] theorem vectorUpdate_obs (s : State) : (s.vectorUpdate).obs = s.obs := rfl
@[simp] theorem vectorUpdate_refs (s : State) : (s.vectorUpdate).refs = s.refs := rfl
@[simp] theorem vectorUpdate_lanes (s : State) : (s.vectorUpdate).lanes = s.lanes := rfl
@[simp] theorem vectorUpdate_bankQ (s : State) : (s.vectorUpdate).bankQ = s.bankQ := rfl
@[simp] theorem vectorUpdate_bankTurn (s : State) : (s.vectorUpdate).bankTurn = s.bankTurn := rfl
@[simp] theorem vectorUpdate_evtIn (s : State) : (s.vectorUpdate).evtIn = s.evtIn := rfl
@[simp] theorem vectorUpdate_echoIn (s : State) : (s.vectorUpdate).echoIn = s.echoIn := rfl
@[simp] theorem vectorUpdate_cask (s : State) : (s.vectorUpdate).cask = s.cask := rfl
@[simp] theorem vectorUpdate_csk (s : State) : (s.vectorUpdate).csk = s.csk := rfl
@[simp] theorem vectorUpdate_syn (s : State) : (s.vectorUpdate).syn = s.syn := rfl
@[simp] theorem vectorUpdate_eth (s : State) : (s.vectorUpdate).eth = s.eth := rfl
@[simp] theorem vectorUpdate_ptp (s : State) : (s.vectorUpdate).ptp = s.ptp := rfl
@[simp] theorem vectorUpdate_cjl (s : State) : (s.vectorUpdate).cjl = s.cjl := rfl
@[simp] theorem vectorUpdate_tns (s : State) : (s.vectorUpdate).tns = s.tns := rfl
@[simp] theorem vectorUpdate_wire (s : State) : (s.vectorUpdate).wire = s.wire := rfl
@[simp] theorem vectorUpdate_scales (s : State) : (s.vectorUpdate).scales = s.scales := rfl
@[simp] theorem vectorUpdate_txq (s : State) : (s.vectorUpdate).txq = s.txq := rfl
@[simp] theorem vectorUpdate_txHeld (s : State) : (s.vectorUpdate).txHeld = s.txHeld := rfl
@[simp] theorem vectorUpdate_evtFrom (s : State) : (s.vectorUpdate).evtFrom = s.evtFrom := rfl
@[simp] theorem vectorUpdate_deferd (s : State) : (s.vectorUpdate).deferd = s.deferd := rfl
@[simp] theorem vectorUpdate_schedEnd (s : State) : (s.vectorUpdate).schedEnd = s.schedEnd := rfl
@[simp] theorem vectorUpdate_subjSlots (s : State) : (s.vectorUpdate).subjSlots = s.subjSlots := rfl

/-! ### `State.obsAdd` -/

@[simp] theorem obsAdd_pending (s : State) (k n : Nat) : (s.obsAdd k n).pending = s.pending := by unfold State.obsAdd; dsimp only; split; rfl; split <;> rfl
@[simp] theorem obsAdd_free (s : State) (k n : Nat) : (s.obsAdd k n).free = s.free := by unfold State.obsAdd; dsimp only; split; rfl; split <;> rfl
@[simp] theorem obsAdd_regs (s : State) (k n : Nat) : (s.obsAdd k n).regs = s.regs := by unfold State.obsAdd; dsimp only; split; rfl; split <;> rfl
@[simp] theorem obsAdd_inForce (s : State) (k n : Nat) : (s.obsAdd k n).inForce = s.inForce := by unfold State.obsAdd; dsimp only; split; rfl; split <;> rfl
@[simp] theorem obsAdd_upset (s : State) (k n : Nat) : (s.obsAdd k n).upset = s.upset := by unfold State.obsAdd; dsimp only; split; rfl; split <;> rfl
@[simp] theorem obsAdd_wonce (s : State) (k n : Nat) : (s.obsAdd k n).wonce = s.wonce := by unfold State.obsAdd; dsimp only; split; rfl; split <;> rfl
@[simp] theorem obsAdd_ind (s : State) (k n : Nat) : (s.obsAdd k n).ind = s.ind := by unfold State.obsAdd; dsimp only; split; rfl; split <;> rfl
@[simp] theorem obsAdd_pend (s : State) (k n : Nat) : (s.obsAdd k n).pend = s.pend := by unfold State.obsAdd; dsimp only; split; rfl; split <;> rfl
@[simp] theorem obsAdd_cfg (s : State) (k n : Nat) : (s.obsAdd k n).cfg = s.cfg := by unfold State.obsAdd; dsimp only; split; rfl; split <;> rfl
@[simp] theorem obsAdd_applied (s : State) (k n : Nat) : (s.obsAdd k n).applied = s.applied := by unfold State.obsAdd; dsimp only; split; rfl; split <;> rfl
@[simp] theorem obsAdd_coarse (s : State) (k n : Nat) : (s.obsAdd k n).coarse = s.coarse := by unfold State.obsAdd; dsimp only; split; rfl; split <;> rfl
@[simp] theorem obsAdd_tick (s : State) (k n : Nat) : (s.obsAdd k n).tick = s.tick := by unfold State.obsAdd; dsimp only; split; rfl; split <;> rfl
@[simp] theorem obsAdd_target (s : State) (k n : Nat) : (s.obsAdd k n).target = s.target := by unfold State.obsAdd; dsimp only; split; rfl; split <;> rfl
@[simp] theorem obsAdd_bound (s : State) (k n : Nat) : (s.obsAdd k n).bound = s.bound := by unfold State.obsAdd; dsimp only; split; rfl; split <;> rfl
@[simp] theorem obsAdd_stepped (s : State) (k n : Nat) : (s.obsAdd k n).stepped = s.stepped := by unfold State.obsAdd; dsimp only; split; rfl; split <;> rfl
@[simp] theorem obsAdd_realigned (s : State) (k n : Nat) : (s.obsAdd k n).realigned = s.realigned := by unfold State.obsAdd; dsimp only; split; rfl; split <;> rfl
@[simp] theorem obsAdd_sys (s : State) (k n : Nat) : (s.obsAdd k n).sys = s.sys := by unfold State.obsAdd; dsimp only; split; rfl; split <;> rfl
@[simp] theorem obsAdd_hif (s : State) (k n : Nat) : (s.obsAdd k n).hif = s.hif := by unfold State.obsAdd; dsimp only; split; rfl; split <;> rfl
@[simp] theorem obsAdd_gld (s : State) (k n : Nat) : (s.obsAdd k n).gld = s.gld := by unfold State.obsAdd; dsimp only; split; rfl; split <;> rfl
@[simp] theorem obsAdd_otp (s : State) (k n : Nat) : (s.obsAdd k n).otp = s.otp := by unfold State.obsAdd; dsimp only; split; rfl; split <;> rfl
@[simp] theorem obsAdd_flt (s : State) (k n : Nat) : (s.obsAdd k n).flt = s.flt := by unfold State.obsAdd; dsimp only; split; rfl; split <;> rfl
@[simp] theorem obsAdd_refs (s : State) (k n : Nat) : (s.obsAdd k n).refs = s.refs := by unfold State.obsAdd; dsimp only; split; rfl; split <;> rfl
@[simp] theorem obsAdd_lanes (s : State) (k n : Nat) : (s.obsAdd k n).lanes = s.lanes := by unfold State.obsAdd; dsimp only; split; rfl; split <;> rfl
@[simp] theorem obsAdd_bankQ (s : State) (k n : Nat) : (s.obsAdd k n).bankQ = s.bankQ := by unfold State.obsAdd; dsimp only; split; rfl; split <;> rfl
@[simp] theorem obsAdd_bankTurn (s : State) (k n : Nat) : (s.obsAdd k n).bankTurn = s.bankTurn := by unfold State.obsAdd; dsimp only; split; rfl; split <;> rfl
@[simp] theorem obsAdd_evtIn (s : State) (k n : Nat) : (s.obsAdd k n).evtIn = s.evtIn := by unfold State.obsAdd; dsimp only; split; rfl; split <;> rfl
@[simp] theorem obsAdd_echoIn (s : State) (k n : Nat) : (s.obsAdd k n).echoIn = s.echoIn := by unfold State.obsAdd; dsimp only; split; rfl; split <;> rfl
@[simp] theorem obsAdd_cask (s : State) (k n : Nat) : (s.obsAdd k n).cask = s.cask := by unfold State.obsAdd; dsimp only; split; rfl; split <;> rfl
@[simp] theorem obsAdd_csk (s : State) (k n : Nat) : (s.obsAdd k n).csk = s.csk := by unfold State.obsAdd; dsimp only; split; rfl; split <;> rfl
@[simp] theorem obsAdd_syn (s : State) (k n : Nat) : (s.obsAdd k n).syn = s.syn := by unfold State.obsAdd; dsimp only; split; rfl; split <;> rfl
@[simp] theorem obsAdd_eth (s : State) (k n : Nat) : (s.obsAdd k n).eth = s.eth := by unfold State.obsAdd; dsimp only; split; rfl; split <;> rfl
@[simp] theorem obsAdd_ptp (s : State) (k n : Nat) : (s.obsAdd k n).ptp = s.ptp := by unfold State.obsAdd; dsimp only; split; rfl; split <;> rfl
@[simp] theorem obsAdd_cjl (s : State) (k n : Nat) : (s.obsAdd k n).cjl = s.cjl := by unfold State.obsAdd; dsimp only; split; rfl; split <;> rfl
@[simp] theorem obsAdd_tns (s : State) (k n : Nat) : (s.obsAdd k n).tns = s.tns := by unfold State.obsAdd; dsimp only; split; rfl; split <;> rfl
@[simp] theorem obsAdd_wire (s : State) (k n : Nat) : (s.obsAdd k n).wire = s.wire := by unfold State.obsAdd; dsimp only; split; rfl; split <;> rfl
@[simp] theorem obsAdd_scales (s : State) (k n : Nat) : (s.obsAdd k n).scales = s.scales := by unfold State.obsAdd; dsimp only; split; rfl; split <;> rfl
@[simp] theorem obsAdd_txq (s : State) (k n : Nat) : (s.obsAdd k n).txq = s.txq := by unfold State.obsAdd; dsimp only; split; rfl; split <;> rfl
@[simp] theorem obsAdd_txHeld (s : State) (k n : Nat) : (s.obsAdd k n).txHeld = s.txHeld := by unfold State.obsAdd; dsimp only; split; rfl; split <;> rfl
@[simp] theorem obsAdd_evtFrom (s : State) (k n : Nat) : (s.obsAdd k n).evtFrom = s.evtFrom := by unfold State.obsAdd; dsimp only; split; rfl; split <;> rfl
@[simp] theorem obsAdd_deferd (s : State) (k n : Nat) : (s.obsAdd k n).deferd = s.deferd := by unfold State.obsAdd; dsimp only; split; rfl; split <;> rfl
@[simp] theorem obsAdd_schedEnd (s : State) (k n : Nat) : (s.obsAdd k n).schedEnd = s.schedEnd := by unfold State.obsAdd; dsimp only; split; rfl; split <;> rfl
@[simp] theorem obsAdd_subjSlots (s : State) (k n : Nat) : (s.obsAdd k n).subjSlots = s.subjSlots := by unfold State.obsAdd; dsimp only; split; rfl; split <;> rfl

/-! ### Shorthand -/

@[simp] theorem setB_eq (s : State) (f : Fld) (b : Bool) : s.setB f b = s.set f (ofBool b) := rfl
@[simp] theorem psetB_eq (s : State) (f : Fld) (b : Bool) : s.psetB f b = s.pset f (ofBool b) := rfl
@[simp] theorem setS_eq (s : State) (f : Fld) (i : Int) : s.setS f i = s.set f (unsigned f.len i) := rfl
@[simp] theorem psetS_eq (s : State) (f : Fld) (i : Int) : s.psetS f i = s.pset f (unsigned f.len i) := rfl
@[simp] theorem satAdd_eq (s : State) (f : Fld) (n : Nat) : s.satAdd f n = s.set f (min (s.get f + n) f.max) := rfl

theorem reset_sound : State.reset.Sound := ⟨by decide, by decide⟩

end Sys2Proof.Machine
end

