-- ==== Sys2Proof/Laws/Settle.lean ====
section
/-!
SUPPORT. What setting sticky bits, with all the fault units make of it, can change: `settle`, `raise` and the frame of
a command. One relation says it once; the frame lemmas follow from it.
-/
namespace Sys2Proof.Machine

/-- `t` comes from `s` by setting fields of the fault units and of `L`, counting, and nothing else. -/
structure Settled (L : List Fld) (s t : State) : Prop where
  shape : t = { s with regs := t.regs, ind := { s.ind with regs := t.ind.regs }, pend := { s.pend with regs := t.pend.regs }, obs := t.obs,
                       flt := { s.flt with live := t.flt.live, cyc := t.flt.cyc, buckets := t.flt.buckets, rstReq := t.flt.rstReq,
                                           holders := t.flt.holders } }
  get : ∀ g : Fld, gravityKey g.key = false → (∀ f ∈ L, g.key ≠ f.key) → t.get g = s.get g
  pget : ∀ g : Fld, gravityKey g.key = false → (∀ f ∈ L, g.key ≠ f.key) → t.pget g = s.pget g
  one : ∀ g : Fld, gravityKey g.key = false → (∀ f ∈ L, f.len ≠ 0) → s.get g = 1 → t.get g = 1
  regs : s.regsOk = true → t.regsOk = true
  cnt : ∀ k, k < 80 → tabGet 0 t.obs.cnt k = tabGet 0 s.obs.cnt k

/-- Counting in one observation counter leaves the others. -/
theorem obsAdd_cnt_other (s : State) {k j n : Nat} (h : j ≠ k) : tabGet 0 (s.obsAdd k n).obs.cnt j = tabGet 0 s.obs.cnt j := by
  unfold State.obsAdd
  dsimp only
  split
  · exact tabGet_tabPut_other _ _ _ _ _ h
  · split <;> exact tabGet_tabPut_other _ _ _ _ _ h

namespace Settled

variable {L : List Fld} {s t u : State}

theorem refl (L : List Fld) (s : State) : Settled L s s := ⟨rfl, fun _ _ _ => rfl, fun _ _ _ => rfl, fun _ _ _ h => h, id, fun _ _ => rfl⟩

theorem trans (h : Settled L s t) (h' : Settled L t u) : Settled L s u where
  shape := by
    have h1 := h.shape
    have h2 := h'.shape
    rw [h2, h1]
  get g hg hL := (h'.get g hg hL).trans (h.get g hg hL)
  pget g hg hL := (h'.pget g hg hL).trans (h.pget g hg hL)
  one g hg hl h1 := h'.one g hg hl (h.one g hg hl h1)
  regs hs := h'.regs (h.regs hs)
  cnt k hk := (h'.cnt k hk).trans (h.cnt k hk)

/-- Nothing but the counts and the judgement of the fault units moves. -/
theorem plain (h : Settled L s t) (flt : Flt) (obs : Obs) (hc : ∀ k, k < 80 → tabGet 0 obs.cnt k = tabGet 0 t.obs.cnt k)
    (hf : flt = { t.flt with live := flt.live, cyc := flt.cyc, buckets := flt.buckets, rstReq := flt.rstReq, holders := flt.holders }) :
    Settled L s { t with flt := flt, obs := obs } := by
  refine h.trans ⟨?_, fun _ _ _ => rfl, fun _ _ _ => rfl, fun _ _ _ h => h, id, hc⟩
  show ({ t with flt := flt, obs := obs } : State) = _
  exact congrArg (fun x => ({ t with flt := x, obs := obs } : State)) hf

/-- A field of a fault unit is written. -/
theorem setGravity (h : Settled L s t) {f : Fld} (v : Nat) (hf : gravityKey f.key = true) : Settled L s (t.set f v) := by
  have ne : ∀ g : Fld, gravityKey g.key = false → g.key ≠ f.key := by rintro g hg e; rw [e, hf] at hg; cases hg
  refine h.trans ⟨?_, fun g hg _ => get_set_other _ _ (ne g hg), fun g hg _ => pget_set_other _ _ (ne g hg), ?_, regsOk_set f v, by simp⟩
  · unfold State.set; split <;> rfl
  · intro g hg _ h1; rw [get_set_other _ _ (ne g hg)]; exact h1

/-- A sticky bit is set. -/
theorem setOne (h : Settled L s t) {f : Fld} (hf : f ∈ L) : Settled L s (t.set f 1) := by
  refine h.trans ⟨?_, fun g _ hL => get_set_other _ _ (hL f hf), fun g _ hL => pget_set_other _ _ (hL f hf), ?_, regsOk_set f 1, by simp⟩
  · unfold State.set; split <;> rfl
  · intro g _ hl h1
    by_cases hk : g.key = f.key
    · have h2 : (t.set f 1).get g = (t.set f 1).get f := by unfold State.get; rw [hk]
      have h3 : 2 ≤ 2 ^ f.len := by
        have := Nat.pow_le_pow_right (show 0 < 2 by decide) (Nat.pos_of_ne_zero (hl f hf))
        simpa using this
      rw [h2, get_set_same, Nat.mod_eq_of_lt (by omega)]
    · rw [get_set_other _ _ hk]; exact h1

theorem obsAdd (h : Settled L s t) (k n : Nat) (hk : 80 ≤ k) : Settled L s (t.obsAdd k n) := by
  have : t.obsAdd k n = { t with flt := t.flt, obs := (t.obsAdd k n).obs } := by
    unfold State.obsAdd; dsimp only; split; rfl; split <;> rfl
  rw [this]
  refine h.plain _ _ (fun j hj => obsAdd_cnt_other t (by omega)) rfl

theorem satAdd (h : Settled L s t) {f : Fld} (n : Nat) (hf : gravityKey f.key = true) : Settled L s (t.satAdd f n) := h.setGravity _ hf

theorem hwm (h : Settled L s t) {f : Fld} (v : Nat) (hf : gravityKey f.key = true) : Settled L s (t.hwm f v) := by
  unfold State.hwm; split
  · exact h.setGravity _ hf
  · exact h

end Settled

/-! ## Which fields the fault units write -/

theorem unitOfSource_lt (n : Nat) : (unitOfSource n).1 < 17 ∧ (unitOfSource n).2 < 16 := by
  unfold unitOfSource
  repeat' refine iteInduction (motive := fun p : Nat × Nat => p.1 < 17 ∧ p.2 < 16) (fun _ => ?_) (fun _ => ?_)
  all_goals (constructor <;> dsimp only <;> omega)

theorem gravityKey_blk {b o lo : Nat} (h : 0xE00 ≤ o) (h' : o < 0xF40) (hl : lo < 32) (len : Nat) :
    gravityKey (Fld.key ⟨b * 0x10000 + o, lo, len⟩) = true := by
  have h1 : keyAddr (Fld.key ⟨b * 0x10000 + o, lo, len⟩) % 0x10000 = o := by
    unfold keyAddr Fld.key; dsimp only; omega
  simp [gravityKey, h1, h, h']

theorem gravityKey_blk2 {b o p lo : Nat} (h : 0xE00 ≤ o + p) (h' : o + p < 0xF40) (hl : lo < 32) (len : Nat) :
    gravityKey (Fld.key ⟨b * 0x10000 + o + p, lo, len⟩) = true := by
  rw [Nat.add_assoc]; exact gravityKey_blk h h' hl len

theorem capture_settled {L : List Fld} {s t : State} (b src : Nat) (h : Settled L s t) :
    Settled L s (t.capture b src).1 ∧ ∀ f ∈ (t.capture b src).2, gravityKey f.key = true := by
  unfold State.capture
  split
  · refine ⟨(h.setGravity _ ?_).satAdd _ ?_, fun f hf => by simp at hf; subst hf; decide⟩ <;> exact gravityKey_blk (by decide) (by decide) (by decide) _
  · refine ⟨(((((h.setGravity _ ?_).setGravity _ ?_).setGravity _ ?_).setGravity _ ?_).setGravity _ ?_).setGravity _ ?_, by simp⟩ <;>
      exact gravityKey_blk (by decide) (by decide) (by decide) _

theorem declareSevere_settled {L : List Fld} {s t : State} {b j : Nat} (hj : j < 16) (h : Settled L s t) :
    Settled L s (t.declareSevere b j).1 ∧ ∀ f ∈ (t.declareSevere b j).2, gravityKey f.key = true := by
  have h1 : Settled L s ((t.set (BLK_FLT_SEV b j) 1).obsAdd 82 1) :=
    (h.setGravity _ (gravityKey_blk (by decide) (by decide) (by omega) _)).obsAdd 82 1 (by decide)
  unfold State.declareSevere
  dsimp only
  constructor
  · split
    · exact h1.plain _ _ (fun _ _ => rfl) rfl
    · exact h1
  · intro f hf
    rcases List.mem_append.mp hf with hf | hf <;> split at hf <;> simp at hf <;> subst hf <;> decide

theorem faultEvent_settled {L : List Fld} {s t : State} (src : Nat) (h : Settled L s t) :
    Settled L s (t.faultEvent src).1 ∧ ∀ f ∈ (t.faultEvent src).2, gravityKey f.key = true := by
  obtain ⟨_, hj⟩ := unitOfSource_lt src
  unfold State.faultEvent
  dsimp only
  generalize hb : (unitOfSource src).1 = b
  generalize hu : (unitOfSource src).2 = j at hj
  have h0 : Settled L s (if (conditionSources.contains src || t.flt.live.contains src) = true then t
      else { t with flt := { t.flt with live := t.flt.live ++ [src] } }) := by
    split
    · exact h
    · exact h.plain _ t.obs (fun _ _ => rfl) rfl
  generalize (if (conditionSources.contains src || t.flt.live.contains src) = true then t
      else { t with flt := { t.flt with live := t.flt.live ++ [src] } }) = t0 at h0 ⊢
  split
  · exact ⟨(h0.satAdd _ (gravityKey_blk (by decide) (by decide) (by decide) _)).obsAdd 81 1 (by decide), by simp⟩
  · have h1 : Settled L s ((t0.satAdd (BLK_FLT_TOTAL b j) 1).obsAdd 80 1) :=
      (h0.satAdd _ (gravityKey_blk2 (by omega) (by omega) (by decide) _)).obsAdd 80 1 (by decide)
    generalize ((t0.satAdd (BLK_FLT_TOTAL b j) 1).obsAdd 80 1) = t1 at h1 ⊢
    split
    · exact ⟨h1, by simp⟩
    · have h2 : Settled L s { t1 with flt := { t1.flt with buckets := tabPut [] t1.flt.buckets src (bucketAdd (tabGet [] t1.flt.buckets src)) } } :=
        h1.plain _ t1.obs (fun _ _ => rfl) rfl
      generalize ({ t1 with flt := { t1.flt with buckets := tabPut [] t1.flt.buckets src (bucketAdd (tabGet [] t1.flt.buckets src)) } } : State) = t2 at h2 ⊢
      have h3 : Settled L s (t2.hwm (BLK_FLT_CNT_PEAK b j) (t2.wcount src)) :=
        h2.hwm _ (gravityKey_blk2 (by omega) (by omega) (by decide) _)
      generalize t2.hwm (BLK_FLT_CNT_PEAK b j) (t2.wcount src) = t3 at h3 ⊢
      have h4 : Settled L s (if t3.inFb (BLK_FLT_CFG_CAP b j) = true then t3.capture b src else (t3, [])).1 ∧
          ∀ f ∈ (if t3.inFb (BLK_FLT_CFG_CAP b j) = true then t3.capture b src else (t3, [])).2, gravityKey f.key = true := by
        split
        · exact capture_settled b src h3
        · exact ⟨h3, by simp⟩
      generalize (if t3.inFb (BLK_FLT_CFG_CAP b j) = true then t3.capture b src else (t3, [])) = r at h4 ⊢
      split
      · have h5 := declareSevere_settled (b := b) hj h4.1
        refine ⟨h5.1, fun f hf => ?_⟩
        rcases List.mem_append.mp hf with hf | hf
        · exact h4.2 f hf
        · exact h5.2 f hf
      · exact h4

theorem stickyEvent_settled {L : List Fld} {s t : State} (f : Fld) (h : Settled L s (t.set f 1)) :
    Settled L s (t.stickyEvent f).1 ∧ ∀ g ∈ (t.stickyEvent f).2, gravityKey g.key = true := by
  unfold State.stickyEvent
  dsimp only
  split
  · exact ⟨h, by simp⟩
  · split
    · exact ⟨h, by simp⟩
    · exact faultEvent_settled _ (h.plain _ (t.set f 1).obs (fun _ _ => rfl) rfl)

theorem gravity_of_ite {c : Prop} [Decidable c] {g : Fld} (h : g ∈ (if c then [FLT_STICKY_PIN_S] else [])) : gravityKey g.key = true := by
  split at h
  · simp at h; subst h; decide
  · simp at h

theorem pinUpdate_settled {L : List Fld} {s t : State} (h : Settled L s t) :
    Settled L s t.pinUpdate.1 ∧ ∀ g ∈ t.pinUpdate.2, gravityKey g.key = true := by
  have h1 : Settled L s { t with flt := { t.flt with holders := t.pinHolders } } := h.plain _ t.obs (fun _ _ => rfl) rfl
  unfold State.pinUpdate
  dsimp only
  split
  · exact ⟨h1, by simp⟩
  · split
    · split
      · refine ⟨h1.setGravity _ (f := FLT_PIN_FIRST_OVF) (by decide), fun g hg => ?_⟩
        rcases List.mem_append.mp hg with hg | hg
        · simp at hg; subst hg; decide
        · exact gravity_of_ite hg
      · exact ⟨h1, fun g hg => gravity_of_ite hg⟩
    · have h2 (v : Nat) := (((h1.setGravity 1 (f := FLT_PIN_FIRST_V) (by decide)).setGravity v (f := FLT_PIN_FIRST_BLK) (by decide)))
      refine ⟨?_, fun g hg => ?_⟩
      · split
        · exact ((h2 _).setGravity _ (f := FLT_PIN_FIRST_KIND) (by decide)).setGravity _ (f := FLT_PIN_FIRST_TICK) (by decide)
        · exact (((h2 _).setGravity _ (f := FLT_PIN_FIRST_KIND) (by decide)).setGravity _ (f := FLT_PIN_FIRST_TICK) (by decide)).setGravity _ (f := FLT_PIN_FIRST_OVF) (by decide)
      · exact gravity_of_ite hg

/-- Working off setting events moves only the fault units and the sticky bits given. -/
theorem settle_settled {L : List Fld} {s t : State} (n : Nat) (fs : List Fld) (h : Settled L s t)
    (hf : ∀ f ∈ fs, f ∈ L ∨ gravityKey f.key = true) : Settled L s (settle n fs t) := by
  induction n generalizing fs t with
  | zero => exact h
  | succ n ih =>
    cases fs with
    | cons f r =>
      simp only [settle]
      have h1 : Settled L s (t.set f 1) := by
        rcases hf f (by simp) with hL | hg
        · exact h.setOne hL
        · exact h.setGravity _ hg
      have h2 := stickyEvent_settled f h1
      refine ih _ h2.1 (fun g hg => ?_)
      rcases List.mem_append.mp hg with hg | hg
      · exact .inr (h2.2 g hg)
      · exact hf g (by simp [hg])
    | nil =>
      simp only [settle]
      split
      · rename_i k r _
        refine ih _ (h.plain t.flt _ (fun _ _ => rfl) rfl) (fun g hg => .inr ?_)
        simp at hg; subst hg
        unfold gravityKey keyAddr Fld.key OBS_OVF_OVF
        simp only [Bool.or_eq_true, Bool.and_eq_true, decide_eq_true_eq, beq_iff_eq]
        omega
      · split
        · exact h
        · have h2 := pinUpdate_settled h
          exact ih _ h2.1 (fun g hg => .inr (h2.2 g hg))

/-- The setting of bits before their events are worked off. -/
theorem setOnes_settled {L : List Fld} {s t : State} (fs : List Fld) (h : Settled L s t) (hf : ∀ f ∈ fs, f ∈ L ∨ gravityKey f.key = true) :
    Settled L s (fs.foldl (fun s f => s.set f 1) t) := by
  induction fs generalizing t with
  | nil => exact h
  | cons f r ih =>
    refine ih ?_ (fun g hg => hf g (by simp [hg]))
    rcases hf f (by simp) with hL | hg
    · exact h.setOne hL
    · exact h.setGravity _ hg

theorem raiseAll_of {L : List Fld} {s t : State} (fs : List Fld) (h : Settled L s t) (hf : ∀ f ∈ fs, f ∈ L ∨ gravityKey f.key = true) :
    Settled L s (t.raiseAll fs) := settle_settled _ _ (setOnes_settled fs h hf) hf

theorem raiseAll_settled (s : State) (fs : List Fld) : Settled fs s (s.raiseAll fs) :=
  raiseAll_of fs (Settled.refl _ _) (fun _ hf => .inl hf)

theorem raise_settled (s : State) (f : Fld) : Settled [f] s (s.raise f) := raiseAll_settled s [f]

theorem raiseIf_settled (s : State) (c : Bool) (f : Fld) : Settled [f] s (s.raiseIf c f) := by
  unfold State.raiseIf; split
  · exact raise_settled s f
  · exact Settled.refl _ _

theorem eventOnly_settled (s : State) (src : Nat) : Settled [] s (s.eventOnly src) := by
  unfold State.eventOnly
  split
  · exact Settled.refl _ _
  · have h := faultEvent_settled (L := []) src ((Settled.refl [] s).plain { s.flt with cyc := s.flt.cyc ++ [src] } s.obs (fun _ _ => rfl) rfl)
    exact raiseAll_of _ h.1 (fun f hf => .inr (h.2 f hf))

/-- A sticky bit reads 1 once it is raised. -/
theorem raise_get_self (s : State) {f : Fld} (hg : gravityKey f.key = false) (hl : f.len ≠ 0) : (s.raise f).get f = 1 := by
  have h3 : 2 ≤ 2 ^ f.len := by
    have := Nat.pow_le_pow_right (show 0 < 2 by decide) (Nat.pos_of_ne_zero hl)
    simpa using this
  refine (settle_settled (L := [f]) (64 + 16 * 1) [f] (Settled.refl _ (s.set f 1)) (fun g h => .inl h)).one f hg (by simpa using hl) ?_
  rw [get_set_same, Nat.mod_eq_of_lt (by omega)]

end Sys2Proof.Machine
end

