-- ==== Sys2Proof/Laws/Frame.lean ====
section
/-!
SUPPORT. The frame of raising sticky bits and of ending a command: every part of the state that they leave alone, and
every register field outside the fault units.
-/
namespace Sys2Proof.Machine

/-! ### raiseAll -/

@[simp] theorem raiseAll_pending (s : State) (fs : List Fld) : (s.raiseAll fs).pending = s.pending := (congrArg State.pending (raiseAll_settled s fs).shape :)
@[simp] theorem raiseAll_free (s : State) (fs : List Fld) : (s.raiseAll fs).free = s.free := (congrArg State.free (raiseAll_settled s fs).shape :)
@[simp] theorem raiseAll_inForce (s : State) (fs : List Fld) : (s.raiseAll fs).inForce = s.inForce := (congrArg State.inForce (raiseAll_settled s fs).shape :)
@[simp] theorem raiseAll_upset (s : State) (fs : List Fld) : (s.raiseAll fs).upset = s.upset := (congrArg State.upset (raiseAll_settled s fs).shape :)
@[simp] theorem raiseAll_wonce (s : State) (fs : List Fld) : (s.raiseAll fs).wonce = s.wonce := (congrArg State.wonce (raiseAll_settled s fs).shape :)
@[simp] theorem raiseAll_cfg (s : State) (fs : List Fld) : (s.raiseAll fs).cfg = s.cfg := (congrArg State.cfg (raiseAll_settled s fs).shape :)
@[simp] theorem raiseAll_applied (s : State) (fs : List Fld) : (s.raiseAll fs).applied = s.applied := (congrArg State.applied (raiseAll_settled s fs).shape :)
@[simp] theorem raiseAll_coarse (s : State) (fs : List Fld) : (s.raiseAll fs).coarse = s.coarse := (congrArg State.coarse (raiseAll_settled s fs).shape :)
@[simp] theorem raiseAll_tick (s : State) (fs : List Fld) : (s.raiseAll fs).tick = s.tick := (congrArg State.tick (raiseAll_settled s fs).shape :)
@[simp] theorem raiseAll_target (s : State) (fs : List Fld) : (s.raiseAll fs).target = s.target := (congrArg State.target (raiseAll_settled s fs).shape :)
@[simp] theorem raiseAll_bound (s : State) (fs : List Fld) : (s.raiseAll fs).bound = s.bound := (congrArg State.bound (raiseAll_settled s fs).shape :)
@[simp] theorem raiseAll_stepped (s : State) (fs : List Fld) : (s.raiseAll fs).stepped = s.stepped := (congrArg State.stepped (raiseAll_settled s fs).shape :)
@[simp] theorem raiseAll_realigned (s : State) (fs : List Fld) : (s.raiseAll fs).realigned = s.realigned := (congrArg State.realigned (raiseAll_settled s fs).shape :)
@[simp] theorem raiseAll_sys (s : State) (fs : List Fld) : (s.raiseAll fs).sys = s.sys := (congrArg State.sys (raiseAll_settled s fs).shape :)
@[simp] theorem raiseAll_hif (s : State) (fs : List Fld) : (s.raiseAll fs).hif = s.hif := (congrArg State.hif (raiseAll_settled s fs).shape :)
@[simp] theorem raiseAll_gld (s : State) (fs : List Fld) : (s.raiseAll fs).gld = s.gld := (congrArg State.gld (raiseAll_settled s fs).shape :)
@[simp] theorem raiseAll_otp (s : State) (fs : List Fld) : (s.raiseAll fs).otp = s.otp := (congrArg State.otp (raiseAll_settled s fs).shape :)
@[simp] theorem raiseAll_refs (s : State) (fs : List Fld) : (s.raiseAll fs).refs = s.refs := (congrArg State.refs (raiseAll_settled s fs).shape :)
@[simp] theorem raiseAll_lanes (s : State) (fs : List Fld) : (s.raiseAll fs).lanes = s.lanes := (congrArg State.lanes (raiseAll_settled s fs).shape :)
@[simp] theorem raiseAll_bankQ (s : State) (fs : List Fld) : (s.raiseAll fs).bankQ = s.bankQ := (congrArg State.bankQ (raiseAll_settled s fs).shape :)
@[simp] theorem raiseAll_bankTurn (s : State) (fs : List Fld) : (s.raiseAll fs).bankTurn = s.bankTurn := (congrArg State.bankTurn (raiseAll_settled s fs).shape :)
@[simp] theorem raiseAll_evtIn (s : State) (fs : List Fld) : (s.raiseAll fs).evtIn = s.evtIn := (congrArg State.evtIn (raiseAll_settled s fs).shape :)
@[simp] theorem raiseAll_echoIn (s : State) (fs : List Fld) : (s.raiseAll fs).echoIn = s.echoIn := (congrArg State.echoIn (raiseAll_settled s fs).shape :)
@[simp] theorem raiseAll_cask (s : State) (fs : List Fld) : (s.raiseAll fs).cask = s.cask := (congrArg State.cask (raiseAll_settled s fs).shape :)
@[simp] theorem raiseAll_csk (s : State) (fs : List Fld) : (s.raiseAll fs).csk = s.csk := (congrArg State.csk (raiseAll_settled s fs).shape :)
@[simp] theorem raiseAll_syn (s : State) (fs : List Fld) : (s.raiseAll fs).syn = s.syn := (congrArg State.syn (raiseAll_settled s fs).shape :)
@[simp] theorem raiseAll_eth (s : State) (fs : List Fld) : (s.raiseAll fs).eth = s.eth := (congrArg State.eth (raiseAll_settled s fs).shape :)
@[simp] theorem raiseAll_ptp (s : State) (fs : List Fld) : (s.raiseAll fs).ptp = s.ptp := (congrArg State.ptp (raiseAll_settled s fs).shape :)
@[simp] theorem raiseAll_cjl (s : State) (fs : List Fld) : (s.raiseAll fs).cjl = s.cjl := (congrArg State.cjl (raiseAll_settled s fs).shape :)
@[simp] theorem raiseAll_tns (s : State) (fs : List Fld) : (s.raiseAll fs).tns = s.tns := (congrArg State.tns (raiseAll_settled s fs).shape :)
@[simp] theorem raiseAll_wire (s : State) (fs : List Fld) : (s.raiseAll fs).wire = s.wire := (congrArg State.wire (raiseAll_settled s fs).shape :)
@[simp] theorem raiseAll_scales (s : State) (fs : List Fld) : (s.raiseAll fs).scales = s.scales := (congrArg State.scales (raiseAll_settled s fs).shape :)
@[simp] theorem raiseAll_txq (s : State) (fs : List Fld) : (s.raiseAll fs).txq = s.txq := (congrArg State.txq (raiseAll_settled s fs).shape :)
@[simp] theorem raiseAll_txHeld (s : State) (fs : List Fld) : (s.raiseAll fs).txHeld = s.txHeld := (congrArg State.txHeld (raiseAll_settled s fs).shape :)
@[simp] theorem raiseAll_evtFrom (s : State) (fs : List Fld) : (s.raiseAll fs).evtFrom = s.evtFrom := (congrArg State.evtFrom (raiseAll_settled s fs).shape :)
@[simp] theorem raiseAll_deferd (s : State) (fs : List Fld) : (s.raiseAll fs).deferd = s.deferd := (congrArg State.deferd (raiseAll_settled s fs).shape :)
@[simp] theorem raiseAll_schedEnd (s : State) (fs : List Fld) : (s.raiseAll fs).schedEnd = s.schedEnd := (congrArg State.schedEnd (raiseAll_settled s fs).shape :)
@[simp] theorem raiseAll_subjSlots (s : State) (fs : List Fld) : (s.raiseAll fs).subjSlots = s.subjSlots := (congrArg State.subjSlots (raiseAll_settled s fs).shape :)
@[simp] theorem raiseAll_ind_qul (s : State) (fs : List Fld) : (s.raiseAll fs).ind.qul = s.ind.qul := (congrArg (fun x : State => x.ind.qul) (raiseAll_settled s fs).shape :)
@[simp] theorem raiseAll_ind_chan (s : State) (fs : List Fld) : (s.raiseAll fs).ind.chan = s.ind.chan := (congrArg (fun x : State => x.ind.chan) (raiseAll_settled s fs).shape :)
@[simp] theorem raiseAll_ind_ts (s : State) (fs : List Fld) : (s.raiseAll fs).ind.ts = s.ind.ts := (congrArg (fun x : State => x.ind.ts) (raiseAll_settled s fs).shape :)
@[simp] theorem raiseAll_ind_evs (s : State) (fs : List Fld) : (s.raiseAll fs).ind.evs = s.ind.evs := (congrArg (fun x : State => x.ind.evs) (raiseAll_settled s fs).shape :)
@[simp] theorem raiseAll_pend_qul (s : State) (fs : List Fld) : (s.raiseAll fs).pend.qul = s.pend.qul := (congrArg (fun x : State => x.pend.qul) (raiseAll_settled s fs).shape :)
@[simp] theorem raiseAll_pend_chan (s : State) (fs : List Fld) : (s.raiseAll fs).pend.chan = s.pend.chan := (congrArg (fun x : State => x.pend.chan) (raiseAll_settled s fs).shape :)
@[simp] theorem raiseAll_pend_ts (s : State) (fs : List Fld) : (s.raiseAll fs).pend.ts = s.pend.ts := (congrArg (fun x : State => x.pend.ts) (raiseAll_settled s fs).shape :)
@[simp] theorem raiseAll_pend_evs (s : State) (fs : List Fld) : (s.raiseAll fs).pend.evs = s.pend.evs := (congrArg (fun x : State => x.pend.evs) (raiseAll_settled s fs).shape :)
@[simp] theorem raiseAll_flt_hostReq (s : State) (fs : List Fld) : (s.raiseAll fs).flt.hostReq = s.flt.hostReq := (congrArg (fun x : State => x.flt.hostReq) (raiseAll_settled s fs).shape :)
@[simp] theorem raiseAll_flt_rstLeft (s : State) (fs : List Fld) : (s.raiseAll fs).flt.rstLeft = s.flt.rstLeft := (congrArg (fun x : State => x.flt.rstLeft) (raiseAll_settled s fs).shape :)
@[simp] theorem raiseAll_flt_shdLeft (s : State) (fs : List Fld) : (s.raiseAll fs).flt.shdLeft = s.flt.shdLeft := (congrArg (fun x : State => x.flt.shdLeft) (raiseAll_settled s fs).shape :)
@[simp] theorem raiseAll_flt_lineBad (s : State) (fs : List Fld) : (s.raiseAll fs).flt.lineBad = s.flt.lineBad := (congrArg (fun x : State => x.flt.lineBad) (raiseAll_settled s fs).shape :)
@[simp] theorem raiseAll_flt_missInv (s : State) (fs : List Fld) : (s.raiseAll fs).flt.missInv = s.flt.missInv := (congrArg (fun x : State => x.flt.missInv) (raiseAll_settled s fs).shape :)
@[simp] theorem raiseAll_flt_kept (s : State) (fs : List Fld) : (s.raiseAll fs).flt.kept = s.flt.kept := (congrArg (fun x : State => x.flt.kept) (raiseAll_settled s fs).shape :)

/-! ### raise -/

@[simp] theorem raise_pending (s : State) (f : Fld) : (s.raise f).pending = s.pending := (congrArg State.pending (raise_settled s f).shape :)
@[simp] theorem raise_free (s : State) (f : Fld) : (s.raise f).free = s.free := (congrArg State.free (raise_settled s f).shape :)
@[simp] theorem raise_inForce (s : State) (f : Fld) : (s.raise f).inForce = s.inForce := (congrArg State.inForce (raise_settled s f).shape :)
@[simp] theorem raise_upset (s : State) (f : Fld) : (s.raise f).upset = s.upset := (congrArg State.upset (raise_settled s f).shape :)
@[simp] theorem raise_wonce (s : State) (f : Fld) : (s.raise f).wonce = s.wonce := (congrArg State.wonce (raise_settled s f).shape :)
@[simp] theorem raise_cfg (s : State) (f : Fld) : (s.raise f).cfg = s.cfg := (congrArg State.cfg (raise_settled s f).shape :)
@[simp] theorem raise_applied (s : State) (f : Fld) : (s.raise f).applied = s.applied := (congrArg State.applied (raise_settled s f).shape :)
@[simp] theorem raise_coarse (s : State) (f : Fld) : (s.raise f).coarse = s.coarse := (congrArg State.coarse (raise_settled s f).shape :)
@[simp] theorem raise_tick (s : State) (f : Fld) : (s.raise f).tick = s.tick := (congrArg State.tick (raise_settled s f).shape :)
@[simp] theorem raise_target (s : State) (f : Fld) : (s.raise f).target = s.target := (congrArg State.target (raise_settled s f).shape :)
@[simp] theorem raise_bound (s : State) (f : Fld) : (s.raise f).bound = s.bound := (congrArg State.bound (raise_settled s f).shape :)
@[simp] theorem raise_stepped (s : State) (f : Fld) : (s.raise f).stepped = s.stepped := (congrArg State.stepped (raise_settled s f).shape :)
@[simp] theorem raise_realigned (s : State) (f : Fld) : (s.raise f).realigned = s.realigned := (congrArg State.realigned (raise_settled s f).shape :)
@[simp] theorem raise_sys (s : State) (f : Fld) : (s.raise f).sys = s.sys := (congrArg State.sys (raise_settled s f).shape :)
@[simp] theorem raise_hif (s : State) (f : Fld) : (s.raise f).hif = s.hif := (congrArg State.hif (raise_settled s f).shape :)
@[simp] theorem raise_gld (s : State) (f : Fld) : (s.raise f).gld = s.gld := (congrArg State.gld (raise_settled s f).shape :)
@[simp] theorem raise_otp (s : State) (f : Fld) : (s.raise f).otp = s.otp := (congrArg State.otp (raise_settled s f).shape :)
@[simp] theorem raise_refs (s : State) (f : Fld) : (s.raise f).refs = s.refs := (congrArg State.refs (raise_settled s f).shape :)
@[simp] theorem raise_lanes (s : State) (f : Fld) : (s.raise f).lanes = s.lanes := (congrArg State.lanes (raise_settled s f).shape :)
@[simp] theorem raise_bankQ (s : State) (f : Fld) : (s.raise f).bankQ = s.bankQ := (congrArg State.bankQ (raise_settled s f).shape :)
@[simp] theorem raise_bankTurn (s : State) (f : Fld) : (s.raise f).bankTurn = s.bankTurn := (congrArg State.bankTurn (raise_settled s f).shape :)
@[simp] theorem raise_evtIn (s : State) (f : Fld) : (s.raise f).evtIn = s.evtIn := (congrArg State.evtIn (raise_settled s f).shape :)
@[simp] theorem raise_echoIn (s : State) (f : Fld) : (s.raise f).echoIn = s.echoIn := (congrArg State.echoIn (raise_settled s f).shape :)
@[simp] theorem raise_cask (s : State) (f : Fld) : (s.raise f).cask = s.cask := (congrArg State.cask (raise_settled s f).shape :)
@[simp] theorem raise_csk (s : State) (f : Fld) : (s.raise f).csk = s.csk := (congrArg State.csk (raise_settled s f).shape :)
@[simp] theorem raise_syn (s : State) (f : Fld) : (s.raise f).syn = s.syn := (congrArg State.syn (raise_settled s f).shape :)
@[simp] theorem raise_eth (s : State) (f : Fld) : (s.raise f).eth = s.eth := (congrArg State.eth (raise_settled s f).shape :)
@[simp] theorem raise_ptp (s : State) (f : Fld) : (s.raise f).ptp = s.ptp := (congrArg State.ptp (raise_settled s f).shape :)
@[simp] theorem raise_cjl (s : State) (f : Fld) : (s.raise f).cjl = s.cjl := (congrArg State.cjl (raise_settled s f).shape :)
@[simp] theorem raise_tns (s : State) (f : Fld) : (s.raise f).tns = s.tns := (congrArg State.tns (raise_settled s f).shape :)
@[simp] theorem raise_wire (s : State) (f : Fld) : (s.raise f).wire = s.wire := (congrArg State.wire (raise_settled s f).shape :)
@[simp] theorem raise_scales (s : State) (f : Fld) : (s.raise f).scales = s.scales := (congrArg State.scales (raise_settled s f).shape :)
@[simp] theorem raise_txq (s : State) (f : Fld) : (s.raise f).txq = s.txq := (congrArg State.txq (raise_settled s f).shape :)
@[simp] theorem raise_txHeld (s : State) (f : Fld) : (s.raise f).txHeld = s.txHeld := (congrArg State.txHeld (raise_settled s f).shape :)
@[simp] theorem raise_evtFrom (s : State) (f : Fld) : (s.raise f).evtFrom = s.evtFrom := (congrArg State.evtFrom (raise_settled s f).shape :)
@[simp] theorem raise_deferd (s : State) (f : Fld) : (s.raise f).deferd = s.deferd := (congrArg State.deferd (raise_settled s f).shape :)
@[simp] theorem raise_schedEnd (s : State) (f : Fld) : (s.raise f).schedEnd = s.schedEnd := (congrArg State.schedEnd (raise_settled s f).shape :)
@[simp] theorem raise_subjSlots (s : State) (f : Fld) : (s.raise f).subjSlots = s.subjSlots := (congrArg State.subjSlots (raise_settled s f).shape :)
@[simp] theorem raise_ind_qul (s : State) (f : Fld) : (s.raise f).ind.qul = s.ind.qul := (congrArg (fun x : State => x.ind.qul) (raise_settled s f).shape :)
@[simp] theorem raise_ind_chan (s : State) (f : Fld) : (s.raise f).ind.chan = s.ind.chan := (congrArg (fun x : State => x.ind.chan) (raise_settled s f).shape :)
@[simp] theorem raise_ind_ts (s : State) (f : Fld) : (s.raise f).ind.ts = s.ind.ts := (congrArg (fun x : State => x.ind.ts) (raise_settled s f).shape :)
@[simp] theorem raise_ind_evs (s : State) (f : Fld) : (s.raise f).ind.evs = s.ind.evs := (congrArg (fun x : State => x.ind.evs) (raise_settled s f).shape :)
@[simp] theorem raise_pend_qul (s : State) (f : Fld) : (s.raise f).pend.qul = s.pend.qul := (congrArg (fun x : State => x.pend.qul) (raise_settled s f).shape :)
@[simp] theorem raise_pend_chan (s : State) (f : Fld) : (s.raise f).pend.chan = s.pend.chan := (congrArg (fun x : State => x.pend.chan) (raise_settled s f).shape :)
@[simp] theorem raise_pend_ts (s : State) (f : Fld) : (s.raise f).pend.ts = s.pend.ts := (congrArg (fun x : State => x.pend.ts) (raise_settled s f).shape :)
@[simp] theorem raise_pend_evs (s : State) (f : Fld) : (s.raise f).pend.evs = s.pend.evs := (congrArg (fun x : State => x.pend.evs) (raise_settled s f).shape :)
@[simp] theorem raise_flt_hostReq (s : State) (f : Fld) : (s.raise f).flt.hostReq = s.flt.hostReq := (congrArg (fun x : State => x.flt.hostReq) (raise_settled s f).shape :)
@[simp] theorem raise_flt_rstLeft (s : State) (f : Fld) : (s.raise f).flt.rstLeft = s.flt.rstLeft := (congrArg (fun x : State => x.flt.rstLeft) (raise_settled s f).shape :)
@[simp] theorem raise_flt_shdLeft (s : State) (f : Fld) : (s.raise f).flt.shdLeft = s.flt.shdLeft := (congrArg (fun x : State => x.flt.shdLeft) (raise_settled s f).shape :)
@[simp] theorem raise_flt_lineBad (s : State) (f : Fld) : (s.raise f).flt.lineBad = s.flt.lineBad := (congrArg (fun x : State => x.flt.lineBad) (raise_settled s f).shape :)
@[simp] theorem raise_flt_missInv (s : State) (f : Fld) : (s.raise f).flt.missInv = s.flt.missInv := (congrArg (fun x : State => x.flt.missInv) (raise_settled s f).shape :)
@[simp] theorem raise_flt_kept (s : State) (f : Fld) : (s.raise f).flt.kept = s.flt.kept := (congrArg (fun x : State => x.flt.kept) (raise_settled s f).shape :)

/-! ### raiseIf -/

@[simp] theorem raiseIf_pending (s : State) (c : Bool) (f : Fld) : (s.raiseIf c f).pending = s.pending := (congrArg State.pending (raiseIf_settled s c f).shape :)
@[simp] theorem raiseIf_free (s : State) (c : Bool) (f : Fld) : (s.raiseIf c f).free = s.free := (congrArg State.free (raiseIf_settled s c f).shape :)
@[simp] theorem raiseIf_inForce (s : State) (c : Bool) (f : Fld) : (s.raiseIf c f).inForce = s.inForce := (congrArg State.inForce (raiseIf_settled s c f).shape :)
@[simp] theorem raiseIf_upset (s : State) (c : Bool) (f : Fld) : (s.raiseIf c f).upset = s.upset := (congrArg State.upset (raiseIf_settled s c f).shape :)
@[simp] theorem raiseIf_wonce (s : State) (c : Bool) (f : Fld) : (s.raiseIf c f).wonce = s.wonce := (congrArg State.wonce (raiseIf_settled s c f).shape :)
@[simp] theorem raiseIf_cfg (s : State) (c : Bool) (f : Fld) : (s.raiseIf c f).cfg = s.cfg := (congrArg State.cfg (raiseIf_settled s c f).shape :)
@[simp] theorem raiseIf_applied (s : State) (c : Bool) (f : Fld) : (s.raiseIf c f).applied = s.applied := (congrArg State.applied (raiseIf_settled s c f).shape :)
@[simp] theorem raiseIf_coarse (s : State) (c : Bool) (f : Fld) : (s.raiseIf c f).coarse = s.coarse := (congrArg State.coarse (raiseIf_settled s c f).shape :)
@[simp] theorem raiseIf_tick (s : State) (c : Bool) (f : Fld) : (s.raiseIf c f).tick = s.tick := (congrArg State.tick (raiseIf_settled s c f).shape :)
@[simp] theorem raiseIf_target (s : State) (c : Bool) (f : Fld) : (s.raiseIf c f).target = s.target := (congrArg State.target (raiseIf_settled s c f).shape :)
@[simp] theorem raiseIf_bound (s : State) (c : Bool) (f : Fld) : (s.raiseIf c f).bound = s.bound := (congrArg State.bound (raiseIf_settled s c f).shape :)
@[simp] theorem raiseIf_stepped (s : State) (c : Bool) (f : Fld) : (s.raiseIf c f).stepped = s.stepped := (congrArg State.stepped (raiseIf_settled s c f).shape :)
@[simp] theorem raiseIf_realigned (s : State) (c : Bool) (f : Fld) : (s.raiseIf c f).realigned = s.realigned := (congrArg State.realigned (raiseIf_settled s c f).shape :)
@[simp] theorem raiseIf_sys (s : State) (c : Bool) (f : Fld) : (s.raiseIf c f).sys = s.sys := (congrArg State.sys (raiseIf_settled s c f).shape :)
@[simp] theorem raiseIf_hif (s : State) (c : Bool) (f : Fld) : (s.raiseIf c f).hif = s.hif := (congrArg State.hif (raiseIf_settled s c f).shape :)
@[simp] theorem raiseIf_gld (s : State) (c : Bool) (f : Fld) : (s.raiseIf c f).gld = s.gld := (congrArg State.gld (raiseIf_settled s c f).shape :)
@[simp] theorem raiseIf_otp (s : State) (c : Bool) (f : Fld) : (s.raiseIf c f).otp = s.otp := (congrArg State.otp (raiseIf_settled s c f).shape :)
@[simp] theorem raiseIf_refs (s : State) (c : Bool) (f : Fld) : (s.raiseIf c f).refs = s.refs := (congrArg State.refs (raiseIf_settled s c f).shape :)
@[simp] theorem raiseIf_lanes (s : State) (c : Bool) (f : Fld) : (s.raiseIf c f).lanes = s.lanes := (congrArg State.lanes (raiseIf_settled s c f).shape :)
@[simp] theorem raiseIf_bankQ (s : State) (c : Bool) (f : Fld) : (s.raiseIf c f).bankQ = s.bankQ := (congrArg State.bankQ (raiseIf_settled s c f).shape :)
@[simp] theorem raiseIf_bankTurn (s : State) (c : Bool) (f : Fld) : (s.raiseIf c f).bankTurn = s.bankTurn := (congrArg State.bankTurn (raiseIf_settled s c f).shape :)
@[simp] theorem raiseIf_evtIn (s : State) (c : Bool) (f : Fld) : (s.raiseIf c f).evtIn = s.evtIn := (congrArg State.evtIn (raiseIf_settled s c f).shape :)
@[simp] theorem raiseIf_echoIn (s : State) (c : Bool) (f : Fld) : (s.raiseIf c f).echoIn = s.echoIn := (congrArg State.echoIn (raiseIf_settled s c f).shape :)
@[simp] theorem raiseIf_cask (s : State) (c : Bool) (f : Fld) : (s.raiseIf c f).cask = s.cask := (congrArg State.cask (raiseIf_settled s c f).shape :)
@[simp] theorem raiseIf_csk (s : State) (c : Bool) (f : Fld) : (s.raiseIf c f).csk = s.csk := (congrArg State.csk (raiseIf_settled s c f).shape :)
@[simp] theorem raiseIf_syn (s : State) (c : Bool) (f : Fld) : (s.raiseIf c f).syn = s.syn := (congrArg State.syn (raiseIf_settled s c f).shape :)
@[simp] theorem raiseIf_eth (s : State) (c : Bool) (f : Fld) : (s.raiseIf c f).eth = s.eth := (congrArg State.eth (raiseIf_settled s c f).shape :)
@[simp] theorem raiseIf_ptp (s : State) (c : Bool) (f : Fld) : (s.raiseIf c f).ptp = s.ptp := (congrArg State.ptp (raiseIf_settled s c f).shape :)
@[simp] theorem raiseIf_cjl (s : State) (c : Bool) (f : Fld) : (s.raiseIf c f).cjl = s.cjl := (congrArg State.cjl (raiseIf_settled s c f).shape :)
@[simp] theorem raiseIf_tns (s : State) (c : Bool) (f : Fld) : (s.raiseIf c f).tns = s.tns := (congrArg State.tns (raiseIf_settled s c f).shape :)
@[simp] theorem raiseIf_wire (s : State) (c : Bool) (f : Fld) : (s.raiseIf c f).wire = s.wire := (congrArg State.wire (raiseIf_settled s c f).shape :)
@[simp] theorem raiseIf_scales (s : State) (c : Bool) (f : Fld) : (s.raiseIf c f).scales = s.scales := (congrArg State.scales (raiseIf_settled s c f).shape :)
@[simp] theorem raiseIf_txq (s : State) (c : Bool) (f : Fld) : (s.raiseIf c f).txq = s.txq := (congrArg State.txq (raiseIf_settled s c f).shape :)
@[simp] theorem raiseIf_txHeld (s : State) (c : Bool) (f : Fld) : (s.raiseIf c f).txHeld = s.txHeld := (congrArg State.txHeld (raiseIf_settled s c f).shape :)
@[simp] theorem raiseIf_evtFrom (s : State) (c : Bool) (f : Fld) : (s.raiseIf c f).evtFrom = s.evtFrom := (congrArg State.evtFrom (raiseIf_settled s c f).shape :)
@[simp] theorem raiseIf_deferd (s : State) (c : Bool) (f : Fld) : (s.raiseIf c f).deferd = s.deferd := (congrArg State.deferd (raiseIf_settled s c f).shape :)
@[simp] theorem raiseIf_schedEnd (s : State) (c : Bool) (f : Fld) : (s.raiseIf c f).schedEnd = s.schedEnd := (congrArg State.schedEnd (raiseIf_settled s c f).shape :)
@[simp] theorem raiseIf_subjSlots (s : State) (c : Bool) (f : Fld) : (s.raiseIf c f).subjSlots = s.subjSlots := (congrArg State.subjSlots (raiseIf_settled s c f).shape :)
@[simp] theorem raiseIf_ind_qul (s : State) (c : Bool) (f : Fld) : (s.raiseIf c f).ind.qul = s.ind.qul := (congrArg (fun x : State => x.ind.qul) (raiseIf_settled s c f).shape :)
@[simp] theorem raiseIf_ind_chan (s : State) (c : Bool) (f : Fld) : (s.raiseIf c f).ind.chan = s.ind.chan := (congrArg (fun x : State => x.ind.chan) (raiseIf_settled s c f).shape :)
@[simp] theorem raiseIf_ind_ts (s : State) (c : Bool) (f : Fld) : (s.raiseIf c f).ind.ts = s.ind.ts := (congrArg (fun x : State => x.ind.ts) (raiseIf_settled s c f).shape :)
@[simp] theorem raiseIf_ind_evs (s : State) (c : Bool) (f : Fld) : (s.raiseIf c f).ind.evs = s.ind.evs := (congrArg (fun x : State => x.ind.evs) (raiseIf_settled s c f).shape :)
@[simp] theorem raiseIf_pend_qul (s : State) (c : Bool) (f : Fld) : (s.raiseIf c f).pend.qul = s.pend.qul := (congrArg (fun x : State => x.pend.qul) (raiseIf_settled s c f).shape :)
@[simp] theorem raiseIf_pend_chan (s : State) (c : Bool) (f : Fld) : (s.raiseIf c f).pend.chan = s.pend.chan := (congrArg (fun x : State => x.pend.chan) (raiseIf_settled s c f).shape :)
@[simp] theorem raiseIf_pend_ts (s : State) (c : Bool) (f : Fld) : (s.raiseIf c f).pend.ts = s.pend.ts := (congrArg (fun x : State => x.pend.ts) (raiseIf_settled s c f).shape :)
@[simp] theorem raiseIf_pend_evs (s : State) (c : Bool) (f : Fld) : (s.raiseIf c f).pend.evs = s.pend.evs := (congrArg (fun x : State => x.pend.evs) (raiseIf_settled s c f).shape :)
@[simp] theorem raiseIf_flt_hostReq (s : State) (c : Bool) (f : Fld) : (s.raiseIf c f).flt.hostReq = s.flt.hostReq := (congrArg (fun x : State => x.flt.hostReq) (raiseIf_settled s c f).shape :)
@[simp] theorem raiseIf_flt_rstLeft (s : State) (c : Bool) (f : Fld) : (s.raiseIf c f).flt.rstLeft = s.flt.rstLeft := (congrArg (fun x : State => x.flt.rstLeft) (raiseIf_settled s c f).shape :)
@[simp] theorem raiseIf_flt_shdLeft (s : State) (c : Bool) (f : Fld) : (s.raiseIf c f).flt.shdLeft = s.flt.shdLeft := (congrArg (fun x : State => x.flt.shdLeft) (raiseIf_settled s c f).shape :)
@[simp] theorem raiseIf_flt_lineBad (s : State) (c : Bool) (f : Fld) : (s.raiseIf c f).flt.lineBad = s.flt.lineBad := (congrArg (fun x : State => x.flt.lineBad) (raiseIf_settled s c f).shape :)
@[simp] theorem raiseIf_flt_missInv (s : State) (c : Bool) (f : Fld) : (s.raiseIf c f).flt.missInv = s.flt.missInv := (congrArg (fun x : State => x.flt.missInv) (raiseIf_settled s c f).shape :)
@[simp] theorem raiseIf_flt_kept (s : State) (c : Bool) (f : Fld) : (s.raiseIf c f).flt.kept = s.flt.kept := (congrArg (fun x : State => x.flt.kept) (raiseIf_settled s c f).shape :)

/-! ### eventOnly -/

@[simp] theorem eventOnly_pending (s : State) (src : Nat) : (s.eventOnly src).pending = s.pending := (congrArg State.pending (eventOnly_settled s src).shape :)
@[simp] theorem eventOnly_free (s : State) (src : Nat) : (s.eventOnly src).free = s.free := (congrArg State.free (eventOnly_settled s src).shape :)
@[simp] theorem eventOnly_inForce (s : State) (src : Nat) : (s.eventOnly src).inForce = s.inForce := (congrArg State.inForce (eventOnly_settled s src).shape :)
@[simp] theorem eventOnly_upset (s : State) (src : Nat) : (s.eventOnly src).upset = s.upset := (congrArg State.upset (eventOnly_settled s src).shape :)
@[simp] theorem eventOnly_wonce (s : State) (src : Nat) : (s.eventOnly src).wonce = s.wonce := (congrArg State.wonce (eventOnly_settled s src).shape :)
@[simp] theorem eventOnly_cfg (s : State) (src : Nat) : (s.eventOnly src).cfg = s.cfg := (congrArg State.cfg (eventOnly_settled s src).shape :)
@[simp] theorem eventOnly_applied (s : State) (src : Nat) : (s.eventOnly src).applied = s.applied := (congrArg State.applied (eventOnly_settled s src).shape :)
@[simp] theorem eventOnly_coarse (s : State) (src : Nat) : (s.eventOnly src).coarse = s.coarse := (congrArg State.coarse (eventOnly_settled s src).shape :)
@[simp] theorem eventOnly_tick (s : State) (src : Nat) : (s.eventOnly src).tick = s.tick := (congrArg State.tick (eventOnly_settled s src).shape :)
@[simp] theorem eventOnly_target (s : State) (src : Nat) : (s.eventOnly src).target = s.target := (congrArg State.target (eventOnly_settled s src).shape :)
@[simp] theorem eventOnly_bound (s : State) (src : Nat) : (s.eventOnly src).bound = s.bound := (congrArg State.bound (eventOnly_settled s src).shape :)
@[simp] theorem eventOnly_stepped (s : State) (src : Nat) : (s.eventOnly src).stepped = s.stepped := (congrArg State.stepped (eventOnly_settled s src).shape :)
@[simp] theorem eventOnly_realigned (s : State) (src : Nat) : (s.eventOnly src).realigned = s.realigned := (congrArg State.realigned (eventOnly_settled s src).shape :)
@[simp] theorem eventOnly_sys (s : State) (src : Nat) : (s.eventOnly src).sys = s.sys := (congrArg State.sys (eventOnly_settled s src).shape :)
@[simp] theorem eventOnly_hif (s : State) (src : Nat) : (s.eventOnly src).hif = s.hif := (congrArg State.hif (eventOnly_settled s src).shape :)
@[simp] theorem eventOnly_gld (s : State) (src : Nat) : (s.eventOnly src).gld = s.gld := (congrArg State.gld (eventOnly_settled s src).shape :)
@[simp] theorem eventOnly_otp (s : State) (src : Nat) : (s.eventOnly src).otp = s.otp := (congrArg State.otp (eventOnly_settled s src).shape :)
@[simp] theorem eventOnly_refs (s : State) (src : Nat) : (s.eventOnly src).refs = s.refs := (congrArg State.refs (eventOnly_settled s src).shape :)
@[simp] theorem eventOnly_lanes (s : State) (src : Nat) : (s.eventOnly src).lanes = s.lanes := (congrArg State.lanes (eventOnly_settled s src).shape :)
@[simp] theorem eventOnly_bankQ (s : State) (src : Nat) : (s.eventOnly src).bankQ = s.bankQ := (congrArg State.bankQ (eventOnly_settled s src).shape :)
@[simp] theorem eventOnly_bankTurn (s : State) (src : Nat) : (s.eventOnly src).bankTurn = s.bankTurn := (congrArg State.bankTurn (eventOnly_settled s src).shape :)
@[simp] theorem eventOnly_evtIn (s : State) (src : Nat) : (s.eventOnly src).evtIn = s.evtIn := (congrArg State.evtIn (eventOnly_settled s src).shape :)
@[simp] theorem eventOnly_echoIn (s : State) (src : Nat) : (s.eventOnly src).echoIn = s.echoIn := (congrArg State.echoIn (eventOnly_settled s src).shape :)
@[simp] theorem eventOnly_cask (s : State) (src : Nat) : (s.eventOnly src).cask = s.cask := (congrArg State.cask (eventOnly_settled s src).shape :)
@[simp] theorem eventOnly_csk (s : State) (src : Nat) : (s.eventOnly src).csk = s.csk := (congrArg State.csk (eventOnly_settled s src).shape :)
@[simp] theorem eventOnly_syn (s : State) (src : Nat) : (s.eventOnly src).syn = s.syn := (congrArg State.syn (eventOnly_settled s src).shape :)
@[simp] theorem eventOnly_eth (s : State) (src : Nat) : (s.eventOnly src).eth = s.eth := (congrArg State.eth (eventOnly_settled s src).shape :)
@[simp] theorem eventOnly_ptp (s : State) (src : Nat) : (s.eventOnly src).ptp = s.ptp := (congrArg State.ptp (eventOnly_settled s src).shape :)
@[simp] theorem eventOnly_cjl (s : State) (src : Nat) : (s.eventOnly src).cjl = s.cjl := (congrArg State.cjl (eventOnly_settled s src).shape :)
@[simp] theorem eventOnly_tns (s : State) (src : Nat) : (s.eventOnly src).tns = s.tns := (congrArg State.tns (eventOnly_settled s src).shape :)
@[simp] theorem eventOnly_wire (s : State) (src : Nat) : (s.eventOnly src).wire = s.wire := (congrArg State.wire (eventOnly_settled s src).shape :)
@[simp] theorem eventOnly_scales (s : State) (src : Nat) : (s.eventOnly src).scales = s.scales := (congrArg State.scales (eventOnly_settled s src).shape :)
@[simp] theorem eventOnly_txq (s : State) (src : Nat) : (s.eventOnly src).txq = s.txq := (congrArg State.txq (eventOnly_settled s src).shape :)
@[simp] theorem eventOnly_txHeld (s : State) (src : Nat) : (s.eventOnly src).txHeld = s.txHeld := (congrArg State.txHeld (eventOnly_settled s src).shape :)
@[simp] theorem eventOnly_evtFrom (s : State) (src : Nat) : (s.eventOnly src).evtFrom = s.evtFrom := (congrArg State.evtFrom (eventOnly_settled s src).shape :)
@[simp] theorem eventOnly_deferd (s : State) (src : Nat) : (s.eventOnly src).deferd = s.deferd := (congrArg State.deferd (eventOnly_settled s src).shape :)
@[simp] theorem eventOnly_schedEnd (s : State) (src : Nat) : (s.eventOnly src).schedEnd = s.schedEnd := (congrArg State.schedEnd (eventOnly_settled s src).shape :)
@[simp] theorem eventOnly_subjSlots (s : State) (src : Nat) : (s.eventOnly src).subjSlots = s.subjSlots := (congrArg State.subjSlots (eventOnly_settled s src).shape :)
@[simp] theorem eventOnly_ind_qul (s : State) (src : Nat) : (s.eventOnly src).ind.qul = s.ind.qul := (congrArg (fun x : State => x.ind.qul) (eventOnly_settled s src).shape :)
@[simp] theorem eventOnly_ind_chan (s : State) (src : Nat) : (s.eventOnly src).ind.chan = s.ind.chan := (congrArg (fun x : State => x.ind.chan) (eventOnly_settled s src).shape :)
@[simp] theorem eventOnly_ind_ts (s : State) (src : Nat) : (s.eventOnly src).ind.ts = s.ind.ts := (congrArg (fun x : State => x.ind.ts) (eventOnly_settled s src).shape :)
@[simp] theorem eventOnly_ind_evs (s : State) (src : Nat) : (s.eventOnly src).ind.evs = s.ind.evs := (congrArg (fun x : State => x.ind.evs) (eventOnly_settled s src).shape :)
@[simp] theorem eventOnly_pend_qul (s : State) (src : Nat) : (s.eventOnly src).pend.qul = s.pend.qul := (congrArg (fun x : State => x.pend.qul) (eventOnly_settled s src).shape :)
@[simp] theorem eventOnly_pend_chan (s : State) (src : Nat) : (s.eventOnly src).pend.chan = s.pend.chan := (congrArg (fun x : State => x.pend.chan) (eventOnly_settled s src).shape :)
@[simp] theorem eventOnly_pend_ts (s : State) (src : Nat) : (s.eventOnly src).pend.ts = s.pend.ts := (congrArg (fun x : State => x.pend.ts) (eventOnly_settled s src).shape :)
@[simp] theorem eventOnly_pend_evs (s : State) (src : Nat) : (s.eventOnly src).pend.evs = s.pend.evs := (congrArg (fun x : State => x.pend.evs) (eventOnly_settled s src).shape :)
@[simp] theorem eventOnly_flt_hostReq (s : State) (src : Nat) : (s.eventOnly src).flt.hostReq = s.flt.hostReq := (congrArg (fun x : State => x.flt.hostReq) (eventOnly_settled s src).shape :)
@[simp] theorem eventOnly_flt_rstLeft (s : State) (src : Nat) : (s.eventOnly src).flt.rstLeft = s.flt.rstLeft := (congrArg (fun x : State => x.flt.rstLeft) (eventOnly_settled s src).shape :)
@[simp] theorem eventOnly_flt_shdLeft (s : State) (src : Nat) : (s.eventOnly src).flt.shdLeft = s.flt.shdLeft := (congrArg (fun x : State => x.flt.shdLeft) (eventOnly_settled s src).shape :)
@[simp] theorem eventOnly_flt_lineBad (s : State) (src : Nat) : (s.eventOnly src).flt.lineBad = s.flt.lineBad := (congrArg (fun x : State => x.flt.lineBad) (eventOnly_settled s src).shape :)
@[simp] theorem eventOnly_flt_missInv (s : State) (src : Nat) : (s.eventOnly src).flt.missInv = s.flt.missInv := (congrArg (fun x : State => x.flt.missInv) (eventOnly_settled s src).shape :)
@[simp] theorem eventOnly_flt_kept (s : State) (src : Nat) : (s.eventOnly src).flt.kept = s.flt.kept := (congrArg (fun x : State => x.flt.kept) (eventOnly_settled s src).shape :)

theorem settle_nil_settled (s : State) (n : Nat) : Settled [] s (settle n [] s) := settle_settled n [] (Settled.refl _ _) (by simp)

/-! ### settle_nil -/

@[simp] theorem settle_nil_pending (s : State) (n : Nat) : (settle n [] s).pending = s.pending := (congrArg State.pending (settle_nil_settled s n).shape :)
@[simp] theorem settle_nil_free (s : State) (n : Nat) : (settle n [] s).free = s.free := (congrArg State.free (settle_nil_settled s n).shape :)
@[simp] theorem settle_nil_inForce (s : State) (n : Nat) : (settle n [] s).inForce = s.inForce := (congrArg State.inForce (settle_nil_settled s n).shape :)
@[simp] theorem settle_nil_upset (s : State) (n : Nat) : (settle n [] s).upset = s.upset := (congrArg State.upset (settle_nil_settled s n).shape :)
@[simp] theorem settle_nil_wonce (s : State) (n : Nat) : (settle n [] s).wonce = s.wonce := (congrArg State.wonce (settle_nil_settled s n).shape :)
@[simp] theorem settle_nil_cfg (s : State) (n : Nat) : (settle n [] s).cfg = s.cfg := (congrArg State.cfg (settle_nil_settled s n).shape :)
@[simp] theorem settle_nil_applied (s : State) (n : Nat) : (settle n [] s).applied = s.applied := (congrArg State.applied (settle_nil_settled s n).shape :)
@[simp] theorem settle_nil_coarse (s : State) (n : Nat) : (settle n [] s).coarse = s.coarse := (congrArg State.coarse (settle_nil_settled s n).shape :)
@[simp] theorem settle_nil_tick (s : State) (n : Nat) : (settle n [] s).tick = s.tick := (congrArg State.tick (settle_nil_settled s n).shape :)
@[simp] theorem settle_nil_target (s : State) (n : Nat) : (settle n [] s).target = s.target := (congrArg State.target (settle_nil_settled s n).shape :)
@[simp] theorem settle_nil_bound (s : State) (n : Nat) : (settle n [] s).bound = s.bound := (congrArg State.bound (settle_nil_settled s n).shape :)
@[simp] theorem settle_nil_stepped (s : State) (n : Nat) : (settle n [] s).stepped = s.stepped := (congrArg State.stepped (settle_nil_settled s n).shape :)
@[simp] theorem settle_nil_realigned (s : State) (n : Nat) : (settle n [] s).realigned = s.realigned := (congrArg State.realigned (settle_nil_settled s n).shape :)
@[simp] theorem settle_nil_sys (s : State) (n : Nat) : (settle n [] s).sys = s.sys := (congrArg State.sys (settle_nil_settled s n).shape :)
@[simp] theorem settle_nil_hif (s : State) (n : Nat) : (settle n [] s).hif = s.hif := (congrArg State.hif (settle_nil_settled s n).shape :)
@[simp] theorem settle_nil_gld (s : State) (n : Nat) : (settle n [] s).gld = s.gld := (congrArg State.gld (settle_nil_settled s n).shape :)
@[simp] theorem settle_nil_otp (s : State) (n : Nat) : (settle n [] s).otp = s.otp := (congrArg State.otp (settle_nil_settled s n).shape :)
@[simp] theorem settle_nil_refs (s : State) (n : Nat) : (settle n [] s).refs = s.refs := (congrArg State.refs (settle_nil_settled s n).shape :)
@[simp] theorem settle_nil_lanes (s : State) (n : Nat) : (settle n [] s).lanes = s.lanes := (congrArg State.lanes (settle_nil_settled s n).shape :)
@[simp] theorem settle_nil_bankQ (s : State) (n : Nat) : (settle n [] s).bankQ = s.bankQ := (congrArg State.bankQ (settle_nil_settled s n).shape :)
@[simp] theorem settle_nil_bankTurn (s : State) (n : Nat) : (settle n [] s).bankTurn = s.bankTurn := (congrArg State.bankTurn (settle_nil_settled s n).shape :)
@[simp] theorem settle_nil_evtIn (s : State) (n : Nat) : (settle n [] s).evtIn = s.evtIn := (congrArg State.evtIn (settle_nil_settled s n).shape :)
@[simp] theorem settle_nil_echoIn (s : State) (n : Nat) : (settle n [] s).echoIn = s.echoIn := (congrArg State.echoIn (settle_nil_settled s n).shape :)
@[simp] theorem settle_nil_cask (s : State) (n : Nat) : (settle n [] s).cask = s.cask := (congrArg State.cask (settle_nil_settled s n).shape :)
@[simp] theorem settle_nil_csk (s : State) (n : Nat) : (settle n [] s).csk = s.csk := (congrArg State.csk (settle_nil_settled s n).shape :)
@[simp] theorem settle_nil_syn (s : State) (n : Nat) : (settle n [] s).syn = s.syn := (congrArg State.syn (settle_nil_settled s n).shape :)
@[simp] theorem settle_nil_eth (s : State) (n : Nat) : (settle n [] s).eth = s.eth := (congrArg State.eth (settle_nil_settled s n).shape :)
@[simp] theorem settle_nil_ptp (s : State) (n : Nat) : (settle n [] s).ptp = s.ptp := (congrArg State.ptp (settle_nil_settled s n).shape :)
@[simp] theorem settle_nil_cjl (s : State) (n : Nat) : (settle n [] s).cjl = s.cjl := (congrArg State.cjl (settle_nil_settled s n).shape :)
@[simp] theorem settle_nil_tns (s : State) (n : Nat) : (settle n [] s).tns = s.tns := (congrArg State.tns (settle_nil_settled s n).shape :)
@[simp] theorem settle_nil_wire (s : State) (n : Nat) : (settle n [] s).wire = s.wire := (congrArg State.wire (settle_nil_settled s n).shape :)
@[simp] theorem settle_nil_scales (s : State) (n : Nat) : (settle n [] s).scales = s.scales := (congrArg State.scales (settle_nil_settled s n).shape :)
@[simp] theorem settle_nil_txq (s : State) (n : Nat) : (settle n [] s).txq = s.txq := (congrArg State.txq (settle_nil_settled s n).shape :)
@[simp] theorem settle_nil_txHeld (s : State) (n : Nat) : (settle n [] s).txHeld = s.txHeld := (congrArg State.txHeld (settle_nil_settled s n).shape :)
@[simp] theorem settle_nil_evtFrom (s : State) (n : Nat) : (settle n [] s).evtFrom = s.evtFrom := (congrArg State.evtFrom (settle_nil_settled s n).shape :)
@[simp] theorem settle_nil_deferd (s : State) (n : Nat) : (settle n [] s).deferd = s.deferd := (congrArg State.deferd (settle_nil_settled s n).shape :)
@[simp] theorem settle_nil_schedEnd (s : State) (n : Nat) : (settle n [] s).schedEnd = s.schedEnd := (congrArg State.schedEnd (settle_nil_settled s n).shape :)
@[simp] theorem settle_nil_subjSlots (s : State) (n : Nat) : (settle n [] s).subjSlots = s.subjSlots := (congrArg State.subjSlots (settle_nil_settled s n).shape :)
@[simp] theorem settle_nil_ind_qul (s : State) (n : Nat) : (settle n [] s).ind.qul = s.ind.qul := (congrArg (fun x : State => x.ind.qul) (settle_nil_settled s n).shape :)
@[simp] theorem settle_nil_ind_chan (s : State) (n : Nat) : (settle n [] s).ind.chan = s.ind.chan := (congrArg (fun x : State => x.ind.chan) (settle_nil_settled s n).shape :)
@[simp] theorem settle_nil_ind_ts (s : State) (n : Nat) : (settle n [] s).ind.ts = s.ind.ts := (congrArg (fun x : State => x.ind.ts) (settle_nil_settled s n).shape :)
@[simp] theorem settle_nil_ind_evs (s : State) (n : Nat) : (settle n [] s).ind.evs = s.ind.evs := (congrArg (fun x : State => x.ind.evs) (settle_nil_settled s n).shape :)
@[simp] theorem settle_nil_pend_qul (s : State) (n : Nat) : (settle n [] s).pend.qul = s.pend.qul := (congrArg (fun x : State => x.pend.qul) (settle_nil_settled s n).shape :)
@[simp] theorem settle_nil_pend_chan (s : State) (n : Nat) : (settle n [] s).pend.chan = s.pend.chan := (congrArg (fun x : State => x.pend.chan) (settle_nil_settled s n).shape :)
@[simp] theorem settle_nil_pend_ts (s : State) (n : Nat) : (settle n [] s).pend.ts = s.pend.ts := (congrArg (fun x : State => x.pend.ts) (settle_nil_settled s n).shape :)
@[simp] theorem settle_nil_pend_evs (s : State) (n : Nat) : (settle n [] s).pend.evs = s.pend.evs := (congrArg (fun x : State => x.pend.evs) (settle_nil_settled s n).shape :)
@[simp] theorem settle_nil_flt_hostReq (s : State) (n : Nat) : (settle n [] s).flt.hostReq = s.flt.hostReq := (congrArg (fun x : State => x.flt.hostReq) (settle_nil_settled s n).shape :)
@[simp] theorem settle_nil_flt_rstLeft (s : State) (n : Nat) : (settle n [] s).flt.rstLeft = s.flt.rstLeft := (congrArg (fun x : State => x.flt.rstLeft) (settle_nil_settled s n).shape :)
@[simp] theorem settle_nil_flt_shdLeft (s : State) (n : Nat) : (settle n [] s).flt.shdLeft = s.flt.shdLeft := (congrArg (fun x : State => x.flt.shdLeft) (settle_nil_settled s n).shape :)
@[simp] theorem settle_nil_flt_lineBad (s : State) (n : Nat) : (settle n [] s).flt.lineBad = s.flt.lineBad := (congrArg (fun x : State => x.flt.lineBad) (settle_nil_settled s n).shape :)
@[simp] theorem settle_nil_flt_missInv (s : State) (n : Nat) : (settle n [] s).flt.missInv = s.flt.missInv := (congrArg (fun x : State => x.flt.missInv) (settle_nil_settled s n).shape :)
@[simp] theorem settle_nil_flt_kept (s : State) (n : Nat) : (settle n [] s).flt.kept = s.flt.kept := (congrArg (fun x : State => x.flt.kept) (settle_nil_settled s n).shape :)

/-! ### The end of a command -/

@[simp] theorem close_free (s t : State) : (s.close t).free = t.free := settle_nil_free t 64
@[simp] theorem close_inForce (s t : State) : (s.close t).inForce = t.inForce := settle_nil_inForce t 64
@[simp] theorem close_upset (s t : State) : (s.close t).upset = t.upset := settle_nil_upset t 64
@[simp] theorem close_wonce (s t : State) : (s.close t).wonce = t.wonce := settle_nil_wonce t 64
@[simp] theorem close_cfg (s t : State) : (s.close t).cfg = t.cfg := settle_nil_cfg t 64
@[simp] theorem close_applied (s t : State) : (s.close t).applied = t.applied := settle_nil_applied t 64
@[simp] theorem close_coarse (s t : State) : (s.close t).coarse = t.coarse := settle_nil_coarse t 64
@[simp] theorem close_tick (s t : State) : (s.close t).tick = t.tick := settle_nil_tick t 64
@[simp] theorem close_target (s t : State) : (s.close t).target = t.target := settle_nil_target t 64
@[simp] theorem close_bound (s t : State) : (s.close t).bound = t.bound := settle_nil_bound t 64
@[simp] theorem close_stepped (s t : State) : (s.close t).stepped = t.stepped := settle_nil_stepped t 64
@[simp] theorem close_realigned (s t : State) : (s.close t).realigned = t.realigned := settle_nil_realigned t 64
@[simp] theorem close_sys (s t : State) : (s.close t).sys = t.sys := settle_nil_sys t 64
@[simp] theorem close_gld (s t : State) : (s.close t).gld = t.gld := settle_nil_gld t 64
@[simp] theorem close_otp (s t : State) : (s.close t).otp = t.otp := settle_nil_otp t 64
@[simp] theorem close_refs (s t : State) : (s.close t).refs = t.refs := settle_nil_refs t 64
@[simp] theorem close_lanes (s t : State) : (s.close t).lanes = t.lanes := settle_nil_lanes t 64
@[simp] theorem close_bankQ (s t : State) : (s.close t).bankQ = t.bankQ := settle_nil_bankQ t 64
@[simp] theorem close_bankTurn (s t : State) : (s.close t).bankTurn = t.bankTurn := settle_nil_bankTurn t 64
@[simp] theorem close_evtIn (s t : State) : (s.close t).evtIn = t.evtIn := settle_nil_evtIn t 64
@[simp] theorem close_echoIn (s t : State) : (s.close t).echoIn = t.echoIn := settle_nil_echoIn t 64
@[simp] theorem close_cask (s t : State) : (s.close t).cask = t.cask := settle_nil_cask t 64
@[simp] theorem close_csk (s t : State) : (s.close t).csk = t.csk := settle_nil_csk t 64
@[simp] theorem close_syn (s t : State) : (s.close t).syn = t.syn := settle_nil_syn t 64
@[simp] theorem close_eth (s t : State) : (s.close t).eth = t.eth := settle_nil_eth t 64
@[simp] theorem close_ptp (s t : State) : (s.close t).ptp = t.ptp := settle_nil_ptp t 64
@[simp] theorem close_cjl (s t : State) : (s.close t).cjl = t.cjl := settle_nil_cjl t 64
@[simp] theorem close_tns (s t : State) : (s.close t).tns = t.tns := settle_nil_tns t 64
@[simp] theorem close_wire (s t : State) : (s.close t).wire = t.wire := settle_nil_wire t 64
@[simp] theorem close_scales (s t : State) : (s.close t).scales = t.scales := settle_nil_scales t 64
@[simp] theorem close_txq (s t : State) : (s.close t).txq = t.txq := settle_nil_txq t 64
@[simp] theorem close_txHeld (s t : State) : (s.close t).txHeld = t.txHeld := settle_nil_txHeld t 64
@[simp] theorem close_evtFrom (s t : State) : (s.close t).evtFrom = t.evtFrom := settle_nil_evtFrom t 64
@[simp] theorem close_deferd (s t : State) : (s.close t).deferd = t.deferd := settle_nil_deferd t 64
@[simp] theorem close_schedEnd (s t : State) : (s.close t).schedEnd = t.schedEnd := settle_nil_schedEnd t 64
@[simp] theorem close_subjSlots (s t : State) : (s.close t).subjSlots = t.subjSlots := settle_nil_subjSlots t 64
@[simp] theorem close_pending (s t : State) : (s.close t).pending = s.pending := rfl
@[simp] theorem close_ind_qul (s t : State) : (s.close t).ind.qul = t.ind.qul := settle_nil_ind_qul t 64
@[simp] theorem close_ind_chan (s t : State) : (s.close t).ind.chan = t.ind.chan := settle_nil_ind_chan t 64
@[simp] theorem close_ind_ts (s t : State) : (s.close t).ind.ts = t.ind.ts := settle_nil_ind_ts t 64
@[simp] theorem close_ind_evs (s t : State) : (s.close t).ind.evs = t.ind.evs := settle_nil_ind_evs t 64
@[simp] theorem close_pend_qul (s t : State) : (s.close t).pend.qul = t.pend.qul := settle_nil_pend_qul t 64
@[simp] theorem close_pend_chan (s t : State) : (s.close t).pend.chan = t.pend.chan := settle_nil_pend_chan t 64
@[simp] theorem close_pend_ts (s t : State) : (s.close t).pend.ts = t.pend.ts := settle_nil_pend_ts t 64
@[simp] theorem close_pend_evs (s t : State) : (s.close t).pend.evs = t.pend.evs := settle_nil_pend_evs t 64
@[simp] theorem close_flt_hostReq (s t : State) : (s.close t).flt.hostReq = t.flt.hostReq := settle_nil_flt_hostReq t 64
@[simp] theorem close_flt_rstLeft (s t : State) : (s.close t).flt.rstLeft = t.flt.rstLeft := settle_nil_flt_rstLeft t 64
@[simp] theorem close_flt_shdLeft (s t : State) : (s.close t).flt.shdLeft = t.flt.shdLeft := settle_nil_flt_shdLeft t 64
@[simp] theorem close_flt_lineBad (s t : State) : (s.close t).flt.lineBad = t.flt.lineBad := settle_nil_flt_lineBad t 64
@[simp] theorem close_flt_missInv (s t : State) : (s.close t).flt.missInv = t.flt.missInv := settle_nil_flt_missInv t 64
@[simp] theorem close_flt_kept (s t : State) : (s.close t).flt.kept = t.flt.kept := settle_nil_flt_kept t 64
@[simp] theorem close_hif_window (s t : State) : (s.close t).hif.window = t.hif.window := (congrArg Hif.window (settle_nil_hif t 64) :)
@[simp] theorem close_hif_shadow (s t : State) : (s.close t).hif.shadow = t.hif.shadow := (congrArg Hif.shadow (settle_nil_hif t 64) :)
@[simp] theorem close_hif_lastRead (s t : State) : (s.close t).hif.lastRead = t.hif.lastRead := (congrArg Hif.lastRead (settle_nil_hif t 64) :)
@[simp] theorem close_hif_indLast (s t : State) : (s.close t).hif.indLast = t.hif.indLast := (congrArg Hif.indLast (settle_nil_hif t 64) :)
@[simp] theorem close_hif_indBusy (s t : State) : (s.close t).hif.indBusy = t.hif.indBusy := (congrArg Hif.indBusy (settle_nil_hif t 64) :)
@[simp] theorem close_hif_indBy (s t : State) : (s.close t).hif.indBy = t.hif.indBy := (congrArg Hif.indBy (settle_nil_hif t 64) :)
@[simp] theorem close_hif_stageBy (s t : State) : (s.close t).hif.stageBy = t.hif.stageBy := (congrArg Hif.stageBy (settle_nil_hif t 64) :)
@[simp] theorem close_hif_resp (s t : State) : (s.close t).hif.resp = t.hif.resp := (congrArg Hif.resp (settle_nil_hif t 64) :)
@[simp] theorem close_hif_status (s t : State) : (s.close t).hif.status = t.hif.status := (congrArg Hif.status (settle_nil_hif t 64) :)
@[simp] theorem close_hif_ur (s t : State) : (s.close t).hif.ur = t.hif.ur := (congrArg Hif.ur (settle_nil_hif t 64) :)
@[simp] theorem close_hif_vecMask (s t : State) : (s.close t).hif.vecMask = t.hif.vecMask := (congrArg Hif.vecMask (settle_nil_hif t 64) :)
@[simp] theorem close_hif_item (s t : State) : (s.close t).hif.item = t.hif.item := (congrArg Hif.item (settle_nil_hif t 64) :)
@[simp] theorem close_hif_running (s t : State) : (s.close t).hif.running = t.hif.running := (congrArg Hif.running (settle_nil_hif t 64) :)
@[simp] theorem close_hif_held (s t : State) : (s.close t).hif.held = t.hif.held := (congrArg Hif.held (settle_nil_hif t 64) :)
@[simp] theorem close_hif_perst (s t : State) : (s.close t).hif.perst = t.hif.perst := (congrArg Hif.perst (settle_nil_hif t 64) :)

@[simp] theorem begin_hif_window (s : State) : s.begin.hif.window = s.hif.window := rfl
@[simp] theorem begin_hif_shadow (s : State) : s.begin.hif.shadow = s.hif.shadow := rfl
@[simp] theorem begin_hif_lastRead (s : State) : s.begin.hif.lastRead = s.hif.lastRead := rfl
@[simp] theorem begin_hif_indLast (s : State) : s.begin.hif.indLast = s.hif.indLast := rfl
@[simp] theorem begin_hif_indBusy (s : State) : s.begin.hif.indBusy = s.hif.indBusy := rfl
@[simp] theorem begin_hif_indBy (s : State) : s.begin.hif.indBy = s.hif.indBy := rfl
@[simp] theorem begin_hif_stageBy (s : State) : s.begin.hif.stageBy = s.hif.stageBy := rfl
@[simp] theorem begin_hif_vecMask (s : State) : s.begin.hif.vecMask = s.hif.vecMask := rfl
@[simp] theorem begin_hif_item (s : State) : s.begin.hif.item = s.hif.item := rfl
@[simp] theorem begin_hif_running (s : State) : s.begin.hif.running = s.hif.running := rfl
@[simp] theorem begin_hif_held (s : State) : s.begin.hif.held = s.hif.held := rfl
@[simp] theorem begin_hif_perst (s : State) : s.begin.hif.perst = s.hif.perst := rfl
@[simp] theorem begin_flt_hostReq (s : State) : s.begin.flt.hostReq = s.flt.hostReq := rfl
@[simp] theorem begin_flt_rstLeft (s : State) : s.begin.flt.rstLeft = s.flt.rstLeft := rfl
@[simp] theorem begin_flt_shdLeft (s : State) : s.begin.flt.shdLeft = s.flt.shdLeft := rfl
@[simp] theorem begin_flt_lineBad (s : State) : s.begin.flt.lineBad = s.flt.lineBad := rfl
@[simp] theorem begin_flt_missInv (s : State) : s.begin.flt.missInv = s.flt.missInv := rfl
@[simp] theorem begin_flt_kept (s : State) : s.begin.flt.kept = s.flt.kept := rfl
@[simp] theorem begin_flt_buckets (s : State) : s.begin.flt.buckets = s.flt.buckets := rfl
@[simp] theorem begin_flt_live (s : State) : s.begin.flt.live = s.flt.live := rfl
@[simp] theorem begin_flt_rstReq (s : State) : s.begin.flt.rstReq = s.flt.rstReq := rfl
@[simp] theorem begin_flt_holders (s : State) : s.begin.flt.holders = s.flt.holders := rfl

/-! ### Register fields -/

theorem raise_get_other (s : State) {f g : Fld} (hg : gravityKey g.key = false) (h : g.key ≠ f.key) : (s.raise f).get g = s.get g :=
  (raise_settled s f).get g hg (by simpa using h)

theorem raiseIf_get_other (s : State) (c : Bool) {f g : Fld} (hg : gravityKey g.key = false) (h : g.key ≠ f.key) :
    (s.raiseIf c f).get g = s.get g := (raiseIf_settled s c f).get g hg (by simpa using h)

theorem raiseAll_get_other (s : State) {fs : List Fld} {g : Fld} (hg : gravityKey g.key = false) (h : ∀ f ∈ fs, g.key ≠ f.key) :
    (s.raiseAll fs).get g = s.get g := (raiseAll_settled s fs).get g hg h

theorem raise_pget_other (s : State) {f g : Fld} (hg : gravityKey g.key = false) (h : g.key ≠ f.key) : (s.raise f).pget g = s.pget g :=
  (raise_settled s f).pget g hg (by simpa using h)

@[simp] theorem raiseIf_true (s : State) (f : Fld) : s.raiseIf true f = s.raise f := rfl
@[simp] theorem raiseIf_false (s : State) (f : Fld) : s.raiseIf false f = s := rfl

@[simp] theorem begin_get (s : State) (g : Fld) : s.begin.get g = s.get g := rfl
@[simp] theorem begin_pget (s : State) (g : Fld) : s.begin.pget g = s.pget g := rfl
@[simp] theorem begin_inF (s : State) (g : Fld) : s.begin.inF g = s.inF g := rfl
@[simp] theorem begin_bit (s : State) (g : Fld) : s.begin.bit g = s.bit g := rfl
@[simp] theorem begin_busUp (s : State) : s.begin.busUp = s.busUp := rfl

theorem close_get (s t : State) {g : Fld} (hg : gravityKey g.key = false) : (s.close t).get g = t.get g :=
  (settle_nil_settled t 64).get g hg (by simp)

theorem close_pget (s t : State) {g : Fld} (hg : gravityKey g.key = false) : (s.close t).pget g = t.pget g :=
  (settle_nil_settled t 64).pget g hg (by simp)

theorem close_bit (s t : State) {g : Fld} (hg : gravityKey g.key = false) : (s.close t).bit g = t.bit g := by
  unfold State.bit; rw [close_get s t hg]

@[simp] theorem close_inF (s t : State) (g : Fld) : (s.close t).inF g = t.inF g := congrArg (fun x => regGet x g.key) (close_inForce s t)

/-- The canonical forms hold after a command where they hold before its end. -/
theorem close_sound {s t : State} (h : t.Sound) : (s.close t).Sound := by
  refine ⟨?_, (settle_nil_settled t 64).regs h.2⟩
  have := h.1
  unfold State.memoryOk at *
  simpa using this

theorem begin_sound {s : State} (h : s.Sound) : s.begin.Sound := h


/-! ### Observation counters other than those of the fault units (R424) -/

theorem raiseAll_cnt (s : State) (fs : List Fld) {k : Nat} (h : k < 80) : tabGet 0 (s.raiseAll fs).obs.cnt k = tabGet 0 s.obs.cnt k :=
  (raiseAll_settled s fs).cnt k h
theorem raise_cnt (s : State) (f : Fld) {k : Nat} (h : k < 80) : tabGet 0 (s.raise f).obs.cnt k = tabGet 0 s.obs.cnt k := (raise_settled s f).cnt k h
theorem raiseIf_cnt (s : State) (c : Bool) (f : Fld) {k : Nat} (h : k < 80) : tabGet 0 (s.raiseIf c f).obs.cnt k = tabGet 0 s.obs.cnt k :=
  (raiseIf_settled s c f).cnt k h
theorem close_cnt (s t : State) {k : Nat} (h : k < 80) : tabGet 0 (s.close t).obs.cnt k = tabGet 0 t.obs.cnt k := (settle_nil_settled t 64).cnt k h

/-- A counter below its wrap counts. -/
theorem obsAdd_cnt_same (s : State) {k n : Nat} (h : tabGet 0 s.obs.cnt k + n < 2 ^ 48) : tabGet 0 (s.obsAdd k n).obs.cnt k = tabGet 0 s.obs.cnt k + n := by
  unfold State.obsAdd
  dsimp only
  rw [if_pos h]
  exact tabGet_tabPut_same _ _ _ _

/-! ### The two ways a command runs -/

theorem runUp_up {s : State} (f : State → State) (h : s.busUp = true) : runUp f s = .next (s.close (f s.begin)) := by
  simp [runUp, run, h]

theorem runUp_held {s : State} (f : State → State) (h : s.busUp = false) : runUp f s = .next (s.close s.begin) := by
  simp [runUp, run, h]

end Sys2Proof.Machine
end

