-- ==== Sys2Proof/Laws/Kept.lean ====
section
/-!
SUPPORT. One relation that every operation keeps: canonical forms stay canonical, and one-time-programmable memory only grows.
Each shared operation has one lemma that says so.
-/
namespace Sys2Proof.Machine

theorem Otp.grows_refl (a : Otp) : a.grows a := ⟨fun _ h => ⟨h, rfl⟩, fun _ h => h, Nat.le_refl _⟩

theorem Otp.grows_trans {a b c : Otp} (h : a.grows b) (h' : b.grows c) : a.grows c :=
  ⟨fun k hk => ⟨(h'.1 k (h.1 k hk).1).1, ((h'.1 k (h.1 k hk).1).2).trans (h.1 k hk).2⟩, fun k hk => h'.2.1 k (h.2.1 k hk), Nat.le_trans h.2.2 h'.2.2⟩

/-- What a state is compared with: an earlier state, and which of the tick, the running image and the coarse count are
claimed to stay as they stood in it, and the counts of the reset sequencer. -/
structure Base where
  tick : Bool
  cfg  : Bool
  time : Bool
  rst  : Bool
  st   : State

/-- The tick, the running image, the coarse count, the reset sequencer are not claimed. -/
class LooseTick (b : Base) : Prop where
  off : b.tick = false
class LooseCfg (b : Base) : Prop where
  off : b.cfg = false
class LooseTime (b : Base) : Prop where
  off : b.time = false
class LooseRst (b : Base) : Prop where
  off : b.rst = false

/-- The reset sequencer's counts and requests are the same. -/
def Flt.sameRst (a b : Flt) : Prop := b.rstLeft = a.rstLeft ∧ b.shdLeft = a.shdLeft ∧ b.hostReq = a.hostReq

/-- `t` is as sound as the earlier state, has at least its one-time-programmed bits, and stands as claimed. -/
structure Kept (b : Base) (t : State) : Prop where
  sound : b.st.Sound → t.Sound
  otp : b.st.otp.grows t.otp
  tick : b.tick = true → t.tick = b.st.tick ∧ (b.st.applied = true → t.applied = true)
  cfg : b.cfg = true → t.cfg = b.st.cfg
  time : b.time = true → t.coarse = b.st.coarse
  rst : b.rst = true → b.st.flt.sameRst t.flt

/-- The same claims, of a later state. -/
def Base.at (b : Base) (s : State) : Base := { b with st := s }

theorem Kept.refl (b : Base) : Kept b b.st := ⟨id, Otp.grows_refl _, fun _ => ⟨rfl, id⟩, fun _ => rfl, fun _ => rfl, fun _ => ⟨rfl, rfl, rfl⟩⟩
theorem Kept.trans {b : Base} {t u : State} (h : Kept b t) (h' : Kept (b.at t) u) : Kept b u :=
  ⟨fun hs => h'.sound (h.sound hs), Otp.grows_trans h.otp h'.otp,
   fun e => ⟨(h'.tick e).1.trans (h.tick e).1, fun ha => (h'.tick e).2 ((h.tick e).2 ha)⟩,
   fun e => (h'.cfg e).trans (h.cfg e), fun e => (h'.time e).trans (h.time e),
   fun e => ⟨(h'.rst e).1.trans (h.rst e).1, (h'.rst e).2.1.trans (h.rst e).2.1, (h'.rst e).2.2.trans (h.rst e).2.2⟩⟩

/-- Of what a relation that claims everything says, every relation says its part. -/
theorem Kept.of {b : Base} {t u : State} (h : Kept b t) (hs : t.Sound → u.Sound) (ho : t.otp.grows u.otp) (e1 : u.tick = t.tick)
    (e2 : u.applied = t.applied) (e3 : u.cfg = t.cfg) (e4 : u.coarse = t.coarse)
    (e5 : t.flt.sameRst u.flt) : Kept b u :=
  h.trans ⟨hs, ho, fun _ => ⟨e1, fun ha => e2.trans ha⟩, fun _ => e3, fun _ => e4, fun _ => e5⟩

/-- The state of a pair keeps the relation. -/
def KeptP {α : Type} (b : Base) (p : State × α) : Prop := Kept b p.1

variable {s0 : Base}

/-- Nothing that is checked has moved. -/
theorem kept_same {s t : State} (h : Kept s0 s) (e1 : t.regs = s.regs) (e2 : t.inForce = s.inForce) (e3 : t.ind.regs = s.ind.regs)
    (e4 : t.pend.regs = s.pend.regs) (e5 : t.hif.window = s.hif.window) (e6 : t.gld.sram = s.gld.sram) (e7 : t.otp = s.otp)
    (e8 : t.tick = s.tick) (e9 : t.applied = s.applied) (e10 : t.cfg = s.cfg) (e11 : t.coarse = s.coarse) (e12 : s.flt.sameRst t.flt) : Kept s0 t := by
  refine h.of (fun hs => ?_) (by rw [e7]; exact Otp.grows_refl _) e8 e9 e10 e11 e12
  unfold State.Sound State.memoryOk State.regsOk at *
  rw [e1, e2, e3, e4, e5, e6]
  exact hs

/-- Only the register stores have moved, and they stay canonical. -/
theorem kept_regs {s t : State} (h : Kept s0 s) (hr : s.regsOk = true → t.regsOk = true) (e5 : t.hif.window = s.hif.window)
    (e6 : t.gld.sram = s.gld.sram) (e7 : t.otp = s.otp) (e8 : t.tick = s.tick) (e9 : t.applied = s.applied) (e10 : t.cfg = s.cfg)
    (e11 : t.coarse = s.coarse) (e12 : s.flt.sameRst t.flt) : Kept s0 t := by
  refine h.of (fun hs => ⟨?_, hr hs.2⟩) (by rw [e7]; exact Otp.grows_refl _) e8 e9 e10 e11 e12
  have := hs.1
  unfold State.memoryOk at *
  rw [e5, e6]
  exact this

/-- Bits of one-time-programmable memory are programmed. -/
theorem kept_otp {s : State} (o : Otp) (h : Kept s0 s) (ho : s.otp.grows o) : Kept s0 { s with otp := o } :=
  h.of id ho rfl rfl rfl rfl ⟨rfl, rfl, rfl⟩

/-- The coarse count moves. -/
theorem kept_coarse [LooseTime s0] {s : State} (c : Nat) (h : Kept s0 s) : Kept s0 { s with coarse := c } :=
  ⟨h.sound, h.otp, h.tick, h.cfg, fun e => (by rw [LooseTime.off] at e; cases e), h.rst⟩

/-- The reset sequencer moves. -/
theorem kept_flt [LooseRst s0] {s : State} (f : Flt) (h : Kept s0 s) : Kept s0 { s with flt := f } :=
  ⟨h.sound, h.otp, h.tick, h.cfg, h.time, fun e => (by rw [LooseRst.off] at e; cases e)⟩

theorem bitAt_eq_testBit (n i : Nat) : bitAt n i = n.testBit i := by
  unfold bitAt
  rw [Nat.testBit_eq_decide_div_mod_eq]
  by_cases h : n / 2 ^ i % 2 = 1 <;> simp [h]

theorem bitAt_setBitAt_of (n i j : Nat) (h : bitAt n j = true) : bitAt (setBitAt n i) j = true := by
  rw [bitAt_eq_testBit] at *
  simp [setBitAt, h]

theorem kept_mk {u : State} (h : Kept s0 u) {x1 x2 x5 x6 x13 x14 x15 x16 x17 x21 x22 x23 x24 x25 x26 x27 x28 x29 x30 x31 x32 x33 x34
    x35 x36 x37 x38 x39 x40 x41 x42} {i p : Bank} {hf : Hif} {g : Gld} {fl : Flt} (e3 : i.regs = u.ind.regs) (e4 : p.regs = u.pend.regs)
    (e5 : hf.window = u.hif.window) (e6 : g.sram = u.gld.sram) (e7 : u.flt.sameRst fl) :
    Kept s0 (State.mk x1 x2 u.regs u.inForce x5 x6 i p u.cfg u.applied u.coarse u.tick x13 x14 x15 x16 x17 hf g u.otp fl x21 x22 x23 x24 x25 x26 x27 x28 x29 x30 x31
      x32 x33 x34 x35 x36 x37 x38 x39 x40 x41 x42) := kept_same h rfl rfl e3 e4 e5 e6 rfl rfl rfl rfl rfl e7

theorem kept_ite {c : Prop} [Decidable c] {a b : State} (ha : Kept s0 a) (hb : Kept s0 b) : Kept s0 (if c then a else b) := by
  split <;> assumption
theorem keptP_ite {α : Type} {c : Prop} [Decidable c] {a b : State × α} (ha : KeptP s0 a) (hb : KeptP s0 b) : KeptP s0 (if c then a else b) := by
  split <;> assumption
theorem keptP_mk {α : Type} {t : State} (h : Kept s0 t) (x : α) : KeptP s0 (t, x) := h

theorem kept_foldl {α : Type} {g : State → α → State} {s : State} (h : Kept s0 s) (hg : ∀ t a, Kept s0 t → Kept s0 (g t a)) (l : List α) :
    Kept s0 (l.foldl g s) := by
  induction l generalizing s with
  | nil => exact h
  | cons a r ih => exact ih (hg _ _ h)

/-! ## The operations that write what is checked -/

theorem settled_kept {L : List Fld} {s t : State} (hk : Kept s0 s) (h : Settled L s t) : Kept s0 t := by
  refine hk.of (fun hs => ⟨?_, h.regs hs.2⟩) (by rw [(congrArg State.otp h.shape :)]; exact Otp.grows_refl _) (congrArg State.tick h.shape :)
    (congrArg State.applied h.shape :) (congrArg State.cfg h.shape :) (congrArg State.coarse h.shape :)
    ⟨(congrArg (fun x : State => x.flt.rstLeft) h.shape :), (congrArg (fun x : State => x.flt.shdLeft) h.shape :), (congrArg (fun x : State => x.flt.hostReq) h.shape :)⟩
  have := hs.1
  unfold State.memoryOk at *
  rw [(congrArg State.hif h.shape :), (congrArg State.gld h.shape :)]
  exact this

theorem kept_set {s : State} (f : Fld) (v : Nat) (h : Kept s0 s) : Kept s0 (s.set f v) := by
  refine h.of (fun hs => ⟨?_, regsOk_set f v hs.2⟩) (by simp; exact Otp.grows_refl _) (by simp) (by simp) (by simp) (by simp) (by simp [Flt.sameRst])
  have := hs.1
  unfold State.memoryOk at *
  simpa using this

theorem kept_pset {s : State} (f : Fld) (v : Nat) (h : Kept s0 s) : Kept s0 (s.pset f v) := by
  refine h.of (fun hs => ⟨?_, regsOk_pset f v hs.2⟩) (by simp; exact Otp.grows_refl _) (by simp) (by simp) (by simp) (by simp) (by simp [Flt.sameRst])
  have := hs.1
  unfold State.memoryOk at *
  simpa using this

theorem kept_obsAdd {s : State} (k n : Nat) (h : Kept s0 s) : Kept s0 (s.obsAdd k n) :=
  kept_same h (by simp) (by simp) (by simp) (by simp) (by simp) (by simp) (by simp) (by simp) (by simp) (by simp) (by simp) (by simp [Flt.sameRst])

theorem kept_raiseAll {s : State} (fs : List Fld) (h : Kept s0 s) : Kept s0 (s.raiseAll fs) := settled_kept h (raiseAll_settled s fs)
theorem kept_raise {s : State} (f : Fld) (h : Kept s0 s) : Kept s0 (s.raise f) := settled_kept h (raise_settled s f)
theorem kept_raiseIf {s : State} (c : Bool) (f : Fld) (h : Kept s0 s) : Kept s0 (s.raiseIf c f) := settled_kept h (raiseIf_settled s c f)
theorem kept_eventOnly {s : State} (src : Nat) (h : Kept s0 s) : Kept s0 (s.eventOnly src) := settled_kept h (eventOnly_settled s src)

/-- Bytes stored inside the window. -/
theorem kept_putWinBytes {s : State} {a : Nat} {l : List Byte} (hl : a + l.length ≤ 2 ^ 20) (h : Kept s0 s) : Kept s0 (s.putWinBytes a l) := by
  refine h.of (fun hs => ⟨?_, hs.2⟩) (Otp.grows_refl _) rfl rfl rfl rfl ⟨rfl, rfl, rfl⟩
  have := hs.1
  rw [memoryOk_iff] at *
  exact ⟨Memory.wf_putBytes _ _ this.1, Memory.below_putBytes hl this.2.1, this.2.2⟩

theorem leBytes_length (n v : Nat) : (leBytes n v).length = n := by
  induction n generalizing v with
  | zero => rfl
  | succ n ih => simp [leBytes, ih]

theorem kept_putWin {s : State} {a : Nat} (v : Nat) (hl : a + 4 ≤ 2 ^ 20) (h : Kept s0 s) : Kept s0 (s.putWin a v) :=
  kept_putWinBytes (l := leBytes 4 v) (by rw [leBytes_length]; exact hl) h

end Sys2Proof.Machine
end

