-- ==== Sys2Proof/Laws/KeptCore.lean ====
section
/-! SUPPORT. The operations of the shared operations keep canonical forms and one-time-programmable memory. -/
namespace Sys2Proof.Machine
open Sys2Proof

variable {s0 : Base}

theorem kept_setB {s : State} (f : Fld) (b : Bool) (hk : Kept s0 s) : Kept s0 (State.setB s f b) := by
  unfold State.setB
  refine kept_set _ _ ?_
  exact hk

theorem kept_psetB {s : State} (f : Fld) (b : Bool) (hk : Kept s0 s) : Kept s0 (State.psetB s f b) := by
  unfold State.psetB
  refine kept_pset _ _ ?_
  exact hk

theorem kept_setS {s : State} (f : Fld) (i : Int) (hk : Kept s0 s) : Kept s0 (State.setS s f i) := by
  unfold State.setS
  refine kept_set _ _ ?_
  exact hk

theorem kept_psetS {s : State} (f : Fld) (i : Int) (hk : Kept s0 s) : Kept s0 (State.psetS s f i) := by
  unfold State.psetS
  refine kept_pset _ _ ?_
  exact hk

theorem kept_satAdd {s : State} (f : Fld) (n : Nat) (hk : Kept s0 s) : Kept s0 (State.satAdd s f n) := by
  unfold State.satAdd
  refine kept_set _ _ ?_
  exact hk

theorem kept_wrapAdd {s : State} (f : Fld) (n : Nat) (hk : Kept s0 s) : Kept s0 (State.wrapAdd s f n) := by
  unfold State.wrapAdd
  refine kept_set _ _ ?_
  exact hk

theorem kept_hwm {s : State} (f : Fld) (v : Nat) (hk : Kept s0 s) : Kept s0 (State.hwm s f v) := by
  unfold State.hwm
  refine kept_ite ?_ ?_
  · refine kept_set _ _ ?_
    exact hk
  · exact hk

theorem kept_set2 {s : State} (lo : Fld) (hi : Fld) (v : Nat) (hk : Kept s0 s) : Kept s0 (State.set2 s lo hi v) := by
  unfold State.set2
  refine kept_set _ _ ?_
  refine kept_set _ _ ?_
  exact hk

theorem kept_pset2 {s : State} (lo : Fld) (hi : Fld) (v : Nat) (hk : Kept s0 s) : Kept s0 (State.pset2 s lo hi v) := by
  unfold State.pset2
  refine kept_pset _ _ ?_
  refine kept_pset _ _ ?_
  exact hk

theorem kept_setS2 {s : State} (lo : Fld) (hi : Fld) (i : Int) (hk : Kept s0 s) : Kept s0 (State.setS2 s lo hi i) := by
  unfold State.setS2
  refine kept_set2 _ _ _ ?_
  exact hk

theorem kept_psetS2 {s : State} (lo : Fld) (hi : Fld) (i : Int) (hk : Kept s0 s) : Kept s0 (State.psetS2 s lo hi i) := by
  unfold State.psetS2
  refine kept_pset2 _ _ _ ?_
  exact hk

theorem kept_setChan {s : State} (n : Nat) (c : Chan) (hk : Kept s0 s) : Kept s0 (State.setChan s n c) := by
  unfold State.setChan
  refine kept_mk ?_ rfl rfl rfl rfl ⟨rfl, rfl, rfl⟩
  exact hk

theorem kept_modChan {s : State} (n : Nat) (f : Chan → Chan) (hk : Kept s0 s) : Kept s0 (State.modChan s n f) := by
  unfold State.modChan
  refine kept_setChan _ _ ?_
  exact hk

theorem kept_inBoth {s : State} {f : State → State} (hf : ∀ s, Kept s0 s → Kept s0 (f s)) (hk : Kept s0 s) : Kept s0 (State.inBoth s f) := by
  have ht := hf _ hk
  have hu : Kept s0 (f { s with pend := s.ind }) := by
    refine hf _ (kept_regs hk (fun h => ?_) rfl rfl rfl rfl rfl rfl rfl ⟨rfl, rfl, rfl⟩)
    rw [regsOk_iff] at h ⊢
    exact ⟨h.1, h.2.1, h.2.2.1, h.2.2.1⟩
  refine ⟨fun h0 => ⟨(ht.sound h0).1, ?_⟩, ht.otp, ht.tick, ht.cfg, ht.time, ht.rst⟩
  have h1 := (regsOk_iff _).mp (ht.sound h0).2
  have h2 := (regsOk_iff _).mp (hu.sound h0).2
  exact (regsOk_iff _).mpr ⟨h1.1, h1.2.1, h2.2.2.2, h1.2.2.2⟩

theorem kept_emit {s : State} (owner : Nat) (e : Ev) (hk : Kept s0 s) : Kept s0 (State.emit s owner e) := by
  unfold State.emit
  extract_lets +onlyGivenNames x1
  refine kept_mk ?_ rfl rfl rfl rfl ⟨rfl, rfl, rfl⟩
  exact hk

theorem kept_emitAll {s : State} (owner : Nat) (es : List Ev) (hk : Kept s0 s) : Kept s0 (State.emitAll s owner es) := by
  unfold State.emitAll
  refine kept_foldl ?_ (fun t1 at1 ht1 => ?_) _
  · exact hk
  · refine kept_emit _ _ ?_
    exact ht1

theorem kept_setQslot {s : State} (n : Nat) (q : QSlot) (hk : Kept s0 s) : Kept s0 (State.setQslot s n q) := by
  unfold State.setQslot
  refine kept_mk ?_ rfl rfl rfl rfl ⟨rfl, rfl, rfl⟩
  exact hk

theorem kept_noteSlot {s : State} (n : Nat) (f : QSlot → QSlot) (hk : Kept s0 s) : Kept s0 (State.noteSlot s n f) := by
  unfold State.noteSlot
  refine kept_mk ?_ rfl rfl rfl rfl ⟨rfl, rfl, rfl⟩
  exact hk

theorem kept_setRef {s : State} (n : Nat) (r : RefSlot) (hk : Kept s0 s) : Kept s0 (State.setRef s n r) := by
  unfold State.setRef
  refine kept_mk ?_ rfl rfl rfl rfl ⟨rfl, rfl, rfl⟩
  exact hk

theorem kept_setLane {s : State} (l : Nat) (x : Lane) (hk : Kept s0 s) : Kept s0 (State.setLane s l x) := by
  unfold State.setLane
  refine kept_mk ?_ rfl rfl rfl rfl ⟨rfl, rfl, rfl⟩
  exact hk

theorem kept_setScale {s : State} (k : Nat) (x : Scale) (hk : Kept s0 s) : Kept s0 (State.setScale s k x) := by
  unfold State.setScale
  refine kept_mk ?_ rfl rfl rfl rfl ⟨rfl, rfl, rfl⟩
  exact hk

theorem kept_modScale {s : State} (k : Nat) (f : Scale → Scale) (hk : Kept s0 s) : Kept s0 (State.modScale s k f) := by
  unfold State.modScale
  refine kept_setScale _ _ ?_
  exact hk

theorem kept_countCycles {s : State} (n : Nat) (hk : Kept s0 s) : Kept s0 (State.countCycles s n) := by
  unfold State.countCycles
  extract_lets +onlyGivenNames x1
  have hx1 : Kept s0 x1 := by
    unfold x1
    refine kept_ite ?_ ?_
    · exact hk
    · refine kept_satAdd _ _ ?_
      exact hk
  clear_value x1
  refine kept_foldl ?_ (fun t2 at2 ht2 => ?_) _
  · exact hx1
  · refine kept_ite ?_ ?_
    · refine kept_obsAdd _ _ ?_
      exact ht2
    · exact ht2

theorem kept_advance [LooseTime s0] {s : State} (c : Nat) (hk : Kept s0 s) : Kept s0 (State.advance s c) := by
  exact kept_coarse _ (kept_ite hk (kept_countCycles _ hk))

theorem kept_emitWire {s : State} (w : Wire) (hk : Kept s0 s) : Kept s0 (State.emitWire s w) := by
  unfold State.emitWire
  refine kept_mk ?_ rfl rfl rfl rfl ⟨rfl, rfl, rfl⟩
  exact hk

theorem kept_took {s : State} (hk : Kept s0 s) : Kept s0 (State.took s) := by
  unfold State.took
  refine kept_mk ?_ rfl rfl rfl rfl ⟨rfl, rfl, rfl⟩
  exact hk

theorem kept_capture {s : State} (b : Nat) (src : Nat) (hk : Kept s0 s) : KeptP s0 (State.capture s b src) := by
  unfold State.capture
  extract_lets +onlyGivenNames x1
  refine keptP_ite ?_ ?_
  · refine keptP_mk ?_ _
    refine kept_satAdd _ _ ?_
    refine kept_set _ _ ?_
    exact hk
  · refine keptP_mk ?_ _
    refine kept_set _ _ ?_
    refine kept_set _ _ ?_
    refine kept_set _ _ ?_
    refine kept_set _ _ ?_
    refine kept_set _ _ ?_
    refine kept_set _ _ ?_
    exact hk

theorem kept_declareSevere {s : State} (b : Nat) (j : Nat) (hk : Kept s0 s) : KeptP s0 (State.declareSevere s b j) := by
  unfold State.declareSevere
  extract_lets +onlyGivenNames x1
  have hx1 : Kept s0 x1 := by
    unfold x1
    refine kept_obsAdd _ _ ?_
    refine kept_set _ _ ?_
    exact hk
  clear_value x1
  extract_lets +onlyGivenNames x2
  extract_lets +onlyGivenNames x3
  extract_lets +onlyGivenNames x4
  extract_lets +onlyGivenNames x5
  extract_lets +onlyGivenNames x6
  have hx6 : Kept s0 x6 := by
    unfold x6
    refine kept_ite ?_ ?_
    · refine kept_mk ?_ rfl rfl rfl rfl ⟨rfl, rfl, rfl⟩
      exact hx1
    · exact hx1
  clear_value x6
  refine keptP_mk ?_ _
  exact hx6

theorem kept_faultEvent {s : State} (src : Nat) (hk : Kept s0 s) : KeptP s0 (State.faultEvent s src) := by
  unfold State.faultEvent
  extract_lets +onlyGivenNames x1
  extract_lets +onlyGivenNames x2
  extract_lets +onlyGivenNames x3
  extract_lets +onlyGivenNames x4
  have hx4 : Kept s0 x4 := by
    unfold x4
    refine kept_ite ?_ ?_
    · exact hk
    · refine kept_mk ?_ rfl rfl rfl rfl ⟨rfl, rfl, rfl⟩
      exact hk
  clear_value x4
  extract_lets +onlyGivenNames x5
  have hx5 : Kept s0 x5 := by
    unfold x5
    refine kept_obsAdd _ _ ?_
    refine kept_satAdd _ _ ?_
    exact hx4
  clear_value x5
  extract_lets +onlyGivenNames x6
  extract_lets +onlyGivenNames x7
  extract_lets +onlyGivenNames x8
  have hx8 : Kept s0 x8 := by
    unfold x8
    refine kept_mk ?_ rfl rfl rfl rfl ⟨rfl, rfl, rfl⟩
    exact hx5
  clear_value x8
  extract_lets +onlyGivenNames x9
  have hx9 : Kept s0 x9 := by
    unfold x9
    refine kept_hwm _ _ ?_
    exact hx8
  clear_value x9
  extract_lets +onlyGivenNames x10
  have hx10 : KeptP s0 x10 := by
    unfold x10
    refine keptP_ite ?_ ?_
    · refine kept_capture _ _ ?_
      exact hx9
    · refine keptP_mk ?_ _
      exact hx9
  clear_value x10
  extract_lets +onlyGivenNames x11
  have hx11 : KeptP s0 x11 := by
    unfold x11
    refine kept_declareSevere _ _ ?_
    show KeptP s0 _
    exact hx10
  clear_value x11
  refine keptP_ite ?_ ?_
  · refine keptP_mk ?_ _
    refine kept_obsAdd _ _ ?_
    refine kept_satAdd _ _ ?_
    exact hx4
  · refine keptP_ite ?_ ?_
    · refine keptP_mk ?_ _
      exact hx5
    · refine keptP_ite ?_ ?_
      · refine keptP_mk ?_ _
        show KeptP s0 _
        exact hx11
      · exact hx10

theorem kept_stickyEvent {s : State} (f : Fld) (hk : Kept s0 s) : KeptP s0 (State.stickyEvent s f) := by
  unfold State.stickyEvent
  extract_lets +onlyGivenNames x1
  have hx1 : Kept s0 x1 := by
    unfold x1
    refine kept_set _ _ ?_
    exact hk
  clear_value x1
  split
  · refine keptP_mk ?_ _
    exact hx1
  · extract_lets +onlyGivenNames x2
    refine keptP_ite ?_ ?_
    · refine keptP_mk ?_ _
      exact hx1
    · refine kept_faultEvent _ ?_
      refine kept_mk ?_ rfl rfl rfl rfl ⟨rfl, rfl, rfl⟩
      exact hx1

theorem kept_pinUpdate {s : State} (hk : Kept s0 s) : KeptP s0 (State.pinUpdate s) := by
  unfold State.pinUpdate
  extract_lets +onlyGivenNames x1
  extract_lets +onlyGivenNames x2
  extract_lets +onlyGivenNames x3
  extract_lets +onlyGivenNames x4
  extract_lets +onlyGivenNames x5
  have hx5 : Kept s0 x5 := by
    unfold x5
    refine kept_mk ?_ rfl rfl rfl rfl ⟨rfl, rfl, rfl⟩
    exact hk
  clear_value x5
  clear_value x2
  split
  · refine keptP_mk ?_ _
    exact hx5
  · extract_lets +onlyGivenNames x6
    have hx6 : Kept s0 x6 := by
      unfold x6
      refine kept_set _ _ ?_
      refine kept_set _ _ ?_
      refine kept_set _ _ ?_
      refine kept_set _ _ ?_
      exact hx5
    clear_value x6
    refine keptP_ite ?_ ?_
    · refine keptP_ite ?_ ?_
      · refine keptP_mk ?_ _
        refine kept_set _ _ ?_
        exact hx5
      · refine keptP_mk ?_ _
        exact hx5
    · refine keptP_mk ?_ _
      refine kept_ite ?_ ?_
      · exact hx6
      · refine kept_set _ _ ?_
        exact hx6

theorem kept_captureCause {s : State} (b : Nat) (lower : Nat) (hk : Kept s0 s) : Kept s0 (State.captureCause s b lower) := by
  unfold State.captureCause
  refine kept_ite ?_ ?_
  · refine kept_set _ _ ?_
    refine kept_set _ _ ?_
    exact hk
  · exact hk

theorem kept_vectorUpdate {s : State} (hk : Kept s0 s) : Kept s0 (State.vectorUpdate s) := by
  unfold State.vectorUpdate
  extract_lets +onlyGivenNames x1
  extract_lets +onlyGivenNames x2
  extract_lets +onlyGivenNames x3
  refine kept_mk ?_ rfl rfl rfl rfl ⟨rfl, rfl, rfl⟩
  exact hk

theorem kept_begin {s : State} (hk : Kept s0 s) : Kept s0 (State.begin s) := by
  unfold State.begin
  extract_lets +onlyGivenNames x1
  extract_lets +onlyGivenNames x2
  refine kept_mk ?_ rfl rfl rfl rfl ⟨rfl, rfl, rfl⟩
  exact hk

theorem kept_finish {s : State} (hk : Kept s0 s) : Kept s0 (State.finish s) :=
  kept_vectorUpdate (settled_kept hk (settle_nil_settled s 64))

theorem kept_returnDesc {s : State} (r : Nat) (w0 : Nat) (w2 : Nat) (status : Nat) (hk : Kept s0 s) : Kept s0 (State.returnDesc s r w0 w2 status) := by
  have ha : s.descAt r (s.ringIdx r) + 16 ≤ 2 ^ 20 := by unfold State.descAt; omega
  exact kept_set _ _ (kept_set _ _ (kept_putWin _ (by omega) (kept_putWin _ (by omega) (kept_putWin _ (by omega) hk))))

theorem kept_ringDrop {s : State} (r : Nat) (hk : Kept s0 s) : Kept s0 (State.ringDrop s r) := by
  unfold State.ringDrop
  refine kept_raise _ ?_
  refine kept_obsAdd _ _ ?_
  refine kept_satAdd _ _ ?_
  exact hk

theorem kept_ringPost {s : State} (it : RingItem) (hk : Kept s0 s) : KeptP s0 (State.ringPost s it) := by
  unfold State.ringPost
  dsimp only
  refine keptP_ite (keptP_mk hk _) (keptP_ite (keptP_mk (kept_ringDrop _ hk) _) ?_)
  split
  · exact keptP_mk (kept_raise _ (kept_ringDrop _ (kept_returnDesc _ _ _ _ hk))) _
  · rename_i hroom
    refine keptP_mk (kept_raise _ (kept_obsAdd _ _ (kept_returnDesc _ _ _ _ (kept_putWin _ ?_ (kept_putWinBytes ?_ hk))))) _
    · unfold State.descAt; omega
    · omega

theorem kept_post {s : State} (r : Nat) (words : List Nat) (hk : Kept s0 s) : Kept s0 (State.post s r words) := by
  unfold State.post
  show KeptP s0 _
  refine kept_ringPost _ ?_
  exact hk

theorem kept_postItem {s : State} (it : RingItem) (hk : Kept s0 s) : Kept s0 (State.postItem s it) := by
  unfold State.postItem
  extract_lets +onlyGivenNames x1
  refine kept_ite ?_ ?_
  · exact hk
  · refine kept_ite ?_ ?_
    · refine kept_ite ?_ ?_
      · exact hk
      · refine kept_ite ?_ ?_
        · refine kept_mk ?_ rfl rfl rfl rfl ⟨rfl, rfl, rfl⟩
          exact hk
        · refine kept_ringDrop _ ?_
          exact hk
    · show KeptP s0 _
      refine kept_ringPost _ ?_
      exact hk

theorem kept_postFrameRx {s : State} (port : Nat) (stamp : Nat) (frame : List Byte) (hk : Kept s0 s) : Kept s0 (State.postFrameRx s port stamp frame) := by
  unfold State.postFrameRx
  refine kept_postItem _ ?_
  exact hk

theorem kept_releaseHeld {s : State} (stamp : Nat → Nat) (hk : Kept s0 s) : Kept s0 (State.releaseHeld s stamp) := by
  unfold State.releaseHeld
  extract_lets +onlyGivenNames x1
  extract_lets +onlyGivenNames x2
  refine kept_foldl ?_ (fun t3 at3 ht3 => ?_) _
  · refine kept_mk ?_ rfl rfl rfl rfl ⟨rfl, rfl, rfl⟩
    exact hk
  · show KeptP s0 _
    refine kept_ringPost _ ?_
    exact ht3

theorem kept_takeDesc {s : State} (r : Nat) (hk : Kept s0 s) : Kept s0 (State.takeDesc s r) := by
  unfold State.takeDesc
  extract_lets +onlyGivenNames x1
  extract_lets +onlyGivenNames x2
  extract_lets +onlyGivenNames x3
  extract_lets +onlyGivenNames x4
  extract_lets +onlyGivenNames x5
  extract_lets +onlyGivenNames x6
  refine kept_ite ?_ ?_
  · refine kept_mk ?_ rfl rfl rfl rfl ⟨rfl, rfl, rfl⟩
    exact hk
  · refine kept_mk ?_ rfl rfl rfl rfl ⟨rfl, rfl, rfl⟩
    exact hk

theorem kept_doorbell {s : State} (r : Nat) (hk : Kept s0 s) : Kept s0 (State.doorbell s r) := by
  unfold State.doorbell
  refine kept_ite ?_ ?_
  · exact hk
  · refine kept_ite ?_ ?_
    · exact hk
    · refine kept_takeDesc _ ?_
      exact hk

theorem kept_completeItem {s : State} (r : Nat) (d : Desc) (status : Nat) (hk : Kept s0 s) : Kept s0 (State.completeItem s r d status) := by
  unfold State.completeItem
  extract_lets +onlyGivenNames x1
  extract_lets +onlyGivenNames x2
  extract_lets +onlyGivenNames x3
  have hx3 : Kept s0 x3 := by
    unfold x3
    refine kept_obsAdd _ _ ?_
    refine kept_returnDesc _ _ _ _ ?_
    exact hk
  clear_value x3
  extract_lets +onlyGivenNames x4
  have hx4 : Kept s0 x4 := by
    unfold x4
    refine kept_raiseAll _ ?_
    exact hx3
  clear_value x4
  refine kept_takeDesc _ ?_
  exact hx4

theorem kept_samplerCapture {s : State} (i : Nat) (c : SampleAt) (hk : Kept s0 s) : Kept s0 (State.samplerCapture s i c) := by
  unfold State.samplerCapture
  extract_lets +onlyGivenNames x1
  extract_lets +onlyGivenNames x2
  have hx2 : Kept s0 x2 := by
    unfold x2
    refine kept_mk ?_ rfl rfl rfl rfl ⟨rfl, rfl, rfl⟩
    exact hk
  clear_value x2
  extract_lets +onlyGivenNames x3
  extract_lets +onlyGivenNames x4
  have hx4 : KeptP s0 x4 := by
    unfold x4
    refine kept_ringPost _ ?_
    exact hx2
  clear_value x4
  refine kept_ite ?_ ?_
  · exact hk
  · refine kept_ite ?_ ?_
    · exact hx2
    · refine kept_ite ?_ ?_
      · refine kept_raise _ ?_
        refine kept_obsAdd _ _ ?_
        refine kept_set _ _ ?_
        show KeptP s0 _
        exact hx4
      · refine kept_ite ?_ ?_
        · show KeptP s0 _
          exact hx4
        · refine kept_raise _ ?_
          show KeptP s0 _
          exact hx4

theorem kept_snapshotJob {s : State} (g : Nat) (hk : Kept s0 s) : Kept s0 (State.snapshotJob s g) := by
  unfold State.snapshotJob
  refine kept_ite ?_ ?_
  · refine kept_emit _ _ ?_
    exact hk
  · exact hk

theorem kept_exportJob {s : State} (c : Nat) (hk : Kept s0 s) : Kept s0 (State.exportJob s c) := by
  unfold State.exportJob
  refine kept_emit _ _ ?_
  exact hk

theorem kept_journal {s : State} (rec : List Nat) (outcome : Nat) (hk : Kept s0 s) : Kept s0 (State.journal s rec outcome) := by
  unfold State.journal
  split
  · extract_lets +onlyGivenNames x1
    have hx1 : Kept s0 x1 := by
      unfold x1
      refine kept_ite ?_ ?_
      · refine kept_raise _ ?_
        exact hk
      · refine kept_ite ?_ ?_
        · refine kept_raise _ ?_
          refine kept_satAdd _ _ ?_
          exact hk
        · exact hk
    clear_value x1
    extract_lets +onlyGivenNames x2
    have hx2 : KeptP s0 x2 := by
      unfold x2
      refine kept_ringPost _ ?_
      exact hx1
    clear_value x2
    refine kept_ite ?_ ?_
    · show KeptP s0 _
      exact hx2
    · refine kept_raise _ ?_
      refine kept_satAdd _ _ ?_
      show KeptP s0 _
      exact hx2
  · exact hk

theorem kept_setCtxWord {s : State} (n : Nat) (w : Nat) (v : Nat) (hk : Kept s0 s) : Kept s0 (State.setCtxWord s n w v) := by
  unfold State.setCtxWord
  extract_lets +onlyGivenNames x1
  refine kept_mk ?_ rfl rfl rfl rfl ⟨rfl, rfl, rfl⟩
  exact hk

theorem kept_setCtxFld {s : State} (n : Nat) (w : Nat) (lo : Nat) (len : Nat) (v : Nat) (hk : Kept s0 s) : Kept s0 (State.setCtxFld s n w lo len v) := by
  unfold State.setCtxFld
  extract_lets +onlyGivenNames x1
  refine kept_setCtxWord _ _ _ ?_
  exact hk

theorem kept_setSess {s : State} (n : Nat) (x : Sess) (hk : Kept s0 s) : Kept s0 (State.setSess s n x) := by
  unfold State.setSess
  extract_lets +onlyGivenNames x1
  refine kept_mk ?_ rfl rfl rfl rfl ⟨rfl, rfl, rfl⟩
  exact hk

theorem kept_modSess {s : State} (n : Nat) (f : Sess → Sess) (hk : Kept s0 s) : Kept s0 (State.modSess s n f) := by
  unfold State.modSess
  refine kept_setSess _ _ ?_
  exact hk

theorem kept_setGrp {s : State} (g : Nat) (x : Grp) (hk : Kept s0 s) : Kept s0 (State.setGrp s g x) := by
  unfold State.setGrp
  extract_lets +onlyGivenNames x1
  refine kept_mk ?_ rfl rfl rfl rfl ⟨rfl, rfl, rfl⟩
  exact hk

theorem kept_close {s t : State} (hk : Kept s0 t) : Kept s0 (s.close t) := by
  refine ⟨fun h => close_sound (hk.sound h), ?_, fun e => ?_, fun e => ?_, fun e => ?_, fun e => ?_⟩
  · rw [close_otp]; exact hk.otp
  · rw [close_tick, close_applied]; exact hk.tick e
  · rw [close_cfg]; exact hk.cfg e
  · rw [close_coarse]; exact hk.time e
  · unfold Flt.sameRst; rw [close_flt_rstLeft, close_flt_shdLeft, close_flt_hostReq]; exact hk.rst e

end Sys2Proof.Machine
end

