-- ==== Sys2Proof/Laws/KeptIn.lean ====
section
/-! SUPPORT. The operations of measurement, qualification, selection, the loop engine and the cask keep canonical forms and one-time-programmable memory. -/
namespace Sys2Proof.Machine
open Sys2Proof

variable {s0 : Base}

theorem kept_calibrate {s : State} (l : Nat) (c : Cal) (hk : Kept s0 s) : Kept s0 (State.calibrate s l c) := by
  unfold State.calibrate
  extract_lets +onlyGivenNames x1
  extract_lets +onlyGivenNames x2
  extract_lets +onlyGivenNames x3
  have hx3 : Kept s0 x3 := by
    unfold x3
    refine kept_ite ?_ ?_
    · refine kept_took ?_
      exact hk
    · exact hk
  clear_value x3
  extract_lets +onlyGivenNames x4
  extract_lets +onlyGivenNames x5
  extract_lets +onlyGivenNames x6
  have hx6 : Kept s0 x6 := by
    unfold x6
    refine kept_setLane _ _ ?_
    exact hx3
  clear_value x6
  extract_lets +onlyGivenNames x7
  have hx7 : Kept s0 x7 := by
    unfold x7
    refine kept_ite ?_ ?_
    · refine kept_setS _ _ ?_
      refine kept_setS _ _ ?_
      exact hx6
    · refine kept_setS _ _ ?_
      refine kept_setS _ _ ?_
      exact hx6
  clear_value x7
  refine kept_ite ?_ ?_
  · refine kept_raise _ ?_
    refine kept_obsAdd _ _ ?_
    refine kept_satAdd _ _ ?_
    exact hx7
  · exact hx7

theorem kept_sampleAt {s : State} (l : Nat) (k : Nat) (c : Cal) (hk : Kept s0 s) : Kept s0 (State.sampleAt s l k c) := by
  unfold State.sampleAt
  extract_lets +onlyGivenNames x1
  extract_lets +onlyGivenNames x2
  have hx2 : Kept s0 x2 := by
    unfold x2
    refine kept_calibrate _ _ ?_
    exact hk
  clear_value x2
  extract_lets +onlyGivenNames x3
  refine kept_ite ?_ ?_
  · exact hk
  · refine kept_ite ?_ ?_
    · refine kept_setLane _ _ ?_
      exact hx2
    · refine kept_setLane _ _ ?_
      exact hx2

theorem kept_tdlEdge {s : State} (l : Nat) (t : Nat) (hk : Kept s0 s) : Kept s0 (State.tdlEdge s l t) := by
  unfold State.tdlEdge
  extract_lets +onlyGivenNames x1
  extract_lets +onlyGivenNames x2
  split
  · refine kept_ite ?_ ?_
    · refine kept_setLane _ _ ?_
      exact hk
    · refine kept_setLane _ _ ?_
      exact hk
  · refine kept_setLane _ _ ?_
    exact hk

theorem kept_vrnEdge {s : State} (l : Nat) (t : Nat) (win : Bool) (hk : Kept s0 s) : Kept s0 (State.vrnEdge s l t win) := by
  unfold State.vrnEdge
  extract_lets +onlyGivenNames x1
  extract_lets +onlyGivenNames x2
  refine kept_ite ?_ ?_
  · refine kept_raise _ ?_
    refine kept_obsAdd _ _ ?_
    refine kept_satAdd _ _ ?_
    refine kept_setLane _ _ ?_
    exact hk
  · refine kept_ite ?_ ?_
    · refine kept_setLane _ _ ?_
      exact hk
    · refine kept_setLane _ _ ?_
      exact hk

theorem kept_enterLane {s : State} (l : Nat) (c : Capture) (time : Nat) (hk : Kept s0 s) : Kept s0 (State.enterLane s l c time) := by
  unfold State.enterLane
  dsimp only
  refine kept_ite (kept_ite ?_ ?_) ?_
  · exact kept_raise _ (kept_obsAdd _ _ (kept_satAdd _ _ (kept_setLane _ _ hk)))
  · exact kept_raise _ (kept_obsAdd _ _ (kept_satAdd _ _ (kept_setLane _ _ hk)))
  · have h1 (x : Lane) : Kept s0 ((s.setLane l x).wrapAdd (laneSeq l) 1) := kept_wrapAdd _ _ (kept_setLane _ _ hk)
    exact kept_ite (kept_raise _ (kept_obsAdd _ _ (kept_ite (kept_obsAdd _ _ (h1 _)) (h1 _)))) (kept_ite (kept_obsAdd _ _ (h1 _)) (h1 _))

theorem kept_formTdl {s : State} (l : Nat) (raw : Nat) (hk : Kept s0 s) : Kept s0 (State.formTdl s l raw) := by
  unfold State.formTdl
  extract_lets +onlyGivenNames x1
  split
  · exact hk
  · refine kept_enterLane _ _ _ ?_
    exact hk

theorem kept_formVrn {s : State} (l : Nat) (hk : Kept s0 s) : Kept s0 (State.formVrn s l) := by
  unfold State.formVrn
  split
  · exact hk
  · split
    · exact hk
    · refine kept_ite ?_ ?_
      · exact hk
      · refine kept_enterLane _ _ _ ?_
        exact hk

theorem kept_vrnConverted {s : State} (l : Nat) (sCoarse : Nat) (fall : Bool) (n : Nat) (hk : Kept s0 s) : Kept s0 (State.vrnConverted s l sCoarse fall n) := by
  unfold State.vrnConverted
  extract_lets +onlyGivenNames x1
  split
  · exact hk
  · extract_lets +onlyGivenNames x2
    extract_lets +onlyGivenNames x3
    refine kept_ite ?_ ?_
    · exact hk
    · refine kept_formVrn _ ?_
      refine kept_setLane _ _ ?_
      exact hk

theorem kept_vrnWidth {s : State} (l : Nat) (lead : Nat) (width : Nat) (pwf : Bool) (hk : Kept s0 s) : Kept s0 (State.vrnWidth s l lead width pwf) := by
  unfold State.vrnWidth
  extract_lets +onlyGivenNames x1
  split
  · refine kept_ite ?_ ?_
    · refine kept_formVrn _ ?_
      refine kept_setLane _ _ ?_
      exact hk
    · exact hk
  · exact hk

theorem kept_vrnCalibrated {s : State} (l : Nat) (c : Cal) (hk : Kept s0 s) : Kept s0 (State.vrnCalibrated s l c) := by
  unfold State.vrnCalibrated
  extract_lets +onlyGivenNames x1
  extract_lets +onlyGivenNames x2
  refine kept_ite ?_ ?_
  · exact hk
  · refine kept_ite ?_ ?_
    · exact hk
    · refine kept_calibrate _ _ ?_
      refine kept_setLane _ _ ?_
      exact hk

theorem kept_laneToBank {s : State} (l : Nat) (hk : Kept s0 s) : Kept s0 (State.laneToBank s l) := by
  unfold State.laneToBank
  extract_lets +onlyGivenNames x1
  split
  · exact hk
  · extract_lets +onlyGivenNames x2
    extract_lets +onlyGivenNames x3
    have hx3 : Kept s0 x3 := by
      unfold x3
      refine kept_setLane _ _ ?_
      exact hk
    clear_value x3
    extract_lets +onlyGivenNames x4
    have hx4 : Kept s0 x4 := by
      unfold x4
      refine kept_mk ?_ rfl rfl rfl rfl ⟨rfl, rfl, rfl⟩
      exact hx3
    clear_value x4
    extract_lets +onlyGivenNames x5
    have hx5 : Kept s0 x5 := by
      unfold x5
      refine kept_obsAdd _ _ ?_
      refine kept_hwm _ _ ?_
      exact hx4
    clear_value x5
    refine kept_ite ?_ ?_
    · exact hk
    · refine kept_ite ?_ ?_
      · refine kept_raise _ ?_
        exact hk
      · refine kept_raiseIf _ _ ?_
        exact hx5

theorem kept_decimDown {s : State} (hk : Kept s0 s) : Kept s0 (State.decimDown s) := by
  unfold State.decimDown
  refine kept_foldl ?_ (fun t1 at1 ht1 => ?_) _
  · exact hk
  · extract_lets +onlyGivenNames x2
    refine kept_ite ?_ ?_
    · exact ht1
    · refine kept_setLane _ _ ?_
      exact ht1

theorem kept_toSlot {s : State} (r : Rec) (hk : Kept s0 s) : Kept s0 (State.toSlot s r) := by
  unfold State.toSlot
  refine kept_ite ?_ ?_
  · refine kept_noteSlot _ _ ?_
    exact hk
  · exact hk

theorem kept_refSupply {s : State} (bank : Nat) (mv : Nat) (hk : Kept s0 s) : Kept s0 (State.refSupply s bank mv) := by
  unfold State.refSupply
  extract_lets +onlyGivenNames x1
  extract_lets +onlyGivenNames x2
  extract_lets +onlyGivenNames x3
  extract_lets +onlyGivenNames x4
  extract_lets +onlyGivenNames x5
  have hx5 : Kept s0 x5 := by
    unfold x5
    refine kept_mk ?_ rfl rfl rfl rfl ⟨rfl, rfl, rfl⟩
    exact hk
  clear_value x5
  extract_lets +onlyGivenNames x6
  have hx6 : Kept s0 x6 := by
    unfold x6
    refine kept_set _ _ ?_
    exact hx5
  clear_value x6
  extract_lets +onlyGivenNames x7
  have hx7 : Kept s0 x7 := by
    unfold x7
    refine kept_set _ _ ?_
    exact hx6
  clear_value x7
  refine kept_raiseIf _ _ ?_
  exact hx7

theorem kept_refClassLatch {s : State} (bank : Nat) (hk : Kept s0 s) : Kept s0 (State.refClassLatch s bank) := by
  unfold State.refClassLatch
  extract_lets +onlyGivenNames x1
  extract_lets +onlyGivenNames x2
  refine kept_ite ?_ ?_
  · refine kept_set _ _ ?_
    refine kept_set _ _ ?_
    exact hk
  · exact hk

theorem kept_winFail {s : State} (n : Nat) (hk : Kept s0 s) : Kept s0 (State.winFail s n) := by
  unfold State.winFail
  refine kept_raise _ ?_
  refine kept_obsAdd _ _ ?_
  refine kept_satAdd _ _ ?_
  refine kept_set _ _ ?_
  exact hk

theorem kept_monitored {s : State} (n : Nat) (t : Nat) (hk : Kept s0 s) : Kept s0 (State.monitored s n t) := by
  unfold State.monitored
  extract_lets +onlyGivenNames x1
  extract_lets +onlyGivenNames x2
  have hx2 : Kept s0 x2 := by
    unfold x2
    refine kept_setRef _ _ ?_
    exact hk
  clear_value x2
  extract_lets +onlyGivenNames x3
  have hx3 : Kept s0 x3 := by
    unfold x3
    refine kept_set _ _ ?_
    exact hx2
  clear_value x3
  refine kept_ite ?_ ?_
  · refine kept_set _ _ ?_
    exact hx3
  · exact hx3

theorem kept_pulseWindow {s : State} (n : Nat) (t : Nat) (hk : Kept s0 s) : KeptP s0 (State.pulseWindow s n t) := by
  unfold State.pulseWindow
  extract_lets +onlyGivenNames x1
  extract_lets +onlyGivenNames x2
  extract_lets +onlyGivenNames x3
  have hx3 : Kept s0 x3 := by
    unfold x3
    refine kept_setRef _ _ ?_
    exact hk
  clear_value x3
  split
  · refine keptP_mk ?_ _
    exact hx3
  · extract_lets +onlyGivenNames x4
    extract_lets +onlyGivenNames x5
    refine keptP_ite ?_ ?_
    · refine keptP_mk ?_ _
      exact hx3
    · refine keptP_ite ?_ ?_
      · refine keptP_mk ?_ _
        refine kept_winFail _ ?_
        exact hx3
      · refine keptP_mk ?_ _
        refine kept_set _ _ ?_
        exact hx3

theorem kept_dividedEdge {s : State} (n : Nat) (t : Nat) (hk : Kept s0 s) : Kept s0 (State.dividedEdge s n t) := by
  unfold State.dividedEdge
  extract_lets +onlyGivenNames x1
  extract_lets +onlyGivenNames x2
  have hx2 : Kept s0 x2 := by
    unfold x2
    refine kept_monitored _ _ ?_
    exact hk
  clear_value x2
  extract_lets +onlyGivenNames x3
  have hx3 : KeptP s0 x3 := by
    unfold x3
    refine kept_pulseWindow _ _ ?_
    exact hx2
  clear_value x3
  extract_lets +onlyGivenNames x4
  extract_lets +onlyGivenNames x5
  have hx5 : Kept s0 x5 := by
    unfold x5
    refine kept_setRef _ _ ?_
    show KeptP s0 _
    exact hx3
  clear_value x5
  extract_lets +onlyGivenNames x6
  extract_lets +onlyGivenNames x7
  extract_lets +onlyGivenNames x8
  have hx8 : Kept s0 x8 := by
    unfold x8
    refine kept_setRef _ _ ?_
    exact hk
  clear_value x8
  extract_lets +onlyGivenNames x9
  have hx9 : Kept s0 x9 := by
    unfold x9
    refine kept_ite ?_ ?_
    · refine kept_monitored _ _ ?_
      exact hx8
    · exact hx8
  clear_value x9
  refine kept_ite ?_ ?_
  · split
    · refine kept_vrnEdge _ _ _ ?_
      exact hx5
    · exact hx5
  · split
    · refine kept_tdlEdge _ _ ?_
      exact hx9
    · exact hx9

theorem kept_leadingEdge {s : State} (n : Nat) (t : Nat) (hk : Kept s0 s) : Kept s0 (State.leadingEdge s n t) := by
  unfold State.leadingEdge
  extract_lets +onlyGivenNames x1
  extract_lets +onlyGivenNames x2
  extract_lets +onlyGivenNames x3
  extract_lets +onlyGivenNames x4
  have hx4 : Kept s0 x4 := by
    unfold x4
    refine kept_setRef _ _ ?_
    exact hk
  clear_value x4
  refine kept_ite ?_ ?_
  · refine kept_dividedEdge _ _ ?_
    exact hx4
  · exact hx4

theorem kept_pulseWidth {s : State} (n : Nat) (lead : Nat) (periods : Nat) (hk : Kept s0 s) : Kept s0 (State.pulseWidth s n lead periods) := by
  unfold State.pulseWidth
  extract_lets +onlyGivenNames x1
  extract_lets +onlyGivenNames x2
  extract_lets +onlyGivenNames x3
  extract_lets +onlyGivenNames x4
  extract_lets +onlyGivenNames x5
  have hx5 : Kept s0 x5 := by
    unfold x5
    refine kept_setRef _ _ ?_
    exact hk
  clear_value x5
  extract_lets +onlyGivenNames x6
  have hx6 : Kept s0 x6 := by
    unfold x6
    refine kept_ite ?_ ?_
    · refine kept_raise _ ?_
      refine kept_obsAdd _ _ ?_
      refine kept_satAdd _ _ ?_
      refine kept_set _ _ ?_
      exact hx5
    · refine kept_set _ _ ?_
      exact hx5
  clear_value x6
  split
  · refine kept_vrnWidth _ _ _ _ ?_
    exact hx6
  · exact hx6

theorem kept_refEdge {s : State} (n : Nat) (t : Nat) (rise : Bool) (hold : Nat) (hk : Kept s0 s) : Kept s0 (State.refEdge s n t rise hold) := by
  unfold State.refEdge
  extract_lets +onlyGivenNames x1
  extract_lets +onlyGivenNames x2
  refine kept_ite ?_ ?_
  · exact hk
  · refine kept_ite ?_ ?_
    · refine kept_setRef _ _ ?_
      exact hk
    · refine kept_ite ?_ ?_
      · refine kept_raise _ ?_
        refine kept_obsAdd _ _ ?_
        refine kept_satAdd _ _ ?_
        refine kept_setRef _ _ ?_
        exact hk
      · refine kept_ite ?_ ?_
        · refine kept_leadingEdge _ _ ?_
          exact hk
        · split
          · refine kept_ite ?_ ?_
            · refine kept_pulseWidth _ _ _ ?_
              exact hk
            · exact hk
          · exact hk

theorem kept_widthTimeout {s : State} (n : Nat) (hk : Kept s0 s) : Kept s0 (State.widthTimeout s n) := by
  unfold State.widthTimeout
  split
  · extract_lets +onlyGivenNames x1
    refine kept_ite ?_ ?_
    · refine kept_pulseWidth _ _ _ ?_
      exact hk
    · exact hk
  · exact hk

theorem kept_lowerLoss {s : State} (n : Nat) (t : Int) (hk : Kept s0 s) : Kept s0 (State.lowerLoss s n t) := by
  unfold State.lowerLoss
  refine kept_ite ?_ ?_
  · exact hk
  · refine kept_set _ _ ?_
    refine kept_setB _ _ ?_
    refine kept_noteSlot _ _ ?_
    exact hk

theorem kept_refLoss {s : State} (n : Nat) (t : Int) (hk : Kept s0 s) : Kept s0 (State.refLoss s n t) := by
  unfold State.refLoss
  refine kept_ite ?_ ?_
  · exact hk
  · refine kept_lowerLoss _ _ ?_
    refine kept_raise _ ?_
    refine kept_set _ _ ?_
    exact hk

theorem kept_srcLoss {s : State} (n : Nat) (hk : Kept s0 s) : Kept s0 (State.srcLoss s n) := by
  unfold State.srcLoss
  refine kept_ite ?_ ?_
  · refine kept_refLoss _ _ ?_
    exact hk
  · exact hk

theorem kept_noteMissing {s : State} (n : Nat) (t : Int) (hk : Kept s0 s) : Kept s0 (State.noteMissing s n t) := by
  unfold State.noteMissing
  refine kept_noteSlot _ _ ?_
  exact hk

theorem kept_missingEdge {s : State} (n : Nat) (hk : Kept s0 s) : Kept s0 (State.missingEdge s n) := by
  unfold State.missingEdge
  extract_lets +onlyGivenNames x1
  extract_lets +onlyGivenNames x2
  extract_lets +onlyGivenNames x3
  extract_lets +onlyGivenNames x4
  have hx4 : Kept s0 x4 := by
    unfold x4
    refine kept_setRef _ _ ?_
    exact hk
  clear_value x4
  extract_lets +onlyGivenNames x5
  have hx5 : Kept s0 x5 := by
    unfold x5
    refine kept_raise _ ?_
    refine kept_obsAdd _ _ ?_
    refine kept_satAdd _ _ ?_
    refine kept_set _ _ ?_
    exact hx4
  clear_value x5
  extract_lets +onlyGivenNames x6
  have hx6 : Kept s0 x6 := by
    unfold x6
    refine kept_noteMissing _ _ ?_
    exact hx5
  clear_value x6
  refine kept_ite ?_ ?_
  · exact hk
  · refine kept_ite ?_ ?_
    · refine kept_refLoss _ _ ?_
      exact hx6
    · exact hx6

theorem kept_windowGate {s : State} (n : Nat) (hk : Kept s0 s) : Kept s0 (State.windowGate s n) := by
  unfold State.windowGate
  extract_lets +onlyGivenNames x1
  extract_lets +onlyGivenNames x2
  extract_lets +onlyGivenNames x3
  extract_lets +onlyGivenNames x4
  extract_lets +onlyGivenNames x5
  extract_lets +onlyGivenNames x6
  have hx6 : Kept s0 x6 := by
    unfold x6
    refine kept_setRef _ _ ?_
    exact hk
  clear_value x6
  refine kept_ite ?_ ?_
  · exact hk
  · refine kept_ite ?_ ?_
    · refine kept_winFail _ ?_
      exact hx6
    · refine kept_set _ _ ?_
      exact hx6

theorem kept_refBoundary {s : State} (n : Nat) (hk : Kept s0 s) : Kept s0 (State.refBoundary s n) := by
  unfold State.refBoundary
  extract_lets +onlyGivenNames x1
  refine kept_ite ?_ ?_
  · exact hk
  · refine kept_ite ?_ ?_
    · refine kept_setRef _ _ ?_
      exact hk
    · refine kept_setRef _ _ ?_
      exact hk

theorem kept_levelLoss {s : State} (n : Nat) (hk : Kept s0 s) : Kept s0 (State.levelLoss s n) := by
  unfold State.levelLoss
  refine kept_ite ?_ ?_
  · refine kept_raise _ ?_
    refine kept_set _ _ ?_
    exact hk
  · exact hk

theorem kept_levelRestore {s : State} (n : Nat) (hk : Kept s0 s) : Kept s0 (State.levelRestore s n) := by
  unfold State.levelRestore
  refine kept_ite ?_ ?_
  · refine kept_set _ _ ?_
    exact hk
  · exact hk

theorem kept_refStart {s : State} (n : Nat) (hk : Kept s0 s) : Kept s0 (State.refStart s n) := by
  unfold State.refStart
  extract_lets +onlyGivenNames x1
  extract_lets +onlyGivenNames x2
  have hx2 : Kept s0 x2 := by
    unfold x2
    refine kept_set _ _ ?_
    refine kept_set _ _ ?_
    refine kept_set _ _ ?_
    refine kept_setRef _ _ ?_
    exact hk
  clear_value x2
  refine kept_ite ?_ ?_
  · exact hx2
  · refine kept_srcLoss _ ?_
    exact hx2

theorem kept_secondEval {s : State} (n : Nat) (q : QSlot) (hk : Kept s0 s) : KeptP s0 (State.secondEval s n q) := by
  unfold State.secondEval
  extract_lets +onlyGivenNames x1
  extract_lets +onlyGivenNames x2
  have hx2 : Kept s0 x2 := by
    unfold x2
    refine kept_pset _ _ ?_
    exact hk
  clear_value x2
  extract_lets +onlyGivenNames x3
  extract_lets +onlyGivenNames x4
  extract_lets +onlyGivenNames x5
  extract_lets +onlyGivenNames x6
  extract_lets +onlyGivenNames x7
  extract_lets +onlyGivenNames x8
  extract_lets +onlyGivenNames x9
  have hx9 : Kept s0 x9 := by
    unfold x9
    refine kept_psetS _ _ ?_
    refine kept_psetS _ _ ?_
    refine kept_psetS _ _ ?_
    refine kept_psetS _ _ ?_
    exact hx2
  clear_value x9
  extract_lets +onlyGivenNames x10
  refine keptP_ite ?_ ?_
  · refine keptP_mk ?_ _
    exact hk
  · refine keptP_ite ?_ ?_
    · refine keptP_mk ?_ _
      refine kept_pset _ _ ?_
      exact hx9
    · refine keptP_mk ?_ _
      exact hx2

theorem kept_putConds {s : State} (n : Nat) (c : Conds) (hk : Kept s0 s) : Kept s0 (State.putConds s n c) := by
  unfold State.putConds
  refine kept_psetB _ _ ?_
  refine kept_psetB _ _ ?_
  refine kept_psetB _ _ ?_
  refine kept_psetB _ _ ?_
  refine kept_psetB _ _ ?_
  refine kept_psetB _ _ ?_
  refine kept_psetB _ _ ?_
  refine kept_psetB _ _ ?_
  refine kept_psetB _ _ ?_
  refine kept_psetB _ _ ?_
  exact hk

theorem kept_enter {s : State} (n : Nat) (st : Nat) (sticky : Option Fld) (hk : Kept s0 s) : Kept s0 (State.enter s n st sticky) := by
  unfold State.enter
  extract_lets +onlyGivenNames x1
  extract_lets +onlyGivenNames x2
  refine kept_emitAll _ _ ?_
  refine kept_pset _ _ ?_
  exact hk

theorem kept_setCause {s : State} (n : Nat) (q : QSlot) (c : Conds) (hk : Kept s0 s) : Kept s0 (State.setCause s n q c) := by
  unfold State.setCause
  refine kept_pset _ _ ?_
  refine kept_pset _ _ ?_
  exact hk

theorem kept_enterDisq {s : State} (n : Nat) (q : QSlot) (c : Conds) (hk : Kept s0 s) : Kept s0 (State.enterDisq s n q c) := by
  unfold State.enterDisq
  refine kept_enter _ _ _ ?_
  refine kept_setCause _ _ _ ?_
  exact hk

theorem kept_enterSus {s : State} (n : Nat) (q : QSlot) (c : Conds) (hk : Kept s0 s) : KeptP s0 (State.enterSus s n q c) := by
  unfold State.enterSus
  refine keptP_mk ?_ _
  refine kept_enter _ _ _ ?_
  refine kept_setCause _ _ _ ?_
  exact hk

theorem kept_enterSteep {s : State} (n : Nat) (q : QSlot) (hk : Kept s0 s) : KeptP s0 (State.enterSteep s n q) := by
  unfold State.enterSteep
  extract_lets +onlyGivenNames x1
  extract_lets +onlyGivenNames x2
  have hx2 : Kept s0 x2 := by
    unfold x2
    refine kept_pset _ _ ?_
    refine kept_enter _ _ _ ?_
    exact hk
  clear_value x2
  extract_lets +onlyGivenNames x3
  have hx3 : Kept s0 x3 := by
    unfold x3
    refine kept_ite ?_ ?_
    · refine kept_emitAll _ _ ?_
      exact hx2
    · exact hx2
  clear_value x3
  extract_lets +onlyGivenNames x4
  refine keptP_mk ?_ _
  refine kept_pset _ _ ?_
  exact hx3

theorem kept_undeclared {s : State} (n : Nat) (hk : Kept s0 s) : Kept s0 (State.undeclared s n) := by
  unfold State.undeclared
  extract_lets +onlyGivenNames x1
  extract_lets +onlyGivenNames x2
  have hx2 : Kept s0 x2 := by
    unfold x2
    refine kept_setQslot _ _ ?_
    refine kept_emitAll _ _ ?_
    refine kept_enter _ _ _ ?_
    exact hk
  clear_value x2
  extract_lets +onlyGivenNames x3
  have hx3 : Kept s0 x3 := by
    unfold x3
    refine kept_putConds _ _ ?_
    exact hx2
  clear_value x3
  extract_lets +onlyGivenNames x4
  have hx4 : Kept s0 x4 := by
    unfold x4
    refine kept_pset _ _ ?_
    refine kept_psetB _ _ ?_
    refine kept_pset _ _ ?_
    refine kept_pset _ _ ?_
    exact hx3
  clear_value x4
  extract_lets +onlyGivenNames x5
  have hx5 : Kept s0 x5 := by
    unfold x5
    refine kept_pset _ _ ?_
    refine kept_pset _ _ ?_
    refine kept_pset _ _ ?_
    refine kept_pset _ _ ?_
    exact hx4
  clear_value x5
  refine kept_pset _ _ ?_
  refine kept_pset _ _ ?_
  refine kept_pset _ _ ?_
  exact hx5

theorem kept_transit {s : State} (n : Nat) (shadow : Bool) (q : QSlot) (c : Conds) (hk : Kept s0 s) : KeptP s0 (State.transit s n shadow q c) := by
  unfold State.transit
  extract_lets +onlyGivenNames x1
  extract_lets +onlyGivenNames x2
  refine keptP_ite ?_ ?_
  · refine keptP_ite ?_ ?_
    · refine keptP_mk ?_ _
      exact hk
    · refine keptP_mk ?_ _
      refine kept_enter _ _ _ ?_
      exact hk
  · refine keptP_ite ?_ ?_
    · refine keptP_ite ?_ ?_
      · refine keptP_mk ?_ _
        refine kept_enter _ _ _ ?_
        exact hk
      · refine keptP_ite ?_ ?_
        · refine keptP_mk ?_ _
          refine kept_enterDisq _ _ _ ?_
          exact hk
        · refine keptP_ite ?_ ?_
          · refine kept_enterSus _ _ _ ?_
            exact hk
          · refine keptP_mk ?_ _
            refine kept_enter _ _ _ ?_
            exact hk
    · refine keptP_ite ?_ ?_
      · refine keptP_ite ?_ ?_
        · refine keptP_mk ?_ _
          refine kept_enterDisq _ _ _ ?_
          exact hk
        · refine keptP_mk ?_ _
          exact hk
      · refine keptP_ite ?_ ?_
        · refine keptP_ite ?_ ?_
          · refine kept_enterSteep _ _ ?_
            exact hk
          · refine keptP_mk ?_ _
            exact hk
        · refine keptP_ite ?_ ?_
          · refine keptP_ite ?_ ?_
            · refine keptP_mk ?_ _
              refine kept_enterDisq _ _ _ ?_
              exact hk
            · refine keptP_ite ?_ ?_
              · refine keptP_mk ?_ _
                refine kept_ite ?_ ?_
                · exact hk
                · refine kept_emit _ _ ?_
                  exact hk
              · refine keptP_ite ?_ ?_
                · refine keptP_mk ?_ _
                  refine kept_enter _ _ _ ?_
                  exact hk
                · refine keptP_mk ?_ _
                  exact hk
          · refine keptP_ite ?_ ?_
            · refine keptP_ite ?_ ?_
              · refine keptP_mk ?_ _
                refine kept_enterDisq _ _ _ ?_
                exact hk
              · refine keptP_ite ?_ ?_
                · refine kept_enterSus _ _ _ ?_
                  exact hk
                · refine keptP_mk ?_ _
                  exact hk
            · refine keptP_ite ?_ ?_
              · refine keptP_ite ?_ ?_
                · refine keptP_mk ?_ _
                  refine kept_enterDisq _ _ _ ?_
                  exact hk
                · refine keptP_ite ?_ ?_
                  · refine keptP_mk ?_ _
                    exact hk
                  · refine keptP_ite ?_ ?_
                    · refine keptP_mk ?_ _
                      refine kept_enter _ _ _ ?_
                      exact hk
                    · refine keptP_mk ?_ _
                      exact hk
              · refine keptP_ite ?_ ?_
                · refine keptP_ite ?_ ?_
                  · refine keptP_mk ?_ _
                    exact hk
                  · refine kept_enterSteep _ _ ?_
                    exact hk
                · refine keptP_mk ?_ _
                  exact hk

theorem kept_takeInbox {s : State} (n : Nat) (hk : Kept s0 s) : Kept s0 (State.takeInbox s n) := by
  unfold State.takeInbox
  extract_lets +onlyGivenNames x1
  extract_lets +onlyGivenNames x2
  extract_lets +onlyGivenNames x3
  extract_lets +onlyGivenNames x4
  extract_lets +onlyGivenNames x5
  extract_lets +onlyGivenNames x6
  extract_lets +onlyGivenNames x7
  have hx7 : Kept s0 x7 := by
    unfold x7
    refine kept_ite ?_ ?_
    · refine kept_emitAll _ _ ?_
      exact hk
    · exact hk
  clear_value x7
  extract_lets +onlyGivenNames x8
  have hx8 : Kept s0 x8 := by
    unfold x8
    refine kept_psetB _ _ ?_
    exact hx7
  clear_value x8
  extract_lets +onlyGivenNames x9
  have hx9 : Kept s0 x9 := by
    unfold x9
    refine kept_ite ?_ ?_
    · refine kept_ite ?_ ?_
      · exact hx8
      · refine kept_pset _ _ ?_
        exact hx8
    · exact hx7
  clear_value x9
  refine kept_setQslot _ _ ?_
  exact hx9

theorem kept_qualifyJob {s : State} (n : Nat) (hk : Kept s0 s) : Kept s0 (State.qualifyJob s n) := by
  unfold State.qualifyJob
  extract_lets +onlyGivenNames x1
  extract_lets +onlyGivenNames x2
  have hx2 : Kept s0 x2 := by
    unfold x2
    refine kept_takeInbox _ ?_
    exact hk
  clear_value x2
  extract_lets +onlyGivenNames x3
  have hx3 : KeptP s0 x3 := by
    unfold x3
    refine kept_secondEval _ _ ?_
    exact hx2
  clear_value x3
  extract_lets +onlyGivenNames x4
  have hx4 : Kept s0 x4 := by
    unfold x4
    show KeptP s0 _
    exact hx3
  clear_value x4
  extract_lets +onlyGivenNames x5
  extract_lets +onlyGivenNames x6
  extract_lets +onlyGivenNames x7
  extract_lets +onlyGivenNames x8
  extract_lets +onlyGivenNames x9
  have hx9 : Kept s0 x9 := by
    unfold x9
    refine kept_emitAll _ _ ?_
    refine kept_putConds _ _ ?_
    exact hx4
  clear_value x9
  extract_lets +onlyGivenNames x10
  have hx10 : KeptP s0 x10 := by
    unfold x10
    refine kept_transit _ _ _ _ ?_
    exact hx9
  clear_value x10
  extract_lets +onlyGivenNames x11
  refine kept_ite ?_ ?_
  · refine kept_ite ?_ ?_
    · exact hk
    · refine kept_undeclared _ ?_
      exact hk
  · refine kept_ite ?_ ?_
    · exact hk
    · refine kept_setQslot _ _ ?_
      show KeptP s0 _
      exact hx10

theorem kept_steepExpiry {s : State} (n : Nat) (hk : Kept s0 s) : Kept s0 (State.steepExpiry s n) := by
  unfold State.steepExpiry
  refine kept_ite ?_ ?_
  · refine kept_qualifyJob _ ?_
    exact hk
  · exact hk

theorem kept_srecExpiry {s : State} (n : Nat) (hk : Kept s0 s) : Kept s0 (State.srecExpiry s n) := by
  unfold State.srecExpiry
  refine kept_ite ?_ ?_
  · refine kept_qualifyJob _ ?_
    exact hk
  · exact hk

theorem kept_lossTimeout {s : State} (n : Nat) (hk : Kept s0 s) : Kept s0 (State.lossTimeout s n) := by
  unfold State.lossTimeout
  extract_lets +onlyGivenNames x1
  extract_lets +onlyGivenNames x2
  have hx2 : Kept s0 x2 := by
    unfold x2
    refine kept_setB _ _ ?_
    refine kept_noteSlot _ _ ?_
    exact hk
  clear_value x2
  extract_lets +onlyGivenNames x3
  extract_lets +onlyGivenNames x4
  have hx4 : Kept s0 x4 := by
    unfold x4
    refine kept_raise _ ?_
    exact hx2
  clear_value x4
  refine kept_ite ?_ ?_
  · exact hk
  · split
    · refine kept_ite ?_ ?_
      · refine kept_captureCause _ _ ?_
        exact hx4
      · exact hx4
    · exact hx4

theorem kept_driftIntJob {s : State} (n : Nat) (hk : Kept s0 s) : Kept s0 (State.driftIntJob s n) := by
  unfold State.driftIntJob
  extract_lets +onlyGivenNames x1
  have hx1 : Kept s0 x1 := by
    unfold x1
    refine kept_takeInbox _ ?_
    exact hk
  clear_value x1
  extract_lets +onlyGivenNames x2
  have hx2 : KeptP s0 x2 := by
    unfold x2
    refine kept_secondEval _ _ ?_
    exact hx1
  clear_value x2
  extract_lets +onlyGivenNames x3
  have hx3 : Kept s0 x3 := by
    unfold x3
    refine kept_setQslot _ _ ?_
    show KeptP s0 _
    exact hx2
  clear_value x3
  extract_lets +onlyGivenNames x4
  extract_lets +onlyGivenNames x5
  extract_lets +onlyGivenNames x6
  have hx6 : Kept s0 x6 := by
    unfold x6
    refine kept_psetB _ _ ?_
    exact hx3
  clear_value x6
  refine kept_ite ?_ ?_
  · exact hk
  · refine kept_ite ?_ ?_
    · exact hx3
    · refine kept_ite ?_ ?_
      · refine kept_emit _ _ ?_
        exact hx6
      · exact hx6

theorem kept_adevJob {s : State} (n : Nat) (hk : Kept s0 s) : Kept s0 (State.adevJob s n) := by
  unfold State.adevJob
  extract_lets +onlyGivenNames x1
  extract_lets +onlyGivenNames x2
  extract_lets +onlyGivenNames x3
  extract_lets +onlyGivenNames x4
  extract_lets +onlyGivenNames x5
  have hx5 : Kept s0 x5 := by
    unfold x5
    refine kept_obsAdd _ _ ?_
    refine kept_setQslot _ _ ?_
    exact hk
  clear_value x5
  extract_lets +onlyGivenNames x6
  extract_lets +onlyGivenNames x7
  extract_lets +onlyGivenNames x8
  extract_lets +onlyGivenNames x9
  have hx9 : Kept s0 x9 := by
    unfold x9
    refine kept_set _ _ ?_
    refine kept_set _ _ ?_
    refine kept_set _ _ ?_
    refine kept_set _ _ ?_
    exact hx5
  clear_value x9
  refine kept_ite ?_ ?_
  · exact hk
  · refine kept_raiseIf _ _ ?_
    refine kept_set _ _ ?_
    exact hx9

theorem kept_qulBoundary {s : State} (sec : Bool) (dt : Nat) (n : Nat) (hk : Kept s0 s) : Kept s0 (State.qulBoundary s sec dt n) := by
  unfold State.qulBoundary
  extract_lets +onlyGivenNames x1
  extract_lets +onlyGivenNames x2
  have hx2 : Kept s0 x2 := by
    unfold x2
    refine kept_noteSlot _ _ ?_
    exact hk
  clear_value x2
  extract_lets +onlyGivenNames x3
  refine kept_ite ?_ ?_
  · exact hk
  · refine kept_lossTimeout _ ?_
    refine kept_set _ _ ?_
    exact hx2

theorem kept_rankBoundary {s : State} (n : Nat) (hk : Kept s0 s) : Kept s0 (State.rankBoundary s n) := by
  unfold State.rankBoundary
  refine kept_ite ?_ ?_
  · refine kept_set _ _ ?_
    exact hk
  · exact hk

theorem kept_limitsTaken {s : State} (old : Tab Nat) (n : Nat) (hk : Kept s0 s) : Kept s0 (State.limitsTaken s old n) := by
  unfold State.limitsTaken
  extract_lets +onlyGivenNames x1
  extract_lets +onlyGivenNames x2
  extract_lets +onlyGivenNames x3
  extract_lets +onlyGivenNames x4
  refine kept_ite ?_ ?_
  · exact hk
  · refine kept_ite ?_ ?_
    · exact hk
    · refine kept_raiseAll _ ?_
      refine kept_inBoth (fun t5 ht5 => ?_) ?_
      · refine kept_putConds _ _ ?_
        exact ht5
      · exact hk

theorem kept_restartWindows {s : State} (n : Nat) (l : List Nat) (hk : Kept s0 s) : Kept s0 (State.restartWindows s n l) := by
  unfold State.restartWindows
  refine kept_noteSlot _ _ ?_
  exact hk

theorem kept_putEst {s : State} (c : Nat) (e : Option Rat) (hk : Kept s0 s) : Kept s0 (State.putEst s c e) := by
  unfold State.putEst
  refine kept_modChan _ _ ?_
  exact hk

theorem kept_followSlot {s : State} (c : Nat) (n : Nat) (hk : Kept s0 s) : Kept s0 (State.followSlot s c n) := by
  unfold State.followSlot
  extract_lets +onlyGivenNames x1
  extract_lets +onlyGivenNames x2
  have hx2 : ∀ u3, Kept s0 (x2 u3) := by
    intro u3
    unfold x2
    refine kept_modChan _ _ ?_
    exact hk
  clear_value x2
  split
  · exact hk
  · split
    · refine hx2 _
    · extract_lets +onlyGivenNames x4
      refine kept_ite ?_ ?_
      · refine hx2 _
      · refine hx2 _

theorem kept_useSlot {s : State} (c : Nat) (n : Nat) (hk : Kept s0 s) : Kept s0 (State.useSlot s c n) := by
  unfold State.useSlot
  split
  · extract_lets +onlyGivenNames x1
    extract_lets +onlyGivenNames x2
    refine kept_ite ?_ ?_
    · exact hk
    · refine kept_modChan _ _ ?_
      exact hk
  · exact hk

theorem kept_takeDevs {s : State} (c : Nat) (n : Nat) (hk : Kept s0 s) : Kept s0 (State.takeDevs s c n) := by
  unfold State.takeDevs
  extract_lets +onlyGivenNames x1
  split
  · exact hk
  · extract_lets +onlyGivenNames x2
    extract_lets +onlyGivenNames x3
    refine kept_ite ?_ ?_
    · refine kept_setChan _ _ ?_
      exact hk
    · refine kept_setChan _ _ ?_
      exact hk

theorem kept_psetOfs {s : State} (lo : Fld) (hi : Fld) (o : Rat) (hk : Kept s0 s) : Kept s0 (State.psetOfs s lo hi o) := by
  unfold State.psetOfs
  refine kept_psetS2 _ _ _ ?_
  exact hk

theorem kept_showPrep {s : State} (c : Nat) (p : Option Prep) (hk : Kept s0 s) : Kept s0 (State.showPrep s c p) := by
  unfold State.showPrep
  extract_lets +onlyGivenNames x1
  have hx1 : Kept s0 x1 := by
    unfold x1
    refine kept_modChan _ _ ?_
    exact hk
  clear_value x1
  split
  · refine kept_psetOfs _ _ _ ?_
    refine kept_pset _ _ ?_
    refine kept_pset _ _ ?_
    refine kept_pset _ _ ?_
    refine kept_pset _ _ ?_
    exact hx1
  · refine kept_psetOfs _ _ _ ?_
    refine kept_pset _ _ ?_
    refine kept_pset _ _ ?_
    refine kept_pset _ _ ?_
    refine kept_pset _ _ ?_
    exact hx1

theorem kept_beginTransition {s : State} (c : Nat) (n : Nat) (side : Side) (due : Nat) (redirect : Bool) (hk : Kept s0 s) : Kept s0 (State.beginTransition s c n side due redirect) := by
  unfold State.beginTransition
  extract_lets +onlyGivenNames x1
  have hx1 : Kept s0 x1 := by
    unfold x1
    refine kept_useSlot _ _ ?_
    exact hk
  clear_value x1
  split
  · exact hx1
  · extract_lets +onlyGivenNames x2
    extract_lets +onlyGivenNames x3
    extract_lets +onlyGivenNames x4
    have hx4 : Kept s0 x4 := by
      unfold x4
      refine kept_showPrep _ _ ?_
      refine kept_setChan _ _ ?_
      exact hx1
    clear_value x4
    extract_lets +onlyGivenNames x5
    have hx5 : Kept s0 x5 := by
      unfold x5
      refine kept_pset _ _ ?_
      refine kept_pset _ _ ?_
      refine kept_pset _ _ ?_
      exact hx4
    clear_value x5
    extract_lets +onlyGivenNames x6
    have hx6 : Kept s0 x6 := by
      unfold x6
      refine kept_psetB _ _ ?_
      refine kept_psetS _ _ ?_
      refine kept_pset _ _ ?_
      exact hx5
    clear_value x6
    refine kept_emitAll _ _ ?_
    exact hx6

theorem kept_track {s : State} (c : Nat) (n : Nat) (o : Rat) (hk : Kept s0 s) : Kept s0 (State.track s c n o) := by
  unfold State.track
  extract_lets +onlyGivenNames x1
  have hx1 : Kept s0 x1 := by
    unfold x1
    refine kept_modChan _ _ ?_
    exact hk
  clear_value x1
  extract_lets +onlyGivenNames x2
  have hx2 : Kept s0 x2 := by
    unfold x2
    refine kept_pset _ _ ?_
    refine kept_pset _ _ ?_
    refine kept_pset _ _ ?_
    exact hx1
  clear_value x2
  extract_lets +onlyGivenNames x3
  have hx3 : Kept s0 x3 := by
    unfold x3
    refine kept_psetOfs _ _ _ ?_
    exact hx2
  clear_value x3
  refine kept_ite ?_ ?_
  · refine kept_psetB _ _ ?_
    exact hx3
  · exact hx3

theorem kept_showMembers {s : State} (c : Nat) (ms : List Member) (hk : Kept s0 s) : Kept s0 (State.showMembers s c ms) := by
  unfold State.showMembers
  extract_lets +onlyGivenNames x1
  have hx1 : Kept s0 x1 := by
    unfold x1
    refine kept_modChan _ _ ?_
    exact hk
  clear_value x1
  extract_lets +onlyGivenNames x2
  have hx2 : Kept s0 x2 := by
    unfold x2
    refine kept_foldl ?_ (fun t3 at3 ht3 => ?_) _
    · exact hx1
    · split
      · refine kept_psetS _ _ ?_
        refine kept_pset _ _ ?_
        refine kept_psetB _ _ ?_
        refine kept_psetB _ _ ?_
        refine kept_pset _ _ ?_
        exact ht3
  clear_value x2
  refine kept_pset _ _ ?_
  exact hx2

theorem kept_enterNoRef {s : State} (c : Nat) (hk : Kept s0 s) : Kept s0 (State.enterNoRef s c) := by
  unfold State.enterNoRef
  extract_lets +onlyGivenNames x1
  have hx1 : Kept s0 x1 := by
    unfold x1
    refine kept_showMembers _ _ ?_
    refine kept_showPrep _ _ ?_
    exact hk
  clear_value x1
  extract_lets +onlyGivenNames x2
  have hx2 : Kept s0 x2 := by
    unfold x2
    refine kept_pset _ _ ?_
    refine kept_pset _ _ ?_
    refine kept_pset _ _ ?_
    exact hx1
  clear_value x2
  refine kept_emitAll _ _ ?_
  refine kept_psetB _ _ ?_
  exact hx2

theorem kept_complete {s : State} (c : Nat) (hk : Kept s0 s) : Kept s0 (State.complete s c) := by
  unfold State.complete
  extract_lets +onlyGivenNames x1
  extract_lets +onlyGivenNames x2
  have hx2 : Kept s0 x2 := by
    unfold x2
    refine kept_track _ _ _ ?_
    exact hk
  clear_value x2
  extract_lets +onlyGivenNames x3
  have hx3 : Kept s0 x3 := by
    unfold x3
    refine kept_ite ?_ ?_
    · refine kept_psetB _ _ ?_
      exact hx2
    · exact hx2
  clear_value x3
  refine kept_emit _ _ ?_
  exact hx3

theorem kept_transitionComplete {s : State} (c : Nat) (hk : Kept s0 s) : Kept s0 (State.transitionComplete s c) := by
  unfold State.transitionComplete
  refine kept_ite ?_ ?_
  · refine kept_complete _ ?_
    exact hk
  · exact hk

theorem kept_absorbComplete {s : State} (c : Nat) (hk : Kept s0 s) : Kept s0 (State.absorbComplete s c) := by
  unfold State.absorbComplete
  extract_lets +onlyGivenNames x1
  extract_lets +onlyGivenNames x2
  refine kept_ite ?_ ?_
  · refine kept_psetB _ _ ?_
    exact hk
  · exact hk

theorem kept_absorb {s : State} (c : Nat) (hk : Kept s0 s) : Kept s0 (State.absorb s c) := by
  unfold State.absorb
  extract_lets +onlyGivenNames x1
  extract_lets +onlyGivenNames x2
  extract_lets +onlyGivenNames x3
  extract_lets +onlyGivenNames x4
  have hx4 : Kept s0 x4 := by
    unfold x4
    refine kept_ite ?_ ?_
    · refine kept_psetOfs _ _ _ ?_
      refine kept_setChan _ _ ?_
      exact hk
    · refine kept_psetOfs _ _ _ ?_
      refine kept_setChan _ _ ?_
      exact hk
  clear_value x4
  refine kept_ite ?_ ?_
  · exact hk
  · refine kept_absorbComplete _ ?_
    exact hx4

theorem kept_prepare {s : State} (c : Nat) (not : List Nat) (hk : Kept s0 s) : Kept s0 (State.prepare s c not) := by
  unfold State.prepare
  split
  · refine kept_showPrep _ _ ?_
    exact hk
  · extract_lets +onlyGivenNames x1
    have hx1 : Kept s0 x1 := by
      unfold x1
      refine kept_useSlot _ _ ?_
      exact hk
    clear_value x1
    split
    · refine kept_showPrep _ _ ?_
      exact hx1
    · refine kept_showPrep _ _ ?_
      exact hx1

theorem kept_selNoRef {s : State} (c : Nat) (hk : Kept s0 s) : Kept s0 (State.selNoRef s c) := by
  unfold State.selNoRef
  split
  · exact hk
  · refine kept_ite ?_ ?_
    · refine kept_beginTransition _ _ _ _ _ ?_
      exact hk
    · refine kept_emit _ _ ?_
      refine kept_track _ _ _ ?_
      refine kept_useSlot _ _ ?_
      exact hk

theorem kept_trackEstimate {s : State} (c : Nat) (hk : Kept s0 s) : Kept s0 (State.trackEstimate s c) := by
  unfold State.trackEstimate
  extract_lets +onlyGivenNames x1
  have hx1 : Kept s0 x1 := by
    unfold x1
    refine kept_absorb _ ?_
    exact hk
  clear_value x1
  refine kept_putEst _ _ ?_
  exact hx1

theorem kept_selTracking {s : State} (c : Nat) (hk : Kept s0 s) : Kept s0 (State.selTracking s c) := by
  unfold State.selTracking
  extract_lets +onlyGivenNames x1
  extract_lets +onlyGivenNames x2
  refine kept_ite ?_ ?_
  · exact hk
  · refine kept_ite ?_ ?_
    · split
      · refine kept_beginTransition _ _ _ _ _ ?_
        exact hk
      · refine kept_enterNoRef _ ?_
        exact hk
    · refine kept_ite ?_ ?_
      · split
        · refine kept_beginTransition _ _ _ _ _ ?_
          exact hk
        · refine kept_enterNoRef _ ?_
          exact hk
      · split
        · refine kept_beginTransition _ _ _ _ _ ?_
          exact hk
        · exact hk

theorem kept_blendEstimate {s : State} (c : Nat) (hk : Kept s0 s) : Kept s0 (State.blendEstimate s c) := by
  unfold State.blendEstimate
  extract_lets +onlyGivenNames x1
  extract_lets +onlyGivenNames x2
  extract_lets +onlyGivenNames x3
  extract_lets +onlyGivenNames x4
  extract_lets +onlyGivenNames x5
  refine kept_pset _ _ ?_
  refine kept_putEst _ _ ?_
  exact hk

theorem kept_keepSide {s : State} (c : Nat) (hk : Kept s0 s) : Kept s0 (State.keepSide s c) := by
  unfold State.keepSide
  split
  · refine kept_ite ?_ ?_
    · exact hk
    · refine kept_modChan _ _ ?_
      exact hk
  · exact hk

theorem kept_selTransition {s : State} (c : Nat) (hk : Kept s0 s) : Kept s0 (State.selTransition s c) := by
  unfold State.selTransition
  extract_lets +onlyGivenNames x1
  extract_lets +onlyGivenNames x2
  extract_lets +onlyGivenNames x3
  refine kept_ite ?_ ?_
  · refine kept_ite ?_ ?_
    · refine kept_complete _ ?_
      exact hk
    · exact hk
  · split
    · refine kept_beginTransition _ _ _ _ _ ?_
      exact hk
    · refine kept_ite ?_ ?_
      · refine kept_enterNoRef _ ?_
        exact hk
      · refine kept_ite ?_ ?_
        · refine kept_complete _ ?_
          exact hk
        · refine kept_keepSide _ ?_
          exact hk

theorem kept_weigh {s : State} (c : Nat) (hk : Kept s0 s) : Kept s0 (State.weigh s c) := by
  unfold State.weigh
  extract_lets +onlyGivenNames x1
  extract_lets +onlyGivenNames x2
  have hx2 : Kept s0 x2 := by
    unfold x2
    refine kept_modChan _ _ ?_
    exact hk
  clear_value x2
  refine kept_ite ?_ ?_
  · refine kept_took ?_
    exact hx2
  · exact hx2

theorem kept_combineEnter {s : State} (c : Nat) (hk : Kept s0 s) : Kept s0 (State.combineEnter s c) := by
  unfold State.combineEnter
  extract_lets +onlyGivenNames x1
  extract_lets +onlyGivenNames x2
  split
  · exact hk
  · extract_lets +onlyGivenNames x3
    have hx3 : Kept s0 x3 := by
      unfold x3
      refine kept_foldl ?_ (fun t4 at4 ht4 => ?_) _
      · exact hk
      · split
        · refine kept_ite ?_ ?_
          · refine kept_useSlot _ _ ?_
            exact ht4
          · exact ht4
    clear_value x3
    extract_lets +onlyGivenNames x5
    extract_lets +onlyGivenNames x6
    extract_lets +onlyGivenNames x7
    extract_lets +onlyGivenNames x8
    extract_lets +onlyGivenNames x9
    have hx9 : Kept s0 x9 := by
      unfold x9
      refine kept_modChan _ _ ?_
      exact hx3
    clear_value x9
    extract_lets +onlyGivenNames x10
    have hx10 : Kept s0 x10 := by
      unfold x10
      refine kept_psetOfs _ _ _ ?_
      refine kept_pset _ _ ?_
      exact hx9
    clear_value x10
    refine kept_ite ?_ ?_
    · exact hx3
    · refine kept_showMembers _ _ ?_
      exact hx10

theorem kept_loseMembers {s : State} (c : Nat) (gone : List Bool) (hk : Kept s0 s) : Kept s0 (State.loseMembers s c gone) := by
  unfold State.loseMembers
  extract_lets +onlyGivenNames x1
  extract_lets +onlyGivenNames x2
  extract_lets +onlyGivenNames x3
  extract_lets +onlyGivenNames x4
  extract_lets +onlyGivenNames x5
  have hx5 : Kept s0 x5 := by
    unfold x5
    refine kept_modChan _ _ ?_
    exact hk
  clear_value x5
  extract_lets +onlyGivenNames x6
  have hx6 : Kept s0 x6 := by
    unfold x6
    refine kept_emit _ _ ?_
    exact hx5
  clear_value x6
  extract_lets +onlyGivenNames x7
  extract_lets +onlyGivenNames x8
  have hx8 : Kept s0 x8 := by
    unfold x8
    refine kept_emitAll _ _ ?_
    exact hx6
  clear_value x8
  extract_lets +onlyGivenNames x9
  have hx9 : Kept s0 x9 := by
    unfold x9
    refine kept_psetOfs _ _ _ ?_
    refine kept_modChan _ _ ?_
    exact hx8
  clear_value x9
  refine kept_ite ?_ ?_
  · exact hx5
  · refine kept_ite ?_ ?_
    · exact hx6
    · refine kept_ite ?_ ?_
      · refine kept_psetB _ _ ?_
        exact hx9
      · exact hx9

theorem kept_fadeMembers {s : State} (c : Nat) (hk : Kept s0 s) : Kept s0 (State.fadeMembers s c) := by
  unfold State.fadeMembers
  extract_lets +onlyGivenNames x1
  extract_lets +onlyGivenNames x2
  extract_lets +onlyGivenNames x3
  have hx3 : Kept s0 x3 := by
    unfold x3
    refine kept_ite ?_ ?_
    · refine kept_emit _ _ ?_
      exact hk
    · exact hk
  clear_value x3
  refine kept_modChan _ _ ?_
  exact hx3

theorem kept_ensembleEstimate {s : State} (c : Nat) (hk : Kept s0 s) : Kept s0 (State.ensembleEstimate s c) := by
  unfold State.ensembleEstimate
  extract_lets +onlyGivenNames x1
  have hx1 : Kept s0 x1 := by
    unfold x1
    refine kept_absorb _ ?_
    exact hk
  clear_value x1
  extract_lets +onlyGivenNames x2
  extract_lets +onlyGivenNames x3
  extract_lets +onlyGivenNames x4
  have hx4 : Kept s0 x4 := by
    unfold x4
    refine kept_loseMembers _ _ ?_
    exact hx1
  clear_value x4
  extract_lets +onlyGivenNames x5
  extract_lets +onlyGivenNames x6
  have hx6 : Kept s0 x6 := by
    unfold x6
    refine kept_ite ?_ ?_
    · exact hx4
    · refine kept_fadeMembers _ ?_
      exact hx4
  clear_value x6
  extract_lets +onlyGivenNames x7
  extract_lets +onlyGivenNames x8
  extract_lets +onlyGivenNames x9
  refine kept_ite ?_ ?_
  · refine kept_enterNoRef _ ?_
    refine kept_putEst _ _ ?_
    exact hx6
  · refine kept_modChan _ _ ?_
    refine kept_putEst _ _ ?_
    exact hx6

theorem kept_ensembleEntries {s : State} (c : Nat) (hk : Kept s0 s) : Kept s0 (State.ensembleEntries s c) := by
  unfold State.ensembleEntries
  extract_lets +onlyGivenNames x1
  extract_lets +onlyGivenNames x2
  extract_lets +onlyGivenNames x3
  extract_lets +onlyGivenNames x4
  have hx4 : Kept s0 x4 := by
    unfold x4
    refine kept_foldl ?_ (fun t5 at5 ht5 => ?_) _
    · exact hk
    · split
      · refine kept_ite ?_ ?_
        · refine kept_useSlot _ _ ?_
          exact ht5
        · exact ht5
  clear_value x4
  extract_lets +onlyGivenNames x6
  extract_lets +onlyGivenNames x7
  refine kept_showPrep _ _ ?_
  refine kept_showMembers _ _ ?_
  exact hx4

theorem kept_fadeComplete {s : State} (c : Nat) (j : Nat) (hk : Kept s0 s) : Kept s0 (State.fadeComplete s c j) := by
  unfold State.fadeComplete
  split
  · refine kept_ite ?_ ?_
    · refine kept_showMembers _ _ ?_
      exact hk
    · exact hk
  · exact hk

theorem kept_dropCarried {s : State} (c : Nat) (hk : Kept s0 s) : Kept s0 (State.dropCarried s c) := by
  unfold State.dropCarried
  refine kept_ite ?_ ?_
  · exact hk
  · refine kept_modChan _ _ ?_
    exact hk

theorem kept_carryShow {s : State} (c : Nat) (hk : Kept s0 s) : Kept s0 (State.carryShow s c) := by
  unfold State.carryShow
  extract_lets +onlyGivenNames x1
  extract_lets +onlyGivenNames x2
  have hx2 : Kept s0 x2 := by
    unfold x2
    refine kept_ite ?_ ?_
    · refine kept_emit _ _ ?_
      exact hk
    · exact hk
  clear_value x2
  refine kept_ite ?_ ?_
  · exact hk
  · refine kept_psetB _ _ ?_
    refine kept_modChan _ _ ?_
    exact hx2

theorem kept_applyTense {s : State} (c : Nat) (r : TnsReq) (hk : Kept s0 s) : KeptP s0 (State.applyTense s c r) := by
  unfold State.applyTense
  extract_lets +onlyGivenNames x1
  have hx1 : Kept s0 x1 := by
    unfold x1
    refine kept_emit _ _ ?_
    refine kept_modChan _ _ ?_
    exact hk
  clear_value x1
  refine keptP_ite ?_ ?_
  · split
    · refine keptP_mk ?_ _
      refine kept_emit _ _ ?_
      refine kept_modChan _ _ ?_
      exact hk
    · refine keptP_mk ?_ _
      refine kept_emit _ _ ?_
      exact hk
  · refine keptP_ite ?_ ?_
    · refine keptP_mk ?_ _
      refine kept_emit _ _ ?_
      exact hk
    · refine keptP_mk ?_ _
      refine kept_psetB _ _ ?_
      exact hx1

theorem kept_selOff {s : State} (c : Nat) (hk : Kept s0 s) : Kept s0 (State.selOff s c) := by
  unfold State.selOff
  extract_lets +onlyGivenNames x1
  have hx1 : Kept s0 x1 := by
    unfold x1
    refine kept_modChan _ _ ?_
    exact hk
  clear_value x1
  extract_lets +onlyGivenNames x2
  have hx2 : Kept s0 x2 := by
    unfold x2
    refine kept_showPrep _ _ ?_
    refine kept_showMembers _ _ ?_
    exact hx1
  clear_value x2
  extract_lets +onlyGivenNames x3
  have hx3 : Kept s0 x3 := by
    unfold x3
    refine kept_psetOfs _ _ _ ?_
    refine kept_psetOfs _ _ _ ?_
    exact hx2
  clear_value x3
  extract_lets +onlyGivenNames x4
  have hx4 : Kept s0 x4 := by
    unfold x4
    refine kept_pset _ _ ?_
    refine kept_pset _ _ ?_
    refine kept_pset _ _ ?_
    refine kept_pset _ _ ?_
    exact hx3
  clear_value x4
  refine kept_psetB _ _ ?_
  refine kept_psetB _ _ ?_
  refine kept_psetB _ _ ?_
  refine kept_pset _ _ ?_
  exact hx4

theorem kept_selRestart {s : State} (c : Nat) (hk : Kept s0 s) : Kept s0 (State.selRestart s c) := by
  unfold State.selRestart
  refine kept_pset _ _ ?_
  refine kept_selOff _ ?_
  exact hk

theorem kept_takeTense {s : State} (c : Nat) (hk : Kept s0 s) : Kept s0 (State.takeTense s c) := by
  unfold State.takeTense
  extract_lets +onlyGivenNames x1
  extract_lets +onlyGivenNames x2
  have hx2 : Kept s0 x2 := by
    unfold x2
    refine kept_modChan _ _ ?_
    exact hk
  clear_value x2
  refine kept_foldl ?_ (fun t3 at3 ht3 => ?_) _
  · exact hx2
  · extract_lets +onlyGivenNames x4
    have hx4 : KeptP s0 x4 := by
      unfold x4
      refine keptP_ite ?_ ?_
      · refine keptP_mk ?_ _
        refine kept_modChan _ _ ?_
        exact ht3
      · refine keptP_ite ?_ ?_
        · refine keptP_mk ?_ _
          refine kept_emit _ _ ?_
          exact ht3
        · refine kept_applyTense _ _ ?_
          exact ht3
    clear_value x4
    refine kept_emit _ _ ?_
    show KeptP s0 _
    exact hx4

theorem kept_estimate {s : State} (c : Nat) (hk : Kept s0 s) : Kept s0 (State.estimate s c) := by
  unfold State.estimate
  extract_lets +onlyGivenNames x1
  refine kept_ite ?_ ?_
  · refine kept_trackEstimate _ ?_
    exact hk
  · refine kept_ite ?_ ?_
    · refine kept_blendEstimate _ ?_
      exact hk
    · refine kept_ite ?_ ?_
      · refine kept_ensembleEstimate _ ?_
        exact hk
      · refine kept_putEst _ _ ?_
        exact hk

theorem kept_selMove {s : State} (c : Nat) (st : Nat) (hk : Kept s0 s) : Kept s0 (State.selMove s c st) := by
  unfold State.selMove
  refine kept_ite ?_ ?_
  · refine kept_selTracking _ ?_
    exact hk
  · refine kept_ite ?_ ?_
    · refine kept_selTransition _ ?_
      exact hk
    · refine kept_ite ?_ ?_
      · refine kept_ite ?_ ?_
        · refine kept_ensembleEntries _ ?_
          exact hk
        · exact hk
      · refine kept_ite ?_ ?_
        · exact hk
        · refine kept_ite ?_ ?_
          · refine kept_combineEnter _ ?_
            exact hk
          · refine kept_selNoRef _ ?_
            exact hk

theorem kept_selPrepare {s : State} (c : Nat) (hk : Kept s0 s) : Kept s0 (State.selPrepare s c) := by
  unfold State.selPrepare
  extract_lets +onlyGivenNames x1
  have hx1 : Kept s0 x1 := by
    unfold x1
    refine kept_modChan _ _ ?_
    exact hk
  clear_value x1
  extract_lets +onlyGivenNames x2
  refine kept_ite ?_ ?_
  · exact hk
  · refine kept_ite ?_ ?_
    · refine kept_prepare _ _ ?_
      exact hx1
    · exact hx1

theorem kept_selectTick {s : State} (c : Nat) (hk : Kept s0 s) : Kept s0 (State.selectTick s c) := by
  unfold State.selectTick
  extract_lets +onlyGivenNames x1
  extract_lets +onlyGivenNames x2
  extract_lets +onlyGivenNames x3
  have hx3 : Kept s0 x3 := by
    unfold x3
    refine kept_dropCarried _ ?_
    refine kept_foldl ?_ (fun t4 at4 ht4 => ?_) _
    · exact hk
    · refine kept_followSlot _ _ ?_
      exact ht4
  clear_value x3
  extract_lets +onlyGivenNames x5
  have hx5 : Kept s0 x5 := by
    unfold x5
    refine kept_ite ?_ ?_
    · refine kept_weigh _ ?_
      exact hx3
    · exact hx3
  clear_value x5
  extract_lets +onlyGivenNames x6
  have hx6 : Kept s0 x6 := by
    unfold x6
    refine kept_ite ?_ ?_
    · refine kept_putEst _ _ ?_
      exact hx5
    · refine kept_estimate _ ?_
      exact hx5
  clear_value x6
  extract_lets +onlyGivenNames x7
  have hx7 : Kept s0 x7 := by
    unfold x7
    refine kept_foldl ?_ (fun t8 at8 ht8 => ?_) _
    · exact hx6
    · refine kept_takeDevs _ _ ?_
      exact ht8
  clear_value x7
  extract_lets +onlyGivenNames x9
  have hx9 : Kept s0 x9 := by
    unfold x9
    refine kept_ite ?_ ?_
    · refine kept_ite ?_ ?_
      · exact hx7
      · refine kept_enterNoRef _ ?_
        exact hx7
    · refine kept_selPrepare _ ?_
      refine kept_selMove _ _ ?_
      exact hx7
  clear_value x9
  refine kept_carryShow _ ?_
  exact hx9

theorem kept_selectJob {s : State} (c : Nat) (hk : Kept s0 s) : Kept s0 (State.selectJob s c) := by
  unfold State.selectJob
  extract_lets +onlyGivenNames x1
  have hx1 : Kept s0 x1 := by
    unfold x1
    refine kept_takeTense _ ?_
    exact hk
  clear_value x1
  refine kept_ite ?_ ?_
  · refine kept_ite ?_ ?_
    · exact hx1
    · refine kept_selOff _ ?_
      exact hx1
  · refine kept_ite ?_ ?_
    · refine kept_pset _ _ ?_
      exact hx1
    · refine kept_ite ?_ ?_
      · refine kept_putEst _ _ ?_
        exact hx1
      · refine kept_selectTick _ ?_
        exact hx1

theorem kept_requestNamed {s : State} (c : Nat) (hk : Kept s0 s) : Kept s0 (State.requestNamed s c) := by
  unfold State.requestNamed
  extract_lets +onlyGivenNames x1
  refine kept_mk ?_ rfl rfl rfl rfl ⟨rfl, rfl, rfl⟩
  exact hk

theorem kept_askTense {s : State} (c : Nat) (r : TnsReq) (hk : Kept s0 s) : Kept s0 (State.askTense s c r) := by
  unfold State.askTense
  extract_lets +onlyGivenNames x1
  refine kept_mk ?_ rfl rfl rfl rfl ⟨rfl, rfl, rfl⟩
  exact hk

theorem kept_refuseTense {s : State} (c : Nat) (hk : Kept s0 s) : Kept s0 (State.refuseTense s c) := by
  unfold State.refuseTense
  refine kept_ite ?_ ?_
  · refine kept_inBoth (fun t1 ht1 => ?_) ?_
    · refine kept_modChan _ _ ?_
      exact ht1
    · exact hk
  · refine kept_raise _ ?_
    exact hk

theorem kept_selRelease {s : State} (c : Nat) (hk : Kept s0 s) : Kept s0 (State.selRelease s c) := by
  unfold State.selRelease
  extract_lets +onlyGivenNames x1
  refine kept_raiseIf _ _ ?_
  refine kept_inBoth (fun t2 ht2 => ?_) ?_
  · refine kept_modChan _ _ ?_
    exact ht2
  · exact hk

theorem kept_cutSlots {s : State} (c : Nat) (off : Nat → Bool) (hk : Kept s0 s) : Kept s0 (State.cutSlots s c off) := by
  unfold State.cutSlots
  extract_lets +onlyGivenNames x1
  refine kept_ite ?_ ?_
  · exact hk
  · refine kept_modChan _ _ ?_
    exact hk

theorem kept_selBoundary {s : State} (c : Nat) (hk : Kept s0 s) : Kept s0 (State.selBoundary s c) := by
  unfold State.selBoundary
  extract_lets +onlyGivenNames x1
  extract_lets +onlyGivenNames x2
  extract_lets +onlyGivenNames x3
  have hx3 : Kept s0 x3 := by
    unfold x3
    refine kept_setChan _ _ ?_
    exact hk
  clear_value x3
  refine kept_ite ?_ ?_
  · refine kept_ite ?_ ?_
    · exact hk
    · refine kept_setChan _ _ ?_
      exact hk
  · refine kept_psetB _ _ ?_
    exact hx3

theorem kept_setCask {s : State} (c : Nat) (k : Cask) (hk : Kept s0 s) : Kept s0 (State.setCask s c k) := by
  unfold State.setCask
  refine kept_mk ?_ rfl rfl rfl rfl ⟨rfl, rfl, rfl⟩
  exact hk

theorem kept_modCask {s : State} (c : Nat) (f : Cask → Cask) (hk : Kept s0 s) : Kept s0 (State.modCask s c f) := by
  unfold State.modCask
  refine kept_setCask _ _ ?_
  exact hk

theorem kept_lagTemp {s : State} (hk : Kept s0 s) : Kept s0 (State.lagTemp s) := by
  unfold State.lagTemp
  extract_lets +onlyGivenNames x1
  extract_lets +onlyGivenNames x2
  extract_lets +onlyGivenNames x3
  extract_lets +onlyGivenNames x4
  refine kept_ite ?_ ?_
  · exact hk
  · refine kept_setS _ _ ?_
    refine kept_mk ?_ rfl rfl rfl rfl ⟨rfl, rfl, rfl⟩
    exact hk

theorem kept_sensorAsk {s : State} (hk : Kept s0 s) : Kept s0 (State.sensorAsk s) := by
  unfold State.sensorAsk
  refine kept_emitWire _ ?_
  exact hk

theorem kept_sensorRead {s : State} (hk : Kept s0 s) : Kept s0 (State.sensorRead s) := by
  unfold State.sensorRead
  extract_lets +onlyGivenNames x1
  have hx1 : Kept s0 x1 := by
    unfold x1
    refine kept_set _ _ ?_
    exact hk
  clear_value x1
  extract_lets +onlyGivenNames x2
  extract_lets +onlyGivenNames x3
  extract_lets +onlyGivenNames x4
  extract_lets +onlyGivenNames x5
  have hx5 : Kept s0 x5 := by
    unfold x5
    refine kept_mk ?_ rfl rfl rfl rfl ⟨rfl, rfl, rfl⟩
    exact hx1
  clear_value x5
  extract_lets +onlyGivenNames x6
  have hx6 : Kept s0 x6 := by
    unfold x6
    refine kept_ite ?_ ?_
    · refine kept_sensorAsk ?_
      exact hx5
    · refine kept_set _ _ ?_
      exact hx5
  clear_value x6
  refine kept_ite ?_ ?_
  · exact hk
  · refine kept_ite ?_ ?_
    · exact hx6
    · refine kept_lagTemp ?_
      exact hx6

theorem kept_sensorAttemptFail {s : State} (hk : Kept s0 s) : Kept s0 (State.sensorAttemptFail s) := by
  unfold State.sensorAttemptFail
  extract_lets +onlyGivenNames x1
  extract_lets +onlyGivenNames x2
  extract_lets +onlyGivenNames x3
  have hx3 : Kept s0 x3 := by
    unfold x3
    refine kept_mk ?_ rfl rfl rfl rfl ⟨rfl, rfl, rfl⟩
    exact hk
  clear_value x3
  extract_lets +onlyGivenNames x4
  have hx4 : Kept s0 x4 := by
    unfold x4
    refine kept_satAdd _ _ ?_
    exact hx3
  clear_value x4
  refine kept_ite ?_ ?_
  · exact hk
  · refine kept_ite ?_ ?_
    · refine kept_sensorAsk ?_
      exact hx4
    · refine kept_ite ?_ ?_
      · refine kept_lagTemp ?_
        exact hx4
      · exact hx4

theorem kept_sensorReadDone {s : State} (w : BitVec 16) (hk : Kept s0 s) : Kept s0 (State.sensorReadDone s w) := by
  unfold State.sensorReadDone
  have lag (c : Bool) {t : State} (h : Kept s0 t) : Kept s0 (if c = true then t.lagTemp else t) := kept_ite (kept_lagTemp h) h
  dsimp only
  refine kept_ite hk (kept_ite (lag _ (kept_raise _ (kept_satAdd _ _ (kept_mk (kept_mk hk rfl rfl rfl rfl ⟨rfl, rfl, rfl⟩) rfl rfl rfl rfl ⟨rfl, rfl, rfl⟩)))) (lag _ ?_))
  have h1 : ∀ a b c, Kept s0 (((({ ({ s with csk := { s.csk with attempts := 0 } } : State) with csk := a } : State).setS CSK_TEMP_T_EXT b).setS CSK_TOFS_TOFS c)) :=
    fun a b c => kept_setS _ _ (kept_setS _ _ (kept_mk (kept_mk hk rfl rfl rfl rfl ⟨rfl, rfl, rfl⟩) rfl rfl rfl rfl ⟨rfl, rfl, rfl⟩))
  exact kept_ite (kept_set _ _ (kept_set _ _ (h1 _ _ _))) (kept_ite (h1 _ _ _) (kept_set _ _ (h1 _ _ _)))

theorem kept_sensorTimeout {s : State} (hk : Kept s0 s) : Kept s0 (State.sensorTimeout s) := by
  unfold State.sensorTimeout
  extract_lets +onlyGivenNames x1
  refine kept_ite ?_ ?_
  · refine kept_raise _ ?_
    refine kept_set _ _ ?_
    refine kept_set _ _ ?_
    refine kept_mk ?_ rfl rfl rfl rfl ⟨rfl, rfl, rfl⟩
    exact hk
  · exact hk

theorem kept_tofsLearned {s : State} (hk : Kept s0 s) : Kept s0 (State.tofsLearned s) := by
  unfold State.tofsLearned
  refine kept_ite ?_ ?_
  · refine kept_set _ _ ?_
    exact hk
  · exact hk

theorem kept_showFit {s : State} (c : Nat) (f : Fit) (hk : Kept s0 s) : Kept s0 (State.showFit s c f) := by
  unfold State.showFit
  extract_lets +onlyGivenNames x1
  extract_lets +onlyGivenNames x2
  have hx2 : Kept s0 x2 := by
    unfold x2
    refine kept_setS2 _ _ _ ?_
    exact hk
  clear_value x2
  extract_lets +onlyGivenNames x3
  have hx3 : Kept s0 x3 := by
    unfold x3
    refine kept_setS _ _ ?_
    refine kept_setS _ _ ?_
    refine kept_setS _ _ ?_
    exact hx2
  clear_value x3
  extract_lets +onlyGivenNames x4
  have hx4 : Kept s0 x4 := by
    unfold x4
    refine kept_setB _ _ ?_
    refine kept_setB _ _ ?_
    exact hx3
  clear_value x4
  refine kept_set _ _ ?_
  exact hx4

theorem kept_fitPoint {s : State} (c : Nat) (freq : Int) (temp : Int) (mid : Nat) (hk : Kept s0 s) : KeptP s0 (State.fitPoint s c freq temp mid) := by
  unfold State.fitPoint
  extract_lets +onlyGivenNames x1
  extract_lets +onlyGivenNames x2
  extract_lets +onlyGivenNames x3
  extract_lets +onlyGivenNames x4
  extract_lets +onlyGivenNames x5
  extract_lets +onlyGivenNames x6
  extract_lets +onlyGivenNames x7
  extract_lets +onlyGivenNames x8
  extract_lets +onlyGivenNames x9
  extract_lets +onlyGivenNames x10
  extract_lets +onlyGivenNames x11
  extract_lets +onlyGivenNames x12
  extract_lets +onlyGivenNames x13
  extract_lets +onlyGivenNames x14
  extract_lets +onlyGivenNames x15
  extract_lets +onlyGivenNames x16
  extract_lets +onlyGivenNames x17
  extract_lets +onlyGivenNames x18
  extract_lets +onlyGivenNames x19
  extract_lets +onlyGivenNames x20
  have hx20 : Kept s0 x20 := by
    unfold x20
    refine kept_satAdd _ _ ?_
    exact hk
  clear_value x20
  extract_lets +onlyGivenNames x21
  extract_lets +onlyGivenNames x22
  extract_lets +onlyGivenNames x23
  extract_lets +onlyGivenNames x24
  extract_lets +onlyGivenNames x25
  extract_lets +onlyGivenNames x26
  extract_lets +onlyGivenNames x27
  have hx27 : Kept s0 x27 := by
    unfold x27
    refine kept_obsAdd _ _ ?_
    refine kept_showFit _ _ ?_
    refine kept_setCask _ _ ?_
    exact hx20
  clear_value x27
  refine keptP_ite ?_ ?_
  · refine keptP_mk ?_ _
    refine kept_obsAdd _ _ ?_
    refine kept_showFit _ _ ?_
    refine kept_setCask _ _ ?_
    exact hk
  · refine keptP_mk ?_ _
    refine kept_raiseAll _ ?_
    exact hx27

theorem kept_closeHour {s : State} (c : Nat) (hold : Bool) (hk : Kept s0 s) : Kept s0 (State.closeHour s c hold) := by
  unfold State.closeHour
  extract_lets +onlyGivenNames x1
  extract_lets +onlyGivenNames x2
  extract_lets +onlyGivenNames x3
  extract_lets +onlyGivenNames x4
  extract_lets +onlyGivenNames x5
  extract_lets +onlyGivenNames x6
  extract_lets +onlyGivenNames x7
  refine kept_set _ _ ?_
  refine kept_set _ _ ?_
  refine kept_setCask _ _ ?_
  exact hk

theorem kept_closeMinute {s : State} (c : Nat) (sec : Nat) (hold : Bool) (hk : Kept s0 s) : Kept s0 (State.closeMinute s c sec hold) := by
  unfold State.closeMinute
  extract_lets +onlyGivenNames x1
  extract_lets +onlyGivenNames x2
  extract_lets +onlyGivenNames x3
  extract_lets +onlyGivenNames x4
  extract_lets +onlyGivenNames x5
  extract_lets +onlyGivenNames x6
  have hx6 : Kept s0 x6 := by
    unfold x6
    refine kept_setCask _ _ ?_
    exact hk
  clear_value x6
  extract_lets +onlyGivenNames x7
  have hx7 : KeptP s0 x7 := by
    unfold x7
    refine keptP_ite ?_ ?_
    · refine kept_fitPoint _ _ _ _ ?_
      exact hx6
    · refine keptP_mk ?_ _
      exact hx6
  clear_value x7
  extract_lets +onlyGivenNames x8
  have hx8 : Kept s0 x8 := by
    unfold x8
    show KeptP s0 _
    exact hx7
  clear_value x8
  extract_lets +onlyGivenNames x9
  extract_lets +onlyGivenNames x10
  extract_lets +onlyGivenNames x11
  refine kept_set _ _ ?_
  refine kept_set _ _ ?_
  refine kept_setCask _ _ ?_
  exact hx8

theorem kept_closeSec {s : State} (c : Nat) (a : SecAcc) (hk : Kept s0 s) : Kept s0 (State.closeSec s c a) := by
  unfold State.closeSec
  extract_lets +onlyGivenNames x1
  extract_lets +onlyGivenNames x2
  extract_lets +onlyGivenNames x3
  extract_lets +onlyGivenNames x4
  extract_lets +onlyGivenNames x5
  extract_lets +onlyGivenNames x6
  extract_lets +onlyGivenNames x7
  extract_lets +onlyGivenNames x8
  have hx8 : Kept s0 x8 := by
    unfold x8
    refine kept_set _ _ ?_
    refine kept_set _ _ ?_
    refine kept_setCask _ _ ?_
    exact hk
  clear_value x8
  extract_lets +onlyGivenNames x9
  have hx9 : Kept s0 x9 := by
    unfold x9
    refine kept_ite ?_ ?_
    · refine kept_closeMinute _ _ _ ?_
      exact hx8
    · exact hx8
  clear_value x9
  refine kept_ite ?_ ?_
  · refine kept_closeHour _ _ ?_
    exact hx9
  · exact hx9

theorem kept_contribute {s : State} (c : Nat) (overran : Bool) (hk : Kept s0 s) : Kept s0 (State.contribute s c overran) := by
  unfold State.contribute
  extract_lets +onlyGivenNames x1
  extract_lets +onlyGivenNames x2
  extract_lets +onlyGivenNames x3
  extract_lets +onlyGivenNames x4
  refine kept_ite ?_ ?_
  · exact hk
  · refine kept_modCask _ _ ?_
    exact hk

theorem kept_endSecond {s : State} (c : Nat) (sec : Nat) (hk : Kept s0 s) : Kept s0 (State.endSecond s c sec) := by
  unfold State.endSecond
  refine kept_ite ?_ ?_
  · exact hk
  · refine kept_modCask _ _ ?_
    exact hk

theorem kept_spoilOpen {s : State} (hk : Kept s0 s) : Kept s0 (State.spoilOpen s) := by
  unfold State.spoilOpen
  refine kept_foldl ?_ (fun t1 at1 ht1 => ?_) _
  · exact hk
  · refine kept_modCask _ _ ?_
    exact ht1

theorem kept_predictEval {s : State} (c : Nat) (hk : Kept s0 s) : Kept s0 (State.predictEval s c) := by
  unfold State.predictEval
  extract_lets +onlyGivenNames x1
  extract_lets +onlyGivenNames x2
  extract_lets +onlyGivenNames x3
  extract_lets +onlyGivenNames x4
  extract_lets +onlyGivenNames x5
  extract_lets +onlyGivenNames x6
  refine kept_ite ?_ ?_
  · exact hk
  · refine kept_emitAll _ _ ?_
    refine kept_setChan _ _ ?_
    exact hk

theorem kept_caskClear {s : State} (c : Nat) (hk : Kept s0 s) : Kept s0 (State.caskClear s c) := by
  unfold State.caskClear
  extract_lets +onlyGivenNames x1
  extract_lets +onlyGivenNames x2
  extract_lets +onlyGivenNames x3
  extract_lets +onlyGivenNames x4
  have hx4 : Kept s0 x4 := by
    unfold x4
    refine kept_set _ _ ?_
    refine kept_showFit _ _ ?_
    refine kept_setCask _ _ ?_
    exact hk
  clear_value x4
  extract_lets +onlyGivenNames x5
  have hx5 : Kept s0 x5 := by
    unfold x5
    refine kept_set _ _ ?_
    refine kept_set _ _ ?_
    refine kept_set _ _ ?_
    refine kept_set _ _ ?_
    exact hx4
  clear_value x5
  extract_lets +onlyGivenNames x6
  have hx6 : Kept s0 x6 := by
    unfold x6
    refine kept_set _ _ ?_
    refine kept_raiseIf _ _ ?_
    exact hx5
  clear_value x6
  extract_lets +onlyGivenNames x7
  have hx7 : Kept s0 x7 := by
    unfold x7
    refine kept_ite ?_ ?_
    · refine kept_inBoth (fun t8 ht8 => ?_) ?_
      · refine kept_modChan _ _ ?_
        exact ht8
      · exact hx6
    · refine kept_set _ _ ?_
      exact hx6
  clear_value x7
  refine kept_ite ?_ ?_
  · exact hk
  · refine kept_raise _ ?_
    exact hx7

theorem kept_askClear {s : State} (c : Nat) (hk : Kept s0 s) : Kept s0 (State.askClear s c) := by
  unfold State.askClear
  refine kept_modCask _ _ ?_
  exact hk

theorem kept_caskJob {s : State} (c : Nat) (hk : Kept s0 s) : Kept s0 (State.caskJob s c) := by
  unfold State.caskJob
  extract_lets +onlyGivenNames x1
  extract_lets +onlyGivenNames x2
  have hx2 : Kept s0 x2 := by
    unfold x2
    refine kept_modCask _ _ ?_
    exact hk
  clear_value x2
  extract_lets +onlyGivenNames x3
  have hx3 : Kept s0 x3 := by
    unfold x3
    refine kept_foldl ?_ (fun t4 at4 ht4 => ?_) _
    · exact hx2
    · refine kept_closeSec _ _ ?_
      exact ht4
  clear_value x3
  extract_lets +onlyGivenNames x5
  extract_lets +onlyGivenNames x6
  extract_lets +onlyGivenNames x7
  have hx7 : Kept s0 x7 := by
    unfold x7
    refine kept_raiseIf _ _ ?_
    refine kept_set _ _ ?_
    exact hx3
  clear_value x7
  refine kept_ite ?_ ?_
  · exact hk
  · refine kept_ite ?_ ?_
    · refine kept_set _ _ ?_
      exact hx7
    · exact hx3

theorem kept_guardClear {s : State} (c : Nat) (start : Nat) (hk : Kept s0 s) : Kept s0 (State.guardClear s c start) := by
  unfold State.guardClear
  extract_lets +onlyGivenNames x1
  extract_lets +onlyGivenNames x2
  extract_lets +onlyGivenNames x3
  refine kept_set _ _ ?_
  refine kept_setCask _ _ ?_
  exact hk

theorem kept_hoLimit {s : State} (c : Nat) (hk : Kept s0 s) : Kept s0 (State.hoLimit s c) := by
  unfold State.hoLimit
  extract_lets +onlyGivenNames x1
  refine kept_ite ?_ ?_
  · refine kept_raise _ ?_
    exact hk
  · exact hk

theorem kept_caskRead {s : State} (a : Nat) (hk : Kept s0 s) : KeptP s0 (State.caskRead s a) := by
  unfold State.caskRead
  extract_lets +onlyGivenNames x1
  refine keptP_ite ?_ ?_
  · refine keptP_mk ?_ _
    refine kept_mk ?_ rfl rfl rfl rfl ⟨rfl, rfl, rfl⟩
    exact hk
  · split
    · refine keptP_ite ?_ ?_
      · refine keptP_mk ?_ _
        refine kept_mk ?_ rfl rfl rfl rfl ⟨rfl, rfl, rfl⟩
        exact hk
      · refine keptP_mk ?_ _
        exact hk
    · refine keptP_mk ?_ _
      exact hk

theorem kept_putFw {s : State} (c : Nat) (fw : Int) (hk : Kept s0 s) : Kept s0 (State.putFw s c fw) := by
  unfold State.putFw
  refine kept_psetS2 _ _ _ ?_
  exact hk

theorem kept_showInt {s : State} (c : Nat) (hk : Kept s0 s) : Kept s0 (State.showInt s c) := by
  unfold State.showInt
  refine kept_psetS2 _ _ _ ?_
  exact hk

theorem kept_commitFreq {s : State} (c : Nat) (f64 : Int) (hk : Kept s0 s) : Kept s0 (State.commitFreq s c f64) := by
  unfold State.commitFreq
  extract_lets +onlyGivenNames x1
  extract_lets +onlyGivenNames x2
  extract_lets +onlyGivenNames x3
  extract_lets +onlyGivenNames x4
  extract_lets +onlyGivenNames x5
  have hx5 : Kept s0 x5 := by
    unfold x5
    refine kept_setChan _ _ ?_
    exact hk
  clear_value x5
  extract_lets +onlyGivenNames x6
  have hx6 : Kept s0 x6 := by
    unfold x6
    refine kept_ite ?_ ?_
    · exact hx5
    · refine kept_psetB _ _ ?_
      exact hx5
  clear_value x6
  refine kept_showInt _ ?_
  refine kept_putFw _ _ ?_
  exact hx6

theorem kept_slewFreq {s : State} (c : Nat) (target : Int) (hk : Kept s0 s) : Kept s0 (State.slewFreq s c target) := by
  unfold State.slewFreq
  extract_lets +onlyGivenNames x1
  extract_lets +onlyGivenNames x2
  extract_lets +onlyGivenNames x3
  extract_lets +onlyGivenNames x4
  extract_lets +onlyGivenNames x5
  have hx5 : Kept s0 x5 := by
    unfold x5
    refine kept_setChan _ _ ?_
    exact hk
  clear_value x5
  extract_lets +onlyGivenNames x6
  have hx6 : Kept s0 x6 := by
    unfold x6
    refine kept_ite ?_ ?_
    · refine kept_psetB _ _ ?_
      exact hx5
    · exact hx5
  clear_value x6
  refine kept_commitFreq _ _ ?_
  exact hx6

theorem kept_clearClamps {s : State} (c : Nat) (hk : Kept s0 s) : Kept s0 (State.clearClamps s c) := by
  unfold State.clearClamps
  refine kept_psetB _ _ ?_
  refine kept_psetB _ _ ?_
  refine kept_psetB _ _ ?_
  exact hk

theorem kept_loopOff {s : State} (c : Nat) (hk : Kept s0 s) : Kept s0 (State.loopOff s c) := by
  unfold State.loopOff
  extract_lets +onlyGivenNames x1
  have hx1 : Kept s0 x1 := by
    unfold x1
    refine kept_modChan _ _ ?_
    exact hk
  clear_value x1
  extract_lets +onlyGivenNames x2
  have hx2 : Kept s0 x2 := by
    unfold x2
    refine kept_pset _ _ ?_
    refine kept_showInt _ ?_
    refine kept_putFw _ _ ?_
    exact hx1
  clear_value x2
  extract_lets +onlyGivenNames x3
  have hx3 : Kept s0 x3 := by
    unfold x3
    refine kept_pset _ _ ?_
    refine kept_psetS2 _ _ _ ?_
    exact hx2
  clear_value x3
  extract_lets +onlyGivenNames x4
  have hx4 : Kept s0 x4 := by
    unfold x4
    refine kept_psetB _ _ ?_
    refine kept_psetB _ _ ?_
    refine kept_psetB _ _ ?_
    refine kept_clearClamps _ ?_
    exact hx3
  clear_value x4
  extract_lets +onlyGivenNames x5
  have hx5 : Kept s0 x5 := by
    unfold x5
    refine kept_psetB _ _ ?_
    refine kept_psetB _ _ ?_
    refine kept_psetB _ _ ?_
    exact hx4
  clear_value x5
  refine kept_pset _ _ ?_
  exact hx5

theorem kept_slewPh {s : State} (c : Nat) (hk : Kept s0 s) : Kept s0 (State.slewPh s c) := by
  unfold State.slewPh
  extract_lets +onlyGivenNames x1
  extract_lets +onlyGivenNames x2
  extract_lets +onlyGivenNames x3
  extract_lets +onlyGivenNames x4
  extract_lets +onlyGivenNames x5
  extract_lets +onlyGivenNames x6
  extract_lets +onlyGivenNames x7
  extract_lets +onlyGivenNames x8
  extract_lets +onlyGivenNames x9
  have hx9 : Kept s0 x9 := by
    unfold x9
    refine kept_setChan _ _ ?_
    exact hk
  clear_value x9
  extract_lets +onlyGivenNames x10
  have hx10 : Kept s0 x10 := by
    unfold x10
    refine kept_ite ?_ ?_
    · refine kept_psetB _ _ ?_
      exact hx9
    · exact hx9
  clear_value x10
  refine kept_ite ?_ ?_
  · refine kept_psetB _ _ ?_
    refine kept_setChan _ _ ?_
    exact hk
  · refine kept_psetB _ _ ?_
    refine kept_psetS _ _ ?_
    exact hx10

theorem kept_lockLogic {s : State} (c : Nat) (e : Rat) (hk : Kept s0 s) : Kept s0 (State.lockLogic s c e) := by
  unfold State.lockLogic
  extract_lets +onlyGivenNames x1
  extract_lets +onlyGivenNames x2
  extract_lets +onlyGivenNames x3
  extract_lets +onlyGivenNames x4
  extract_lets +onlyGivenNames x5
  have hx5 : Kept s0 x5 := by
    unfold x5
    refine kept_ite ?_ ?_
    · refine kept_psetB _ _ ?_
      exact hk
    · exact hk
  clear_value x5
  extract_lets +onlyGivenNames x6
  extract_lets +onlyGivenNames x7
  have hx7 : Kept s0 x7 := by
    unfold x7
    refine kept_setChan _ _ ?_
    exact hx5
  clear_value x7
  extract_lets +onlyGivenNames x8
  have hx8 : Kept s0 x8 := by
    unfold x8
    refine kept_setChan _ _ ?_
    exact hx5
  clear_value x8
  extract_lets +onlyGivenNames x9
  have hx9 : Kept s0 x9 := by
    unfold x9
    refine kept_psetB _ _ ?_
    exact hx8
  clear_value x9
  refine kept_ite ?_ ?_
  · refine kept_ite ?_ ?_
    · refine kept_emit _ _ ?_
      refine kept_psetB _ _ ?_
      refine kept_pset _ _ ?_
      exact hx7
    · exact hx7
  · refine kept_ite ?_ ?_
    · exact hx8
    · refine kept_ite ?_ ?_
      · refine kept_emit _ _ ?_
        refine kept_pset _ _ ?_
        refine kept_modChan _ _ ?_
        exact hx8
      · refine kept_ite ?_ ?_
        · exact hx9
        · refine kept_emit _ _ ?_
          exact hx9

theorem kept_filterUpdate {s : State} (c : Nat) (e62 : Rat) (hk : Kept s0 s) : Kept s0 (State.filterUpdate s c e62) := by
  unfold State.filterUpdate
  extract_lets +onlyGivenNames x1
  extract_lets +onlyGivenNames x2
  extract_lets +onlyGivenNames x3
  extract_lets +onlyGivenNames x4
  extract_lets +onlyGivenNames x5
  extract_lets +onlyGivenNames x6
  extract_lets +onlyGivenNames x7
  extract_lets +onlyGivenNames x8
  extract_lets +onlyGivenNames x9
  extract_lets +onlyGivenNames x10
  extract_lets +onlyGivenNames x11
  extract_lets +onlyGivenNames x12
  extract_lets +onlyGivenNames x13
  extract_lets +onlyGivenNames x14
  extract_lets +onlyGivenNames x15
  extract_lets +onlyGivenNames x16
  extract_lets +onlyGivenNames x17
  extract_lets +onlyGivenNames x18
  extract_lets +onlyGivenNames x19
  have hx19 : Kept s0 x19 := by
    unfold x19
    refine kept_setChan _ _ ?_
    exact hk
  clear_value x19
  extract_lets +onlyGivenNames x20
  have hx20 : Kept s0 x20 := by
    unfold x20
    refine kept_psetB _ _ ?_
    refine kept_psetB _ _ ?_
    refine kept_psetB _ _ ?_
    exact hx19
  clear_value x20
  extract_lets +onlyGivenNames x21
  have hx21 : Kept s0 x21 := by
    unfold x21
    refine kept_psetS2 _ _ _ ?_
    exact hx20
  clear_value x21
  refine kept_lockLogic _ _ ?_
  refine kept_commitFreq _ _ ?_
  exact hx21

theorem kept_acquire {s : State} (c : Nat) (est : Rat) (hk : Kept s0 s) : Kept s0 (State.acquire s c est) := by
  unfold State.acquire
  extract_lets +onlyGivenNames x1
  extract_lets +onlyGivenNames x2
  have hx2 : Kept s0 x2 := by
    unfold x2
    refine kept_psetB _ _ ?_
    refine kept_psetB _ _ ?_
    refine kept_pset _ _ ?_
    exact hk
  clear_value x2
  extract_lets +onlyGivenNames x3
  have hx3 : Kept s0 x3 := by
    unfold x3
    refine kept_modChan _ _ ?_
    exact hx2
  clear_value x3
  extract_lets +onlyGivenNames x4
  extract_lets +onlyGivenNames x5
  have hx5 : Kept s0 x5 := by
    unfold x5
    refine kept_modChan _ _ ?_
    exact hx3
  clear_value x5
  refine kept_ite ?_ ?_
  · refine kept_emitAll _ _ ?_
    refine kept_showInt _ ?_
    refine kept_putFw _ _ ?_
    exact hx5
  · exact hx3

theorem kept_filterState {s : State} (c : Nat) (hk : Kept s0 s) : Kept s0 (State.filterState s c) := by
  unfold State.filterState
  extract_lets +onlyGivenNames x1
  extract_lets +onlyGivenNames x2
  extract_lets +onlyGivenNames x3
  extract_lets +onlyGivenNames x4
  extract_lets +onlyGivenNames x5
  have hx5 : Kept s0 x5 := by
    unfold x5
    refine kept_setChan _ _ ?_
    exact hk
  clear_value x5
  extract_lets +onlyGivenNames x6
  refine kept_ite ?_ ?_
  · split
    · refine kept_acquire _ _ ?_
      exact hk
    · refine kept_showInt _ ?_
      refine kept_putFw _ _ ?_
      refine kept_setChan _ _ ?_
      exact hk
  · refine kept_ite ?_ ?_
    · refine kept_ite ?_ ?_
      · refine kept_emit _ _ ?_
        refine kept_pset _ _ ?_
        refine kept_showInt _ ?_
        exact hx5
      · refine kept_slewFreq _ _ ?_
        refine kept_setChan _ _ ?_
        exact hk
    · refine kept_ite ?_ ?_
      · refine kept_commitFreq _ _ ?_
        exact hk
      · split
        · exact hk
        · refine kept_filterUpdate _ _ ?_
          exact hk

theorem kept_reportClamps {s : State} (c : Nat) (hk : Kept s0 s) : Kept s0 (State.reportClamps s c) := by
  unfold State.reportClamps
  extract_lets +onlyGivenNames x1
  extract_lets +onlyGivenNames x2
  have hx2 : Kept s0 x2 := by
    unfold x2
    refine kept_ite ?_ ?_
    · refine kept_emit _ _ ?_
      exact hk
    · exact hk
  clear_value x2
  refine kept_ite ?_ ?_
  · refine kept_emit _ _ ?_
    exact hx2
  · exact hx2

theorem kept_filterJob {s : State} (c : Nat) (hk : Kept s0 s) : Kept s0 (State.filterJob s c) := by
  unfold State.filterJob
  extract_lets +onlyGivenNames x1
  extract_lets +onlyGivenNames x2
  extract_lets +onlyGivenNames x3
  have hx3 : Kept s0 x3 := by
    unfold x3
    refine kept_modChan _ _ ?_
    exact hk
  clear_value x3
  extract_lets +onlyGivenNames x4
  have hx4 : Kept s0 x4 := by
    unfold x4
    refine kept_ite ?_ ?_
    · refine kept_predictEval _ ?_
      exact hk
    · exact hk
  clear_value x4
  extract_lets +onlyGivenNames x5
  have hx5 : Kept s0 x5 := by
    unfold x5
    refine kept_clearClamps _ ?_
    exact hx4
  clear_value x5
  extract_lets +onlyGivenNames x6
  extract_lets +onlyGivenNames x7
  have hx7 : Kept s0 x7 := by
    unfold x7
    refine kept_filterState _ ?_
    exact hx5
  clear_value x7
  extract_lets +onlyGivenNames x8
  have hx8 : Kept s0 x8 := by
    unfold x8
    refine kept_slewPh _ ?_
    exact hx7
  clear_value x8
  extract_lets +onlyGivenNames x9
  have hx9 : Kept s0 x9 := by
    unfold x9
    refine kept_psetB _ _ ?_
    exact hx8
  clear_value x9
  extract_lets +onlyGivenNames x10
  have hx10 : Kept s0 x10 := by
    unfold x10
    refine kept_ite ?_ ?_
    · refine kept_emit _ _ ?_
      exact hx9
    · exact hx9
  clear_value x10
  extract_lets +onlyGivenNames x11
  have hx11 : Kept s0 x11 := by
    unfold x11
    refine kept_psetB _ _ ?_
    exact hx10
  clear_value x11
  extract_lets +onlyGivenNames x12
  have hx12 : Kept s0 x12 := by
    unfold x12
    refine kept_pset2 _ _ _ ?_
    exact hx11
  clear_value x12
  refine kept_ite ?_ ?_
  · exact hk
  · refine kept_ite ?_ ?_
    · refine kept_ite ?_ ?_
      · exact hk
      · refine kept_loopOff _ ?_
        exact hk
    · refine kept_ite ?_ ?_
      · refine kept_slewPh _ ?_
        refine kept_pset _ _ ?_
        refine kept_showInt _ ?_
        refine kept_putFw _ _ ?_
        exact hx3
      · refine kept_took ?_
        refine kept_reportClamps _ ?_
        exact hx12

theorem kept_lockTimerExpiry {s : State} (c : Nat) (hk : Kept s0 s) : Kept s0 (State.lockTimerExpiry s c) := by
  unfold State.lockTimerExpiry
  refine kept_ite ?_ ?_
  · refine kept_emit _ _ ?_
    refine kept_psetB _ _ ?_
    refine kept_pset _ _ ?_
    exact hk
  · exact hk

theorem kept_padjShow {s : State} (c : Nat) (hk : Kept s0 s) : Kept s0 (State.padjShow s c) := by
  unfold State.padjShow
  refine kept_ite ?_ ?_
  · exact hk
  · refine kept_psetB _ _ ?_
    exact hk

theorem kept_padjFollow {s : State} (c : Nat) (hk : Kept s0 s) : Kept s0 (State.padjFollow s c) := by
  unfold State.padjFollow
  refine kept_ite ?_ ?_
  · exact hk
  · refine kept_psetB _ _ ?_
    refine kept_pset _ _ ?_
    exact hk

theorem kept_padjWritten {s : State} (c : Nat) (hk : Kept s0 s) : Kept s0 (State.padjWritten s c) := by
  unfold State.padjWritten
  refine kept_padjFollow _ ?_
  refine kept_inBoth (fun t1 ht1 => ?_) ?_
  · refine kept_padjShow _ ?_
    exact ht1
  · exact hk

theorem kept_padjHost {s : State} (c : Nat) (hk : Kept s0 s) : Kept s0 (State.padjHost s c) := by
  unfold State.padjHost
  split
  · refine kept_padjWritten _ ?_
    refine kept_set _ _ ?_
    exact hk
  · refine kept_padjWritten _ ?_
    exact hk

theorem kept_previewJob {s : State} (c : Nat) (hk : Kept s0 s) : Kept s0 (State.previewJob s c) := by
  unfold State.previewJob
  extract_lets +onlyGivenNames x1
  extract_lets +onlyGivenNames x2
  have hx2 : Kept s0 x2 := by
    unfold x2
    refine kept_ite ?_ ?_
    · exact hk
    · refine kept_predictEval _ ?_
      exact hk
  clear_value x2
  extract_lets +onlyGivenNames x3
  extract_lets +onlyGivenNames x4
  refine kept_ite ?_ ?_
  · exact hx2
  · split
    · extract_lets +onlyGivenNames x5
      have hx5 : Kept s0 x5 := by
        unfold x5
        refine kept_setChan _ _ ?_
        exact hx2
      clear_value x5
      refine kept_ite ?_ ?_
      · exact hx2
      · refine kept_emitAll _ _ ?_
        exact hx5
    · extract_lets +onlyGivenNames x6
      refine kept_setChan _ _ ?_
      exact hx2

theorem kept_clearPreview {s : State} (c : Nat) (hk : Kept s0 s) : Kept s0 (State.clearPreview s c) := by
  unfold State.clearPreview
  extract_lets +onlyGivenNames x1
  have hx1 : Kept s0 x1 := by
    unfold x1
    refine kept_pset _ _ ?_
    refine kept_pset _ _ ?_
    refine kept_pset _ _ ?_
    refine kept_psetB _ _ ?_
    exact hk
  clear_value x1
  refine kept_psetS2 _ _ _ ?_
  refine kept_psetS2 _ _ _ ?_
  exact hx1

theorem kept_discardPreview {s : State} (c : Nat) (hk : Kept s0 s) : Kept s0 (State.discardPreview s c) := by
  unfold State.discardPreview
  refine kept_ite ?_ ?_
  · exact hk
  · refine kept_emitAll _ _ ?_
    refine kept_clearPreview _ ?_
    refine kept_modChan _ _ ?_
    exact hk

theorem kept_enterHoldover {s : State} (c : Nat) (hk : Kept s0 s) : Kept s0 (State.enterHoldover s c) := by
  unfold State.enterHoldover
  extract_lets +onlyGivenNames x1
  extract_lets +onlyGivenNames x2
  extract_lets +onlyGivenNames x3
  extract_lets +onlyGivenNames x4
  have hx4 : Kept s0 x4 := by
    unfold x4
    refine kept_setChan _ _ ?_
    exact hk
  clear_value x4
  extract_lets +onlyGivenNames x5
  have hx5 : Kept s0 x5 := by
    unfold x5
    refine kept_psetB _ _ ?_
    refine kept_psetB _ _ ?_
    refine kept_pset _ _ ?_
    exact hx4
  clear_value x5
  extract_lets +onlyGivenNames x6
  have hx6 : Kept s0 x6 := by
    unfold x6
    refine kept_slewFreq _ _ ?_
    exact hx5
  clear_value x6
  extract_lets +onlyGivenNames x7
  have hx7 : Kept s0 x7 := by
    unfold x7
    refine kept_satAdd _ _ ?_
    refine kept_set _ _ ?_
    refine kept_set _ _ ?_
    exact hx6
  clear_value x7
  refine kept_emitAll _ _ ?_
  refine kept_guardClear _ _ ?_
  exact hx7

theorem kept_exitHoldover {s : State} (c : Nat) (hk : Kept s0 s) : Kept s0 (State.exitHoldover s c) := by
  unfold State.exitHoldover
  extract_lets +onlyGivenNames x1
  have hx1 : Kept s0 x1 := by
    unfold x1
    refine kept_set _ _ ?_
    exact hk
  clear_value x1
  extract_lets +onlyGivenNames x2
  have hx2 : Kept s0 x2 := by
    unfold x2
    refine kept_setS2 _ _ _ ?_
    exact hx1
  clear_value x2
  refine kept_modChan _ _ ?_
  exact hx2

theorem kept_showPreview {s : State} (c : Nat) (promoted : Bool) (hk : Kept s0 s) : Kept s0 (State.showPreview s c promoted) := by
  unfold State.showPreview
  extract_lets +onlyGivenNames x1
  split
  · extract_lets +onlyGivenNames x2
    extract_lets +onlyGivenNames x3
    extract_lets +onlyGivenNames x4
    have hx4 : Kept s0 x4 := by
      unfold x4
      refine kept_pset _ _ ?_
      refine kept_pset _ _ ?_
      refine kept_pset _ _ ?_
      refine kept_psetB _ _ ?_
      exact hk
    clear_value x4
    refine kept_psetS2 _ _ _ ?_
    refine kept_psetS2 _ _ _ ?_
    exact hx4
  · refine kept_ite ?_ ?_
    · refine kept_pset _ _ ?_
      refine kept_psetB _ _ ?_
      exact hk
    · refine kept_clearPreview _ ?_
      exact hk

theorem kept_countState {s : State} (c : Nat) (was : Nat) (ran : Bool) (hk : Kept s0 s) : Kept s0 (State.countState s c was ran) := by
  unfold State.countState
  extract_lets +onlyGivenNames x1
  extract_lets +onlyGivenNames x2
  have hx2 : Kept s0 x2 := by
    unfold x2
    refine kept_modChan _ _ ?_
    exact hk
  clear_value x2
  extract_lets +onlyGivenNames x3
  have hx3 : Kept s0 x3 := by
    unfold x3
    refine kept_ite ?_ ?_
    · refine kept_pset _ _ ?_
      exact hx2
    · exact hx2
  clear_value x3
  extract_lets +onlyGivenNames x4
  have hx4 : Kept s0 x4 := by
    unfold x4
    refine kept_modChan _ _ ?_
    exact hx3
  clear_value x4
  refine kept_ite ?_ ?_
  · refine kept_ite ?_ ?_
    · refine kept_emit _ _ ?_
      exact hx4
    · exact hx4
  · exact hx3

theorem kept_lpeBoundary {s : State} (c : Nat) (te : Int) (ran : Bool) (hk : Kept s0 s) : Kept s0 (State.lpeBoundary s c te ran) := by
  unfold State.lpeBoundary
  extract_lets +onlyGivenNames x1
  extract_lets +onlyGivenNames x2
  extract_lets +onlyGivenNames x3
  extract_lets +onlyGivenNames x4
  extract_lets +onlyGivenNames x5
  have hx5 : Kept s0 x5 := by
    unfold x5
    refine kept_ite ?_ ?_
    · refine kept_enterHoldover _ ?_
      exact hk
    · exact hk
  clear_value x5
  extract_lets +onlyGivenNames x6
  extract_lets +onlyGivenNames x7
  have hx7 : Kept s0 x7 := by
    unfold x7
    refine kept_ite ?_ ?_
    · refine kept_discardPreview _ ?_
      exact hx5
    · exact hx5
  clear_value x7
  extract_lets +onlyGivenNames x8
  extract_lets +onlyGivenNames x9
  extract_lets +onlyGivenNames x10
  extract_lets +onlyGivenNames x11
  have hx11 : Kept s0 x11 := by
    unfold x11
    refine kept_setChan _ _ ?_
    exact hx7
  clear_value x11
  extract_lets +onlyGivenNames x12
  have hx12 : Kept s0 x12 := by
    unfold x12
    refine kept_countState _ _ _ ?_
    exact hx11
  clear_value x12
  extract_lets +onlyGivenNames x13
  have hx13 : Kept s0 x13 := by
    unfold x13
    refine kept_ite ?_ ?_
    · refine kept_exitHoldover _ ?_
      exact hx12
    · exact hx12
  clear_value x13
  extract_lets +onlyGivenNames x14
  have hx14 : Kept s0 x14 := by
    unfold x14
    refine kept_ite ?_ ?_
    · refine kept_askClear _ ?_
      exact hx13
    · exact hx13
  clear_value x14
  extract_lets +onlyGivenNames x15
  have hx15 : Kept s0 x15 := by
    unfold x15
    refine kept_ite ?_ ?_
    · refine kept_pset _ _ ?_
      refine kept_showPreview _ _ ?_
      exact hx14
    · exact hx14
  clear_value x15
  refine kept_setB _ _ ?_
  exact hx15

theorem kept_reloadLoop {s : State} (c : Nat) (hk : Kept s0 s) : Kept s0 (State.reloadLoop s c) := by
  unfold State.reloadLoop
  extract_lets +onlyGivenNames x1
  refine kept_showInt _ ?_
  refine kept_modChan _ _ ?_
  exact hk

end Sys2Proof.Machine
end

