-- ==== Sys2Proof/Laws/KeptOut.lean ====
section
/-! SUPPORT. The operations of time, synthesis, ports and PTP keep canonical forms and one-time-programmable memory. -/
namespace Sys2Proof.Machine
open Sys2Proof

variable {s0 : Base}

theorem kept_tsRateUpdateJob {s : State} (k : Nat) (hk : Kept s0 s) : Kept s0 (State.tsRateUpdateJob s k) := by
  unfold State.tsRateUpdateJob
  extract_lets +onlyGivenNames x1
  refine kept_ite ?_ ?_
  · exact hk
  · refine kept_mk ?_ rfl rfl rfl rfl ⟨rfl, rfl, rfl⟩
    exact hk

theorem kept_rateCommit {s : State} (k : Nat) (fw0 : Int) (done : Bool) (ovr : Bool) (hk : Kept s0 s) : Kept s0 (State.rateCommit s k fw0 done ovr) := by
  unfold State.rateCommit
  extract_lets +onlyGivenNames x1
  extract_lets +onlyGivenNames x2
  extract_lets +onlyGivenNames x3
  extract_lets +onlyGivenNames x4
  extract_lets +onlyGivenNames x5
  extract_lets +onlyGivenNames x6
  extract_lets +onlyGivenNames x7
  have hx7 : Kept s0 x7 := by
    unfold x7
    refine kept_setB _ _ ?_
    exact hk
  clear_value x7
  extract_lets +onlyGivenNames x8
  have hx8 : Kept s0 x8 := by
    unfold x8
    refine kept_setScale _ _ ?_
    exact hx7
  clear_value x8
  extract_lets +onlyGivenNames x9
  extract_lets +onlyGivenNames x10
  extract_lets +onlyGivenNames x11
  refine kept_ite ?_ ?_
  · refine kept_ite ?_ ?_
    · exact hk
    · refine kept_setScale _ _ ?_
      exact hk
  · refine kept_ite ?_ ?_
    · refine kept_setScale _ _ ?_
      exact hx7
    · refine kept_ite ?_ ?_
      · refine kept_ite ?_ ?_
        · refine kept_raise _ ?_
          refine kept_obsAdd _ _ ?_
          refine kept_satAdd _ _ ?_
          exact hx8
        · exact hx8
      · refine kept_set _ _ ?_
        refine kept_setScale _ _ ?_
        exact hx7

theorem kept_scaleRebind {s : State} (k : Nat) (old : Nat) (hk : Kept s0 s) : Kept s0 (State.scaleRebind s k old) := by
  unfold State.scaleRebind
  extract_lets +onlyGivenNames x1
  refine kept_ite ?_ ?_
  · exact hk
  · refine kept_setScale _ _ ?_
    exact hk

theorem kept_scaleResume {s : State} (k : Nat) (hk : Kept s0 s) : Kept s0 (State.scaleResume s k) := by
  unfold State.scaleResume
  extract_lets +onlyGivenNames x1
  extract_lets +onlyGivenNames x2
  refine kept_ite ?_ ?_
  · exact hk
  · refine kept_setScale _ _ ?_
    exact hk

theorem kept_stepGo {s : State} (k : Nat) (hk : Kept s0 s) : Kept s0 (State.stepGo s k) := by
  unfold State.stepGo
  extract_lets +onlyGivenNames x1
  refine kept_ite ?_ ?_
  · refine kept_raise _ ?_
    exact hk
  · refine kept_ite ?_ ?_
    · exact hk
    · refine kept_setScale _ _ ?_
      exact hk

theorem kept_stepReject {s : State} (k : Nat) (hk : Kept s0 s) : Kept s0 (State.stepReject s k) := by
  unfold State.stepReject
  extract_lets +onlyGivenNames x1
  have hx1 : Kept s0 x1 := by
    unfold x1
    refine kept_satAdd _ _ ?_
    exact hk
  clear_value x1
  extract_lets +onlyGivenNames x2
  have hx2 : Kept s0 x2 := by
    unfold x2
    refine kept_set _ _ ?_
    refine kept_set _ _ ?_
    refine kept_set _ _ ?_
    exact hx1
  clear_value x2
  refine kept_raise _ ?_
  exact hx2

theorem kept_leapCheck {s : State} (k : Nat) (hk : Kept s0 s) : Kept s0 (State.leapCheck s k) := by
  unfold State.leapCheck
  extract_lets +onlyGivenNames x1
  extract_lets +onlyGivenNames x2
  extract_lets +onlyGivenNames x3
  extract_lets +onlyGivenNames x4
  extract_lets +onlyGivenNames x5
  have hx5 : Kept s0 x5 := by
    unfold x5
    refine kept_setScale _ _ ?_
    exact hk
  clear_value x5
  extract_lets +onlyGivenNames x6
  have hx6 : Kept s0 x6 := by
    unfold x6
    refine kept_set _ _ ?_
    refine kept_set _ _ ?_
    refine kept_setS _ _ ?_
    exact hx5
  clear_value x6
  refine kept_ite ?_ ?_
  · refine kept_raise _ ?_
    exact hx6
  · refine kept_setScale _ _ ?_
    exact hk

theorem kept_realign {s : State} (hk : Kept s0 s) : Kept s0 (State.realign s) := by
  unfold State.realign
  extract_lets +onlyGivenNames x1
  extract_lets +onlyGivenNames x2
  refine kept_mk ?_ rfl rfl rfl rfl ⟨rfl, rfl, rfl⟩
  exact hk

theorem kept_stepApply [LooseTime s0] {s : State} (k : Nat) (hk : Kept s0 s) : KeptP s0 (State.stepApply s k) := by
  unfold State.stepApply
  split
  · refine keptP_mk ?_ _
    exact hk
  · extract_lets +onlyGivenNames x1
    have hx1 : Kept s0 x1 := by
      unfold x1
      refine kept_advance _ ?_
      exact hk
    clear_value x1
    extract_lets +onlyGivenNames x2
    extract_lets +onlyGivenNames x3
    extract_lets +onlyGivenNames x4
    refine keptP_ite ?_ ?_
    · refine keptP_mk ?_ _
      exact hk
    · split
      · extract_lets +onlyGivenNames x5
        extract_lets +onlyGivenNames x6
        have hx6 : Kept s0 x6 := by
          unfold x6
          refine kept_setScale _ _ ?_
          exact hx1
        clear_value x6
        extract_lets +onlyGivenNames x7
        have hx7 : Kept s0 x7 := by
          unfold x7
          refine kept_raise _ ?_
          refine kept_set _ _ ?_
          refine kept_set _ _ ?_
          refine kept_set _ _ ?_
          exact hx6
        clear_value x7
        extract_lets +onlyGivenNames x8
        have hx8 : Kept s0 x8 := by
          unfold x8
          refine kept_ite ?_ ?_
          · refine kept_realign ?_
            exact hx7
          · exact hx7
        clear_value x8
        refine keptP_mk ?_ _
        refine kept_leapCheck _ ?_
        exact hx8

theorem kept_radjAsk {s : State} (k : Nat) (rate : Int) (dur : Nat) (hk : Kept s0 s) : Kept s0 (State.radjAsk s k rate dur) := by
  unfold State.radjAsk
  extract_lets +onlyGivenNames x1
  refine kept_ite ?_ ?_
  · exact hk
  · refine kept_setScale _ _ ?_
    exact hk

theorem kept_radjAskTense {s : State} (k : Nat) (rate : Int) (dur : Nat) (rec : List Nat) (hk : Kept s0 s) : Kept s0 (State.radjAskTense s k rate dur rec) := by
  unfold State.radjAskTense
  refine kept_modScale _ _ ?_
  exact hk

theorem kept_radjStart {s : State} (k : Nat) (hk : Kept s0 s) : Kept s0 (State.radjStart s k) := by
  unfold State.radjStart
  extract_lets +onlyGivenNames x1
  split
  · exact hk
  · refine kept_setScale _ _ ?_
    exact hk

theorem kept_radjDone {s : State} (k : Nat) (hk : Kept s0 s) : Kept s0 (State.radjDone s k) := by
  unfold State.radjDone
  extract_lets +onlyGivenNames x1
  split
  · refine kept_ite ?_ ?_
    · refine kept_raise _ ?_
      refine kept_setScale _ _ ?_
      exact hk
    · exact hk
  · exact hk

theorem kept_radjTick {s : State} (k : Nat) (hk : Kept s0 s) : Kept s0 (State.radjTick s k) := by
  unfold State.radjTick
  extract_lets +onlyGivenNames x1
  split
  · exact hk
  · extract_lets +onlyGivenNames x2
    extract_lets +onlyGivenNames x3
    extract_lets +onlyGivenNames x4
    extract_lets +onlyGivenNames x5
    have hx5 : Kept s0 x5 := by
      unfold x5
      refine kept_setScale _ _ ?_
      exact hk
    clear_value x5
    extract_lets +onlyGivenNames x6
    have hx6 : Kept s0 x6 := by
      unfold x6
      refine kept_setS _ _ ?_
      exact hx5
    clear_value x6
    refine kept_padjWritten _ ?_
    exact hx6

theorem kept_radjTenseStart {s : State} (k : Nat) (hk : Kept s0 s) : Kept s0 (State.radjTenseStart s k) := by
  unfold State.radjTenseStart
  extract_lets +onlyGivenNames x1
  extract_lets +onlyGivenNames x2
  have hx2 : Kept s0 x2 := by
    unfold x2
    refine kept_modScale _ _ ?_
    exact hk
  clear_value x2
  refine kept_foldl ?_ (fun t3 at3 ht3 => ?_) _
  · exact hx2
  · refine kept_journal _ _ ?_
    refine kept_modScale _ _ ?_
    exact ht3

theorem kept_radjRefuse {s : State} (k : Nat) (hk : Kept s0 s) : Kept s0 (State.radjRefuse s k) := by
  unfold State.radjRefuse
  refine kept_foldl ?_ (fun t1 at1 ht1 => ?_) _
  · refine kept_modScale _ _ ?_
    exact hk
  · refine kept_journal _ _ ?_
    exact ht1

theorem kept_radjBoundary {s : State} (k : Nat) (hk : Kept s0 s) : Kept s0 (State.radjBoundary s k) := by
  unfold State.radjBoundary
  refine kept_ite ?_ ?_
  · exact hk
  · refine kept_radjTenseStart _ ?_
    refine kept_radjStart _ ?_
    refine kept_radjDone _ ?_
    refine kept_radjTick _ ?_
    exact hk

theorem kept_utcApply {s : State} (k : Nat) (hk : Kept s0 s) : Kept s0 (State.utcApply s k) := by
  unfold State.utcApply
  extract_lets +onlyGivenNames x1
  split
  · exact hk
  · refine kept_setScale _ _ ?_
    exact hk

theorem kept_utcCommit {s : State} (k : Nat) (hk : Kept s0 s) : Kept s0 (State.utcCommit s k) := by
  unfold State.utcCommit
  extract_lets +onlyGivenNames x1
  refine kept_setScale _ _ ?_
  exact hk

theorem kept_putStamp {s : State} (ns : Fld) (fr : Fld) (lo : Fld) (hi : Fld) (v : Nat) (hk : Kept s0 s) : Kept s0 (State.putStamp s ns fr lo hi v) := by
  unfold State.putStamp
  refine kept_set _ _ ?_
  refine kept_set _ _ ?_
  refine kept_set _ _ ?_
  refine kept_set _ _ ?_
  exact hk

theorem kept_evtCheck {s : State} (i : Nat) (c : Option Nat) (hk : Kept s0 s) : Kept s0 (State.evtCheck s i c) := by
  unfold State.evtCheck
  refine kept_mk ?_ rfl rfl rfl rfl ⟨rfl, rfl, rfl⟩
  exact hk

theorem kept_evtStart {s : State} (was : State) (hk : Kept s0 s) : Kept s0 (State.evtStart s was) := by
  unfold State.evtStart
  refine kept_foldl ?_ (fun t1 at1 ht1 => ?_) _
  · exact hk
  · refine kept_ite ?_ ?_
    · refine kept_evtCheck _ _ ?_
      exact ht1
    · exact ht1

theorem kept_evtStamp {s : State} (i : Nat) (hk : Kept s0 s) : Kept s0 (State.evtStamp s i) := by
  unfold State.evtStamp
  split
  · exact hk
  · extract_lets +onlyGivenNames x1
    have hx1 : Kept s0 x1 := by
      unfold x1
      refine kept_mk ?_ rfl rfl rfl rfl ⟨rfl, rfl, rfl⟩
      exact hk
    clear_value x1
    extract_lets +onlyGivenNames x2
    extract_lets +onlyGivenNames x3
    extract_lets +onlyGivenNames x4
    extract_lets +onlyGivenNames x5
    have hx5 : Kept s0 x5 := by
      unfold x5
      refine kept_putStamp _ _ _ _ _ ?_
      exact hx1
    clear_value x5
    extract_lets +onlyGivenNames x6
    have hx6 : Kept s0 x6 := by
      unfold x6
      refine kept_obsAdd _ _ ?_
      refine kept_setB _ _ ?_
      refine kept_wrapAdd _ _ ?_
      exact hx5
    clear_value x6
    extract_lets +onlyGivenNames x7
    have hx7 : Kept s0 x7 := by
      unfold x7
      refine kept_evtCheck _ _ ?_
      exact hx6
    clear_value x7
    extract_lets +onlyGivenNames x8
    have hx8 : Kept s0 x8 := by
      unfold x8
      refine kept_raise _ ?_
      exact hx7
    clear_value x8
    refine kept_ite ?_ ?_
    · exact hx1
    · refine kept_post _ _ ?_
      exact hx8

theorem kept_evtTimeout {s : State} (i : Nat) (hk : Kept s0 s) : Kept s0 (State.evtTimeout s i) := by
  unfold State.evtTimeout
  split
  · exact hk
  · refine kept_ite ?_ ?_
    · exact hk
    · refine kept_raise _ ?_
      refine kept_evtCheck _ _ ?_
      exact hk

theorem kept_slotStamp {s : State} (r : Rec) (k : Nat) (hk : Kept s0 s) : Kept s0 (State.slotStamp s r k) := by
  unfold State.slotStamp
  refine kept_ite ?_ ?_
  · exact hk
  · refine kept_set _ _ ?_
    refine kept_putStamp _ _ _ _ _ ?_
    exact hk

theorem kept_slotStamps {s : State} (r : Rec) (hk : Kept s0 s) : Kept s0 (State.slotStamps s r) := by
  unfold State.slotStamps
  refine kept_foldl ?_ (fun t1 at1 ht1 => ?_) _
  · exact hk
  · refine kept_slotStamp _ _ ?_
    exact ht1

theorem kept_txqPush {s : State} (p : Nat) (e : TxEntry) (hk : Kept s0 s) : Kept s0 (State.txqPush s p e) := by
  unfold State.txqPush
  extract_lets +onlyGivenNames x1
  refine kept_ite ?_ ?_
  · refine kept_raise _ ?_
    refine kept_obsAdd _ _ ?_
    refine kept_satAdd _ _ ?_
    exact hk
  · refine kept_obsAdd _ _ ?_
    refine kept_mk ?_ rfl rfl rfl rfl ⟨rfl, rfl, rfl⟩
    exact hk

theorem kept_txEntry {s : State} (p : Nat) (id : Nat) (stamp : Nat) (hk : Kept s0 s) : Kept s0 (State.txEntry s p id stamp) := by
  unfold State.txEntry
  refine kept_ite ?_ ?_
  · refine kept_mk ?_ rfl rfl rfl rfl ⟨rfl, rfl, rfl⟩
    exact hk
  · refine kept_txqPush _ _ ?_
    exact hk

theorem kept_releaseTx {s : State} (stamp : Nat → Nat) (hk : Kept s0 s) : Kept s0 (State.releaseTx s stamp) := by
  unfold State.releaseTx
  refine kept_foldl ?_ (fun t1 at1 ht1 => ?_) _
  · refine kept_mk ?_ rfl rfl rfl rfl ⟨rfl, rfl, rfl⟩
    exact hk
  · refine kept_txqPush _ _ ?_
    exact ht1

theorem kept_txqPop {s : State} (p : Nat) (hk : Kept s0 s) : Kept s0 (State.txqPop s p) := by
  unfold State.txqPop
  extract_lets +onlyGivenNames x1
  extract_lets +onlyGivenNames x2
  have hx2 : Kept s0 x2 := by
    unfold x2
    refine kept_set _ _ ?_
    exact hk
  clear_value x2
  clear_value x1
  split
  · extract_lets +onlyGivenNames x3
    have hx3 : Kept s0 x3 := by
      unfold x3
      refine kept_set _ _ ?_
      refine kept_set _ _ ?_
      refine kept_set _ _ ?_
      refine kept_set _ _ ?_
      exact hx2
    clear_value x3
    refine kept_set _ _ ?_
    exact hx3
  · extract_lets +onlyGivenNames x4
    have hx4 : Kept s0 x4 := by
      unfold x4
      refine kept_mk ?_ rfl rfl rfl rfl ⟨rfl, rfl, rfl⟩
      exact hx2
    clear_value x4
    extract_lets +onlyGivenNames x5
    have hx5 : Kept s0 x5 := by
      unfold x5
      refine kept_set _ _ ?_
      refine kept_set _ _ ?_
      refine kept_set _ _ ?_
      refine kept_set _ _ ?_
      exact hx4
    clear_value x5
    refine kept_set _ _ ?_
    refine kept_set _ _ ?_
    exact hx5

theorem kept_setApll {s : State} (m : Nat) (a : Apll) (hk : Kept s0 s) : Kept s0 (State.setApll s m a) := by
  unfold State.setApll
  extract_lets +onlyGivenNames x1
  refine kept_mk ?_ rfl rfl rfl rfl ⟨rfl, rfl, rfl⟩
  exact hk

theorem kept_setOut {s : State} (j : Nat) (o : Out) (hk : Kept s0 s) : Kept s0 (State.setOut s j o) := by
  unfold State.setOut
  extract_lets +onlyGivenNames x1
  refine kept_mk ?_ rfl rfl rfl rfl ⟨rfl, rfl, rfl⟩
  exact hk

theorem kept_modOut {s : State} (j : Nat) (f : Out → Out) (hk : Kept s0 s) : Kept s0 (State.modOut s j f) := by
  unfold State.modOut
  refine kept_setOut _ _ ?_
  exact hk

theorem kept_setAstate {s : State} (m : Nat) (st : Nat) (hk : Kept s0 s) : Kept s0 (State.setAstate s m st) := by
  unfold State.setAstate
  extract_lets +onlyGivenNames x1
  refine kept_setB _ _ ?_
  refine kept_set _ _ ?_
  refine kept_setApll _ _ ?_
  exact hk

theorem kept_unlocked {s : State} (m : Nat) (hk : Kept s0 s) : Kept s0 (State.unlocked s m) := by
  unfold State.unlocked
  refine kept_raise _ ?_
  refine kept_obsAdd _ _ ?_
  refine kept_satAdd _ _ ?_
  exact hk

theorem kept_arm {s : State} (j : Nat) (hk : Kept s0 s) : Kept s0 (State.arm s j) := by
  unfold State.arm
  refine kept_set _ _ ?_
  refine kept_modOut _ _ ?_
  exact hk

theorem kept_armAll {s : State} (hk : Kept s0 s) : Kept s0 (State.armAll s) := by
  unfold State.armAll
  refine kept_foldl ?_ (fun t1 at1 ht1 => ?_) _
  · exact hk
  · refine kept_arm _ ?_
    exact ht1

theorem kept_takeValues {s : State} (j : Nat) (hk : Kept s0 s) : Kept s0 (State.takeValues s j) := by
  unfold State.takeValues
  extract_lets +onlyGivenNames x1
  extract_lets +onlyGivenNames x2
  extract_lets +onlyGivenNames x3
  have hx3 : Kept s0 x3 := by
    unfold x3
    refine kept_modOut _ _ ?_
    exact hk
  clear_value x3
  refine kept_set _ _ ?_
  refine kept_set _ _ ?_
  exact hx3

theorem kept_showPend {s : State} (j : Nat) (hk : Kept s0 s) : Kept s0 (State.showPend s j) := by
  unfold State.showPend
  extract_lets +onlyGivenNames x1
  extract_lets +onlyGivenNames x2
  extract_lets +onlyGivenNames x3
  refine kept_setB _ _ ?_
  exact hk

theorem kept_outNext {s : State} (j : Nat) (cause : Nat) (hk : Kept s0 s) : Kept s0 (State.outNext s j cause) := by
  unfold State.outNext
  extract_lets +onlyGivenNames x1
  refine kept_ite ?_ ?_
  · refine kept_ite ?_ ?_
    · exact hk
    · refine kept_modOut _ _ ?_
      refine kept_arm _ ?_
      refine kept_set _ _ ?_
      exact hk
  · refine kept_ite ?_ ?_
    · refine kept_modOut _ _ ?_
      refine kept_arm _ ?_
      refine kept_set _ _ ?_
      exact hk
    · refine kept_ite ?_ ?_
      · refine kept_ite ?_ ?_
        · exact hk
        · refine kept_ite ?_ ?_
          · refine kept_set _ _ ?_
            refine kept_takeValues _ ?_
            exact hk
          · refine kept_raise _ ?_
            refine kept_set _ _ ?_
            refine kept_takeValues _ ?_
            exact hk
      · refine kept_ite ?_ ?_
        · exact hk
        · refine kept_raise _ ?_
          refine kept_obsAdd _ _ ?_
          refine kept_set _ _ ?_
          exact hk

theorem kept_evalOutput {s : State} (j : Nat) (hk : Kept s0 s) : Kept s0 (State.evalOutput s j) := by
  unfold State.evalOutput
  extract_lets +onlyGivenNames x1
  extract_lets +onlyGivenNames x2
  have hx2 : Kept s0 x2 := by
    unfold x2
    refine kept_outNext _ _ ?_
    refine kept_set _ _ ?_
    exact hk
  clear_value x2
  refine kept_ite ?_ ?_
  · refine kept_ite ?_ ?_
    · refine kept_outNext _ _ ?_
      exact hk
    · exact hk
  · refine kept_set _ _ ?_
    exact hx2

theorem kept_evalOutputs {s : State} (hk : Kept s0 s) : Kept s0 (State.evalOutputs s) := by
  unfold State.evalOutputs
  refine kept_foldl ?_ (fun t1 at1 ht1 => ?_) _
  · exact hk
  · refine kept_evalOutput _ ?_
    exact ht1

theorem kept_apllEval {s : State} (m : Nat) (hk : Kept s0 s) : Kept s0 (State.apllEval s m) := by
  unfold State.apllEval
  extract_lets +onlyGivenNames x1
  extract_lets +onlyGivenNames x2
  have hx2 : Kept s0 x2 := by
    unfold x2
    refine kept_ite ?_ ?_
    · refine kept_unlocked _ ?_
      exact hk
    · exact hk
  clear_value x2
  refine kept_ite ?_ ?_
  · refine kept_ite ?_ ?_
    · exact hk
    · refine kept_setAstate _ _ ?_
      exact hk
  · refine kept_ite ?_ ?_
    · refine kept_ite ?_ ?_
      · refine kept_setAstate _ _ ?_
        exact hk
      · exact hk
    · refine kept_ite ?_ ?_
      · exact hk
      · refine kept_setAstate _ _ ?_
        exact hx2

theorem kept_apllEvals {s : State} (hk : Kept s0 s) : Kept s0 (State.apllEvals s) := by
  unfold State.apllEvals
  refine kept_evalOutputs ?_
  refine kept_foldl ?_ (fun t1 at1 ht1 => ?_) _
  · exact hk
  · refine kept_apllEval _ ?_
    exact ht1

theorem kept_bandFound {s : State} (m : Nat) (band : Nat) (tune : Nat) (hk : Kept s0 s) : Kept s0 (State.bandFound s m band tune) := by
  unfold State.bandFound
  extract_lets +onlyGivenNames x1
  extract_lets +onlyGivenNames x2
  have hx2 : Kept s0 x2 := by
    unfold x2
    refine kept_setApll _ _ ?_
    refine kept_set _ _ ?_
    exact hk
  clear_value x2
  refine kept_ite ?_ ?_
  · refine kept_evalOutputs ?_
    refine kept_setAstate _ _ ?_
    exact hx2
  · exact hk

theorem kept_calTimeout {s : State} (m : Nat) (hk : Kept s0 s) : Kept s0 (State.calTimeout s m) := by
  unfold State.calTimeout
  extract_lets +onlyGivenNames x1
  refine kept_ite ?_ ?_
  · refine kept_raise _ ?_
    refine kept_satAdd _ _ ?_
    refine kept_setApll _ _ ?_
    exact hk
  · exact hk

theorem kept_lockDetect {s : State} (m : Nat) (hk : Kept s0 s) : Kept s0 (State.lockDetect s m) := by
  unfold State.lockDetect
  refine kept_ite ?_ ?_
  · refine kept_evalOutputs ?_
    refine kept_raise _ ?_
    refine kept_setAstate _ _ ?_
    exact hk
  · exact hk

theorem kept_acqTimeout {s : State} (m : Nat) (hk : Kept s0 s) : Kept s0 (State.acqTimeout s m) := by
  unfold State.acqTimeout
  refine kept_ite ?_ ?_
  · refine kept_satAdd _ _ ?_
    refine kept_setAstate _ _ ?_
    exact hk
  · exact hk

theorem kept_unlockDetect {s : State} (m : Nat) (hk : Kept s0 s) : Kept s0 (State.unlockDetect s m) := by
  unfold State.unlockDetect
  refine kept_ite ?_ ?_
  · refine kept_evalOutputs ?_
    refine kept_unlocked _ ?_
    refine kept_setAstate _ _ ?_
    exact hk
  · exact hk

theorem kept_xoLoss {s : State} (hk : Kept s0 s) : Kept s0 (State.xoLoss s) := by
  unfold State.xoLoss
  refine kept_ite ?_ ?_
  · exact hk
  · refine kept_apllEvals ?_
    refine kept_raise _ ?_
    refine kept_set _ _ ?_
    exact hk

theorem kept_xoRestore {s : State} (hk : Kept s0 s) : Kept s0 (State.xoRestore s) := by
  unfold State.xoRestore
  extract_lets +onlyGivenNames x1
  have hx1 : Kept s0 x1 := by
    unfold x1
    refine kept_set _ _ ?_
    exact hk
  clear_value x1
  refine kept_ite ?_ ?_
  · exact hk
  · refine kept_apllEvals ?_
    refine kept_foldl ?_ (fun t2 at2 ht2 => ?_) _
    · exact hx1
    · refine kept_ite ?_ ?_
      · refine kept_setAstate _ _ ?_
        exact ht2
      · exact ht2

theorem kept_xfLock {s : State} (hk : Kept s0 s) : Kept s0 (State.xfLock s) := by
  unfold State.xfLock
  refine kept_ite ?_ ?_
  · exact hk
  · refine kept_evalOutputs ?_
    refine kept_set _ _ ?_
    exact hk

theorem kept_xoWindow {s : State} (eps : Int) (hk : Kept s0 s) : Kept s0 (State.xoWindow s eps) := by
  unfold State.xoWindow
  extract_lets +onlyGivenNames x1
  extract_lets +onlyGivenNames x2
  extract_lets +onlyGivenNames x3
  refine kept_raiseIf _ _ ?_
  refine kept_setB _ _ ?_
  exact hk

theorem kept_xoUpdate {s : State} (edge : Nat) (hk : Kept s0 s) : Kept s0 (State.xoUpdate s edge) := by
  unfold State.xoUpdate
  extract_lets +onlyGivenNames x1
  extract_lets +onlyGivenNames x2
  extract_lets +onlyGivenNames x3
  extract_lets +onlyGivenNames x4
  extract_lets +onlyGivenNames x5
  extract_lets +onlyGivenNames x6
  extract_lets +onlyGivenNames x7
  extract_lets +onlyGivenNames x8
  extract_lets +onlyGivenNames x9
  extract_lets +onlyGivenNames x10
  extract_lets +onlyGivenNames x11
  extract_lets +onlyGivenNames x12
  extract_lets +onlyGivenNames x13
  extract_lets +onlyGivenNames x14
  have hx14 : Kept s0 x14 := by
    unfold x14
    refine kept_mk ?_ rfl rfl rfl rfl ⟨rfl, rfl, rfl⟩
    exact hk
  clear_value x14
  extract_lets +onlyGivenNames x15
  have hx15 : Kept s0 x15 := by
    unfold x15
    refine kept_xfLock ?_
    exact hx14
  clear_value x15
  extract_lets +onlyGivenNames x16
  refine kept_ite ?_ ?_
  · exact hk
  · refine kept_ite ?_ ?_
    · refine kept_mk ?_ rfl rfl rfl rfl ⟨rfl, rfl, rfl⟩
      exact hk
    · refine kept_xoWindow _ ?_
      refine kept_setS2 _ _ _ ?_
      exact hx15

theorem kept_showNeff {s : State} (m : Nat) (n : Nat) (hk : Kept s0 s) : Kept s0 (State.showNeff s m n) := by
  unfold State.showNeff
  refine kept_set _ _ ?_
  refine kept_set _ _ ?_
  exact hk

theorem kept_steer {s : State} (m : Nat) (dt : Int) (hk : Kept s0 s) : Kept s0 (State.steer s m dt) := by
  unfold State.steer
  extract_lets +onlyGivenNames x1
  extract_lets +onlyGivenNames x2
  extract_lets +onlyGivenNames x3
  extract_lets +onlyGivenNames x4
  extract_lets +onlyGivenNames x5
  extract_lets +onlyGivenNames x6
  extract_lets +onlyGivenNames x7
  extract_lets +onlyGivenNames x8
  extract_lets +onlyGivenNames x9
  extract_lets +onlyGivenNames x10
  extract_lets +onlyGivenNames x11
  extract_lets +onlyGivenNames x12
  extract_lets +onlyGivenNames x13
  refine kept_ite ?_ ?_
  · exact hk
  · refine kept_ite ?_ ?_
    · refine kept_ite ?_ ?_
      · exact hk
      · refine kept_showNeff _ _ ?_
        refine kept_setApll _ _ ?_
        exact hk
    · refine kept_ite ?_ ?_
      · refine kept_setApll _ _ ?_
        exact hk
      · refine kept_showNeff _ _ ?_
        refine kept_setApll _ _ ?_
        exact hk

theorem kept_bindApll {s : State} (m : Nat) (hk : Kept s0 s) : Kept s0 (State.bindApll s m) := by
  unfold State.bindApll
  extract_lets +onlyGivenNames x1
  extract_lets +onlyGivenNames x2
  extract_lets +onlyGivenNames x3
  refine kept_ite ?_ ?_
  · refine kept_setApll _ _ ?_
    exact hk
  · refine kept_setApll _ _ ?_
    exact hk

theorem kept_alignedCheck {s : State} (j : Nat) (hk : Kept s0 s) : Kept s0 (State.alignedCheck s j) := by
  unfold State.alignedCheck
  extract_lets +onlyGivenNames x1
  refine kept_ite ?_ ?_
  · refine kept_set _ _ ?_
    exact hk
  · exact hk

theorem kept_outTick {s : State} (j : Nat) (hk : Kept s0 s) : Kept s0 (State.outTick s j) := by
  unfold State.outTick
  extract_lets +onlyGivenNames x1
  extract_lets +onlyGivenNames x2
  extract_lets +onlyGivenNames x3
  extract_lets +onlyGivenNames x4
  extract_lets +onlyGivenNames x5
  extract_lets +onlyGivenNames x6
  have hx6 : Kept s0 x6 := by
    unfold x6
    refine kept_setOut _ _ ?_
    exact hk
  clear_value x6
  extract_lets +onlyGivenNames x7
  have hx7 : Kept s0 x7 := by
    unfold x7
    refine kept_setB _ _ ?_
    refine kept_setS _ _ ?_
    exact hx6
  clear_value x7
  refine kept_ite ?_ ?_
  · exact hk
  · refine kept_showPend _ ?_
    refine kept_alignedCheck _ ?_
    exact hx7

theorem kept_synTick {s : State} (edge : Option Nat) (dt : Int) (hk : Kept s0 s) : Kept s0 (State.synTick s edge dt) := by
  unfold State.synTick
  extract_lets +onlyGivenNames x1
  have hx1 : Kept s0 x1 := by
    unfold x1
    split
    · refine kept_ite ?_ ?_
      · refine kept_xoUpdate _ ?_
        exact hk
      · exact hk
    · exact hk
  clear_value x1
  extract_lets +onlyGivenNames x2
  have hx2 : Kept s0 x2 := by
    unfold x2
    refine kept_foldl ?_ (fun t3 at3 ht3 => ?_) _
    · exact hx1
    · refine kept_steer _ _ ?_
      exact ht3
  clear_value x2
  refine kept_evalOutputs ?_
  refine kept_foldl ?_ (fun t4 at4 ht4 => ?_) _
  · exact hx2
  · refine kept_outTick _ ?_
    exact ht4

theorem kept_widthChanged {s : State} (j : Nat) (old : Nat) (hk : Kept s0 s) : Kept s0 (State.widthChanged s j old) := by
  unfold State.widthChanged
  extract_lets +onlyGivenNames x1
  refine kept_modOut _ _ ?_
  exact hk

theorem kept_widthsLoaded {s : State} (was : State) (hk : Kept s0 s) : Kept s0 (State.widthsLoaded s was) := by
  unfold State.widthsLoaded
  refine kept_foldl ?_ (fun t1 at1 ht1 => ?_) _
  · exact hk
  · refine kept_ite ?_ ?_
    · exact ht1
    · refine kept_widthChanged _ _ ?_
      exact ht1

theorem kept_squelchEntry {s : State} (j : Nat) (inPulse : Bool) (hk : Kept s0 s) : Kept s0 (State.squelchEntry s j inPulse) := by
  unfold State.squelchEntry
  extract_lets +onlyGivenNames x1
  extract_lets +onlyGivenNames x2
  refine kept_ite ?_ ?_
  · refine kept_raiseIf _ _ ?_
    refine kept_modOut _ _ ?_
    exact hk
  · exact hk

theorem kept_outputStart {s : State} (j : Nat) (hk : Kept s0 s) : Kept s0 (State.outputStart s j) := by
  unfold State.outputStart
  extract_lets +onlyGivenNames x1
  refine kept_ite ?_ ?_
  · refine kept_setOut _ _ ?_
    exact hk
  · exact hk

theorem kept_outputsStepped {s : State} (k : Nat) (d : Int) (hk : Kept s0 s) : Kept s0 (State.outputsStepped s k d) := by
  unfold State.outputsStepped
  refine kept_foldl ?_ (fun t1 at1 ht1 => ?_) _
  · exact hk
  · extract_lets +onlyGivenNames x2
    refine kept_ite ?_ ?_
    · refine kept_raise _ ?_
      refine kept_obsAdd _ _ ?_
      refine kept_modOut _ _ ?_
      exact ht1
    · exact ht1

theorem kept_feedback {s : State} (r : Rec) (hk : Kept s0 s) : Kept s0 (State.feedback s r) := by
  unfold State.feedback
  extract_lets +onlyGivenNames x1
  extract_lets +onlyGivenNames x2
  extract_lets +onlyGivenNames x3
  extract_lets +onlyGivenNames x4
  extract_lets +onlyGivenNames x5
  refine kept_ite ?_ ?_
  · exact hk
  · refine kept_modOut _ _ ?_
    exact hk

theorem kept_alignUpdate {s : State} (j : Nat) (hk : Kept s0 s) : Kept s0 (State.alignUpdate s j) := by
  unfold State.alignUpdate
  extract_lets +onlyGivenNames x1
  extract_lets +onlyGivenNames x2
  extract_lets +onlyGivenNames x3
  extract_lets +onlyGivenNames x4
  extract_lets +onlyGivenNames x5
  extract_lets +onlyGivenNames x6
  extract_lets +onlyGivenNames x7
  have hx7 : Kept s0 x7 := by
    unfold x7
    refine kept_setOut _ _ ?_
    exact hk
  clear_value x7
  extract_lets +onlyGivenNames x8
  have hx8 : Kept s0 x8 := by
    unfold x8
    refine kept_obsAdd _ _ ?_
    refine kept_setS _ _ ?_
    exact hx7
  clear_value x8
  extract_lets +onlyGivenNames x9
  have hx9 : Kept s0 x9 := by
    unfold x9
    refine kept_ite ?_ ?_
    · refine kept_set _ _ ?_
      exact hx8
    · refine kept_alignedCheck _ ?_
      exact hx8
  clear_value x9
  refine kept_ite ?_ ?_
  · exact hk
  · refine kept_evalOutput _ ?_
    refine kept_raiseIf _ _ ?_
    exact hx9

theorem kept_outAct {s : State} (j : Nat) (a : OutAct) (rec : List Nat) (hk : Kept s0 s) : KeptP s0 (State.outAct s j a rec) := by
  unfold State.outAct
  extract_lets +onlyGivenNames x1
  extract_lets +onlyGivenNames x2
  extract_lets +onlyGivenNames x3
  have hx3 : Kept s0 x3 := by
    unfold x3
    split
    · refine kept_setS _ _ ?_
      exact hk
    · refine kept_setB _ _ ?_
      exact hk
    · exact hk
  clear_value x3
  refine keptP_ite ?_ ?_
  · refine keptP_mk ?_ _
    refine kept_raise _ ?_
    exact hk
  · refine keptP_mk ?_ _
    refine kept_showPend _ ?_
    refine kept_modOut _ _ ?_
    exact hx3

theorem kept_phaseWritten {s : State} (j : Nat) (hk : Kept s0 s) : Kept s0 (State.phaseWritten s j) := by
  unfold State.phaseWritten
  refine kept_showPend _ ?_
  refine kept_modOut _ _ ?_
  exact hk

theorem kept_setWritten {s : State} (j : Nat) (hk : Kept s0 s) : Kept s0 (State.setWritten s j) := by
  unfold State.setWritten
  refine kept_showPend _ ?_
  refine kept_modOut _ _ ?_
  exact hk

theorem kept_trimWritten {s : State} (j : Nat) (hk : Kept s0 s) : Kept s0 (State.trimWritten s j) := by
  unfold State.trimWritten
  extract_lets +onlyGivenNames x1
  refine kept_setB _ _ ?_
  refine kept_modOut _ _ ?_
  exact hk

theorem kept_stepPhase {s : State} (j : Nat) (dest : Int) (hk : Kept s0 s) : Kept s0 (State.stepPhase s j dest) := by
  unfold State.stepPhase
  extract_lets +onlyGivenNames x1
  extract_lets +onlyGivenNames x2
  refine kept_ite ?_ ?_
  · refine kept_setOut _ _ ?_
    exact hk
  · refine kept_raise _ ?_
    refine kept_obsAdd _ _ ?_
    refine kept_setOut _ _ ?_
    exact hk

theorem kept_applyAct {s : State} (j : Nat) (a : OutAct) (hk : Kept s0 s) : Kept s0 (State.applyAct s j a) := by
  unfold State.applyAct
  split
  · refine kept_stepPhase _ _ ?_
    exact hk
  · refine kept_stepPhase _ _ ?_
    exact hk
  · refine kept_setB _ _ ?_
    refine kept_modOut _ _ ?_
    exact hk
  · extract_lets +onlyGivenNames x1
    have hx1 : Kept s0 x1 := by
      unfold x1
      refine kept_set _ _ ?_
      exact hk
    clear_value x1
    refine kept_ite ?_ ?_
    · refine kept_raise _ ?_
      refine kept_set _ _ ?_
      exact hx1
    · exact hx1
  · extract_lets +onlyGivenNames x2
    have hx2 : Kept s0 x2 := by
      unfold x2
      refine kept_set _ _ ?_
      exact hk
    clear_value x2
    extract_lets +onlyGivenNames x3
    refine kept_ite ?_ ?_
    · refine kept_raise _ ?_
      refine kept_set _ _ ?_
      refine kept_modOut _ _ ?_
      exact hx2
    · exact hx2

theorem kept_actsShown {s : State} (j : Nat) (k : Nat) (l : List (OutAct × Nat × List Nat)) (hk : Kept s0 s) : Kept s0 (State.actsShown s j k l) := by
  unfold State.actsShown
  extract_lets +onlyGivenNames x1
  refine kept_ite ?_ ?_
  · exact hk
  · refine kept_ite ?_ ?_
    · refine kept_setB _ _ ?_
      exact hk
    · refine kept_setS _ _ ?_
      exact hk

theorem kept_outBoundary {s : State} (j : Nat) (r : Nat) (hk : Kept s0 s) : Kept s0 (State.outBoundary s j r) := by
  unfold State.outBoundary
  extract_lets +onlyGivenNames x1
  extract_lets +onlyGivenNames x2
  extract_lets +onlyGivenNames x3
  have hx3 : Kept s0 x3 := by
    unfold x3
    refine kept_modOut _ _ ?_
    exact hk
  clear_value x3
  extract_lets +onlyGivenNames x4
  have hx4 : ∀ u5 u6, Kept s0 u6 → Kept s0 (x4 u5 u6) := by
    intro u5 u6 hu6
    unfold x4
    refine kept_foldl ?_ (fun t7 at7 ht7 => ?_) _
    · exact hu6
    · refine kept_journal _ _ ?_
      refine kept_applyAct _ _ ?_
      exact ht7
  clear_value x4
  refine kept_evalOutput _ ?_
  refine kept_showPend _ ?_
  refine kept_actsShown _ _ _ ?_
  refine kept_actsShown _ _ _ ?_
  refine hx4 _ _ ?_
  refine hx4 _ _ ?_
  refine hx4 _ _ ?_
  exact hx3

theorem kept_synWrite {s : State} (a : Nat) (v : Nat) (hk : Kept s0 s) : Kept s0 (State.synWrite s a v) := by
  unfold State.synWrite
  extract_lets +onlyGivenNames x1
  extract_lets +onlyGivenNames x2
  refine kept_ite ?_ ?_
  · refine kept_setApll _ _ ?_
    exact hk
  · exact hk

theorem kept_sendEth {s : State} (w : Wire) (hk : Kept s0 s) : Kept s0 (State.sendEth s w) := by
  unfold State.sendEth
  refine kept_obsAdd _ _ ?_
  refine kept_emitWire _ ?_
  exact hk

theorem kept_linkChange {s : State} (p : Nat) (pcs : Bool) (an : Bool) (hk : Kept s0 s) : Kept s0 (State.linkChange s p pcs an) := by
  unfold State.linkChange
  extract_lets +onlyGivenNames x1
  extract_lets +onlyGivenNames x2
  extract_lets +onlyGivenNames x3
  extract_lets +onlyGivenNames x4
  extract_lets +onlyGivenNames x5
  have hx5 : Kept s0 x5 := by
    unfold x5
    refine kept_setB _ _ ?_
    refine kept_setB _ _ ?_
    refine kept_setB _ _ ?_
    exact hk
  clear_value x5
  extract_lets +onlyGivenNames x6
  have hx6 : Kept s0 x6 := by
    unfold x6
    refine kept_ite ?_ ?_
    · exact hx5
    · refine kept_srcLoss _ ?_
      exact hx5
  clear_value x6
  refine kept_ite ?_ ?_
  · exact hx6
  · refine kept_raise _ ?_
    refine kept_obsAdd _ _ ?_
    exact hx6

theorem kept_linkFollow {s : State} (p : Nat) (hk : Kept s0 s) : Kept s0 (State.linkFollow s p) := by
  unfold State.linkFollow
  extract_lets +onlyGivenNames x1
  extract_lets +onlyGivenNames x2
  refine kept_ite ?_ ?_
  · exact hk
  · refine kept_linkChange _ _ _ ?_
    exact hk

theorem kept_quadFall {s : State} (q : Nat) (hk : Kept s0 s) : Kept s0 (State.quadFall s q) := by
  unfold State.quadFall
  refine kept_foldl ?_ (fun t1 at1 ht1 => ?_) _
  · exact hk
  · refine kept_linkChange _ _ _ ?_
    exact ht1

theorem kept_quadLoss {s : State} (q : Nat) (hk : Kept s0 s) : Kept s0 (State.quadLoss s q) := by
  unfold State.quadLoss
  refine kept_ite ?_ ?_
  · refine kept_raise _ ?_
    refine kept_set _ _ ?_
    exact hk
  · exact hk

theorem kept_quadLock {s : State} (q : Nat) (hk : Kept s0 s) : Kept s0 (State.quadLock s q) := by
  unfold State.quadLock
  refine kept_set _ _ ?_
  exact hk

theorem kept_sessSticky {s : State} (n : Nat) (bit : Nat) (hk : Kept s0 s) : Kept s0 (State.sessSticky s n bit) := by
  unfold State.sessSticky
  extract_lets +onlyGivenNames x1
  have hx1 : Kept s0 x1 := by
    unfold x1
    refine kept_setCtxWord _ _ _ ?_
    exact hk
  clear_value x1
  refine kept_eventOnly _ ?_
  refine kept_set _ _ ?_
  exact hx1

theorem kept_ctxSat {s : State} (n : Nat) (w : Nat) (lo : Nat) (hk : Kept s0 s) : Kept s0 (State.ctxSat s n w lo) := by
  unfold State.ctxSat
  refine kept_setCtxFld _ _ _ _ _ ?_
  exact hk

theorem kept_sessToken {s : State} (n : Nat) (hk : Kept s0 s) : KeptP s0 (State.sessToken s n) := by
  unfold State.sessToken
  extract_lets +onlyGivenNames x1
  extract_lets +onlyGivenNames x2
  refine keptP_ite ?_ ?_
  · refine keptP_mk ?_ _
    refine kept_setSess _ _ ?_
    exact hk
  · refine keptP_mk ?_ _
    refine kept_setSess _ _ ?_
    exact hk

theorem kept_aggToken {s : State} (hk : Kept s0 s) : KeptP s0 (State.aggToken s) := by
  unfold State.aggToken
  extract_lets +onlyGivenNames x1
  extract_lets +onlyGivenNames x2
  refine keptP_ite ?_ ?_
  · refine keptP_mk ?_ _
    refine kept_mk ?_ rfl rfl rfl rfl ⟨rfl, rfl, rfl⟩
    exact hk
  · refine keptP_mk ?_ _
    refine kept_mk ?_ rfl rfl rfl rfl ⟨rfl, rfl, rfl⟩
    exact hk

theorem kept_admitEvent {s : State} (n : Nat) (hk : Kept s0 s) : KeptP s0 (State.admitEvent s n) := by
  unfold State.admitEvent
  extract_lets +onlyGivenNames x1
  have hx1 : KeptP s0 x1 := by
    unfold x1
    refine kept_aggToken ?_
    exact hk
  clear_value x1
  extract_lets +onlyGivenNames x2
  have hx2 : Kept s0 x2 := by
    unfold x2
    show KeptP s0 _
    exact hx1
  clear_value x2
  extract_lets +onlyGivenNames x3
  refine keptP_ite ?_ ?_
  · refine keptP_mk ?_ _
    refine kept_raise _ ?_
    refine kept_obsAdd _ _ ?_
    refine kept_satAdd _ _ ?_
    show KeptP s0 _
    exact hx1
  · refine keptP_ite ?_ ?_
    · refine keptP_mk ?_ _
      refine kept_raise _ ?_
      refine kept_obsAdd _ _ ?_
      refine kept_satAdd _ _ ?_
      refine kept_ctxSat _ _ _ ?_
      show KeptP s0 _
      exact hx1
    · refine keptP_mk ?_ _
      refine kept_mk ?_ rfl rfl rfl rfl ⟨rfl, rfl, rfl⟩
      exact hx2

theorem kept_admitRx {s : State} (n : Nat) (evt : Bool) (hk : Kept s0 s) : KeptP s0 (State.admitRx s n evt) := by
  unfold State.admitRx
  extract_lets +onlyGivenNames x1
  have hx1 : KeptP s0 x1 := by
    unfold x1
    refine kept_sessToken _ ?_
    exact hk
  clear_value x1
  extract_lets +onlyGivenNames x2
  have hx2 : KeptP s0 x2 := by
    unfold x2
    refine kept_admitEvent _ ?_
    show KeptP s0 _
    exact hx1
  clear_value x2
  refine keptP_ite ?_ ?_
  · refine keptP_mk ?_ _
    refine kept_sessSticky _ _ ?_
    refine kept_ctxSat _ _ _ ?_
    show KeptP s0 _
    exact hx1
  · refine keptP_ite ?_ ?_
    · refine keptP_mk ?_ _
      refine kept_obsAdd _ _ ?_
      show KeptP s0 _
      exact hx1
    · refine keptP_ite ?_ ?_
      · refine keptP_mk ?_ _
        refine kept_obsAdd _ _ ?_
        refine kept_setCtxWord _ _ _ ?_
        show KeptP s0 _
        exact hx2
      · exact hx2

theorem kept_sendPtp {s : State} (n : Nat) (evt : Bool) (m : PtpOut) (hk : Kept s0 s) : KeptP s0 (State.sendPtp s n evt m) := by
  unfold State.sendPtp
  extract_lets +onlyGivenNames x1
  extract_lets +onlyGivenNames x2
  have hx2 : KeptP s0 x2 := by
    unfold x2
    refine kept_sessToken _ ?_
    exact hk
  clear_value x2
  extract_lets +onlyGivenNames x3
  have hx3 : KeptP s0 x3 := by
    unfold x3
    refine kept_admitEvent _ ?_
    show KeptP s0 _
    exact hx2
  clear_value x3
  refine keptP_ite ?_ ?_
  · refine keptP_mk ?_ _
    exact hk
  · refine keptP_ite ?_ ?_
    · exact hx2
    · refine keptP_ite ?_ ?_
      · refine keptP_mk ?_ _
        refine kept_sendEth _ ?_
        show KeptP s0 _
        exact hx2
      · refine keptP_ite ?_ ?_
        · refine keptP_mk ?_ _
          refine kept_sendEth _ ?_
          refine kept_obsAdd _ _ ?_
          refine kept_setCtxWord _ _ _ ?_
          show KeptP s0 _
          exact hx3
        · exact hx3

theorem kept_seqNext {s : State} (n : Nat) (hk : Kept s0 s) : Kept s0 (State.seqNext s n) := by
  unfold State.seqNext
  refine kept_setCtxFld _ _ _ _ _ ?_
  exact hk

theorem kept_groupLoss {s : State} (g : Nat) (hk : Kept s0 s) : Kept s0 (State.groupLoss s g) := by
  unfold State.groupLoss
  extract_lets +onlyGivenNames x1
  extract_lets +onlyGivenNames x2
  have hx2 : Kept s0 x2 := by
    unfold x2
    refine kept_setGrp _ _ ?_
    exact hk
  clear_value x2
  refine kept_ite ?_ ?_
  · exact hk
  · refine kept_lowerLoss _ _ ?_
    refine kept_raise _ ?_
    exact hx2

theorem kept_groupEval {s : State} (g : Nat) (hk : Kept s0 s) : Kept s0 (State.groupEval s g) := by
  unfold State.groupEval
  extract_lets +onlyGivenNames x1
  extract_lets +onlyGivenNames x2
  have hx2 : Kept s0 x2 := by
    unfold x2
    refine kept_set _ _ ?_
    exact hk
  clear_value x2
  extract_lets +onlyGivenNames x3
  refine kept_ite ?_ ?_
  · exact hk
  · clear_value x1
    split
    · exact hx2
    · refine kept_set _ _ ?_
      refine kept_set _ _ ?_
      refine kept_setGrp _ _ ?_
      exact hx2
    · extract_lets +onlyGivenNames x4
      extract_lets +onlyGivenNames x5
      have hx5 : Kept s0 x5 := by
        unfold x5
        refine kept_set _ _ ?_
        refine kept_set _ _ ?_
        refine kept_setGrp _ _ ?_
        exact hx2
      clear_value x5
      refine kept_ite ?_ ?_
      · refine kept_groupLoss _ ?_
        exact hx5
      · exact hx5
    · extract_lets +onlyGivenNames x6
      have hx6 : Kept s0 x6 := by
        unfold x6
        refine kept_set _ _ ?_
        exact hx2
      clear_value x6
      extract_lets +onlyGivenNames x7
      have hx7 : Kept s0 x7 := by
        unfold x7
        refine kept_set _ _ ?_
        refine kept_set _ _ ?_
        refine kept_setGrp _ _ ?_
        exact hx6
      clear_value x7
      refine kept_ite ?_ ?_
      · exact hx6
      · refine kept_groupLoss _ ?_
        refine kept_raise _ ?_
        exact hx7

theorem kept_sessGroup {s : State} (n : Nat) (hk : Kept s0 s) : Kept s0 (State.sessGroup s n) := by
  unfold State.sessGroup
  extract_lets +onlyGivenNames x1
  refine kept_ite ?_ ?_
  · refine kept_groupEval _ ?_
    exact hk
  · exact hk

theorem kept_setSstate {s : State} (n : Nat) (st : Nat) (hk : Kept s0 s) : Kept s0 (State.setSstate s n st) := by
  unfold State.setSstate
  extract_lets +onlyGivenNames x1
  have hx1 : Kept s0 x1 := by
    unfold x1
    refine kept_ite ?_ ?_
    · refine kept_modSess _ _ ?_
      exact hk
    · exact hk
  clear_value x1
  refine kept_sessGroup _ ?_
  refine kept_setCtxFld _ _ _ _ _ ?_
  exact hx1

theorem kept_success {s : State} (n : Nat) (hk : Kept s0 s) : Kept s0 (State.success s n) := by
  unfold State.success
  extract_lets +onlyGivenNames x1
  have hx1 : Kept s0 x1 := by
    unfold x1
    refine kept_modSess _ _ ?_
    exact hk
  clear_value x1
  refine kept_ite ?_ ?_
  · refine kept_setSstate _ _ ?_
    exact hx1
  · exact hx1

theorem kept_askGrant {s : State} (n : Nat) (type : Nat) (hk : Kept s0 s) : Kept s0 (State.askGrant s n type) := by
  unfold State.askGrant
  extract_lets +onlyGivenNames x1
  extract_lets +onlyGivenNames x2
  have hx2 : Kept s0 x2 := by
    unfold x2
    refine kept_setSess _ _ ?_
    exact hk
  clear_value x2
  show KeptP s0 _
  refine kept_sendPtp _ _ _ ?_
  exact hx2

theorem kept_sessionStart {s : State} (n : Nat) (hk : Kept s0 s) : Kept s0 (State.sessionStart s n) := by
  unfold State.sessionStart
  extract_lets +onlyGivenNames x1
  extract_lets +onlyGivenNames x2
  extract_lets +onlyGivenNames x3
  have hx3 : Kept s0 x3 := by
    unfold x3
    refine kept_setSess _ _ ?_
    exact hk
  clear_value x3
  extract_lets +onlyGivenNames x4
  have hx4 : Kept s0 x4 := by
    unfold x4
    refine kept_setCtxFld _ _ _ _ _ ?_
    exact hx3
  clear_value x4
  extract_lets +onlyGivenNames x5
  refine kept_ite ?_ ?_
  · refine kept_foldl ?_ (fun t6 at6 ht6 => ?_) _
    · refine kept_setSstate _ _ ?_
      exact hx4
    · refine kept_askGrant _ _ ?_
      exact ht6
  · refine kept_setSstate _ _ ?_
    exact hx4

theorem kept_sessionStop {s : State} (n : Nat) (hk : Kept s0 s) : Kept s0 (State.sessionStop s n) := by
  unfold State.sessionStop
  extract_lets +onlyGivenNames x1
  extract_lets +onlyGivenNames x2
  have hx2 : Kept s0 x2 := by
    unfold x2
    refine kept_foldl ?_ (fun t3 at3 ht3 => ?_) _
    · exact hk
    · show KeptP s0 _
      refine kept_sendPtp _ _ _ ?_
      exact ht3
  clear_value x2
  extract_lets +onlyGivenNames x4
  have hx4 : Kept s0 x4 := by
    unfold x4
    refine kept_modSess _ _ ?_
    exact hx2
  clear_value x4
  refine kept_modSess _ _ ?_
  refine kept_setSstate _ _ ?_
  exact hx4

theorem kept_sessionCheck {s : State} (n : Nat) (hk : Kept s0 s) : Kept s0 (State.sessionCheck s n) := by
  unfold State.sessionCheck
  extract_lets +onlyGivenNames x1
  refine kept_ite ?_ ?_
  · exact hk
  · refine kept_ite ?_ ?_
    · refine kept_sessionStart _ ?_
      exact hk
    · refine kept_ite ?_ ?_
      · refine kept_sessionStop _ ?_
        exact hk
      · exact hk

theorem kept_reject {s : State} (n : Nat) (hk : Kept s0 s) : Kept s0 (State.reject s n) := by
  unfold State.reject
  refine kept_sessSticky _ _ ?_
  refine kept_obsAdd _ _ ?_
  refine kept_ctxSat _ _ _ ?_
  exact hk

theorem kept_accept {s : State} (n : Nat) (sy : SyncX) (mpd : Rat) (ofs : Rat) (hk : Kept s0 s) : Kept s0 (State.accept s n sy mpd ofs) := by
  unfold State.accept
  extract_lets +onlyGivenNames x1
  extract_lets +onlyGivenNames x2
  have hx2 : Kept s0 x2 := by
    unfold x2
    refine kept_setCtxFld _ _ _ _ _ ?_
    refine kept_setCtxWord _ _ _ ?_
    refine kept_setCtxWord _ _ _ ?_
    refine kept_setCtxWord _ _ _ ?_
    exact hk
  clear_value x2
  extract_lets +onlyGivenNames x3
  have hx3 : Kept s0 x3 := by
    unfold x3
    refine kept_ite ?_ ?_
    · refine kept_success _ ?_
      exact hx2
    · exact hx2
  clear_value x3
  extract_lets +onlyGivenNames x4
  extract_lets +onlyGivenNames x5
  extract_lets +onlyGivenNames x6
  refine kept_ite ?_ ?_
  · refine kept_setGrp _ _ ?_
    exact hx3
  · exact hx3

theorem kept_oneWay {s : State} (n : Nat) (sy : SyncX) (t1 : Rat) (hk : Kept s0 s) : Kept s0 (State.oneWay s n sy t1) := by
  unfold State.oneWay
  extract_lets +onlyGivenNames x1
  refine kept_ite ?_ ?_
  · exact hk
  · refine kept_accept _ _ _ _ ?_
    exact hk

theorem kept_delayExchange {s : State} (n : Nat) (sy : SyncX) (t1 : Rat) (d : DreqX) (t4 : Rat) (hk : Kept s0 s) : Kept s0 (State.delayExchange s n sy t1 d t4) := by
  unfold State.delayExchange
  extract_lets +onlyGivenNames x1
  extract_lets +onlyGivenNames x2
  refine kept_ite ?_ ?_
  · exact hk
  · refine kept_ite ?_ ?_
    · refine kept_sessSticky _ _ ?_
      refine kept_reject _ ?_
      exact hk
    · refine kept_ite ?_ ?_
      · refine kept_reject _ ?_
        exact hk
      · refine kept_accept _ _ _ _ ?_
        exact hk

theorem kept_completeDelays {s : State} (n : Nat) (hk : Kept s0 s) : Kept s0 (State.completeDelays s n) := by
  unfold State.completeDelays
  extract_lets +onlyGivenNames x1
  extract_lets +onlyGivenNames x2
  extract_lets +onlyGivenNames x3
  extract_lets +onlyGivenNames x4
  extract_lets +onlyGivenNames x5
  have hx5 : Kept s0 x5 := by
    unfold x5
    refine kept_setSess _ _ ?_
    exact hk
  clear_value x5
  refine kept_foldl ?_ (fun t6 at6 ht6 => ?_) _
  · exact hx5
  · split
    · refine kept_delayExchange _ _ _ _ _ ?_
      exact ht6
    · exact ht6

theorem kept_syncKnown {s : State} (n : Nat) (seq : Nat) (t1 : Rat) (c : Rat) (hk : Kept s0 s) : Kept s0 (State.syncKnown s n seq t1 c) := by
  unfold State.syncKnown
  extract_lets +onlyGivenNames x1
  split
  · exact hk
  · extract_lets +onlyGivenNames x2
    extract_lets +onlyGivenNames x3
    refine kept_ite ?_ ?_
    · refine kept_oneWay _ _ _ ?_
      refine kept_setSess _ _ ?_
      exact hk
    · refine kept_completeDelays _ ?_
      refine kept_setSess _ _ ?_
      exact hk

theorem kept_syncReceive {s : State} (n : Nat) (h : PtpHdr) (twoStep : Bool) (origin : PtpTime) (at_ : PcsTime) (hk : Kept s0 s) : Kept s0 (State.syncReceive s n h twoStep origin at_) := by
  unfold State.syncReceive
  extract_lets +onlyGivenNames x1
  have hx1 : KeptP s0 x1 := by
    unfold x1
    refine kept_admitRx _ _ ?_
    exact hk
  clear_value x1
  extract_lets +onlyGivenNames x2
  have hx2 : Kept s0 x2 := by
    unfold x2
    show KeptP s0 _
    exact hx1
  clear_value x2
  extract_lets +onlyGivenNames x3
  extract_lets +onlyGivenNames x4
  extract_lets +onlyGivenNames x5
  extract_lets +onlyGivenNames x6
  have hx6 : Kept s0 x6 := by
    unfold x6
    refine kept_modSess _ _ ?_
    exact hx2
  clear_value x6
  extract_lets +onlyGivenNames x7
  have hx7 : Kept s0 x7 := by
    unfold x7
    refine kept_hwm _ _ ?_
    exact hx6
  clear_value x7
  refine kept_ite ?_ ?_
  · show KeptP s0 _
    exact hx1
  · refine kept_ite ?_ ?_
    · refine kept_reject _ ?_
      exact hx2
    · refine kept_ite ?_ ?_
      · exact hx7
      · refine kept_syncKnown _ _ _ _ ?_
        exact hx7

theorem kept_followUpReceive {s : State} (n : Nat) (h : PtpHdr) (origin : PtpTime) (hk : Kept s0 s) : Kept s0 (State.followUpReceive s n h origin) := by
  unfold State.followUpReceive
  extract_lets +onlyGivenNames x1
  have hx1 : KeptP s0 x1 := by
    unfold x1
    refine kept_admitRx _ _ ?_
    exact hk
  clear_value x1
  refine kept_ite ?_ ?_
  · show KeptP s0 _
    exact hx1
  · refine kept_ite ?_ ?_
    · refine kept_reject _ ?_
      refine kept_modSess _ _ ?_
      show KeptP s0 _
      exact hx1
    · refine kept_syncKnown _ _ _ _ ?_
      show KeptP s0 _
      exact hx1

theorem kept_delayReqSend {s : State} (n : Nat) (at_ : PcsTime) (hk : Kept s0 s) : Kept s0 (State.delayReqSend s n at_) := by
  unfold State.delayReqSend
  extract_lets +onlyGivenNames x1
  extract_lets +onlyGivenNames x2
  extract_lets +onlyGivenNames x3
  have hx3 : KeptP s0 x3 := by
    unfold x3
    refine kept_sendPtp _ _ _ ?_
    exact hk
  clear_value x3
  extract_lets +onlyGivenNames x4
  have hx4 : Kept s0 x4 := by
    unfold x4
    refine kept_seqNext _ ?_
    show KeptP s0 _
    exact hx3
  clear_value x4
  extract_lets +onlyGivenNames x5
  extract_lets +onlyGivenNames x6
  extract_lets +onlyGivenNames x7
  extract_lets +onlyGivenNames x8
  have hx8 : Kept s0 x8 := by
    unfold x8
    refine kept_modSess _ _ ?_
    exact hx4
  clear_value x8
  refine kept_ite ?_ ?_
  · exact hk
  · refine kept_ite ?_ ?_
    · show KeptP s0 _
      exact hx3
    · refine kept_hwm _ _ ?_
      exact hx8

theorem kept_delayRespReceive {s : State} (n : Nat) (h : PtpHdr) (recv : PtpTime) (reqId : BitVec 64) (reqPort : BitVec 16) (hk : Kept s0 s) : Kept s0 (State.delayRespReceive s n h recv reqId reqPort) := by
  unfold State.delayRespReceive
  extract_lets +onlyGivenNames x1
  have hx1 : KeptP s0 x1 := by
    unfold x1
    refine kept_admitRx _ _ ?_
    exact hk
  clear_value x1
  extract_lets +onlyGivenNames x2
  have hx2 : Kept s0 x2 := by
    unfold x2
    show KeptP s0 _
    exact hx1
  clear_value x2
  extract_lets +onlyGivenNames x3
  extract_lets +onlyGivenNames x4
  have hx4 : Kept s0 x4 := by
    unfold x4
    refine kept_modSess _ _ ?_
    exact hx2
  clear_value x4
  refine kept_ite ?_ ?_
  · show KeptP s0 _
    exact hx1
  · refine kept_ite ?_ ?_
    · exact hx2
    · refine kept_ite ?_ ?_
      · exact hx2
      · refine kept_ite ?_ ?_
        · refine kept_reject _ ?_
          refine kept_modSess _ _ ?_
          exact hx2
        · refine kept_completeDelays _ ?_
          exact hx4

theorem kept_delayReqReceive {s : State} (n : Nat) (h : PtpHdr) (at_ : PcsTime) (hk : Kept s0 s) : Kept s0 (State.delayReqReceive s n h at_) := by
  unfold State.delayReqReceive
  extract_lets +onlyGivenNames x1
  have hx1 : KeptP s0 x1 := by
    unfold x1
    refine kept_admitRx _ _ ?_
    exact hk
  clear_value x1
  extract_lets +onlyGivenNames x2
  have hx2 : Kept s0 x2 := by
    unfold x2
    show KeptP s0 _
    exact hx1
  clear_value x2
  extract_lets +onlyGivenNames x3
  extract_lets +onlyGivenNames x4
  refine kept_ite ?_ ?_
  · show KeptP s0 _
    exact hx1
  · refine kept_ite ?_ ?_
    · exact hx2
    · show KeptP s0 _
      refine kept_sendPtp _ _ _ ?_
      exact hx2

theorem kept_exchangeTimeout {s : State} (n : Nat) (seq : Nat) (dreq : Bool) (hk : Kept s0 s) : Kept s0 (State.exchangeTimeout s n seq dreq) := by
  unfold State.exchangeTimeout
  extract_lets +onlyGivenNames x1
  extract_lets +onlyGivenNames x2
  extract_lets +onlyGivenNames x3
  extract_lets +onlyGivenNames x4
  extract_lets +onlyGivenNames x5
  extract_lets +onlyGivenNames x6
  have hx6 : Kept s0 x6 := by
    unfold x6
    refine kept_setSess _ _ ?_
    exact hk
  clear_value x6
  refine kept_ite ?_ ?_
  · exact hk
  · refine kept_ite ?_ ?_
    · refine kept_ite ?_ ?_
      · refine kept_reject _ ?_
        refine kept_setSess _ _ ?_
        exact hk
      · exact hk
    · refine kept_ite ?_ ?_
      · refine kept_foldl ?_ (fun t7 at7 ht7 => ?_) _
        · exact hx6
        · refine kept_reject _ ?_
          exact ht7
      · exact hk

theorem kept_contextExpiry {s : State} (n : Nat) (seq : Nat) (dreq : Bool) (hk : Kept s0 s) : Kept s0 (State.contextExpiry s n seq dreq) := by
  unfold State.contextExpiry
  extract_lets +onlyGivenNames x1
  have hx1 : Kept s0 x1 := by
    unfold x1
    refine kept_exchangeTimeout _ _ _ ?_
    exact hk
  clear_value x1
  refine kept_ite ?_ ?_
  · exact hk
  · refine kept_ite ?_ ?_
    · refine kept_modSess _ _ ?_
      exact hx1
    · refine kept_modSess _ _ ?_
      exact hx1

theorem kept_keepAnnounce {s : State} (n : Nat) (m : AnnMsg) (hk : Kept s0 s) : Kept s0 (State.keepAnnounce s n m) := by
  unfold State.keepAnnounce
  extract_lets +onlyGivenNames x1
  have hx1 : Kept s0 x1 := by
    unfold x1
    refine kept_setCtxFld _ _ _ _ _ ?_
    exact hk
  clear_value x1
  extract_lets +onlyGivenNames x2
  have hx2 : Kept s0 x2 := by
    unfold x2
    refine kept_setCtxWord _ _ _ ?_
    refine kept_setCtxWord _ _ _ ?_
    exact hx1
  clear_value x2
  extract_lets +onlyGivenNames x3
  have hx3 : Kept s0 x3 := by
    unfold x3
    refine kept_setCtxWord _ _ _ ?_
    exact hx2
  clear_value x3
  extract_lets +onlyGivenNames x4
  have hx4 : Kept s0 x4 := by
    unfold x4
    refine kept_setCtxWord _ _ _ ?_
    exact hx3
  clear_value x4
  extract_lets +onlyGivenNames x5
  have hx5 : Kept s0 x5 := by
    unfold x5
    refine kept_setCtxWord _ _ _ ?_
    exact hx4
  clear_value x5
  refine kept_setCtxWord _ _ _ ?_
  refine kept_setCtxWord _ _ _ ?_
  refine kept_setCtxWord _ _ _ ?_
  exact hx5

theorem kept_bmcaDue {s : State} (hk : Kept s0 s) : Kept s0 (State.bmcaDue s) := by
  unfold State.bmcaDue
  extract_lets +onlyGivenNames x1
  refine kept_mk ?_ rfl rfl rfl rfl ⟨rfl, rfl, rfl⟩
  exact hk

theorem kept_announceReceive {s : State} (n : Nat) (m : AnnMsg) (hk : Kept s0 s) : Kept s0 (State.announceReceive s n m) := by
  unfold State.announceReceive
  extract_lets +onlyGivenNames x1
  have hx1 : KeptP s0 x1 := by
    unfold x1
    refine kept_admitRx _ _ ?_
    exact hk
  clear_value x1
  extract_lets +onlyGivenNames x2
  have hx2 : Kept s0 x2 := by
    unfold x2
    refine kept_modSess _ _ ?_
    refine kept_bmcaDue ?_
    refine kept_keepAnnounce _ _ ?_
    show KeptP s0 _
    exact hx1
  clear_value x2
  refine kept_ite ?_ ?_
  · show KeptP s0 _
    exact hx1
  · refine kept_sessGroup _ ?_
    refine kept_ite ?_ ?_
    · refine kept_success _ ?_
      exact hx2
    · exact hx2

theorem kept_announceTimeout {s : State} (n : Nat) (hk : Kept s0 s) : Kept s0 (State.announceTimeout s n) := by
  unfold State.announceTimeout
  extract_lets +onlyGivenNames x1
  extract_lets +onlyGivenNames x2
  have hx2 : Kept s0 x2 := by
    unfold x2
    refine kept_sessSticky _ _ ?_
    refine kept_ctxSat _ _ _ ?_
    refine kept_setCtxFld _ _ _ _ _ ?_
    exact hk
  clear_value x2
  extract_lets +onlyGivenNames x3
  extract_lets +onlyGivenNames x4
  have hx4 : Kept s0 x4 := by
    unfold x4
    refine kept_mk ?_ rfl rfl rfl rfl ⟨rfl, rfl, rfl⟩
    exact hx2
  clear_value x4
  extract_lets +onlyGivenNames x5
  have hx5 : Kept s0 x5 := by
    unfold x5
    refine kept_modSess _ _ ?_
    exact hx4
  clear_value x5
  extract_lets +onlyGivenNames x6
  have hx6 : Kept s0 x6 := by
    unfold x6
    refine kept_ite ?_ ?_
    · refine kept_captureCause _ _ ?_
      exact hx5
    · exact hx5
  clear_value x6
  refine kept_ite ?_ ?_
  · exact hk
  · refine kept_ite ?_ ?_
    · refine kept_askGrant _ _ ?_
      exact hx6
    · exact hx6

theorem kept_sessionTimeout {s : State} (n : Nat) (hk : Kept s0 s) : Kept s0 (State.sessionTimeout s n) := by
  unfold State.sessionTimeout
  extract_lets +onlyGivenNames x1
  extract_lets +onlyGivenNames x2
  extract_lets +onlyGivenNames x3
  have hx3 : Kept s0 x3 := by
    unfold x3
    refine kept_modSess _ _ ?_
    refine kept_setSstate _ _ ?_
    refine kept_sessSticky _ _ ?_
    exact hk
  clear_value x3
  refine kept_ite ?_ ?_
  · exact hk
  · refine kept_ite ?_ ?_
    · refine kept_captureCause _ _ ?_
      exact hx3
    · exact hx3

theorem kept_announceSend {s : State} (n : Nat) (hk : Kept s0 s) : Kept s0 (State.announceSend s n) := by
  unfold State.announceSend
  extract_lets +onlyGivenNames x1
  have hx1 : KeptP s0 x1 := by
    unfold x1
    refine kept_sendPtp _ _ _ ?_
    exact hk
  clear_value x1
  refine kept_ite ?_ ?_
  · exact hk
  · refine kept_ite ?_ ?_
    · refine kept_took ?_
      refine kept_seqNext _ ?_
      show KeptP s0 _
      exact hx1
    · show KeptP s0 _
      exact hx1

theorem kept_syncSend {s : State} (n : Nat) (at_ : PcsTime) (hk : Kept s0 s) : Kept s0 (State.syncSend s n at_) := by
  unfold State.syncSend
  extract_lets +onlyGivenNames x1
  extract_lets +onlyGivenNames x2
  extract_lets +onlyGivenNames x3
  extract_lets +onlyGivenNames x4
  extract_lets +onlyGivenNames x5
  have hx5 : KeptP s0 x5 := by
    unfold x5
    refine kept_sendPtp _ _ _ ?_
    exact hk
  clear_value x5
  extract_lets +onlyGivenNames x6
  have hx6 : Kept s0 x6 := by
    unfold x6
    refine kept_seqNext _ ?_
    show KeptP s0 _
    exact hx5
  clear_value x6
  refine kept_ite ?_ ?_
  · exact hk
  · refine kept_ite ?_ ?_
    · show KeptP s0 _
      exact hx5
    · refine kept_ite ?_ ?_
      · show KeptP s0 _
        refine kept_sendPtp _ _ _ ?_
        exact hx6
      · exact hx6

theorem kept_takeTlv {s : State} (n : Nat) (t : NegTlv) (hk : Kept s0 s) : Kept s0 (State.takeTlv s n t) := by
  unfold State.takeTlv
  extract_lets +onlyGivenNames x1
  split
  · extract_lets +onlyGivenNames x2
    have hx2 : Kept s0 x2 := by
      unfold x2
      refine kept_setSess _ _ ?_
      exact hk
    clear_value x2
    refine kept_ite ?_ ?_
    · exact hk
    · refine kept_ite ?_ ?_
      · refine kept_success _ ?_
        show KeptP s0 _
        refine kept_sendPtp _ _ _ ?_
        exact hx2
      · show KeptP s0 _
        refine kept_sendPtp _ _ _ ?_
        exact hk
  · extract_lets +onlyGivenNames x3
    extract_lets +onlyGivenNames x4
    have hx4 : Kept s0 x4 := by
      unfold x4
      refine kept_setSess _ _ ?_
      exact hk
    clear_value x4
    refine kept_ite ?_ ?_
    · exact hk
    · refine kept_ite ?_ ?_
      · refine kept_sessSticky _ _ ?_
        refine kept_ite ?_ ?_
        · exact hk
        · refine kept_setSess _ _ ?_
          exact hk
      · refine kept_ite ?_ ?_
        · refine kept_setSstate _ _ ?_
          exact hx4
        · exact hx4
  · extract_lets +onlyGivenNames x5
    extract_lets +onlyGivenNames x6
    have hx6 : Kept s0 x6 := by
      unfold x6
      refine kept_setSess _ _ ?_
      exact hk
    clear_value x6
    show KeptP s0 _
    refine kept_sendPtp _ _ _ ?_
    exact hx6
  · exact hk

theorem kept_signalingReceive {s : State} (n : Nat) (l : List NegTlv) (hk : Kept s0 s) : Kept s0 (State.signalingReceive s n l) := by
  unfold State.signalingReceive
  extract_lets +onlyGivenNames x1
  have hx1 : KeptP s0 x1 := by
    unfold x1
    refine kept_admitRx _ _ ?_
    exact hk
  clear_value x1
  refine kept_ite ?_ ?_
  · refine kept_foldl ?_ (fun t2 at2 ht2 => ?_) _
    · show KeptP s0 _
      exact hx1
    · refine kept_takeTlv _ _ ?_
      exact ht2
  · show KeptP s0 _
    exact hx1

theorem kept_grantRenew {s : State} (n : Nat) (type : Nat) (hk : Kept s0 s) : Kept s0 (State.grantRenew s n type) := by
  unfold State.grantRenew
  extract_lets +onlyGivenNames x1
  refine kept_ite ?_ ?_
  · refine kept_askGrant _ _ ?_
    exact hk
  · exact hk

theorem kept_grantRetry {s : State} (n : Nat) (type : Nat) (hk : Kept s0 s) : Kept s0 (State.grantRetry s n type) := by
  unfold State.grantRetry
  extract_lets +onlyGivenNames x1
  refine kept_ite ?_ ?_
  · refine kept_sessSticky _ _ ?_
    refine kept_askGrant _ _ ?_
    exact hk
  · exact hk

theorem kept_grantExpiry {s : State} (n : Nat) (hk : Kept s0 s) : Kept s0 (State.grantExpiry s n) := by
  unfold State.grantExpiry
  extract_lets +onlyGivenNames x1
  extract_lets +onlyGivenNames x2
  extract_lets +onlyGivenNames x3
  have hx3 : Kept s0 x3 := by
    unfold x3
    refine kept_setSess _ _ ?_
    exact hk
  clear_value x3
  refine kept_ite ?_ ?_
  · refine kept_ite ?_ ?_
    · refine kept_setSstate _ _ ?_
      exact hx3
    · exact hx3
  · exact hk

theorem kept_putRec {s : State} (n : Nat) (v : Nat) (hk : Kept s0 s) : Kept s0 (State.putRec s n v) := by
  unfold State.putRec
  refine kept_ite ?_ ?_
  · exact hk
  · refine kept_sessSticky _ _ ?_
    refine kept_setCtxFld _ _ _ _ _ ?_
    exact hk

theorem kept_bmcaRun {s : State} (hk : Kept s0 s) : Kept s0 (State.bmcaRun s) := by
  unfold State.bmcaRun
  extract_lets +onlyGivenNames x1
  extract_lets +onlyGivenNames x2
  extract_lets +onlyGivenNames x3
  extract_lets +onlyGivenNames x4
  extract_lets +onlyGivenNames x5
  extract_lets +onlyGivenNames x6
  extract_lets +onlyGivenNames x7
  extract_lets +onlyGivenNames x8
  extract_lets +onlyGivenNames x9
  extract_lets +onlyGivenNames x10
  extract_lets +onlyGivenNames x11
  have hx11 : Kept s0 x11 := by
    unfold x11
    refine kept_obsAdd _ _ ?_
    refine kept_setB _ _ ?_
    refine kept_set _ _ ?_
    exact hk
  clear_value x11
  extract_lets +onlyGivenNames x12
  have hx12 : Kept s0 x12 := by
    unfold x12
    refine kept_foldl ?_ (fun t13 at13 ht13 => ?_) _
    · exact hx11
    · refine kept_putRec _ _ ?_
      exact ht13
  clear_value x12
  refine kept_raiseIf _ _ ?_
  exact hx12

theorem kept_missingExchange {s : State} (g : Nat) (hk : Kept s0 s) : Kept s0 (State.missingExchange s g) := by
  unfold State.missingExchange
  extract_lets +onlyGivenNames x1
  extract_lets +onlyGivenNames x2
  refine kept_ite ?_ ?_
  · exact hk
  · refine kept_raise _ ?_
    refine kept_noteMissing _ _ ?_
    refine kept_setGrp _ _ ?_
    exact hk

theorem kept_gmholdExpiry {s : State} (g : Nat) (hk : Kept s0 s) : Kept s0 (State.gmholdExpiry s g) := by
  unfold State.gmholdExpiry
  extract_lets +onlyGivenNames x1
  refine kept_ite ?_ ?_
  · exact hk
  · refine kept_set _ _ ?_
    refine kept_set _ _ ?_
    refine kept_setGrp _ _ ?_
    exact hk

theorem kept_servoDone {s : State} (g : Nat) (n : Nat) (gm : Option Nat) (mpds : List Rat) (epoch : Option Int) (seq : Nat) (hk : Kept s0 s) : Kept s0 (State.servoDone s g n gm mpds epoch seq) := by
  unfold State.servoDone
  extract_lets +onlyGivenNames x1
  refine kept_ite ?_ ?_
  · refine kept_setGrp _ _ ?_
    exact hk
  · refine kept_setGrp _ _ ?_
    exact hk

theorem kept_packetServo {s : State} (g : Nat) (hk : Kept s0 s) : Kept s0 (State.packetServo s g) := by
  unfold State.packetServo
  extract_lets +onlyGivenNames x1
  extract_lets +onlyGivenNames x2
  extract_lets +onlyGivenNames x3
  extract_lets +onlyGivenNames x4
  have hx4 : Kept s0 x4 := by
    unfold x4
    refine kept_emit _ _ ?_
    exact hk
  clear_value x4
  refine kept_ite ?_ ?_
  · exact hk
  · split
    · refine kept_emit _ _ ?_
      exact hx4
    · extract_lets +onlyGivenNames x5
      extract_lets +onlyGivenNames x6
      extract_lets +onlyGivenNames x7
      extract_lets +onlyGivenNames x8
      extract_lets +onlyGivenNames x9
      extract_lets +onlyGivenNames x10
      extract_lets +onlyGivenNames x11
      extract_lets +onlyGivenNames x12
      have hx12 : Kept s0 x12 := by
        unfold x12
        refine kept_emitAll _ _ ?_
        exact hx4
      clear_value x12
      extract_lets +onlyGivenNames x13
      refine kept_setQslot _ _ ?_
      exact hx12

theorem kept_ptpBoundary {s : State} (sec : Bool) (dt : Nat) (hk : Kept s0 s) : Kept s0 (State.ptpBoundary s sec dt) := by
  unfold State.ptpBoundary
  extract_lets +onlyGivenNames x1
  extract_lets +onlyGivenNames x2
  have hx2 : Kept s0 x2 := by
    unfold x2
    refine kept_foldl ?_ (fun t3 at3 ht3 => ?_) _
    · exact hk
    · refine kept_ite ?_ ?_
      · refine kept_modSess _ _ ?_
        exact ht3
      · exact ht3
  clear_value x2
  extract_lets +onlyGivenNames x4
  extract_lets +onlyGivenNames x5
  have hx5 : Kept s0 x5 := by
    unfold x5
    refine kept_ite ?_ ?_
    · refine kept_mk ?_ rfl rfl rfl rfl ⟨rfl, rfl, rfl⟩
      exact hx2
    · exact hx2
  clear_value x5
  extract_lets +onlyGivenNames x6
  extract_lets +onlyGivenNames x7
  have hx7 : Kept s0 x7 := by
    unfold x7
    refine kept_ite ?_ ?_
    · refine kept_bmcaRun ?_
      refine kept_mk ?_ rfl rfl rfl rfl ⟨rfl, rfl, rfl⟩
      exact hx5
    · exact hx5
  clear_value x7
  extract_lets +onlyGivenNames x8
  have hx8 : Kept s0 x8 := by
    unfold x8
    refine kept_foldl ?_ (fun t9 at9 ht9 => ?_) _
    · exact hx7
    · refine kept_ite ?_ ?_
      · refine kept_set _ _ ?_
        exact ht9
      · exact ht9
  clear_value x8
  extract_lets +onlyGivenNames x10
  have hx10 : Kept s0 x10 := by
    unfold x10
    refine kept_set _ _ ?_
    exact hx8
  clear_value x10
  extract_lets +onlyGivenNames x11
  refine kept_ite ?_ ?_
  · exact hx5
  · refine kept_ite ?_ ?_
    · refine kept_mk ?_ rfl rfl rfl rfl ⟨rfl, rfl, rfl⟩
      exact hx10
    · exact hx8

theorem kept_ptpReset {s : State} (hk : Kept s0 s) : Kept s0 (State.ptpReset s) := by
  unfold State.ptpReset
  extract_lets +onlyGivenNames x1
  refine kept_mk ?_ rfl rfl rfl rfl ⟨rfl, rfl, rfl⟩
  exact hk

theorem kept_ptpRelease {s : State} (hk : Kept s0 s) : Kept s0 (State.ptpRelease s) := by
  unfold State.ptpRelease
  refine kept_foldl ?_ (fun t1 at1 ht1 => ?_) _
  · exact hk
  · refine kept_sessionCheck _ ?_
    exact ht1

theorem kept_ptpWrite {s : State} (a : Nat) (v : Nat) (hk : Kept s0 s) : Kept s0 (State.ptpWrite s a v) := by
  unfold State.ptpWrite
  extract_lets +onlyGivenNames x1
  extract_lets +onlyGivenNames x2
  extract_lets +onlyGivenNames x3
  extract_lets +onlyGivenNames x4
  have hx4 : Kept s0 x4 := by
    unfold x4
    refine kept_setCtxWord _ _ _ ?_
    exact hk
  clear_value x4
  extract_lets +onlyGivenNames x5
  have hx5 : Kept s0 x5 := by
    unfold x5
    refine kept_setCtxWord _ _ _ ?_
    exact hk
  clear_value x5
  refine kept_ite ?_ ?_
  · exact hk
  · refine kept_ite ?_ ?_
    · refine kept_ite ?_ ?_
      · refine kept_set _ _ ?_
        exact hx4
      · exact hx4
    · refine kept_ite ?_ ?_
      · refine kept_ite ?_ ?_
        · refine kept_sessionCheck _ ?_
          exact hx5
        · exact hx5
      · exact hk

theorem kept_ptpReceive {s : State} (n : Nat) (m : PtpIn) (hk : Kept s0 s) : Kept s0 (State.ptpReceive s n m) := by
  unfold State.ptpReceive
  refine kept_ite ?_ ?_
  · exact hk
  · split
    · refine kept_syncReceive _ _ _ _ _ ?_
      exact hk
    · refine kept_followUpReceive _ _ _ ?_
      exact hk
    · refine kept_delayReqReceive _ _ _ ?_
      exact hk
    · refine kept_delayRespReceive _ _ _ _ _ ?_
      exact hk
    · refine kept_announceReceive _ _ ?_
      exact hk
    · refine kept_signalingReceive _ _ ?_
      exact hk

theorem kept_esmcTake {s : State} (p : Nat) (ssm : Nat) (ext : Option Nat) (hk : Kept s0 s) : Kept s0 (State.esmcTake s p ssm ext) := by
  unfold State.esmcTake
  extract_lets +onlyGivenNames x1
  extract_lets +onlyGivenNames x2
  have hx2 : Kept s0 x2 := by
    unfold x2
    refine kept_mk ?_ rfl rfl rfl rfl ⟨rfl, rfl, rfl⟩
    exact hk
  clear_value x2
  extract_lets +onlyGivenNames x3
  have hx3 : Kept s0 x3 := by
    unfold x3
    refine kept_setB _ _ ?_
    refine kept_set _ _ ?_
    refine kept_set _ _ ?_
    exact hx2
  clear_value x3
  extract_lets +onlyGivenNames x4
  have hx4 : Kept s0 x4 := by
    unfold x4
    split
    · refine kept_set _ _ ?_
      exact hx3
    · exact hx3
  clear_value x4
  refine kept_obsAdd _ _ ?_
  exact hx4

theorem kept_esmcReceive {s : State} (p : Nat) (ssm : Nat) (ext : Option Nat) (hk : Kept s0 s) : Kept s0 (State.esmcReceive s p ssm ext) := by
  unfold State.esmcReceive
  extract_lets +onlyGivenNames x1
  have hx1 : Kept s0 x1 := by
    unfold x1
    refine kept_obsAdd _ _ ?_
    exact hk
  clear_value x1
  refine kept_ite ?_ ?_
  · exact hk
  · refine kept_ite ?_ ?_
    · refine kept_esmcTake _ _ _ ?_
      exact hx1
    · exact hx1

theorem kept_esmcTimeout {s : State} (p : Nat) (hk : Kept s0 s) : Kept s0 (State.esmcTimeout s p) := by
  unfold State.esmcTimeout
  refine kept_ite ?_ ?_
  · refine kept_raise _ ?_
    refine kept_set _ _ ?_
    exact hk
  · exact hk

theorem kept_ethBoundary {s : State} (dt : Nat) (p : Nat) (hk : Kept s0 s) : Kept s0 (State.ethBoundary s dt p) := by
  unfold State.ethBoundary
  extract_lets +onlyGivenNames x1
  extract_lets +onlyGivenNames x2
  have hx2 : Kept s0 x2 := by
    unfold x2
    refine kept_ite ?_ ?_
    · refine kept_mk ?_ rfl rfl rfl rfl ⟨rfl, rfl, rfl⟩
      exact hk
    · exact hk
  clear_value x2
  extract_lets +onlyGivenNames x3
  have hx3 : Kept s0 x3 := by
    unfold x3
    refine kept_linkFollow _ ?_
    exact hx2
  clear_value x3
  extract_lets +onlyGivenNames x4
  extract_lets +onlyGivenNames x5
  extract_lets +onlyGivenNames x6
  refine kept_ite ?_ ?_
  · exact hx2
  · refine kept_raiseIf _ _ ?_
    refine kept_setB _ _ ?_
    refine kept_set _ _ ?_
    exact hx3

theorem kept_esmcSend {s : State} (p : Nat) (event : Bool) (hk : Kept s0 s) : Kept s0 (State.esmcSend s p event) := by
  unfold State.esmcSend
  extract_lets +onlyGivenNames x1
  extract_lets +onlyGivenNames x2
  extract_lets +onlyGivenNames x3
  have hx3 : Kept s0 x3 := by
    unfold x3
    refine kept_mk ?_ rfl rfl rfl rfl ⟨rfl, rfl, rfl⟩
    exact hk
  clear_value x3
  refine kept_obsAdd _ _ ?_
  refine kept_sendEth _ ?_
  exact hx3

theorem kept_esmcInfo {s : State} (p : Nat) (hk : Kept s0 s) : Kept s0 (State.esmcInfo s p) := by
  unfold State.esmcInfo
  refine kept_ite ?_ ?_
  · refine kept_esmcSend _ _ ?_
    exact hk
  · exact hk

theorem kept_esmcEvent {s : State} (p : Nat) (hk : Kept s0 s) : Kept s0 (State.esmcEvent s p) := by
  unfold State.esmcEvent
  split
  · exact hk
  · refine kept_ite ?_ ?_
    · refine kept_esmcSend _ _ ?_
      exact hk
    · exact hk

theorem kept_hostToken {s : State} (p : Nat) (n : Nat) (hk : Kept s0 s) : KeptP s0 (State.hostToken s p n) := by
  unfold State.hostToken
  extract_lets +onlyGivenNames x1
  extract_lets +onlyGivenNames x2
  extract_lets +onlyGivenNames x3
  extract_lets +onlyGivenNames x4
  extract_lets +onlyGivenNames x5
  refine keptP_mk ?_ _
  refine kept_mk ?_ rfl rfl rfl rfl ⟨rfl, rfl, rfl⟩
  exact hk

theorem kept_frameToHost {s : State} (p : Nat) (f : List Byte) (at_ : PcsTime) (hk : Kept s0 s) : Kept s0 (State.frameToHost s p f at_) := by
  unfold State.frameToHost
  extract_lets +onlyGivenNames x1
  have hx1 : KeptP s0 x1 := by
    unfold x1
    refine kept_hostToken _ _ ?_
    exact hk
  clear_value x1
  extract_lets +onlyGivenNames x2
  have hx2 : Kept s0 x2 := by
    unfold x2
    show KeptP s0 _
    exact hx1
  clear_value x2
  extract_lets +onlyGivenNames x3
  extract_lets +onlyGivenNames x4
  have hx4 : Kept s0 x4 := by
    unfold x4
    refine kept_ite ?_ ?_
    · refine kept_ringDrop _ ?_
      exact hx2
    · exact hx2
  clear_value x4
  refine kept_ite ?_ ?_
  · exact hk
  · refine kept_ite ?_ ?_
    · refine kept_obsAdd _ _ ?_
      refine kept_postFrameRx _ _ _ ?_
      exact hx2
    · refine kept_raise _ ?_
      refine kept_obsAdd _ _ ?_
      refine kept_satAdd _ _ ?_
      exact hx4

theorem kept_frameReceive {s : State} (p : Nat) (f : List Byte) (fcs : Bool) (at_ : PcsTime) (m : Option (Nat × PtpIn)) (hk : Kept s0 s) : Kept s0 (State.frameReceive s p f fcs at_ m) := by
  unfold State.frameReceive
  extract_lets +onlyGivenNames x1
  have hx1 : Kept s0 x1 := by
    unfold x1
    refine kept_obsAdd _ _ ?_
    exact hk
  clear_value x1
  refine kept_ite ?_ ?_
  · exact hk
  · refine kept_ite ?_ ?_
    · refine kept_raise _ ?_
      refine kept_obsAdd _ _ ?_
      refine kept_satAdd _ _ ?_
      exact hx1
    · split
      · refine kept_esmcTake _ _ _ ?_
        exact hx1
      · split
        · refine kept_ite ?_ ?_
          · refine kept_ptpReceive _ _ ?_
            exact hx1
          · refine kept_frameToHost _ _ _ ?_
            exact hx1
        · refine kept_frameToHost _ _ _ ?_
          exact hx1

theorem kept_messageReceive {s : State} (n : Nat) (m : PtpIn) (hk : Kept s0 s) : Kept s0 (State.messageReceive s n m) := by
  unfold State.messageReceive
  refine kept_ite ?_ ?_
  · refine kept_ptpReceive _ _ ?_
    refine kept_obsAdd _ _ ?_
    exact hk
  · exact hk

theorem kept_hostFrameTx {s : State} (at_ : PcsTime) (hk : Kept s0 s) : Kept s0 (State.hostFrameTx s at_) := by
  unfold State.hostFrameTx
  split
  · exact hk
  · extract_lets +onlyGivenNames x1
    extract_lets +onlyGivenNames x2
    have hx2 : Kept s0 x2 := by
      unfold x2
      refine kept_sendEth _ ?_
      exact hk
    clear_value x2
    extract_lets +onlyGivenNames x3
    have hx3 : Kept s0 x3 := by
      unfold x3
      refine kept_ite ?_ ?_
      · refine kept_txEntry _ _ _ ?_
        exact hx2
      · exact hx2
    clear_value x3
    refine kept_ite ?_ ?_
    · refine kept_completeItem _ _ _ ?_
      exact hk
    · refine kept_ite ?_ ?_
      · exact hk
      · refine kept_completeItem _ _ _ ?_
        exact hx3

theorem kept_ethWrite {s : State} (a : Nat) (v : Nat) (hk : Kept s0 s) : Kept s0 (State.ethWrite s a v) := by
  unfold State.ethWrite
  extract_lets +onlyGivenNames x1
  refine kept_ite ?_ ?_
  · exact hk
  · refine kept_mk ?_ rfl rfl rfl rfl ⟨rfl, rfl, rfl⟩
    exact hk

theorem kept_serdesRestart {s : State} (p : Nat) (hk : Kept s0 s) : Kept s0 (State.serdesRestart s p) := by
  unfold State.serdesRestart
  refine kept_foldl ?_ (fun t1 at1 ht1 => ?_) _
  · exact hk
  · extract_lets +onlyGivenNames x2
    extract_lets +onlyGivenNames x3
    refine kept_mk ?_ rfl rfl rfl rfl ⟨rfl, rfl, rfl⟩
    exact ht1

end Sys2Proof.Machine
end

