-- ==== Sys2Proof/Laws/KeptNet.lean ====
section
/-! SUPPORT. The operations of the Conjunction Links and the tense table keep canonical forms and one-time-programmable memory. -/
namespace Sys2Proof.Machine
open Sys2Proof

variable {s0 : Base}

theorem kept_setLink {s : State} (k : Nat) (x : Link) (hk : Kept s0 s) : Kept s0 (State.setLink s k x) := by
  unfold State.setLink
  extract_lets +onlyGivenNames x1
  refine kept_mk ?_ rfl rfl rfl rfl ⟨rfl, rfl, rfl⟩
  exact hk

theorem kept_modLink {s : State} (k : Nat) (f : Link → Link) (hk : Kept s0 s) : Kept s0 (State.modLink s k f) := by
  unfold State.modLink
  refine kept_setLink _ _ ?_
  exact hk

theorem kept_showLink {s : State} (k : Nat) (hk : Kept s0 s) : Kept s0 (State.showLink s k) := by
  unfold State.showLink
  refine kept_set _ _ ?_
  refine kept_set _ _ ?_
  exact hk

theorem kept_showHop {s : State} (k : Nat) (hk : Kept s0 s) : Kept s0 (State.showHop s k) := by
  unfold State.showHop
  refine kept_setS2 _ _ _ ?_
  exact hk

theorem kept_noteBad {s : State} (k : Nat) (hk : Kept s0 s) : Kept s0 (State.noteBad s k) := by
  unfold State.noteBad
  extract_lets +onlyGivenNames x1
  have hx1 : Kept s0 x1 := by
    unfold x1
    refine kept_modLink _ _ ?_
    exact hk
  clear_value x1
  refine kept_ite ?_ ?_
  · refine kept_captureCause _ _ ?_
    exact hx1
  · exact hx1

theorem kept_voidEcho {s : State} (k : Nat) (code : Nat) (hk : Kept s0 s) : Kept s0 (State.voidEcho s k code) := by
  unfold State.voidEcho
  extract_lets +onlyGivenNames x1
  have hx1 : Kept s0 x1 := by
    unfold x1
    refine kept_set _ _ ?_
    refine kept_obsAdd _ _ ?_
    refine kept_satAdd _ _ ?_
    exact hk
  clear_value x1
  extract_lets +onlyGivenNames x2
  have hx2 : Kept s0 x2 := by
    unfold x2
    refine kept_modLink _ _ ?_
    exact hx1
  clear_value x2
  extract_lets +onlyGivenNames x3
  have hx3 : Kept s0 x3 := by
    unfold x3
    refine kept_satAdd _ _ ?_
    exact hx2
  clear_value x3
  extract_lets +onlyGivenNames x4
  extract_lets +onlyGivenNames x5
  have hx5 : Kept s0 x5 := by
    unfold x5
    refine kept_modLink _ _ ?_
    exact hx3
  clear_value x5
  refine kept_ite ?_ ?_
  · exact hx2
  · refine kept_ite ?_ ?_
    · refine kept_raise _ ?_
      refine kept_noteBad _ ?_
      refine kept_set _ _ ?_
      exact hx5
    · exact hx5

theorem kept_voidAll {s : State} (k : Nat) (hk : Kept s0 s) : Kept s0 (State.voidAll s k) := by
  unfold State.voidAll
  extract_lets +onlyGivenNames x1
  refine kept_foldl ?_ (fun t2 at2 ht2 => ?_) _
  · refine kept_modLink _ _ ?_
    exact hk
  · refine kept_voidEcho _ _ ?_
    exact ht2

theorem kept_hopNone {s : State} (k : Nat) (hk : Kept s0 s) : Kept s0 (State.hopNone s k) := by
  unfold State.hopNone
  refine kept_modLink _ _ ?_
  refine kept_set _ _ ?_
  refine kept_set _ _ ?_
  exact hk

theorem kept_setInit {s : State} (k : Nat) (b : Bool) (hk : Kept s0 s) : Kept s0 (State.setInit s k b) := by
  unfold State.setInit
  refine kept_ite ?_ ?_
  · exact hk
  · refine kept_ite ?_ ?_
    · refine kept_set _ _ ?_
      refine kept_set _ _ ?_
      refine kept_modLink _ _ ?_
      refine kept_hopNone _ ?_
      exact hk
    · refine kept_set _ _ ?_
      refine kept_set _ _ ?_
      refine kept_hopNone _ ?_
      exact hk

theorem kept_echoDone {s : State} (k : Nat) (turn : Nat) (d : Rat) (th : Rat) (hk : Kept s0 s) : Kept s0 (State.echoDone s k turn d th) := by
  unfold State.echoDone
  extract_lets +onlyGivenNames x1
  extract_lets +onlyGivenNames x2
  extract_lets +onlyGivenNames x3
  have hx3 : Kept s0 x3 := by
    unfold x3
    refine kept_setLink _ _ ?_
    exact hk
  clear_value x3
  extract_lets +onlyGivenNames x4
  have hx4 : Kept s0 x4 := by
    unfold x4
    refine kept_obsAdd _ _ ?_
    refine kept_set _ _ ?_
    refine kept_set _ _ ?_
    refine kept_set _ _ ?_
    exact hx3
  clear_value x4
  extract_lets +onlyGivenNames x5
  have hx5 : Kept s0 x5 := by
    unfold x5
    refine kept_ite ?_ ?_
    · refine kept_set _ _ ?_
      exact hx4
    · exact hx4
  clear_value x5
  extract_lets +onlyGivenNames x6
  extract_lets +onlyGivenNames x7
  extract_lets +onlyGivenNames x8
  extract_lets +onlyGivenNames x9
  have hx9 : ∀ u10, Kept s0 u10 → Kept s0 (x9 u10) := by
    intro u10 hu10
    unfold x9
    refine kept_setS2 _ _ _ ?_
    exact hu10
  clear_value x9
  refine kept_ite ?_ ?_
  · refine hx9 _ ?_
    refine kept_set _ _ ?_
    refine kept_set _ _ ?_
    refine kept_showHop _ ?_
    refine kept_modLink _ _ ?_
    exact hx5
  · refine kept_ite ?_ ?_
    · refine kept_raise _ ?_
      refine hx9 _ ?_
      refine kept_set _ _ ?_
      refine kept_modLink _ _ ?_
      exact hx5
    · refine kept_ite ?_ ?_
      · refine hx9 _ ?_
        refine kept_modLink _ _ ?_
        exact hx5
      · exact hx5

theorem kept_echoSend {s : State} (k : Nat) (t : Nat) (hk : Kept s0 s) : Kept s0 (State.echoSend s k t) := by
  unfold State.echoSend
  extract_lets +onlyGivenNames x1
  extract_lets +onlyGivenNames x2
  refine kept_ite ?_ ?_
  · refine kept_obsAdd _ _ ?_
    refine kept_satAdd _ _ ?_
    refine kept_setLink _ _ ?_
    exact hk
  · refine kept_emitWire _ ?_
    refine kept_setLink _ _ ?_
    exact hk

theorem kept_echoRequest {s : State} (k : Nat) (t : Nat) (hk : Kept s0 s) : Kept s0 (State.echoRequest s k t) := by
  unfold State.echoRequest
  refine kept_ite ?_ ?_
  · refine kept_showLink _ ?_
    refine kept_echoSend _ _ ?_
    exact hk
  · exact hk

theorem kept_echoRetry {s : State} (k : Nat) (t : Nat) (hk : Kept s0 s) : Kept s0 (State.echoRetry s k t) := by
  unfold State.echoRetry
  refine kept_ite ?_ ?_
  · refine kept_showLink _ ?_
    refine kept_echoSend _ _ ?_
    exact hk
  · exact hk

theorem kept_echoGiveUp {s : State} (k : Nat) (hk : Kept s0 s) : Kept s0 (State.echoGiveUp s k) := by
  unfold State.echoGiveUp
  extract_lets +onlyGivenNames x1
  refine kept_ite ?_ ?_
  · exact hk
  · refine kept_raise _ ?_
    refine kept_noteBad _ ?_
    refine kept_setLink _ _ ?_
    exact hk

theorem kept_tlTimeout {s : State} (k : Nat) (hk : Kept s0 s) : Kept s0 (State.tlTimeout s k) := by
  unfold State.tlTimeout
  extract_lets +onlyGivenNames x1
  extract_lets +onlyGivenNames x2
  extract_lets +onlyGivenNames x3
  have hx3 : Kept s0 x3 := by
    unfold x3
    refine kept_showLink _ ?_
    refine kept_raise _ ?_
    refine kept_set _ _ ?_
    exact hk
  clear_value x3
  extract_lets +onlyGivenNames x4
  have hx4 : Kept s0 x4 := by
    unfold x4
    refine kept_modLink _ _ ?_
    exact hx3
  clear_value x4
  refine kept_ite ?_ ?_
  · exact hk
  · refine kept_ite ?_ ?_
    · exact hx3
    · refine kept_ite ?_ ?_
      · refine kept_captureCause _ _ ?_
        exact hx4
      · exact hx4

theorem kept_takeEcho {s : State} (k : Nat) (hk : Kept s0 s) : KeptP s0 (State.takeEcho s k) := by
  unfold State.takeEcho
  split
  · refine keptP_mk ?_ _
    exact hk
  · refine keptP_mk ?_ _
    refine kept_mk ?_ rfl rfl rfl rfl ⟨rfl, rfl, rfl⟩
    exact hk

theorem kept_responseMarker {s : State} (k : Nat) (hk : Kept s0 s) : Kept s0 (State.responseMarker s k) := by
  unfold State.responseMarker
  extract_lets +onlyGivenNames x1
  have hx1 : KeptP s0 x1 := by
    unfold x1
    refine kept_takeEcho _ ?_
    exact hk
  clear_value x1
  extract_lets +onlyGivenNames x2
  have hx2 : Kept s0 x2 := by
    unfold x2
    show KeptP s0 _
    exact hx1
  clear_value x2
  extract_lets +onlyGivenNames x3
  extract_lets +onlyGivenNames x4
  extract_lets +onlyGivenNames x5
  extract_lets +onlyGivenNames x6
  refine kept_ite ?_ ?_
  · exact hk
  · refine kept_setLink _ _ ?_
    exact hx2

theorem kept_echoMarker {s : State} (k : Nat) (hk : Kept s0 s) : Kept s0 (State.echoMarker s k) := by
  unfold State.echoMarker
  extract_lets +onlyGivenNames x1
  have hx1 : KeptP s0 x1 := by
    unfold x1
    refine kept_takeEcho _ ?_
    exact hk
  clear_value x1
  extract_lets +onlyGivenNames x2
  have hx2 : Kept s0 x2 := by
    unfold x2
    show KeptP s0 _
    exact hx1
  clear_value x2
  extract_lets +onlyGivenNames x3
  extract_lets +onlyGivenNames x4
  extract_lets +onlyGivenNames x5
  refine kept_ite ?_ ?_
  · exact hk
  · refine kept_modLink _ _ ?_
    exact hx2

theorem kept_flushMarks {s : State} (k : Nat) (hk : Kept s0 s) : Kept s0 (State.flushMarks s k) := by
  unfold State.flushMarks
  extract_lets +onlyGivenNames x1
  extract_lets +onlyGivenNames x2
  extract_lets +onlyGivenNames x3
  refine kept_setLink _ _ ?_
  exact hk

theorem kept_echoResponse {s : State} (k : Nat) (t : Nat) (hk : Kept s0 s) : Kept s0 (State.echoResponse s k t) := by
  unfold State.echoResponse
  extract_lets +onlyGivenNames x1
  extract_lets +onlyGivenNames x2
  extract_lets +onlyGivenNames x3
  refine kept_ite ?_ ?_
  · exact hk
  · refine kept_flushMarks _ ?_
    refine kept_emitWire _ ?_
    refine kept_setLink _ _ ?_
    exact hk

theorem kept_echoWaitTimeout {s : State} (k : Nat) (hk : Kept s0 s) : Kept s0 (State.echoWaitTimeout s k) := by
  unfold State.echoWaitTimeout
  extract_lets +onlyGivenNames x1
  split
  · exact hk
  · refine kept_ite ?_ ?_
    · exact hk
    · refine kept_showLink _ ?_
      refine kept_voidEcho _ _ ?_
      refine kept_setLink _ _ ?_
      exact hk

theorem kept_linkStart {s : State} (k : Nat) (hk : Kept s0 s) : Kept s0 (State.linkStart s k) := by
  unfold State.linkStart
  refine kept_ite ?_ ?_
  · refine kept_set _ _ ?_
    exact hk
  · exact hk

theorem kept_linkOff {s : State} (k : Nat) (hk : Kept s0 s) : Kept s0 (State.linkOff s k) := by
  unfold State.linkOff
  refine kept_showLink _ ?_
  refine kept_srcLoss _ ?_
  refine kept_set _ _ ?_
  refine kept_setInit _ _ ?_
  refine kept_hopNone _ ?_
  refine kept_voidAll _ ?_
  exact hk

theorem kept_linkRole {s : State} (k : Nat) (hk : Kept s0 s) : Kept s0 (State.linkRole s k) := by
  unfold State.linkRole
  refine kept_ite ?_ ?_
  · refine kept_linkOff _ ?_
    exact hk
  · refine kept_linkStart _ ?_
    exact hk

theorem kept_nodeLoad {s : State} (hk : Kept s0 s) : Kept s0 (State.nodeLoad s) := by
  unfold State.nodeLoad
  refine kept_setB _ _ ?_
  exact hk

theorem kept_nodeSwap {s : State} (was : State) (hk : Kept s0 s) : Kept s0 (State.nodeSwap s was) := by
  unfold State.nodeSwap
  refine kept_ite ?_ ?_
  · refine kept_nodeLoad ?_
    exact hk
  · refine kept_set _ _ ?_
    refine kept_set _ _ ?_
    refine kept_set _ _ ?_
    exact hk

theorem kept_roleEval {s : State} (k : Nat) (hk : Kept s0 s) : Kept s0 (State.roleEval s k) := by
  unfold State.roleEval
  extract_lets +onlyGivenNames x1
  extract_lets +onlyGivenNames x2
  extract_lets +onlyGivenNames x3
  have hx3 : Kept s0 x3 := by
    unfold x3
    refine kept_setLink _ _ ?_
    exact hk
  clear_value x3
  extract_lets +onlyGivenNames x4
  have hx4 : Kept s0 x4 := by
    unfold x4
    refine kept_raiseIf _ _ ?_
    refine kept_setInit _ _ ?_
    exact hx3
  clear_value x4
  refine kept_ite ?_ ?_
  · exact hk
  · refine kept_showLink _ ?_
    refine kept_raiseIf _ _ ?_
    exact hx4

theorem kept_syncGain {s : State} (k : Nat) (hk : Kept s0 s) : Kept s0 (State.syncGain s k) := by
  unfold State.syncGain
  extract_lets +onlyGivenNames x1
  have hx1 : Kept s0 x1 := by
    unfold x1
    refine kept_set _ _ ?_
    exact hk
  clear_value x1
  extract_lets +onlyGivenNames x2
  have hx2 : Kept s0 x2 := by
    unfold x2
    refine kept_modLink _ _ ?_
    exact hx1
  clear_value x2
  refine kept_ite ?_ ?_
  · exact hk
  · refine kept_roleEval _ ?_
    refine kept_raise _ ?_
    exact hx2

theorem kept_syncLoss {s : State} (k : Nat) (hk : Kept s0 s) : Kept s0 (State.syncLoss s k) := by
  unfold State.syncLoss
  extract_lets +onlyGivenNames x1
  have hx1 : Kept s0 x1 := by
    unfold x1
    refine kept_hopNone _ ?_
    refine kept_voidAll _ ?_
    exact hk
  clear_value x1
  extract_lets +onlyGivenNames x2
  have hx2 : Kept s0 x2 := by
    unfold x2
    refine kept_set _ _ ?_
    refine kept_setInit _ _ ?_
    exact hx1
  clear_value x2
  extract_lets +onlyGivenNames x3
  have hx3 : Kept s0 x3 := by
    unfold x3
    refine kept_modLink _ _ ?_
    exact hx2
  clear_value x3
  extract_lets +onlyGivenNames x4
  have hx4 : Kept s0 x4 := by
    unfold x4
    refine kept_srcLoss _ ?_
    exact hx3
  clear_value x4
  refine kept_ite ?_ ?_
  · exact hk
  · refine kept_showLink _ ?_
    refine kept_raise _ ?_
    exact hx4

theorem kept_cjlTxLock {s : State} (lock : Bool) (hk : Kept s0 s) : Kept s0 (State.cjlTxLock s lock) := by
  unfold State.cjlTxLock
  extract_lets +onlyGivenNames x1
  have hx1 : Kept s0 x1 := by
    unfold x1
    refine kept_setB _ _ ?_
    exact hk
  clear_value x1
  refine kept_ite ?_ ?_
  · refine kept_foldl ?_ (fun t2 at2 ht2 => ?_) _
    · exact hx1
    · refine kept_linkStart _ ?_
      exact ht2
  · exact hx1

theorem kept_putFrame {s : State} (k : Nat) (type : Nat) (payload : List Byte) (hk : Kept s0 s) : Kept s0 (State.putFrame s k type payload) := by
  unfold State.putFrame
  extract_lets +onlyGivenNames x1
  extract_lets +onlyGivenNames x2
  have hx2 : Kept s0 x2 := by
    unfold x2
    refine kept_modLink _ _ ?_
    exact hk
  clear_value x2
  refine kept_obsAdd _ _ ?_
  refine kept_emitWire _ ?_
  exact hx2

theorem kept_pickFrame {s : State} (k : Nat) (hk : Kept s0 s) : Kept s0 (State.pickFrame s k).2.2 := by
  unfold State.pickFrame
  dsimp only
  split
  · exact hk
  · split
    · exact kept_setLink _ _ hk
    · exact kept_setLink _ _ hk
    · exact kept_setLink _ _ hk
    · exact kept_obsAdd _ _ (kept_setLink _ _ hk)
    · split
      · exact kept_setLink _ _ hk
      · split
        · exact kept_set _ _ hk
        · exact hk

theorem kept_frameSlot {s : State} (k : Nat) (hk : Kept s0 s) : Kept s0 (State.frameSlot s k) := by
  unfold State.frameSlot
  dsimp only
  refine kept_ite hk (kept_putFrame _ _ _ (kept_pickFrame _ ?_))
  exact kept_ite (kept_raise _ (kept_modLink _ _ (kept_modLink _ _ hk))) (kept_modLink _ _ hk)

theorem kept_cjlReceive {s : State} (k : Nat) (type : Nat) (f : List Byte) {act : State → State} (hact : ∀ s, Kept s0 s → Kept s0 (act s)) (hk : Kept s0 s) : Kept s0 (State.cjlReceive s k type f act) := by
  unfold State.cjlReceive
  extract_lets +onlyGivenNames x1
  have hx1 : Kept s0 x1 := by
    unfold x1
    refine kept_obsAdd _ _ ?_
    exact hk
  clear_value x1
  extract_lets +onlyGivenNames x2
  extract_lets +onlyGivenNames x3
  extract_lets +onlyGivenNames x4
  have hx4 : Kept s0 x4 := by
    unfold x4
    refine kept_setB _ _ ?_
    refine kept_setB _ _ ?_
    refine kept_setB _ _ ?_
    refine kept_setB _ _ ?_
    exact hx1
  clear_value x4
  refine kept_ite ?_ ?_
  · exact hk
  · refine kept_ite ?_ ?_
    · refine kept_raise _ ?_
      refine kept_obsAdd _ _ ?_
      refine kept_satAdd _ _ ?_
      exact hx1
    · refine kept_ite ?_ ?_
      · exact hx1
      · refine kept_showLink _ ?_
        refine kept_roleEval _ ?_
        refine hact _ ?_
        refine kept_set _ _ ?_
        exact hx4

theorem kept_timeFrame {s : State} (k : Nat) (f : List Byte) (hk : Kept s0 s) : Kept s0 (State.timeFrame s k f) := by
  unfold State.timeFrame
  refine kept_cjlReceive _ _ _ (fun t1 ht1 => ?_) ?_
  · extract_lets +onlyGivenNames x2
    have hx2 : Kept s0 x2 := by
      unfold x2
      refine kept_set _ _ ?_
      refine kept_set _ _ ?_
      exact ht1
    clear_value x2
    refine kept_modLink _ _ ?_
    exact hx2
  · exact hk

theorem kept_timeFrameTimeout {s : State} (k : Nat) (hk : Kept s0 s) : Kept s0 (State.timeFrameTimeout s k) := by
  unfold State.timeFrameTimeout
  refine kept_ite ?_ ?_
  · refine kept_showLink _ ?_
    refine kept_modLink _ _ ?_
    exact hk
  · exact hk

theorem kept_echoReqReceive {s : State} (k : Nat) (f : List Byte) (hk : Kept s0 s) : Kept s0 (State.echoReqReceive s k f) := by
  unfold State.echoReqReceive
  refine kept_cjlReceive _ _ _ (fun t1 ht1 => ?_) ?_
  · extract_lets +onlyGivenNames x2
    extract_lets +onlyGivenNames x3
    extract_lets +onlyGivenNames x4
    extract_lets +onlyGivenNames x5
    extract_lets +onlyGivenNames x6
    refine kept_ite ?_ ?_
    · refine kept_setLink _ _ ?_
      exact ht1
    · refine kept_flushMarks _ ?_
      refine kept_setLink _ _ ?_
      exact ht1
  · exact hk

theorem kept_echoRspReceive {s : State} (k : Nat) (f : List Byte) (hk : Kept s0 s) : Kept s0 (State.echoRspReceive s k f) := by
  unfold State.echoRspReceive
  refine kept_cjlReceive _ _ _ (fun t1 ht1 => ?_) ?_
  · extract_lets +onlyGivenNames x2
    extract_lets +onlyGivenNames x3
    extract_lets +onlyGivenNames x4
    split
    · exact ht1
    · extract_lets +onlyGivenNames x5
      extract_lets +onlyGivenNames x6
      extract_lets +onlyGivenNames x7
      extract_lets +onlyGivenNames x8
      extract_lets +onlyGivenNames x9
      have hx9 : Kept s0 x9 := by
        unfold x9
        refine kept_setLink _ _ ?_
        exact ht1
      clear_value x9
      refine kept_ite ?_ ?_
      · refine kept_voidEcho _ _ ?_
        exact hx9
      · refine kept_echoDone _ _ _ _ ?_
        exact hx9
  · exact hk

theorem kept_queueFlood {s : State} (f : Flood) (hk : Kept s0 s) : Kept s0 (State.queueFlood s f) := by
  unfold State.queueFlood
  refine kept_foldl ?_ (fun t1 at1 ht1 => ?_) _
  · exact hk
  · refine kept_ite ?_ ?_
    · refine kept_modLink _ _ ?_
      exact ht1
    · exact ht1

theorem kept_originate {s : State} (code : Nat) (hk : Kept s0 s) : Kept s0 (State.originate s code) := by
  unfold State.originate
  extract_lets +onlyGivenNames x1
  extract_lets +onlyGivenNames x2
  extract_lets +onlyGivenNames x3
  have hx3 : Kept s0 x3 := by
    unfold x3
    refine kept_mk ?_ rfl rfl rfl rfl ⟨rfl, rfl, rfl⟩
    exact hk
  clear_value x3
  refine kept_ite ?_ ?_
  · exact hk
  · refine kept_obsAdd _ _ ?_
    refine kept_queueFlood _ ?_
    exact hx3

theorem kept_floodReceive {s : State} (k : Nat) (f : List Byte) (hk : Kept s0 s) : Kept s0 (State.floodReceive s k f) := by
  unfold State.floodReceive
  refine kept_cjlReceive _ _ _ (fun t1 ht1 => ?_) ?_
  · extract_lets +onlyGivenNames x2
    extract_lets +onlyGivenNames x3
    extract_lets +onlyGivenNames x4
    have hx4 : Kept s0 x4 := by
      unfold x4
      refine kept_set _ _ ?_
      refine kept_set _ _ ?_
      refine kept_set _ _ ?_
      exact ht1
    clear_value x4
    extract_lets +onlyGivenNames x5
    have hx5 : Kept s0 x5 := by
      unfold x5
      refine kept_raise _ ?_
      refine kept_obsAdd _ _ ?_
      refine kept_satAdd _ _ ?_
      exact hx4
    clear_value x5
    extract_lets +onlyGivenNames x6
    extract_lets +onlyGivenNames x7
    have hx7 : Kept s0 x7 := by
      unfold x7
      refine kept_mk ?_ rfl rfl rfl rfl ⟨rfl, rfl, rfl⟩
      exact hx5
    clear_value x7
    refine kept_ite ?_ ?_
    · refine kept_raise _ ?_
      refine kept_satAdd _ _ ?_
      exact ht1
    · refine kept_ite ?_ ?_
      · exact hx5
      · refine kept_satAdd _ _ ?_
        refine kept_queueFlood _ ?_
        exact hx7
  · exact hk

theorem kept_floodTx {s : State} (code : Nat) (hk : Kept s0 s) : Kept s0 (State.floodTx s code) := by
  unfold State.floodTx
  refine kept_ite ?_ ?_
  · refine kept_originate _ ?_
    exact hk
  · exact hk

theorem kept_identReceive {s : State} (k : Nat) (f : List Byte) (hk : Kept s0 s) : Kept s0 (State.identReceive s k f) := by
  unfold State.identReceive
  refine kept_cjlReceive _ _ _ (fun t1 ht1 => ?_) ?_
  · extract_lets +onlyGivenNames x2
    extract_lets +onlyGivenNames x3
    extract_lets +onlyGivenNames x4
    refine kept_ite ?_ ?_
    · refine kept_raise _ ?_
      refine kept_set _ _ ?_
      refine kept_set _ _ ?_
      refine kept_set _ _ ?_
      refine kept_set _ _ ?_
      exact ht1
    · exact ht1
  · exact hk

theorem kept_mailReceive {s : State} (k : Nat) (f : List Byte) (hk : Kept s0 s) : Kept s0 (State.mailReceive s k f) := by
  unfold State.mailReceive
  refine kept_cjlReceive _ _ _ (fun t1 ht1 => ?_) ?_
  · extract_lets +onlyGivenNames x2
    have hx2 : ∀ u3 u4, Kept s0 u3 → Kept s0 (x2 u3 u4) := by
      intro u3 u4 hu3
      unfold x2
      extract_lets +onlyGivenNames x5
      refine kept_mk ?_ rfl rfl rfl rfl ⟨rfl, rfl, rfl⟩
      exact hu3
    clear_value x2
    refine kept_raise _ ?_
    refine kept_set _ _ ?_
    refine kept_foldl ?_ (fun t6 at6 ht6 => ?_) _
    · exact ht1
    · refine hx2 _ _ ?_
      exact ht6
  · exact hk

theorem kept_cjlWrite {s : State} (a : Nat) (v : Nat) (hk : Kept s0 s) : Kept s0 (State.cjlWrite s a v) := by
  unfold State.cjlWrite
  extract_lets +onlyGivenNames x1
  refine kept_ite ?_ ?_
  · refine kept_mk ?_ rfl rfl rfl rfl ⟨rfl, rfl, rfl⟩
    exact hk
  · exact hk

theorem kept_linkTick {s : State} (k : Nat) (hk : Kept s0 s) : Kept s0 (State.linkTick s k) := by
  unfold State.linkTick
  extract_lets +onlyGivenNames x1
  refine kept_ite ?_ ?_
  · refine kept_showHop _ ?_
    refine kept_setLink _ _ ?_
    exact hk
  · exact hk

theorem kept_cjlBoundary {s : State} (dt : Nat) (hk : Kept s0 s) : Kept s0 (State.cjlBoundary s dt) := by
  unfold State.cjlBoundary
  extract_lets +onlyGivenNames x1
  have hx1 : Kept s0 x1 := by
    unfold x1
    refine kept_ite ?_ ?_
    · refine kept_foldl ?_ (fun t2 at2 ht2 => ?_) _
      · exact hk
      · refine kept_modLink _ _ ?_
        exact ht2
    · exact hk
  clear_value x1
  extract_lets +onlyGivenNames x3
  extract_lets +onlyGivenNames x4
  have hx4 : Kept s0 x4 := by
    unfold x4
    refine kept_setB _ _ ?_
    exact hx1
  clear_value x4
  extract_lets +onlyGivenNames x5
  have hx5 : Kept s0 x5 := by
    unfold x5
    clear_value x3
    split
    · refine kept_set _ _ ?_
      refine kept_set _ _ ?_
      refine kept_set _ _ ?_
      exact hx4
    · refine kept_set _ _ ?_
      refine kept_set _ _ ?_
      exact hx4
  clear_value x5
  extract_lets +onlyGivenNames x6
  have hx6 : Kept s0 x6 := by
    unfold x6
    refine kept_set _ _ ?_
    exact hx5
  clear_value x6
  refine kept_ite ?_ ?_
  · exact hx1
  · refine kept_foldl ?_ (fun t7 at7 ht7 => ?_) _
    · exact hx6
    · refine kept_showLink _ ?_
      refine kept_roleEval _ ?_
      refine kept_linkTick _ ?_
      exact ht7

theorem kept_cjlReset {s : State} (hk : Kept s0 s) : Kept s0 (State.cjlReset s) := by
  unfold State.cjlReset
  extract_lets +onlyGivenNames x1
  have hx1 : ∀ u2 u3, Kept s0 u2 → Kept s0 (x1 u2 u3) := by
    intro u2 u3 hu2
    unfold x1
    refine kept_modLink _ _ ?_
    refine kept_voidAll _ ?_
    exact hu2
  clear_value x1
  extract_lets +onlyGivenNames x4
  have hx4 : Kept s0 x4 := by
    unfold x4
    refine kept_foldl ?_ (fun t5 at5 ht5 => ?_) _
    · exact hk
    · refine hx1 _ _ ?_
      exact ht5
  clear_value x4
  extract_lets +onlyGivenNames x6
  refine kept_mk ?_ rfl rfl rfl rfl ⟨rfl, rfl, rfl⟩
  exact hx4

theorem kept_dropEntry {s : State} (i : Nat) (hk : Kept s0 s) : Kept s0 (State.dropEntry s i) := by
  unfold State.dropEntry
  extract_lets +onlyGivenNames x1
  refine kept_mk ?_ rfl rfl rfl rfl ⟨rfl, rfl, rfl⟩
  exact hk

theorem kept_removeEntry {s : State} (i : Nat) (w : List Nat) (outcome : Nat) (hk : Kept s0 s) : Kept s0 (State.removeEntry s i w outcome) := by
  unfold State.removeEntry
  refine kept_journal _ _ ?_
  refine kept_dropEntry _ ?_
  exact hk

theorem kept_storeEntry {s : State} (i : Nat) (w : List Nat) (hk : Kept s0 s) : Kept s0 (State.storeEntry s i w) := by
  unfold State.storeEntry
  extract_lets +onlyGivenNames x1
  extract_lets +onlyGivenNames x2
  have hx2 : Kept s0 x2 := by
    unfold x2
    refine kept_mk ?_ rfl rfl rfl rfl ⟨rfl, rfl, rfl⟩
    exact hk
  clear_value x2
  refine kept_hwm _ _ ?_
  refine kept_wrapAdd _ _ ?_
  exact hx2

theorem kept_tnsRefuse {s : State} (w : List Nat) (recv : Bool) (r : Nat) (hk : Kept s0 s) : Kept s0 (State.tnsRefuse s w recv r) := by
  unfold State.tnsRefuse
  extract_lets +onlyGivenNames x1
  have hx1 : Kept s0 x1 := by
    unfold x1
    refine kept_obsAdd _ _ ?_
    exact hk
  clear_value x1
  extract_lets +onlyGivenNames x2
  have hx2 : Kept s0 x2 := by
    unfold x2
    refine kept_ite ?_ ?_
    · refine kept_raise _ ?_
      refine kept_satAdd _ _ ?_
      exact hx1
    · refine kept_ite ?_ ?_
      · refine kept_raise _ ?_
        refine kept_satAdd _ _ ?_
        exact hx1
      · refine kept_ite ?_ ?_
        · exact hx1
        · refine kept_raise _ ?_
          exact hx1
  clear_value x2
  extract_lets +onlyGivenNames x3
  have hx3 : Kept s0 x3 := by
    unfold x3
    refine kept_ite ?_ ?_
    · refine kept_raise _ ?_
      refine kept_satAdd _ _ ?_
      exact hx2
    · exact hx2
  clear_value x3
  refine kept_journal _ _ ?_
  exact hx3

theorem kept_tnsTake {s : State} (w : List Nat) (a : TnsAsk) (hk : Kept s0 s) : KeptP s0 (State.tnsTake s w a) := by
  unfold State.tnsTake
  extract_lets +onlyGivenNames x1
  extract_lets +onlyGivenNames x2
  refine keptP_ite ?_ ?_
  · split
    · refine keptP_mk ?_ _
      refine kept_obsAdd _ _ ?_
      refine kept_removeEntry _ _ _ ?_
      exact hk
    · refine keptP_mk ?_ _
      refine kept_tnsRefuse _ _ _ ?_
      exact hk
  · refine keptP_ite ?_ ?_
    · refine keptP_mk ?_ _
      refine kept_tnsRefuse _ _ _ ?_
      exact hk
    · refine keptP_mk ?_ _
      refine kept_obsAdd _ _ ?_
      refine kept_storeEntry _ _ ?_
      exact hk

theorem kept_queueTense {s : State} (f : TenseF) (hk : Kept s0 s) : Kept s0 (State.queueTense s f) := by
  unfold State.queueTense
  refine kept_foldl ?_ (fun t1 at1 ht1 => ?_) _
  · exact hk
  · refine kept_ite ?_ ?_
    · exact ht1
    · refine kept_ite ?_ ?_
      · refine kept_raise _ ?_
        refine kept_satAdd _ _ ?_
        exact ht1
      · refine kept_modLink _ _ ?_
        exact ht1

theorem kept_tnsLocal {s : State} (stage : List Nat) (hk : Kept s0 s) : KeptP s0 (State.tnsLocal s stage) := by
  unfold State.tnsLocal
  extract_lets +onlyGivenNames x1
  extract_lets +onlyGivenNames x2
  extract_lets +onlyGivenNames x3
  extract_lets +onlyGivenNames x4
  extract_lets +onlyGivenNames x5
  have hx5 : KeptP s0 x5 := by
    unfold x5
    refine kept_tnsTake _ _ ?_
    exact hk
  clear_value x5
  extract_lets +onlyGivenNames x6
  have hx6 : Kept s0 x6 := by
    unfold x6
    show KeptP s0 _
    exact hx5
  clear_value x6
  extract_lets +onlyGivenNames x7
  extract_lets +onlyGivenNames x8
  have hx8 : Kept s0 x8 := by
    unfold x8
    refine kept_mk ?_ rfl rfl rfl rfl ⟨rfl, rfl, rfl⟩
    exact hx6
  clear_value x8
  refine keptP_ite ?_ ?_
  · refine keptP_mk ?_ _
    refine kept_queueTense _ ?_
    exact hx8
  · exact hx5

theorem kept_tnsGo {s : State} (dur : Nat) (hk : Kept s0 s) : Kept s0 (State.tnsGo s dur) := by
  unfold State.tnsGo
  extract_lets +onlyGivenNames x1
  extract_lets +onlyGivenNames x2
  have hx2 : KeptP s0 x2 := by
    unfold x2
    refine kept_tnsLocal _ ?_
    exact hk
  clear_value x2
  extract_lets +onlyGivenNames x3
  have hx3 : Kept s0 x3 := by
    unfold x3
    refine kept_set _ _ ?_
    refine kept_set _ _ ?_
    show KeptP s0 _
    exact hx2
  clear_value x3
  extract_lets +onlyGivenNames x4
  refine kept_ite ?_ ?_
  · show KeptP s0 _
    exact hx2
  · refine kept_mk ?_ rfl rfl rfl rfl ⟨rfl, rfl, rfl⟩
    exact hx3

theorem kept_tnsRecv {s : State} (words : List Nat) (scope : Nat) (hk : Kept s0 s) : Kept s0 (State.tnsRecv s words scope) := by
  unfold State.tnsRecv
  extract_lets +onlyGivenNames x1
  have hx1 : Kept s0 x1 := by
    unfold x1
    refine kept_obsAdd _ _ ?_
    refine kept_satAdd _ _ ?_
    exact hk
  clear_value x1
  extract_lets +onlyGivenNames x2
  extract_lets +onlyGivenNames x3
  extract_lets +onlyGivenNames x4
  have hx4 : KeptP s0 x4 := by
    unfold x4
    refine kept_tnsTake _ _ ?_
    exact hx1
  clear_value x4
  refine kept_ite ?_ ?_
  · exact hk
  · refine kept_ite ?_ ?_
    · refine kept_set _ _ ?_
      show KeptP s0 _
      exact hx4
    · show KeptP s0 _
      exact hx4

theorem kept_tenseReceive {s : State} (k : Nat) (f : List Byte) (hk : Kept s0 s) : Kept s0 (State.tenseReceive s k f) := by
  unfold State.tenseReceive
  refine kept_cjlReceive _ _ _ (fun t1 ht1 => ?_) ?_
  · extract_lets +onlyGivenNames x2
    extract_lets +onlyGivenNames x3
    extract_lets +onlyGivenNames x4
    have hx4 : Kept s0 x4 := by
      unfold x4
      refine kept_tnsRecv _ _ ?_
      exact ht1
    clear_value x4
    refine kept_ite ?_ ?_
    · refine kept_raise _ ?_
      refine kept_satAdd _ _ ?_
      exact ht1
    · refine kept_ite ?_ ?_
      · refine kept_queueTense _ ?_
        exact hx4
      · exact hx4
  · exact hk

theorem kept_tnsCancel {s : State} (i : Nat) (hk : Kept s0 s) : Kept s0 (State.tnsCancel s i) := by
  unfold State.tnsCancel
  split
  · refine kept_removeEntry _ _ _ ?_
    exact hk
  · exact hk

theorem kept_setPin {s : State} (i : Nat) (x : EvtPin) (hk : Kept s0 s) : Kept s0 (State.setPin s i x) := by
  unfold State.setPin
  extract_lets +onlyGivenNames x1
  refine kept_mk ?_ rfl rfl rfl rfl ⟨rfl, rfl, rfl⟩
  exact hk

theorem kept_evtInit {s : State} (hk : Kept s0 s) : Kept s0 (State.evtInit s) := by
  unfold State.evtInit
  refine kept_foldl ?_ (fun t1 at1 ht1 => ?_) _
  · exact hk
  · extract_lets +onlyGivenNames x2
    refine kept_setPin _ _ ?_
    exact ht1

theorem kept_evtLevel {s : State} (i : Nat) (b : Bool) (hk : Kept s0 s) : Kept s0 (State.evtLevel s i b) := by
  unfold State.evtLevel
  refine kept_setPin _ _ ?_
  exact hk

theorem kept_evtPulse {s : State} (i : Nat) (width : Nat) (hk : Kept s0 s) : Kept s0 (State.evtPulse s i width) := by
  unfold State.evtPulse
  extract_lets +onlyGivenNames x1
  refine kept_setPin _ _ ?_
  exact hk

theorem kept_evtTrailing {s : State} (i : Nat) (hk : Kept s0 s) : Kept s0 (State.evtTrailing s i) := by
  unfold State.evtTrailing
  extract_lets +onlyGivenNames x1
  refine kept_ite ?_ ?_
  · refine kept_setPin _ _ ?_
    exact hk
  · exact hk

theorem kept_tnsHand {s : State} (w : List Nat) (rec : List Nat) (hk : Kept s0 s) : Kept s0 (State.tnsHand s w rec) := by
  unfold State.tnsHand
  extract_lets +onlyGivenNames x1
  extract_lets +onlyGivenNames x2
  extract_lets +onlyGivenNames x3
  have hx3 : Kept s0 x3 := by
    unfold x3
    refine kept_ite ?_ ?_
    · refine kept_refuseTense _ ?_
      exact hk
    · exact hk
  clear_value x3
  extract_lets +onlyGivenNames x4
  have hx4 : ∀ u5, Kept s0 (x4 u5) := by
    intro u5
    unfold x4
    extract_lets +onlyGivenNames x6
    have hx6 : KeptP s0 x6 := by
      unfold x6
      refine kept_outAct _ _ _ ?_
      exact hk
    clear_value x6
    refine kept_ite ?_ ?_
    · show KeptP s0 _
      exact hx6
    · refine kept_journal _ _ ?_
      show KeptP s0 _
      exact hx6
  clear_value x4
  refine kept_ite ?_ ?_
  · refine kept_journal _ _ ?_
    exact hx3
  · split
    · refine hx4 _
    · refine hx4 _
    · refine hx4 _
    · refine hx4 _
    · refine kept_askTense _ _ ?_
      exact hk
    · refine kept_askTense _ _ ?_
      exact hk
    · extract_lets +onlyGivenNames x7
      refine kept_journal _ _ ?_
      refine kept_padjWritten _ ?_
      refine kept_set _ _ ?_
      refine kept_mk ?_ rfl rfl rfl rfl ⟨rfl, rfl, rfl⟩
      exact hk
    · refine kept_journal _ _ ?_
      refine kept_evtPulse _ _ ?_
      exact hk
    · refine kept_journal _ _ ?_
      refine kept_evtLevel _ _ ?_
      exact hk
    · refine kept_radjAskTense _ _ _ _ ?_
      exact hk
    · refine kept_journal _ _ ?_
      exact hk

theorem kept_fireOne {s : State} (e : Nat × List Nat) (hk : Kept s0 s) : Kept s0 (State.fireOne s e) := by
  unfold State.fireOne
  extract_lets +onlyGivenNames x1
  refine kept_ite ?_ ?_
  · refine kept_removeEntry _ _ _ ?_
    exact hk
  · refine kept_tnsHand _ _ ?_
    refine kept_obsAdd _ _ ?_
    refine kept_wrapAdd _ _ ?_
    refine kept_dropEntry _ ?_
    exact hk

theorem kept_tenseFire [LooseTime s0] {s : State} (k : Nat) (hk : Kept s0 s) : Kept s0 (State.tenseFire s k) := by
  unfold State.tenseFire
  refine kept_ite ?_ ?_
  · exact hk
  · split
    · exact hk
    · extract_lets +onlyGivenNames x1
      have hx1 : Kept s0 x1 := by
        unfold x1
        refine kept_advance _ ?_
        exact hk
      clear_value x1
      refine kept_ite ?_ ?_
      · exact hk
      · refine kept_foldl ?_ (fun t2 at2 ht2 => ?_) _
        · exact hx1
        · refine kept_fireOne _ ?_
          exact ht2

theorem kept_tnsStepped {s : State} (k : Nat) (v : Nat) (hk : Kept s0 s) : Kept s0 (State.tnsStepped s k v) := by
  unfold State.tnsStepped
  extract_lets +onlyGivenNames x1
  refine kept_foldl ?_ (fun t2 at2 ht2 => ?_) _
  · exact hk
  · refine kept_removeEntry _ _ _ ?_
    exact ht2

theorem kept_tnsLoad {s : State} (hk : Kept s0 s) : Kept s0 (State.tnsLoad s) := by
  unfold State.tnsLoad
  extract_lets +onlyGivenNames x1
  have hx1 : Kept s0 x1 := by
    unfold x1
    refine kept_foldl ?_ (fun t2 at2 ht2 => ?_) _
    · exact hk
    · refine kept_removeEntry _ _ _ ?_
      exact ht2
  clear_value x1
  refine kept_foldl ?_ (fun t3 at3 ht3 => ?_) _
  · refine kept_evtInit ?_
    exact hx1
  · show KeptP s0 _
    refine kept_tnsLocal _ ?_
    exact ht3

theorem kept_tnsSwap {s : State} (hk : Kept s0 s) : Kept s0 (State.tnsSwap s) := by
  unfold State.tnsSwap
  refine kept_foldl ?_ (fun t1 at1 ht1 => ?_) _
  · exact hk
  · refine kept_removeEntry _ _ _ ?_
    exact ht1

theorem kept_timeStep [LooseTime s0] {s : State} (k : Nat) (hk : Kept s0 s) : Kept s0 (State.timeStep s k) := by
  unfold State.timeStep
  extract_lets +onlyGivenNames x1
  have hx1 : KeptP s0 x1 := by
    unfold x1
    refine kept_stepApply _ ?_
    exact hk
  clear_value x1
  split
  · show KeptP s0 _
    exact hx1
  · refine kept_tnsStepped _ _ ?_
    refine kept_outputsStepped _ _ ?_
    show KeptP s0 _
    exact hx1

end Sys2Proof.Machine
end

