-- ==== Sys2Proof/Laws/KeptSys.lean ====
section
/-! SUPPORT. The operations of resets, power, the loader, faults and the tick keep canonical forms and one-time-programmable memory. -/
namespace Sys2Proof.Machine
open Sys2Proof

variable {s0 : Base}

/-- Free registers keep the canonical form. -/
theorem regsFree_wf {t : Tab Nat} (l : Tab Nat) (h : Regs.wf t = true) : Regs.wf (regsFree t l) = true := by
  unfold regsFree
  have h1 : Regs.wf (t.filter (fun e => keptKey e.1)) = true := tabWf_filter _ h
  generalize t.filter (fun e => keptKey e.1) = u at h1
  induction l.filter (fun e => !keptKey e.1) generalizing u with
  | nil => exact h1
  | cons e r ih =>
    refine ih _ ?_
    dsimp only
    split
    · exact Regs.wf_regPut _ _ h1
    · exact h1

/-- A free window is in canonical form and within its 1 MiB. -/
theorem windowFree_ok (l : Tab Byte) : Memory.wf (windowFree l) = true ∧ Memory.below (2 ^ 20) (windowFree l) = true := by
  unfold windowFree
  have hl : ∀ e ∈ l.filter (fun e => decide (e.1 < 2 ^ 20)), e.1 < 2 ^ 20 := fun e he => by simpa using (List.mem_filter.mp he).2
  generalize l.filter (fun e => decide (e.1 < 2 ^ 20)) = m at hl
  suffices H : ∀ w : Tab Byte, Memory.wf w = true → Memory.below (2 ^ 20) w = true →
      Memory.wf (m.foldl (fun w e => tabPut 0 w e.1 e.2) w) = true ∧ Memory.below (2 ^ 20) (m.foldl (fun w e => tabPut 0 w e.1 e.2) w) = true from
    H [] rfl rfl
  induction m with
  | nil => exact fun _ h1 h2 => ⟨h1, h2⟩
  | cons e r ih =>
    intro w h1 h2
    refine ih (fun x hx => hl x (by simp [hx])) _ (tabWf_tabPut (d := fun _ => 0) _ _ h1) ?_
    simp only [Memory.below, List.all_eq_true, decide_eq_true_eq] at h2 ⊢
    intro x hx
    unfold tabPut at hx
    split at hx
    · exact h2 x (mem_tabDel.mp hx).1
    · rcases mem_tabInsert hx with hx | hx
      · rw [hx]; exact hl e (by simp)
      · exact h2 x (mem_tabDel.mp hx).1

theorem kept_misused [LooseTick s0] [LooseRst s0] {s : State} (hk : Kept s0 s) : Kept s0 (State.misused s) := by
  refine ⟨fun h => ?_, hk.otp, fun e => (by rw [LooseTick.off] at e; cases e), hk.cfg, hk.time, fun e => (by rw [LooseRst.off] at e; cases e)⟩
  have h1 := (memoryOk_iff _).mp (hk.sound h).1
  have h2 := (regsOk_iff _).mp (hk.sound h).2
  refine ⟨(memoryOk_iff _).mpr ⟨?_, ?_, h1.2.2⟩, (regsOk_iff _).mpr ⟨regsFree_wf _ h2.1, regsFree_wf _ h2.2.1, regsFree_wf _ h2.2.2.1, regsFree_wf _ h2.2.2.2⟩⟩
  · exact (windowFree_ok _).1
  · exact (windowFree_ok _).2

theorem kept_misusedIf [LooseTick s0] [LooseRst s0] {t : State} (bad : Bool) (hk : Kept s0 t) : Kept s0 (State.misusedIf t bad) := by
  unfold State.misusedIf
  refine kept_ite ?_ ?_
  · refine kept_misused ?_
    exact hk
  · exact hk

theorem Regs.wf_putAll {t : Tab Nat} (l : Tab Nat) (h : Regs.wf t = true) : Regs.wf (l.foldl (fun t e => regPut t e.1 e.2) t) = true := by
  induction l generalizing t with
  | nil => exact h
  | cons e r ih => exact ih (Regs.wf_regPut _ _ h)

theorem Regs.wf_resetTable {t : Tab Nat} (img : Tab Nat) (b : Nat) (h : Regs.wf t = true) : Regs.wf (resetTable img b t) = true :=
  Regs.wf_putAll _ (tabWf_filter _ h)

theorem kept_resetRegs {s : State} (b : Nat) (hk : Kept s0 s) : Kept s0 (State.resetRegs s b) := by
  refine kept_regs hk (fun h => ?_) rfl rfl rfl rfl rfl rfl rfl ⟨rfl, rfl, rfl⟩
  rw [regsOk_iff] at h ⊢
  exact ⟨Regs.wf_resetTable _ _ h.1, Regs.wf_resetTable _ _ h.2.1, Regs.wf_resetTable _ _ h.2.2.1, Regs.wf_resetTable _ _ h.2.2.2⟩

theorem kept_applyEv {s : State} (a2 : Ev) (hk : Kept s0 s) : Kept s0 (State.applyEv s a2) := by
  unfold State.applyEv
  split
  · refine kept_set _ _ ?_
    exact hk
  · refine kept_raise _ ?_
    exact hk
  · refine kept_satAdd _ _ ?_
    exact hk
  · refine kept_obsAdd _ _ ?_
    exact hk
  · refine kept_journal _ _ ?_
    exact hk
  · refine kept_post _ _ ?_
    exact hk
  · refine kept_servoDone _ _ _ _ _ _ ?_
    exact hk

theorem kept_flushEvs {s : State} (hk : Kept s0 s) : Kept s0 (State.flushEvs s) := by
  unfold State.flushEvs
  extract_lets +onlyGivenNames x1
  extract_lets +onlyGivenNames x2
  extract_lets +onlyGivenNames x3
  have hx3 : Kept s0 x3 := by
    unfold x3
    refine kept_mk ?_ rfl rfl rfl rfl ⟨rfl, rfl, rfl⟩
    exact hk
  clear_value x3
  refine kept_foldl ?_ (fun t4 at4 ht4 => ?_) _
  · exact hx3
  · refine kept_foldl ?_ (fun t5 at5 ht5 => ?_) _
    · exact ht4
    · refine kept_applyEv _ ?_
      exact ht5

theorem kept_atOnce {s : State} {f : State → State} (hf : ∀ s, Kept s0 s → Kept s0 (f s)) (hk : Kept s0 s) : Kept s0 (State.atOnce s f) := by
  unfold State.atOnce
  extract_lets +onlyGivenNames x1
  extract_lets +onlyGivenNames x2
  extract_lets +onlyGivenNames x3
  have hx3 : Kept s0 x3 := by
    unfold x3
    refine kept_flushEvs ?_
    refine hf _ ?_
    refine kept_mk ?_ rfl rfl rfl rfl ⟨rfl, rfl, rfl⟩
    exact hk
  clear_value x3
  extract_lets +onlyGivenNames x4
  refine kept_mk ?_ rfl rfl rfl rfl ⟨rfl, rfl, rfl⟩
  exact hx3

theorem kept_gldEnd {s : State} (code : Nat) (hk : Kept s0 s) : Kept s0 (State.gldEnd s code) := by
  unfold State.gldEnd
  split
  · exact hk
  · extract_lets +onlyGivenNames x1
    extract_lets +onlyGivenNames x2
    have hx2 : Kept s0 x2 := by
      unfold x2
      refine kept_mk ?_ rfl rfl rfl rfl ⟨rfl, rfl, rfl⟩
      exact hk
    clear_value x2
    extract_lets +onlyGivenNames x3
    have hx3 : Kept s0 x3 := by
      unfold x3
      refine kept_set _ _ ?_
      refine kept_set _ _ ?_
      exact hx2
    clear_value x3
    extract_lets +onlyGivenNames x4
    have hx4 : Kept s0 x4 := by
      unfold x4
      refine kept_ite ?_ ?_
      · refine kept_set _ _ ?_
        exact hx3
      · exact hx3
    clear_value x4
    refine kept_raise _ ?_
    exact hx4

theorem kept_gldAbandon {s : State} (hk : Kept s0 s) : Kept s0 (State.gldAbandon s) := by
  unfold State.gldAbandon
  refine kept_ite ?_ ?_
  · refine kept_gldEnd _ ?_
    exact hk
  · exact hk

theorem kept_resetLane {s : State} (l : Nat) (hk : Kept s0 s) : Kept s0 (State.resetLane s l) := by
  unfold State.resetLane
  extract_lets +onlyGivenNames x1
  extract_lets +onlyGivenNames x2
  have hx2 : Kept s0 x2 := by
    unfold x2
    refine kept_set _ _ ?_
    refine kept_setLane _ _ ?_
    exact hk
  clear_value x2
  refine kept_ite ?_ ?_
  · exact hx2
  · refine kept_raise _ ?_
    refine kept_obsAdd _ _ ?_
    refine kept_satAdd _ _ ?_
    exact hx2

theorem kept_carry {s : State} (c : Nat) (hk : Kept s0 s) : Kept s0 (State.carry s c) := by
  unfold State.carry
  extract_lets +onlyGivenNames x1
  refine kept_modChan _ _ ?_
  exact hk

theorem kept_resetRings {s : State} (hk : Kept s0 s) : Kept s0 (State.resetRings s) := by
  unfold State.resetRings
  extract_lets +onlyGivenNames x1
  have hx1 : ∀ u2 u3, Kept s0 u2 → Kept s0 (x1 u2 u3) := by
    intro u2 u3 hu2
    unfold x1
    extract_lets +onlyGivenNames x4
    refine kept_ite ?_ ?_
    · exact hu2
    · refine kept_satAdd _ _ ?_
      exact hu2
  clear_value x1
  extract_lets +onlyGivenNames x5
  have hx5 : Kept s0 x5 := by
    unfold x5
    refine kept_foldl ?_ (fun t6 at6 ht6 => ?_) _
    · exact hk
    · refine hx1 _ _ ?_
      exact ht6
  clear_value x5
  extract_lets +onlyGivenNames x7
  refine kept_mk ?_ rfl rfl rfl rfl ⟨rfl, rfl, rfl⟩
  exact hx5

theorem kept_unitReset {s : State} (u : Nat) (hk : Kept s0 s) : Kept s0 (State.unitReset s u) := by
  unfold State.unitReset
  split
  · refine kept_resetRings ?_
    exact hk
  · refine kept_gldEnd _ ?_
    refine kept_resetRegs _ ?_
    exact hk
  · extract_lets +onlyGivenNames x1
    have hx1 : Kept s0 x1 := by
      unfold x1
      refine kept_resetRegs _ ?_
      exact hk
    clear_value x1
    extract_lets +onlyGivenNames x2
    refine kept_mk ?_ rfl rfl rfl rfl ⟨rfl, rfl, rfl⟩
    exact hx1
  · extract_lets +onlyGivenNames x3
    refine kept_mk ?_ rfl rfl rfl rfl ⟨rfl, rfl, rfl⟩
    exact hk
  · extract_lets +onlyGivenNames x4
    have hx4 : Kept s0 x4 := by
      unfold x4
      refine kept_resetRegs _ ?_
      exact hk
    clear_value x4
    refine kept_mk ?_ rfl rfl rfl rfl ⟨rfl, rfl, rfl⟩
    exact hx4
  · extract_lets +onlyGivenNames x5
    have hx5 : Kept s0 x5 := by
      unfold x5
      refine kept_inBoth (fun t6 ht6 => ?_) ?_
      · refine kept_foldl ?_ (fun t7 at7 ht7 => ?_) _
        · exact ht6
        · refine kept_carry _ ?_
          exact ht7
      · exact hk
    clear_value x5
    extract_lets +onlyGivenNames x8
    have hx8 : Kept s0 x8 := by
      unfold x8
      refine kept_resetRegs _ ?_
      exact hx5
    clear_value x8
    refine kept_resetRegs _ ?_
    refine kept_atOnce (fun t9 ht9 => ?_) ?_
    · refine kept_inBoth (fun t10 ht10 => ?_) ?_
      · refine kept_foldl ?_ (fun t11 at11 ht11 => ?_) _
        · exact ht10
        · refine kept_undeclared _ ?_
          exact ht11
      · exact ht9
    · exact hx8
  · refine kept_inBoth (fun t12 ht12 => ?_) ?_
    · refine kept_foldl ?_ (fun t13 at13 ht13 => ?_) _
      · exact ht12
      · refine kept_selRestart _ ?_
        exact ht13
    · refine kept_resetRegs _ ?_
      exact hk
  · refine kept_atOnce (fun t14 ht14 => ?_) ?_
    · refine kept_inBoth (fun t15 ht15 => ?_) ?_
      · refine kept_foldl ?_ (fun t16 at16 ht16 => ?_) _
        · exact ht15
        · refine kept_discardPreview _ ?_
          exact ht16
      · exact ht14
    · refine kept_resetRegs _ ?_
      exact hk
  · extract_lets +onlyGivenNames x17
    have hx17 : Kept s0 x17 := by
      unfold x17
      refine kept_resetRegs _ ?_
      exact hk
    clear_value x17
    extract_lets +onlyGivenNames x18
    have hx18 : Kept s0 x18 := by
      unfold x18
      refine kept_foldl ?_ (fun t19 at19 ht19 => ?_) _
      · exact hx17
      · refine kept_modCask _ _ ?_
        exact ht19
    clear_value x18
    extract_lets +onlyGivenNames x20
    refine kept_set _ _ ?_
    refine kept_mk ?_ rfl rfl rfl rfl ⟨rfl, rfl, rfl⟩
    exact hx18
  · refine kept_resetRegs _ ?_
    exact hk
  · extract_lets +onlyGivenNames x21
    have hx21 : Kept s0 x21 := by
      unfold x21
      refine kept_resetRegs _ ?_
      exact hk
    clear_value x21
    extract_lets +onlyGivenNames x22
    have hx22 : Kept s0 x22 := by
      unfold x22
      refine kept_foldl ?_ (fun t23 at23 ht23 => ?_) _
      · exact hx21
      · refine kept_modScale _ _ ?_
        exact ht23
    clear_value x22
    extract_lets +onlyGivenNames x24
    have hx24 : Kept s0 x24 := by
      unfold x24
      refine kept_foldl ?_ (fun t25 at25 ht25 => ?_) _
      · exact hx22
      · refine kept_radjRefuse _ ?_
        exact ht25
    clear_value x24
    refine kept_mk ?_ rfl rfl rfl rfl ⟨rfl, rfl, rfl⟩
    exact hx24
  · extract_lets +onlyGivenNames x26
    have hx26 : Kept s0 x26 := by
      unfold x26
      refine kept_resetRegs _ ?_
      refine kept_foldl ?_ (fun t27 at27 ht27 => ?_) _
      · exact hk
      · refine kept_quadFall _ ?_
        exact ht27
    clear_value x26
    extract_lets +onlyGivenNames x28
    refine kept_mk ?_ rfl rfl rfl rfl ⟨rfl, rfl, rfl⟩
    exact hx26
  · refine kept_ptpReset ?_
    refine kept_resetRegs _ ?_
    exact hk
  · refine kept_cjlReset ?_
    refine kept_resetRegs _ ?_
    exact hk
  · refine kept_evtInit ?_
    refine kept_resetRegs _ ?_
    exact hk
  · refine kept_foldl ?_ (fun t29 at29 ht29 => ?_) _
    · refine kept_resetRegs _ ?_
      exact hk
    · refine kept_resetLane _ ?_
      exact ht29
  · refine kept_quadFall _ ?_
    exact hk
  · refine kept_quadFall _ ?_
    exact hk
  · refine kept_quadFall _ ?_
    exact hk
  · refine kept_quadFall _ ?_
    exact hk
  · refine kept_foldl ?_ (fun t30 at30 ht30 => ?_) _
    · exact hk
    · refine kept_resetLane _ ?_
      exact ht30

theorem kept_unitRelease {s : State} (u : Nat) (hk : Kept s0 s) : Kept s0 (State.unitRelease s u) := by
  unfold State.unitRelease
  extract_lets +onlyGivenNames x1
  have hx1 : Kept s0 x1 := by
    unfold x1
    split
    · refine kept_raise _ ?_
      exact hk
    · exact hk
  clear_value x1
  split
  · refine kept_foldl ?_ (fun t2 at2 ht2 => ?_) _
    · exact hx1
    · refine kept_refStart _ ?_
      exact ht2
  · refine kept_foldl ?_ (fun t3 at3 ht3 => ?_) _
    · exact hx1
    · refine kept_selRelease _ ?_
      exact ht3
  · refine kept_inBoth (fun t4 ht4 => ?_) ?_
    · refine kept_foldl ?_ (fun t5 at5 ht5 => ?_) _
      · exact ht4
      · refine kept_reloadLoop _ ?_
        exact ht5
    · exact hx1
  · refine kept_evtStart _ ?_
    refine kept_foldl ?_ (fun t6 at6 ht6 => ?_) _
    · exact hx1
    · refine kept_scaleResume _ ?_
      exact ht6
  · refine kept_ptpRelease ?_
    exact hx1
  · exact hx1

theorem kept_keepLine {s : State} (b : Nat) (hk : Kept s0 s) : Kept s0 (State.keepLine s b) := by
  unfold State.keepLine
  extract_lets +onlyGivenNames x1
  refine kept_ite ?_ ?_
  · exact hk
  · refine kept_mk ?_ rfl rfl rfl rfl ⟨rfl, rfl, rfl⟩
    exact hk

theorem kept_resetBegin [LooseRst s0] {s : State} (u : Nat) (n : Nat) (hk : Kept s0 s) : Kept s0 (State.resetBegin s u n) := by
  unfold State.resetBegin
  extract_lets +onlyGivenNames x1
  have hx1 : Kept s0 x1 := by
    unfold x1
    refine kept_keepLine _ ?_
    exact hk
  clear_value x1
  extract_lets +onlyGivenNames x2
  extract_lets +onlyGivenNames x3
  have hx3 : Kept s0 x3 := by
    unfold x3
    refine kept_flt _ ?_
    exact hx1
  clear_value x3
  extract_lets +onlyGivenNames x4
  have hx4 : Kept s0 x4 := by
    unfold x4
    refine kept_ite ?_ ?_
    · refine kept_flt _ ?_
      exact hx3
    · exact hx3
  clear_value x4
  extract_lets +onlyGivenNames x5
  have hx5 : Kept s0 x5 := by
    unfold x5
    refine kept_ite ?_ ?_
    · exact hx4
    · refine kept_spoilOpen ?_
      exact hx4
  clear_value x5
  refine kept_unitReset _ ?_
  exact hx5

theorem kept_resetStart [LooseRst s0] {s : State} (u : Nat) (n : Nat) (hk : Kept s0 s) : Kept s0 (State.resetStart s u n) := by
  unfold State.resetStart
  refine kept_gldAbandon ?_
  refine kept_resetBegin _ _ ?_
  exact hk

theorem kept_resetRelease [LooseRst s0] {s : State} (u : Nat) (n : Nat) (hk : Kept s0 s) : Kept s0 (State.resetRelease s u n) := by
  unfold State.resetRelease
  extract_lets +onlyGivenNames x1
  extract_lets +onlyGivenNames x2
  have hx2 : Kept s0 x2 := by
    unfold x2
    refine kept_flt _ ?_
    exact hk
  clear_value x2
  refine kept_ite ?_ ?_
  · exact hk
  · refine kept_unitRelease _ ?_
    exact hx2

theorem kept_shadowEnd [LooseRst s0] {s : State} (u : Nat) (hk : Kept s0 s) : Kept s0 (State.shadowEnd s u) := by
  unfold State.shadowEnd
  extract_lets +onlyGivenNames x1
  extract_lets +onlyGivenNames x2
  have hx2 : Kept s0 x2 := by
    unfold x2
    refine kept_flt _ ?_
    exact hk
  clear_value x2
  extract_lets +onlyGivenNames x3
  extract_lets +onlyGivenNames x4
  refine kept_ite ?_ ?_
  · exact hx2
  · refine kept_mk ?_ rfl rfl rfl rfl ⟨rfl, rfl, rfl⟩
    exact hx2

theorem kept_reactionReset [LooseRst s0] {s : State} (b : Nat) (units : List Nat) (n : Nat) (hk : Kept s0 s) : Kept s0 (State.reactionReset s b units n) := by
  unfold State.reactionReset
  extract_lets +onlyGivenNames x1
  extract_lets +onlyGivenNames x2
  have hx2 : Kept s0 x2 := by
    unfold x2
    refine kept_ite ?_ ?_
    · refine kept_raise _ ?_
      refine kept_set _ _ ?_
      exact hk
    · exact hk
  clear_value x2
  extract_lets +onlyGivenNames x3
  have hx3 : Kept s0 x3 := by
    unfold x3
    refine kept_raise _ ?_
    refine kept_obsAdd _ _ ?_
    refine kept_satAdd _ _ ?_
    exact hx2
  clear_value x3
  refine kept_ite ?_ ?_
  · refine kept_satAdd _ _ ?_
    exact hk
  · refine kept_resetStart _ _ ?_
    exact hx3

theorem kept_takeResets [LooseRst s0] {s : State} (which : Nat → Bool) (n : Nat) (hk : Kept s0 s) : Kept s0 (State.takeResets s which n) := by
  unfold State.takeResets
  extract_lets +onlyGivenNames x1
  extract_lets +onlyGivenNames x2
  extract_lets +onlyGivenNames x3
  extract_lets +onlyGivenNames x4
  have hx4 : Kept s0 x4 := by
    unfold x4
    refine kept_flt _ ?_
    exact hk
  clear_value x4
  extract_lets +onlyGivenNames x5
  have hx5 : ∀ u6 u7, Kept s0 u6 → Kept s0 (x5 u6 u7) := by
    intro u6 u7 hu6
    unfold x5
    extract_lets +onlyGivenNames x8
    extract_lets +onlyGivenNames x9
    refine kept_ite ?_ ?_
    · exact hu6
    · clear_value x9
      split
      · refine kept_foldl ?_ (fun t10 at10 ht10 => ?_) _
        · exact hu6
        · refine kept_resetStart _ _ ?_
          exact ht10
      · refine kept_ite ?_ ?_
        · refine kept_foldl ?_ (fun t11 at11 ht11 => ?_) _
          · refine kept_reactionReset _ _ _ ?_
            exact hu6
          · refine kept_resetStart _ _ ?_
            exact ht11
        · refine kept_reactionReset _ _ _ ?_
          exact hu6
  clear_value x5
  refine kept_foldl ?_ (fun t12 at12 ht12 => ?_) _
  · exact hx4
  · refine hx5 _ _ ?_
    exact ht12

theorem kept_resetTick [LooseRst s0] {s : State} (hk : Kept s0 s) : Kept s0 (State.resetTick s) := by
  unfold State.resetTick
  extract_lets +onlyGivenNames x1
  have hx1 : ∀ u2 u3, Kept s0 u2 → Kept s0 (x1 u2 u3) := by
    intro u2 u3 hu2
    unfold x1
    extract_lets +onlyGivenNames x4
    extract_lets +onlyGivenNames x5
    extract_lets +onlyGivenNames x6
    refine kept_ite ?_ ?_
    · exact hu2
    · refine kept_ite ?_ ?_
      · refine kept_flt _ ?_
        exact hu2
      · refine kept_ite ?_ ?_
        · refine kept_resetRelease _ _ ?_
          exact hu2
        · refine kept_ite ?_ ?_
          · refine kept_flt _ ?_
            exact hu2
          · refine kept_ite ?_ ?_
            · refine kept_shadowEnd _ ?_
              exact hu2
            · exact hu2
  clear_value x1
  refine kept_foldl ?_ (fun t7 at7 ht7 => ?_) _
  · exact hk
  · refine hx1 _ _ ?_
    exact ht7

theorem kept_resetBoundary [LooseRst s0] {s : State} (hk : Kept s0 s) : Kept s0 (State.resetBoundary s) := by
  unfold State.resetBoundary
  refine kept_takeResets _ _ ?_
  refine kept_resetTick ?_
  exact hk

theorem kept_blockResetStart [LooseRst s0] {s : State} (u : Nat) (hk : Kept s0 s) : Kept s0 (State.blockResetStart s u) := by
  unfold State.blockResetStart
  refine kept_takeResets _ _ ?_
  exact hk

theorem kept_blockResetRelease [LooseRst s0] {s : State} (u : Nat) (hk : Kept s0 s) : Kept s0 (State.blockResetRelease s u) := by
  unfold State.blockResetRelease
  refine kept_ite ?_ ?_
  · refine kept_resetRelease _ _ ?_
    exact hk
  · exact hk

theorem kept_resetShadowEnd [LooseRst s0] {s : State} (u : Nat) (hk : Kept s0 s) : Kept s0 (State.resetShadowEnd s u) := by
  unfold State.resetShadowEnd
  refine kept_ite ?_ ?_
  · refine kept_shadowEnd _ ?_
    exact hk
  · exact hk

theorem kept_domainEval {s : State} (d : Nat) (hk : Kept s0 s) : Kept s0 (State.domainEval s d) := by
  unfold State.domainEval
  refine kept_ite ?_ ?_
  · refine kept_apllEvals ?_
    exact hk
  · exact hk

theorem kept_domainOn [LooseRst s0] {s : State} (d : Nat) (hk : Kept s0 s) : Kept s0 (State.domainOn s d) := by
  unfold State.domainOn
  extract_lets +onlyGivenNames x1
  have hx1 : Kept s0 x1 := by
    unfold x1
    refine kept_set _ _ ?_
    exact hk
  clear_value x1
  split
  · refine kept_resetBegin _ _ ?_
    exact hx1
  · exact hx1

theorem kept_domainIsolate {s : State} (d : Nat) (hk : Kept s0 s) : Kept s0 (State.domainIsolate s d) := by
  unfold State.domainIsolate
  extract_lets +onlyGivenNames x1
  have hx1 : Kept s0 x1 := by
    unfold x1
    split
    · refine kept_foldl ?_ (fun t2 at2 ht2 => ?_) _
      · exact hk
      · refine kept_setLane _ _ ?_
        exact ht2
    · exact hk
  clear_value x1
  refine kept_ite ?_ ?_
  · refine kept_quadFall _ ?_
    exact hx1
  · refine kept_ite ?_ ?_
    · refine kept_foldl ?_ (fun t3 at3 ht3 => ?_) _
      · refine kept_set _ _ ?_
        exact hx1
      · refine kept_linkOff _ ?_
        exact ht3
    · exact hx1

theorem kept_domainOff {s : State} (d : Nat) (hk : Kept s0 s) : Kept s0 (State.domainOff s d) := by
  unfold State.domainOff
  extract_lets +onlyGivenNames x1
  extract_lets +onlyGivenNames x2
  have hx2 : Kept s0 x2 := by
    unfold x2
    refine kept_set _ _ ?_
    refine kept_domainIsolate _ ?_
    exact hk
  clear_value x2
  extract_lets +onlyGivenNames x3
  extract_lets +onlyGivenNames x4
  have hx4 : Kept s0 x4 := by
    unfold x4
    refine kept_mk ?_ rfl rfl rfl rfl ⟨rfl, rfl, rfl⟩
    exact hx2
  clear_value x4
  refine kept_raiseIf _ _ ?_
  refine kept_domainEval _ ?_
  exact hx4

theorem kept_pdApply [LooseRst s0] {s : State} (old : Nat) (hk : Kept s0 s) : Kept s0 (State.pdApply s old) := by
  unfold State.pdApply
  extract_lets +onlyGivenNames x1
  refine kept_foldl ?_ (fun t2 at2 ht2 => ?_) _
  · exact hk
  · refine kept_ite ?_ ?_
    · refine kept_domainOn _ ?_
      exact ht2
    · refine kept_ite ?_ ?_
      · refine kept_domainOff _ ?_
        exact ht2
      · exact ht2

theorem kept_domainRampDone {s : State} (d : Nat) (hk : Kept s0 s) : Kept s0 (State.domainRampDone s d) := by
  unfold State.domainRampDone
  extract_lets +onlyGivenNames x1
  have hx1 : Kept s0 x1 := by
    unfold x1
    refine kept_set _ _ ?_
    exact hk
  clear_value x1
  extract_lets +onlyGivenNames x2
  refine kept_ite ?_ ?_
  · exact hk
  · refine kept_mk ?_ rfl rfl rfl rfl ⟨rfl, rfl, rfl⟩
    exact hx1

theorem kept_domainRelease [LooseRst s0] {s : State} (d : Nat) (n : Nat) (hk : Kept s0 s) : Kept s0 (State.domainRelease s d n) := by
  unfold State.domainRelease
  extract_lets +onlyGivenNames x1
  extract_lets +onlyGivenNames x2
  have hx2 : Kept s0 x2 := by
    unfold x2
    refine kept_mk ?_ rfl rfl rfl rfl ⟨rfl, rfl, rfl⟩
    exact hk
  clear_value x2
  extract_lets +onlyGivenNames x3
  have hx3 : Kept s0 x3 := by
    unfold x3
    split
    · refine kept_resetRelease _ _ ?_
      exact hx2
    · exact hx2
  clear_value x3
  extract_lets +onlyGivenNames x4
  have hx4 : Kept s0 x4 := by
    unfold x4
    refine kept_ite ?_ ?_
    · refine kept_foldl ?_ (fun t5 at5 ht5 => ?_) _
      · exact hx3
      · refine kept_linkStart _ ?_
        exact ht5
    · exact hx3
  clear_value x4
  refine kept_ite ?_ ?_
  · exact hk
  · refine kept_raiseIf _ _ ?_
    refine kept_domainEval _ ?_
    exact hx4

theorem kept_domainBoundary [LooseRst s0] {s : State} (hk : Kept s0 s) : Kept s0 (State.domainBoundary s) := by
  unfold State.domainBoundary
  refine kept_foldl ?_ (fun t1 at1 ht1 => ?_) _
  · exact hk
  · refine kept_domainRelease _ _ ?_
    exact ht1

theorem kept_outSupply {s : State} (bank : Nat) (mv : Nat) (hk : Kept s0 s) : Kept s0 (State.outSupply s bank mv) := by
  unfold State.outSupply
  extract_lets +onlyGivenNames x1
  extract_lets +onlyGivenNames x2
  extract_lets +onlyGivenNames x3
  extract_lets +onlyGivenNames x4
  extract_lets +onlyGivenNames x5
  extract_lets +onlyGivenNames x6
  have hx6 : Kept s0 x6 := by
    unfold x6
    refine kept_mk ?_ rfl rfl rfl rfl ⟨rfl, rfl, rfl⟩
    exact hk
  clear_value x6
  extract_lets +onlyGivenNames x7
  have hx7 : Kept s0 x7 := by
    unfold x7
    refine kept_set _ _ ?_
    exact hx6
  clear_value x7
  extract_lets +onlyGivenNames x8
  have hx8 : Kept s0 x8 := by
    unfold x8
    refine kept_set _ _ ?_
    exact hx7
  clear_value x8
  extract_lets +onlyGivenNames x9
  have hx9 : Kept s0 x9 := by
    unfold x9
    refine kept_raiseIf _ _ ?_
    exact hx8
  clear_value x9
  refine kept_apllEvals ?_
  refine kept_raiseIf _ _ ?_
  exact hx9

theorem kept_outClassLatch {s : State} (bank : Nat) (hk : Kept s0 s) : Kept s0 (State.outClassLatch s bank) := by
  unfold State.outClassLatch
  extract_lets +onlyGivenNames x1
  extract_lets +onlyGivenNames x2
  extract_lets +onlyGivenNames x3
  extract_lets +onlyGivenNames x4
  have hx4 : Kept s0 x4 := by
    unfold x4
    refine kept_set _ _ ?_
    exact hk
  clear_value x4
  extract_lets +onlyGivenNames x5
  have hx5 : Kept s0 x5 := by
    unfold x5
    refine kept_set _ _ ?_
    exact hx4
  clear_value x5
  refine kept_ite ?_ ?_
  · refine kept_apllEvals ?_
    refine kept_raiseIf _ _ ?_
    exact hx5
  · exact hk

theorem kept_tempEval {s : State} (hk : Kept s0 s) : Kept s0 (State.tempEval s) := by
  unfold State.tempEval
  extract_lets +onlyGivenNames x1
  extract_lets +onlyGivenNames x2
  extract_lets +onlyGivenNames x3
  extract_lets +onlyGivenNames x4
  refine kept_raiseIf _ _ ?_
  refine kept_setB _ _ ?_
  exact hk

theorem kept_dieTempRead {s : State} (t : BitVec 16) (hk : Kept s0 s) : Kept s0 (State.dieTempRead s t) := by
  unfold State.dieTempRead
  refine kept_ite ?_ ?_
  · exact hk
  · refine kept_tempEval ?_
    refine kept_set _ _ ?_
    exact hk

theorem kept_detectionDone {s : State} (hz : Nat) (hk : Kept s0 s) : Kept s0 (State.detectionDone s hz) := by
  unfold State.detectionDone
  refine kept_ite ?_ ?_
  · exact hk
  · split
    · extract_lets +onlyGivenNames x1
      have hx1 : Kept s0 x1 := by
        unfold x1
        refine kept_set _ _ ?_
        refine kept_set _ _ ?_
        exact hk
      clear_value x1
      extract_lets +onlyGivenNames x2
      refine kept_mk ?_ rfl rfl rfl rfl ⟨rfl, rfl, rfl⟩
      exact hx1
    · refine kept_set _ _ ?_
      exact hk

theorem kept_oscSelected {s : State} (hk : Kept s0 s) : Kept s0 (State.oscSelected s) := by
  unfold State.oscSelected
  extract_lets +onlyGivenNames x1
  have hx1 : Kept s0 x1 := by
    unfold x1
    refine kept_set _ _ ?_
    exact hk
  clear_value x1
  extract_lets +onlyGivenNames x2
  refine kept_mk ?_ rfl rfl rfl rfl ⟨rfl, rfl, rfl⟩
  exact hx1

theorem kept_mpllTimeout {s : State} (hk : Kept s0 s) : Kept s0 (State.mpllTimeout s) := by
  unfold State.mpllTimeout
  extract_lets +onlyGivenNames x1
  refine kept_ite ?_ ?_
  · exact hk
  · refine kept_mk ?_ rfl rfl rfl rfl ⟨rfl, rfl, rfl⟩
    exact hk

theorem kept_oscinLoss {s : State} (hk : Kept s0 s) : Kept s0 (State.oscinLoss s) := by
  unfold State.oscinLoss
  extract_lets +onlyGivenNames x1
  extract_lets +onlyGivenNames x2
  have hx2 : Kept s0 x2 := by
    unfold x2
    refine kept_set _ _ ?_
    refine kept_set _ _ ?_
    exact hk
  clear_value x2
  extract_lets +onlyGivenNames x3
  have hx3 : Kept s0 x3 := by
    unfold x3
    refine kept_satAdd _ _ ?_
    refine kept_ite ?_ ?_
    · refine kept_satAdd _ _ ?_
      exact hx2
    · exact hx2
  clear_value x3
  refine kept_ite ?_ ?_
  · exact hk
  · refine kept_raiseAll _ ?_
    exact hx3

theorem kept_oscinRestore {s : State} (hk : Kept s0 s) : Kept s0 (State.oscinRestore s) := by
  unfold State.oscinRestore
  refine kept_ite ?_ ?_
  · exact hk
  · refine kept_set _ _ ?_
    refine kept_set _ _ ?_
    exact hk

theorem kept_brstWritten [LooseRst s0] {s : State} (v : Nat) (hk : Kept s0 s) : Kept s0 (State.brstWritten s v) := by
  unfold State.brstWritten
  refine kept_foldl ?_ (fun t1 at1 ht1 => ?_) _
  · exact hk
  · extract_lets +onlyGivenNames x2
    refine kept_raise _ ?_
    refine kept_satAdd _ _ ?_
    refine kept_flt _ ?_
    exact ht1

theorem kept_gldBegin {s : State} (k : LoadKind) (flash : Bool) (slotB : Bool) (alt : Bool) (hk : Kept s0 s) : Kept s0 (State.gldBegin s k flash slotB alt) := by
  unfold State.gldBegin
  extract_lets +onlyGivenNames x1
  refine kept_set _ _ ?_
  refine kept_mk ?_ rfl rfl rfl rfl ⟨rfl, rfl, rfl⟩
  exact hk

theorem kept_gldBoot {s : State} (hk : Kept s0 s) : Kept s0 (State.gldBoot s) := by
  unfold State.gldBoot
  extract_lets +onlyGivenNames x1
  refine kept_ite ?_ ?_
  · exact hk
  · refine kept_ite ?_ ?_
    · refine kept_raise _ ?_
      refine kept_gldBegin _ _ _ _ ?_
      exact hk
    · refine kept_gldBegin _ _ _ _ ?_
      exact hk

theorem kept_gldFail {s : State} (code : Nat) (hk : Kept s0 s) : Kept s0 (State.gldFail s code) := by
  unfold State.gldFail
  extract_lets +onlyGivenNames x1
  refine kept_ite ?_ ?_
  · refine kept_raise _ ?_
    refine kept_gldBegin _ _ _ _ ?_
    refine kept_set _ _ ?_
    exact hk
  · refine kept_gldEnd _ ?_
    exact hk

theorem kept_gldAbort {s : State} (hk : Kept s0 s) : Kept s0 (State.gldAbort s) := by
  unfold State.gldAbort
  refine kept_ite ?_ ?_
  · exact hk
  · refine kept_gldEnd _ ?_
    exact hk

theorem kept_gldStart {s : State} (hk : Kept s0 s) : Kept s0 (State.gldStart s) := by
  unfold State.gldStart
  extract_lets +onlyGivenNames x1
  refine kept_ite ?_ ?_
  · refine kept_set _ _ ?_
    exact hk
  · refine kept_ite ?_ ?_
    · refine kept_set _ _ ?_
      exact hk
    · refine kept_gldBegin _ _ _ _ ?_
      exact hk

theorem kept_gldCtl {s : State} (start : Bool) (abort : Bool) (hk : Kept s0 s) : Kept s0 (State.gldCtl s start abort) := by
  unfold State.gldCtl
  refine kept_ite ?_ ?_
  · refine kept_gldAbort ?_
    exact hk
  · refine kept_ite ?_ ?_
    · refine kept_gldStart ?_
      exact hk
    · exact hk

theorem kept_sramPut {s : State} {a : Nat} {l : List Byte} (hl : a + l.length ≤ 2 ^ 21) (hk : Kept s0 s) : Kept s0 (State.sramPut s a l) := by
  refine kept_set _ _ (hk.of (fun hs => ⟨?_, hs.2⟩) (Otp.grows_refl _) rfl rfl rfl rfl ⟨rfl, rfl, rfl⟩)
  have := (memoryOk_iff _).mp hs.1
  exact (memoryOk_iff _).mpr ⟨this.1, this.2.1, Memory.wf_putBytes _ _ this.2.2.1, Memory.below_putBytes hl this.2.2.2⟩

theorem kept_headerRead {s : State} (b : List Byte) (hk : Kept s0 s) : Kept s0 (State.headerRead s b) := by
  unfold State.headerRead
  dsimp only
  have h1 : Kept s0 (s.sramPut 0 ((b ++ List.replicate 64 0).take 64)) := kept_sramPut (by simp only [List.length_take]; omega) hk
  exact kept_ite hk (kept_ite (kept_gldFail _ h1) (kept_same h1 rfl rfl rfl rfl rfl rfl rfl rfl rfl rfl rfl ⟨rfl, rfl, rfl⟩))

theorem kept_imageRead {s : State} (b : List Byte) (hk : Kept s0 s) : Kept s0 (State.imageRead s b) := by
  unfold State.imageRead
  exact kept_ite hk (kept_set _ _ (kept_sramPut (by simp only [List.length_take]; omega) hk))

theorem kept_loadResets [LooseRst s0] {s : State} (hk : Kept s0 s) : Kept s0 (State.loadResets s) := by
  unfold State.loadResets
  extract_lets +onlyGivenNames x1
  have hx1 : ∀ u2 u3, Kept s0 u2 → Kept s0 (x1 u2 u3) := by
    intro u2 u3 hu2
    unfold x1
    extract_lets +onlyGivenNames x4
    have hx4 : Kept s0 x4 := by
      unfold x4
      refine kept_unitReset _ ?_
      exact hu2
    clear_value x4
    extract_lets +onlyGivenNames x5
    refine kept_flt _ ?_
    exact hx4
  clear_value x1
  refine kept_foldl ?_ (fun t6 at6 ht6 => ?_) _
  · exact hk
  · refine hx1 _ _ ?_
    exact ht6

theorem kept_imagePassed {s : State} (c : ImageCfg) (hk : Kept s0 s) : Kept s0 (State.imagePassed s c) := by
  unfold State.imagePassed
  extract_lets +onlyGivenNames x1
  refine kept_set _ _ ?_
  refine kept_mk ?_ rfl rfl rfl rfl ⟨rfl, rfl, rfl⟩
  exact hk

theorem kept_imageVerified [LooseTick s0] [LooseRst s0] {s : State} (hk : Kept s0 s) : Kept s0 (State.imageVerified s) := by
  unfold State.imageVerified
  extract_lets +onlyGivenNames x1
  extract_lets +onlyGivenNames x2
  extract_lets +onlyGivenNames x3
  have hx3 : Kept s0 x3 := by
    unfold x3
    refine kept_imagePassed _ ?_
    exact hk
  clear_value x3
  refine kept_ite ?_ ?_
  · exact hk
  · refine kept_ite ?_ ?_
    · refine kept_gldFail _ ?_
      exact hk
    · refine kept_misusedIf _ ?_
      refine kept_ite ?_ ?_
      · exact hx3
      · refine kept_loadResets ?_
        refine kept_evalOutputs ?_
        refine kept_armAll ?_
        exact hx3

theorem kept_putImage [LooseCfg s0] {s : State} (c : ImageCfg) (hk : Kept s0 s) : Kept s0 (State.putImage s c) := by
  refine ⟨fun h0 => ⟨(hk.sound h0).1, ?_⟩, hk.otp, fun e => ⟨(hk.tick e).1, fun _ => rfl⟩, fun e => (by rw [LooseCfg.off] at e; cases e), hk.time, hk.rst⟩
  have h := (hk.sound h0).2
  rw [regsOk_iff] at h ⊢
  exact ⟨Regs.wf_putAll _ (tabWf_filter _ h.1), h.2⟩

theorem kept_caskLoad {s : State} (same : Bool) (full : Bool) (hk : Kept s0 s) : Kept s0 (State.caskLoad s same full) := by
  unfold State.caskLoad
  refine kept_foldl ?_ (fun t1 at1 ht1 => ?_) _
  · exact hk
  · refine kept_ite ?_ ?_
    · refine kept_askClear _ ?_
      exact ht1
    · refine kept_showFit _ _ ?_
      exact ht1

theorem kept_showImage {s : State} (fromWhere : Nat) (fell : Bool) (boot : Bool) (hk : Kept s0 s) : Kept s0 (State.showImage s fromWhere fell boot) := by
  unfold State.showImage
  extract_lets +onlyGivenNames x1
  extract_lets +onlyGivenNames x2
  have hx2 : Kept s0 x2 := by
    unfold x2
    refine kept_set _ _ ?_
    refine kept_set _ _ ?_
    refine kept_set _ _ ?_
    exact hk
  clear_value x2
  extract_lets +onlyGivenNames x3
  have hx3 : Kept s0 x3 := by
    unfold x3
    refine kept_set _ _ ?_
    refine kept_set _ _ ?_
    exact hx2
  clear_value x3
  extract_lets +onlyGivenNames x4
  have hx4 : Kept s0 x4 := by
    unfold x4
    refine kept_set2 _ _ _ ?_
    exact hx3
  clear_value x4
  extract_lets +onlyGivenNames x5
  have hx5 : Kept s0 x5 := by
    unfold x5
    refine kept_foldl ?_ (fun t6 at6 ht6 => ?_) _
    · exact hx4
    · refine kept_set _ _ ?_
      exact ht6
  clear_value x5
  extract_lets +onlyGivenNames x7
  have hx7 : Kept s0 x7 := by
    unfold x7
    refine kept_set _ _ ?_
    refine kept_set _ _ ?_
    refine kept_set _ _ ?_
    exact hx5
  clear_value x7
  extract_lets +onlyGivenNames x8
  have hx8 : Kept s0 x8 := by
    unfold x8
    refine kept_set _ _ ?_
    refine kept_setB _ _ ?_
    refine kept_set _ _ ?_
    refine kept_set _ _ ?_
    exact hx7
  clear_value x8
  extract_lets +onlyGivenNames x9
  have hx9 : Kept s0 x9 := by
    unfold x9
    refine kept_set _ _ ?_
    refine kept_set _ _ ?_
    exact hx8
  clear_value x9
  extract_lets +onlyGivenNames x10
  refine kept_mk ?_ rfl rfl rfl rfl ⟨rfl, rfl, rfl⟩
  exact hx9

theorem kept_forgetChannels {s : State} (hk : Kept s0 s) : Kept s0 (State.forgetChannels s) := by
  refine kept_regs hk (fun h => ?_) rfl rfl rfl rfl rfl rfl rfl ⟨rfl, rfl, rfl⟩
  rw [regsOk_iff] at h ⊢
  exact ⟨h.1, h.2.1, tabWf_filter _ h.2.2.1, tabWf_filter _ h.2.2.2⟩

theorem kept_holdScales {s : State} (hk : Kept s0 s) : Kept s0 (State.holdScales s) := by
  unfold State.holdScales
  refine kept_foldl ?_ (fun t1 at1 ht1 => ?_) _
  · exact hk
  · refine kept_modScale _ _ ?_
    exact ht1

theorem kept_runImage [LooseCfg s0] [LooseRst s0] {s : State} (c : ImageCfg) (hk : Kept s0 s) : Kept s0 (State.runImage s c) := by
  unfold State.runImage
  extract_lets +onlyGivenNames x1
  extract_lets +onlyGivenNames x2
  extract_lets +onlyGivenNames x3
  extract_lets +onlyGivenNames x4
  extract_lets +onlyGivenNames x5
  have hx5 : Kept s0 x5 := by
    unfold x5
    exact hk
  clear_value x5
  extract_lets +onlyGivenNames x6
  have hx6 : Kept s0 x6 := by
    unfold x6
    refine kept_showImage _ _ _ ?_
    refine kept_evtStart _ ?_
    refine kept_widthsLoaded _ ?_
    refine kept_putImage _ ?_
    refine kept_forgetChannels ?_
    refine kept_holdScales ?_
    exact hk
  clear_value x6
  extract_lets +onlyGivenNames x7
  have hx7 : Kept s0 x7 := by
    unfold x7
    refine kept_mk ?_ rfl rfl rfl rfl ⟨rfl, rfl, rfl⟩
    exact hx6
  clear_value x7
  extract_lets +onlyGivenNames x8
  have hx8 : Kept s0 x8 := by
    unfold x8
    refine kept_foldl ?_ (fun t9 at9 ht9 => ?_) _
    · exact hx7
    · extract_lets +onlyGivenNames x10
      refine kept_flt _ ?_
      exact ht9
  clear_value x8
  extract_lets +onlyGivenNames x11
  have hx11 : Kept s0 x11 := by
    unfold x11
    refine kept_tempEval ?_
    refine kept_caskLoad _ _ ?_
    exact hx8
  clear_value x11
  extract_lets +onlyGivenNames x12
  have hx12 : Kept s0 x12 := by
    unfold x12
    refine kept_foldl ?_ (fun t13 at13 ht13 => ?_) _
    · exact hx11
    · refine kept_refStart _ ?_
      exact ht13
  clear_value x12
  extract_lets +onlyGivenNames x14
  extract_lets +onlyGivenNames x15
  extract_lets +onlyGivenNames x16
  have hx16 : Kept s0 x16 := by
    unfold x16
    refine kept_mk ?_ rfl rfl rfl rfl ⟨rfl, rfl, rfl⟩
    exact hx12
  clear_value x16
  extract_lets +onlyGivenNames x17
  have hx17 : Kept s0 x17 := by
    unfold x17
    refine kept_pdApply _ ?_
    exact hx16
  clear_value x17
  extract_lets +onlyGivenNames x18
  have hx18 : Kept s0 x18 := by
    unfold x18
    refine kept_apllEvals ?_
    refine kept_foldl ?_ (fun t19 at19 ht19 => ?_) _
    · exact hx17
    · refine kept_bindApll _ ?_
      exact ht19
  clear_value x18
  extract_lets +onlyGivenNames x20
  have hx20 : Kept s0 x20 := by
    unfold x20
    refine kept_tnsLoad ?_
    refine kept_foldl ?_ (fun t21 at21 ht21 => ?_) _
    · exact hx18
    · refine kept_sessionCheck _ ?_
      exact ht21
  clear_value x20
  refine kept_foldl ?_ (fun t22 at22 ht22 => ?_) _
  · refine kept_nodeLoad ?_
    exact hx20
  · refine kept_linkRole _ ?_
    exact ht22

theorem kept_imageApplied [LooseCfg s0] [LooseRst s0] {s : State} (hk : Kept s0 s) : Kept s0 (State.imageApplied s) := by
  unfold State.imageApplied
  refine kept_ite ?_ ?_
  · exact hk
  · split
    · exact hk
    · refine kept_ite ?_ ?_
      · refine kept_ite ?_ ?_
        · refine kept_gldEnd _ ?_
          exact hk
        · refine kept_set _ _ ?_
          exact hk
      · refine kept_runImage _ ?_
        exact hk

theorem kept_swapSession {s : State} (old : ImageCfg) (n : Nat) (hk : Kept s0 s) : Kept s0 (State.swapSession s old n) := by
  unfold State.swapSession
  extract_lets +onlyGivenNames x1
  extract_lets +onlyGivenNames x2
  extract_lets +onlyGivenNames x3
  have hx3 : Kept s0 x3 := by
    unfold x3
    refine kept_ite ?_ ?_
    · refine kept_sessionStop _ ?_
      exact hk
    · exact hk
  clear_value x3
  refine kept_ite ?_ ?_
  · exact hk
  · refine kept_sessionCheck _ ?_
    refine kept_foldl ?_ (fun t4 at4 ht4 => ?_) _
    · exact hx3
    · refine kept_setCtxWord _ _ _ ?_
      exact ht4

theorem kept_swapSerdes {s : State} (old : ImageCfg) (hk : Kept s0 s) : Kept s0 (State.swapSerdes s old) := by
  unfold State.swapSerdes
  extract_lets +onlyGivenNames x1
  extract_lets +onlyGivenNames x2
  extract_lets +onlyGivenNames x3
  refine kept_mk ?_ rfl rfl rfl rfl ⟨rfl, rfl, rfl⟩
  exact hk

theorem kept_swapChannel {s : State} (old : ImageCfg) (c : Nat) (hk : Kept s0 s) : Kept s0 (State.swapChannel s old c) := by
  unfold State.swapChannel
  extract_lets +onlyGivenNames x1
  have hx1 : Kept s0 x1 := by
    unfold x1
    refine kept_inBoth (fun t2 ht2 => ?_) ?_
    · refine kept_showPrep _ _ ?_
      refine kept_discardPreview _ ?_
      exact ht2
    · exact hk
  clear_value x1
  refine kept_ite ?_ ?_
  · refine kept_inBoth (fun t3 ht3 => ?_) ?_
    · refine kept_selRestart _ ?_
      exact ht3
    · exact hx1
  · exact hx1

theorem kept_keepCounts {s : State} (hk : Kept s0 s) : Kept s0 (State.keepCounts s) := by
  refine kept_regs hk (fun h => ?_) rfl rfl rfl rfl rfl rfl rfl ⟨rfl, rfl, rfl⟩
  rw [regsOk_iff] at h ⊢
  refine ⟨h.1, ?_, h.2.2⟩
  unfold State.keepCounts
  generalize List.range 128 = l
  have : ∀ (l : List Nat) (t : Tab Nat), Regs.wf t = true → Regs.wf (l.foldl (fun t src =>
      regPut t (BLK_FLT_WIN (unitOfSource src).1 (unitOfSource src).2).key (s.get (BLK_FLT_WIN (unitOfSource src).1 (unitOfSource src).2))) t) = true := by
    intro l
    induction l with
    | nil => intro t h; exact h
    | cons c r ih => intro t h; exact ih _ (Regs.wf_regPut _ _ h)
  exact this l _ h.2.1

theorem kept_swapNow [LooseCfg s0] [LooseRst s0] {s : State} (c : ImageCfg) (hk : Kept s0 s) : Kept s0 (State.swapNow s c) := by
  unfold State.swapNow
  extract_lets +onlyGivenNames x1
  extract_lets +onlyGivenNames x2
  extract_lets +onlyGivenNames x3
  extract_lets +onlyGivenNames x4
  have hx4 : Kept s0 x4 := by
    unfold x4
    exact hk
  clear_value x4
  extract_lets +onlyGivenNames x5
  have hx5 : Kept s0 x5 := by
    unfold x5
    refine kept_showImage _ _ _ ?_
    refine kept_evtStart _ ?_
    refine kept_widthsLoaded _ ?_
    refine kept_putImage _ ?_
    exact hk
  clear_value x5
  extract_lets +onlyGivenNames x6
  have hx6 : Kept s0 x6 := by
    unfold x6
    refine kept_keepCounts ?_
    refine kept_mk ?_ rfl rfl rfl rfl ⟨rfl, rfl, rfl⟩
    exact hx5
  clear_value x6
  extract_lets +onlyGivenNames x7
  have hx7 : Kept s0 x7 := by
    unfold x7
    refine kept_foldl ?_ (fun t8 at8 ht8 => ?_) _
    · exact hx6
    · refine kept_scaleRebind _ _ ?_
      exact ht8
  clear_value x7
  extract_lets +onlyGivenNames x9
  have hx9 : Kept s0 x9 := by
    unfold x9
    refine kept_pdApply _ ?_
    refine kept_wrapAdd _ _ ?_
    refine kept_set _ _ ?_
    exact hx7
  clear_value x9
  extract_lets +onlyGivenNames x10
  have hx10 : Kept s0 x10 := by
    unfold x10
    refine kept_atOnce (fun t11 ht11 => ?_) ?_
    · refine kept_foldl ?_ (fun t12 at12 ht12 => ?_) _
      · exact ht11
      · refine kept_swapChannel _ _ ?_
        exact ht12
    · exact hx9
  clear_value x10
  extract_lets +onlyGivenNames x13
  have hx13 : Kept s0 x13 := by
    unfold x13
    refine kept_foldl ?_ (fun t14 at14 ht14 => ?_) _
    · exact hx10
    · refine kept_ite ?_ ?_
      · refine kept_atOnce (fun t15 ht15 => ?_) ?_
        · refine kept_inBoth (fun t16 ht16 => ?_) ?_
          · refine kept_undeclared _ ?_
            exact ht16
          · exact ht15
        · exact ht14
      · exact ht14
  clear_value x13
  extract_lets +onlyGivenNames x17
  have hx17 : Kept s0 x17 := by
    unfold x17
    refine kept_foldl ?_ (fun t18 at18 ht18 => ?_) _
    · exact hx13
    · refine kept_ite ?_ ?_
      · refine kept_refStart _ ?_
        exact ht18
      · exact ht18
  clear_value x17
  extract_lets +onlyGivenNames x19
  have hx19 : Kept s0 x19 := by
    unfold x19
    refine kept_caskLoad _ _ ?_
    exact hx17
  clear_value x19
  extract_lets +onlyGivenNames x20
  have hx20 : Kept s0 x20 := by
    unfold x20
    refine kept_swapSerdes _ ?_
    refine kept_foldl ?_ (fun t21 at21 ht21 => ?_) _
    · exact hx19
    · refine kept_swapSession _ _ ?_
      exact ht21
  clear_value x20
  refine kept_foldl ?_ (fun t22 at22 ht22 => ?_) _
  · refine kept_apllEvals ?_
    refine kept_tnsSwap ?_
    refine kept_tempEval ?_
    refine kept_nodeSwap _ ?_
    exact hx20
  · refine kept_linkRole _ ?_
    exact ht22

theorem kept_swapBoundary [LooseCfg s0] [LooseRst s0] {s : State} (hk : Kept s0 s) : Kept s0 (State.swapBoundary s) := by
  unfold State.swapBoundary
  refine kept_ite ?_ ?_
  · exact hk
  · split
    · exact hk
    · refine kept_swapNow _ ?_
      exact hk

theorem kept_swapStepped {s : State} (hk : Kept s0 s) : Kept s0 (State.swapStepped s) := by
  unfold State.swapStepped
  refine kept_ite ?_ ?_
  · refine kept_gldEnd _ ?_
    exact hk
  · exact hk

theorem kept_mpllLock [LooseTick s0] [LooseTime s0] {s : State} (hk : Kept s0 s) : Kept s0 (State.mpllLock s) := by
  unfold State.mpllLock
  dsimp only
  refine kept_ite (kept_ite (kept_set _ _ hk) hk) (kept_ite hk (kept_gldBoot (kept_set _ _ (kept_set _ _ (kept_set _ _ ?_)))))
  exact ⟨hk.sound, hk.otp, fun e => (by rw [LooseTick.off] at e; cases e), hk.cfg, fun e => (by rw [LooseTime.off] at e; cases e), hk.rst⟩

theorem kept_gldConfirm {s : State} (hk : Kept s0 s) : Kept s0 (State.gldConfirm s) := by
  unfold State.gldConfirm
  refine kept_ite ?_ ?_
  · exact hk
  · refine kept_set _ _ ?_
    refine kept_set _ _ ?_
    exact hk

theorem kept_arbAdvance {s : State} (t : Nat) (hk : Kept s0 s) : Kept s0 (State.arbAdvance s t) := by
  unfold State.arbAdvance
  extract_lets +onlyGivenNames x1
  refine kept_ite ?_ ?_
  · refine kept_mk ?_ rfl rfl rfl rfl ⟨rfl, rfl, rfl⟩
    exact hk
  · refine kept_raise _ ?_
    exact hk

theorem kept_arbDone {s : State} (hk : Kept s0 s) : Kept s0 (State.arbDone s) := by
  unfold State.arbDone
  split
  · exact hk
  · exact hk.of (fun h => h) ⟨fun _ h => ⟨h, rfl⟩, fun _ h => h, Nat.le_max_left _ _⟩ rfl rfl rfl rfl ⟨rfl, rfl, rfl⟩

theorem kept_keyProg {s : State} (k : Nat) (hk : Kept s0 s) : Kept s0 (State.keyProg s k) := by
  unfold State.keyProg
  generalize s.stagedHash = v
  split
  · exact kept_raise _ hk
  · rename_i hb
    refine kept_otp _ hk ⟨fun i hi => ⟨bitAt_setBitAt_of _ _ _ hi, ?_⟩, fun _ h => h, Nat.le_refl _⟩
    refine tabGet_tabPut_other _ _ _ _ _ (fun e => hb ?_)
    subst e
    simp only [Bool.or_eq_true]
    exact .inl hi

theorem kept_keyRevoke {s : State} (k : Nat) (hk : Kept s0 s) : Kept s0 (State.keyRevoke s k) := by
  unfold State.keyRevoke
  dsimp only
  refine kept_ite (kept_raise _ hk) (kept_otp _ hk ⟨fun i hi => ⟨hi, rfl⟩, fun i hi => bitAt_setBitAt_of _ _ _ hi, Nat.le_refl _⟩)

theorem kept_captureClear {s : State} (b : Nat) (hk : Kept s0 s) : Kept s0 (State.captureClear s b) := by
  unfold State.captureClear
  refine kept_foldl ?_ (fun t1 at1 ht1 => ?_) _
  · exact hk
  · refine kept_set _ _ ?_
    exact ht1

theorem kept_latchClear {s : State} (hk : Kept s0 s) : Kept s0 (State.latchClear s) := by
  unfold State.latchClear
  refine kept_foldl ?_ (fun t1 at1 ht1 => ?_) _
  · exact hk
  · refine kept_set _ _ ?_
    exact ht1

theorem kept_bucketAdvance {s : State} (src : Nat) (hk : Kept s0 s) : Kept s0 (State.bucketAdvance s src) := by
  unfold State.bucketAdvance
  extract_lets +onlyGivenNames x1
  extract_lets +onlyGivenNames x2
  extract_lets +onlyGivenNames x3
  refine kept_ite ?_ ?_
  · exact hk
  · refine kept_mk ?_ rfl rfl rfl rfl ⟨rfl, rfl, rfl⟩
    exact hk

theorem kept_lineFault {s : State} (b : Nat) (hk : Kept s0 s) : Kept s0 (State.lineFault s b) := by
  unfold State.lineFault
  extract_lets +onlyGivenNames x1
  refine kept_ite ?_ ?_
  · exact hk
  · refine kept_raise _ ?_
    refine kept_set _ _ ?_
    refine kept_mk ?_ rfl rfl rfl rfl ⟨rfl, rfl, rfl⟩
    exact hk

theorem kept_lineInversion {s : State} (b : Nat) (seen : Bool) (hk : Kept s0 s) : Kept s0 (State.lineInversion s b seen) := by
  unfold State.lineInversion
  extract_lets +onlyGivenNames x1
  extract_lets +onlyGivenNames x2
  extract_lets +onlyGivenNames x3
  have hx3 : Kept s0 x3 := by
    unfold x3
    refine kept_mk ?_ rfl rfl rfl rfl ⟨rfl, rfl, rfl⟩
    exact hk
  clear_value x3
  refine kept_ite ?_ ?_
  · exact hk
  · refine kept_ite ?_ ?_
    · refine kept_mk ?_ rfl rfl rfl rfl ⟨rfl, rfl, rfl⟩
      exact hk
    · refine kept_ite ?_ ?_
      · refine kept_lineFault _ ?_
        exact hx3
      · exact hx3

theorem kept_counterWrap {s : State} (k : Nat) (inc : Nat) (hk : Kept s0 s) : Kept s0 (State.counterWrap s k inc) := by
  unfold State.counterWrap
  refine kept_ite ?_ ?_
  · exact hk
  · refine kept_obsAdd _ _ ?_
    exact hk

theorem kept_catchUp [LooseTime s0] (n : Nat) {s : State} (hk : Kept s0 s) : Kept s0 (catchUp n s) := by
  induction n generalizing s with
  | zero => exact hk
  | succ n ih =>
    simp only [catchUp]
    split
    · exact hk
    · exact ih (kept_swapStepped (kept_timeStep _ hk))
    · exact ih (kept_tenseFire _ hk)

theorem kept_scheduleEnd {s : State} (inp : TickIn) (hk : Kept s0 s) : Kept s0 (State.scheduleEnd s inp) := by
  unfold State.scheduleEnd
  extract_lets +onlyGivenNames x1
  extract_lets +onlyGivenNames x2
  extract_lets +onlyGivenNames x3
  have hx3 : Kept s0 x3 := by
    unfold x3
    refine kept_obsAdd _ _ ?_
    refine kept_hwm _ _ ?_
    exact hk
  clear_value x3
  extract_lets +onlyGivenNames x4
  have hx4 : Kept s0 x4 := by
    unfold x4
    refine kept_foldl ?_ (fun t5 at5 ht5 => ?_) _
    · exact hx3
    · refine kept_ite ?_ ?_
      · exact ht5
      · refine kept_mk ?_ rfl rfl rfl rfl ⟨rfl, rfl, rfl⟩
        exact ht5
  clear_value x4
  extract_lets +onlyGivenNames x6
  extract_lets +onlyGivenNames x7
  extract_lets +onlyGivenNames x8
  extract_lets +onlyGivenNames x9
  have hx9 : Kept s0 x9 := by
    unfold x9
    refine kept_ite ?_ ?_
    · exact hx4
    · refine kept_raise _ ?_
      refine kept_obsAdd _ _ ?_
      refine kept_satAdd _ _ ?_
      exact hx4
  clear_value x9
  extract_lets +onlyGivenNames x10
  have hx10 : Kept s0 x10 := by
    unfold x10
    refine kept_ite ?_ ?_
    · exact hx9
    · refine kept_raise _ ?_
      refine kept_obsAdd _ _ ?_
      refine kept_satAdd _ _ ?_
      exact hx9
  clear_value x10
  refine kept_ite ?_ ?_
  · exact hk
  · refine kept_mk ?_ rfl rfl rfl rfl ⟨rfl, rfl, rfl⟩
    exact hx10

theorem kept_tagsCount {s : State} (cycles : Nat) (hk : Kept s0 s) : Kept s0 (State.tagsCount s cycles) := by
  unfold State.tagsCount
  refine kept_ite ?_ ?_
  · refine kept_obsAdd _ _ ?_
    exact hk
  · exact hk

theorem kept_account {s : State} (was : State) (inp : TickIn) (lpe : Bool) (ovr : List Nat) (ended : Nat) (hk : Kept s0 s) : Kept s0 (State.account s was inp lpe ovr ended) := by
  unfold State.account
  extract_lets +onlyGivenNames x1
  have hx1 : Kept s0 x1 := by
    unfold x1
    refine kept_obsAdd _ _ ?_
    refine kept_obsAdd _ _ ?_
    exact hk
  clear_value x1
  extract_lets +onlyGivenNames x2
  extract_lets +onlyGivenNames x3
  extract_lets +onlyGivenNames x4
  extract_lets +onlyGivenNames x5
  extract_lets +onlyGivenNames x6
  have hx6 : Kept s0 x6 := by
    unfold x6
    refine kept_obsAdd _ _ ?_
    refine kept_obsAdd _ _ ?_
    refine kept_obsAdd _ _ ?_
    refine kept_obsAdd _ _ ?_
    exact hx1
  clear_value x6
  extract_lets +onlyGivenNames x7
  have hx7 : Kept s0 x7 := by
    unfold x7
    refine kept_ite ?_ ?_
    · exact hx1
    · refine kept_mk ?_ rfl rfl rfl rfl ⟨rfl, rfl, rfl⟩
      exact hx6
  clear_value x7
  extract_lets +onlyGivenNames x8
  have hx8 : Kept s0 x8 := by
    unfold x8
    refine kept_set _ _ ?_
    exact hx7
  clear_value x8
  extract_lets +onlyGivenNames x9
  refine kept_mk ?_ rfl rfl rfl rfl ⟨rfl, rfl, rfl⟩
  exact hx8

theorem kept_discardPending {s : State} (own : List Nat) (hk : Kept s0 s) : Kept s0 (State.discardPending s own) := by
  unfold State.discardPending
  dsimp only
  have hb : ∀ (l : List Nat) (b : Bank), (l.foldl (fun b c => if own.contains c then b.setChan c (s.ind.chanOf c) else b) b).regs = b.regs := by
    intro l
    induction l with
    | nil => intro b; rfl
    | cons c r ih => intro b; rw [List.foldl_cons, ih]; split <;> rfl
  have hq : ∀ (l : List Nat) (b : Bank), (l.foldl (fun b n => if own.contains (16 + n) then b.setSlot n (s.ind.slotOf n) else b) b).regs = b.regs := by
    intro l
    induction l with
    | nil => intro b; rfl
    | cons c r ih => intro b; rw [List.foldl_cons, ih]; split <;> rfl
  refine kept_regs hk (fun h => ?_) rfl rfl rfl rfl rfl rfl rfl ⟨rfl, rfl, rfl⟩
  rw [regsOk_iff] at h ⊢
  refine ⟨h.1, h.2.1, h.2.2.1, ?_⟩
  dsimp only
  rw [hq, hb]
  exact Regs.wf_putAll _ (tabWf_filter _ h.2.2.2)

theorem kept_overrunOf {s : State} (c : Nat) (hk : Kept s0 s) : Kept s0 (State.overrunOf s c) := by
  unfold State.overrunOf
  refine kept_raise _ ?_
  refine kept_obsAdd _ _ ?_
  refine kept_satAdd _ _ ?_
  exact hk

theorem kept_forceChannel {s : State} (c : Nat) (hk : Kept s0 s) : Kept s0 (State.forceChannel s c) := by
  unfold State.forceChannel
  extract_lets +onlyGivenNames x1
  extract_lets +onlyGivenNames x2
  extract_lets +onlyGivenNames x3
  refine kept_ite ?_ ?_
  · exact hk
  · refine kept_ite ?_ ?_
    · refine kept_ite ?_ ?_
      · exact hk
      · refine kept_enterNoRef _ ?_
        exact hk
    · refine kept_ite ?_ ?_
      · refine kept_discardPending _ ?_
        exact hk
      · exact hk

theorem kept_fixHold {s : State} (c : Nat) (te : Int) (hk : Kept s0 s) : Kept s0 (State.fixHold s c te) := by
  unfold State.fixHold
  extract_lets +onlyGivenNames x1
  extract_lets +onlyGivenNames x2
  extract_lets +onlyGivenNames x3
  refine kept_ite ?_ ?_
  · exact hk
  · refine kept_ite ?_ ?_
    · refine kept_setChan _ _ ?_
      exact hk
    · refine kept_setChan _ _ ?_
      exact hk

theorem kept_commitChannel {s : State} (ovr : List Nat) (te : Int) (c : Nat) (hk : Kept s0 s) : Kept s0 (State.commitChannel s ovr te c) := by
  unfold State.commitChannel
  extract_lets +onlyGivenNames x1
  extract_lets +onlyGivenNames x2
  have hx2 : Kept s0 x2 := by
    unfold x2
    refine kept_ite ?_ ?_
    · refine kept_forceChannel _ ?_
      exact hk
    · exact hk
  clear_value x2
  refine kept_ite ?_ ?_
  · exact hk
  · refine kept_modChan _ _ ?_
    refine kept_fixHold _ _ ?_
    refine kept_lpeBoundary _ _ _ ?_
    exact hx2

theorem kept_swapBanks {s : State} (hk : Kept s0 s) : Kept s0 (State.swapBanks s) := by
  refine kept_regs hk (fun h => ?_) rfl rfl rfl rfl rfl rfl rfl ⟨rfl, rfl, rfl⟩
  rw [regsOk_iff] at h ⊢
  exact ⟨h.1, h.2.1, h.2.2.2, h.2.2.2⟩

theorem kept_startLanes {s : State} (was : State) (hk : Kept s0 s) : Kept s0 (State.startLanes s was) := by
  unfold State.startLanes
  refine kept_foldl ?_ (fun t1 at1 ht1 => ?_) _
  · exact hk
  · extract_lets +onlyGivenNames x2
    refine kept_ite ?_ ?_
    · refine kept_set _ _ ?_
      refine kept_setLane _ _ ?_
      exact ht1
    · exact ht1

theorem kept_cutLists {s : State} (was : State) (hk : Kept s0 s) : Kept s0 (State.cutLists s was) := by
  unfold State.cutLists
  refine kept_foldl ?_ (fun t1 at1 ht1 => ?_) _
  · exact hk
  · refine kept_inBoth (fun t2 ht2 => ?_) ?_
    · refine kept_cutSlots _ _ ?_
      exact ht2
    · exact ht1

theorem kept_takeEffect {s : State} (hk : Kept s0 s) : Kept s0 (State.takeEffect s) := by
  have h2 : ∀ (b : Tab (List Nat)) (a : Tab Nat), Kept s0 { s with flt := { s.flt with buckets := b, bucketAt := a }, inForce := s.regs } := fun b a => by
    refine kept_regs hk (fun h => ?_) rfl rfl rfl rfl rfl rfl rfl ⟨rfl, rfl, rfl⟩
    rw [regsOk_iff] at h ⊢
    exact ⟨h.1, h.1, h.2.2⟩
  unfold State.takeEffect
  dsimp only
  generalize (List.range 128).foldl _ _ = b
  generalize (List.range 128).foldl _ _ = a
  exact kept_ite hk (kept_foldl (kept_cutLists _ (kept_startLanes _ (h2 _ _))) (fun t n ht => kept_limitsTaken _ _ ht) _)

theorem kept_voteOne {s : State} (k : Nat) (x : Nat × Nat) (hk : Kept s0 s) : Kept s0 (State.voteOne s k x) := by
  unfold State.voteOne
  have h1 : Kept s0 { s with upset := tabPut (0, 0) s.upset k (0, 0) } := kept_same hk rfl rfl rfl rfl rfl rfl rfl rfl rfl rfl rfl ⟨rfl, rfl, rfl⟩
  have h2 (v : Nat) : Kept s0 { ({ s with upset := tabPut (0, 0) s.upset k (0, 0) } : State) with regs := regPut s.regs k v } := by
    refine kept_regs h1 (fun h => ?_) rfl rfl rfl rfl rfl rfl rfl ⟨rfl, rfl, rfl⟩
    rw [regsOk_iff] at h ⊢
    exact ⟨Regs.wf_regPut _ _ h.1, h.2⟩
  dsimp only
  exact kept_ite h1 (kept_ite (kept_raise _ (kept_obsAdd _ _ (kept_satAdd _ _ (h2 _)))) (kept_ite (kept_raise _ (kept_obsAdd _ _ (kept_satAdd _ _ h1)))
    (kept_raise _ (kept_satAdd _ _ (h2 _)))))

theorem kept_vote {s : State} (hk : Kept s0 s) : Kept s0 (State.vote s) := by
  unfold State.vote
  refine kept_foldl ?_ (fun t1 at1 ht1 => ?_) _
  · exact hk
  · refine kept_voteOne _ _ ?_
    exact ht1

theorem kept_takeUpsets {s : State} (l : List (Nat × Nat × Nat)) (hk : Kept s0 s) : Kept s0 (State.takeUpsets s l) := by
  unfold State.takeUpsets
  refine kept_foldl ?_ (fun t1 at1 ht1 => ?_) _
  · exact hk
  · split
    · refine kept_ite ?_ ?_
      · refine kept_mk ?_ rfl rfl rfl rfl ⟨rfl, rfl, rfl⟩
        exact ht1
      · exact ht1
    · exact ht1

theorem kept_reportRealign {s : State} (hk : Kept s0 s) : Kept s0 (State.reportRealign s) := by
  unfold State.reportRealign
  refine kept_ite ?_ ?_
  · refine kept_raise _ ?_
    refine kept_satAdd _ _ ?_
    refine kept_set _ _ ?_
    refine kept_mk ?_ rfl rfl rfl rfl ⟨rfl, rfl, rfl⟩
    exact hk
  · exact hk

theorem kept_primaryHoldover {s : State} (was : Nat) (hk : Kept s0 s) : Kept s0 (State.primaryHoldover s was) := by
  unfold State.primaryHoldover
  extract_lets +onlyGivenNames x1
  refine kept_ite ?_ ?_
  · refine kept_originate _ ?_
    exact hk
  · exact hk

theorem kept_commit [LooseCfg s0] [LooseRst s0] {s : State} (ovr : List Nat) (hk : Kept s0 s) : Kept s0 (State.commit s ovr) := by
  unfold State.commit
  extract_lets +onlyGivenNames x1
  extract_lets +onlyGivenNames x2
  have hx2 : Kept s0 x2 := by
    unfold x2
    refine kept_discardPending _ ?_
    exact hk
  clear_value x2
  extract_lets +onlyGivenNames x3
  have hx3 : Kept s0 x3 := by
    unfold x3
    refine kept_foldl ?_ (fun t4 at4 ht4 => ?_) _
    · exact hx2
    · refine kept_ite ?_ ?_
      · refine kept_overrunOf _ ?_
        exact ht4
      · exact ht4
  clear_value x3
  extract_lets +onlyGivenNames x5
  extract_lets +onlyGivenNames x6
  extract_lets +onlyGivenNames x7
  extract_lets +onlyGivenNames x8
  extract_lets +onlyGivenNames x9
  extract_lets +onlyGivenNames x10
  have hx10 : Kept s0 x10 := by
    unfold x10
    refine kept_foldl ?_ (fun t11 at11 ht11 => ?_) _
    · exact hx3
    · refine kept_commitChannel _ _ _ ?_
      exact ht11
  clear_value x10
  extract_lets +onlyGivenNames x12
  have hx12 : Kept s0 x12 := by
    unfold x12
    refine kept_swapBanks ?_
    refine kept_flushEvs ?_
    exact hx10
  clear_value x12
  extract_lets +onlyGivenNames x13
  have hx13 : Kept s0 x13 := by
    unfold x13
    refine kept_ite ?_ ?_
    · exact hx12
    · refine kept_set _ _ ?_
      exact hx12
  clear_value x13
  extract_lets +onlyGivenNames x14
  have hx14 : Kept s0 x14 := by
    unfold x14
    refine kept_takeEffect ?_
    refine kept_swapBoundary ?_
    exact hx13
  clear_value x14
  extract_lets +onlyGivenNames x15
  have hx15 : Kept s0 x15 := by
    unfold x15
    refine kept_primaryHoldover _ ?_
    exact hx14
  clear_value x15
  extract_lets +onlyGivenNames x16
  have hx16 : Kept s0 x16 := by
    unfold x16
    refine kept_foldl ?_ (fun t17 at17 ht17 => ?_) _
    · exact hx15
    · extract_lets +onlyGivenNames x18
      have hx18 : Kept s0 x18 := by
        unfold x18
        refine kept_contribute _ _ ?_
        exact ht17
      clear_value x18
      extract_lets +onlyGivenNames x19
      have hx19 : Kept s0 x19 := by
        unfold x19
        refine kept_ite ?_ ?_
        · refine kept_endSecond _ _ ?_
          exact hx18
        · exact hx18
      clear_value x19
      refine kept_inBoth (fun t20 ht20 => ?_) ?_
      · refine kept_selBoundary _ ?_
        exact ht20
      · exact hx19
  clear_value x16
  refine kept_foldl ?_ (fun t21 at21 ht21 => ?_) _
  · exact hx16
  · refine kept_rateCommit _ _ _ _ ?_
    exact ht21

theorem kept_blocksAtBoundary [LooseRst s0] {s : State} (inp : TickIn) (sec : Bool) (dt : Nat) (hk : Kept s0 s) : Kept s0 (State.blocksAtBoundary s inp sec dt) := by
  unfold State.blocksAtBoundary
  extract_lets +onlyGivenNames x1
  have hx1 : Kept s0 x1 := by
    unfold x1
    refine kept_foldl ?_ (fun t2 at2 ht2 => ?_) _
    · refine kept_decimDown ?_
      exact hk
    · refine kept_refBoundary _ ?_
      exact ht2
  clear_value x1
  extract_lets +onlyGivenNames x3
  have hx3 : Kept s0 x3 := by
    unfold x3
    refine kept_foldl ?_ (fun t4 at4 ht4 => ?_) _
    · exact hx1
    · refine kept_qulBoundary _ _ _ ?_
      exact ht4
  clear_value x3
  extract_lets +onlyGivenNames x5
  have hx5 : Kept s0 x5 := by
    unfold x5
    refine kept_foldl ?_ (fun t6 at6 ht6 => ?_) _
    · exact hx3
    · refine kept_radjBoundary _ ?_
      refine kept_leapCheck _ ?_
      refine kept_utcApply _ ?_
      exact ht6
  clear_value x5
  extract_lets +onlyGivenNames x7
  have hx7 : Kept s0 x7 := by
    unfold x7
    refine kept_synTick _ _ ?_
    exact hx5
  clear_value x7
  extract_lets +onlyGivenNames x8
  have hx8 : Kept s0 x8 := by
    unfold x8
    refine kept_foldl ?_ (fun t9 at9 ht9 => ?_) _
    · exact hx7
    · refine kept_ethBoundary _ _ ?_
      exact ht9
  clear_value x8
  extract_lets +onlyGivenNames x10
  have hx10 : Kept s0 x10 := by
    unfold x10
    refine kept_domainBoundary ?_
    refine kept_resetBoundary ?_
    refine kept_cjlBoundary _ ?_
    refine kept_ptpBoundary _ _ ?_
    exact hx8
  clear_value x10
  extract_lets +onlyGivenNames x11
  have hx11 : Kept s0 x11 := by
    unfold x11
    refine kept_foldl ?_ (fun t12 at12 ht12 => ?_) _
    · exact hx10
    · refine kept_rankBoundary _ ?_
      exact ht12
  clear_value x11
  extract_lets +onlyGivenNames x13
  have hx13 : Kept s0 x13 := by
    unfold x13
    refine kept_takeUpsets _ ?_
    refine kept_vote ?_
    exact hx11
  clear_value x13
  extract_lets +onlyGivenNames x14
  extract_lets +onlyGivenNames x15
  refine kept_mk ?_ rfl rfl rfl rfl ⟨rfl, rfl, rfl⟩
  exact hx13

theorem kept_turnTick [LooseTick s0] {s : State} (hk : Kept s0 s) : Kept s0 (State.turnTick s) := by
  exact ⟨hk.sound, hk.otp, fun e => (by rw [LooseTick.off] at e; cases e), hk.cfg, hk.time, hk.rst⟩

theorem kept_tickBoundary [LooseTick s0] [LooseCfg s0] [LooseTime s0] [LooseRst s0] {s : State} (inp : TickIn) (hk : Kept s0 s) : Kept s0 (State.tickBoundary s inp) := by
  unfold State.tickBoundary
  extract_lets +onlyGivenNames x1
  have hx1 : Kept s0 x1 := by
    unfold x1
    refine kept_catchUp _ ?_
    exact hk
  clear_value x1
  extract_lets +onlyGivenNames x2
  have hx2 : Kept s0 x2 := by
    unfold x2
    refine kept_advance _ ?_
    exact hx1
  clear_value x2
  extract_lets +onlyGivenNames x3
  extract_lets +onlyGivenNames x4
  extract_lets +onlyGivenNames x5
  extract_lets +onlyGivenNames x6
  extract_lets +onlyGivenNames x7
  have hx7 : Kept s0 x7 := by
    unfold x7
    refine kept_tagsCount _ ?_
    exact hx2
  clear_value x7
  extract_lets +onlyGivenNames x8
  extract_lets +onlyGivenNames x9
  have hx9 : Kept s0 x9 := by
    unfold x9
    refine kept_blocksAtBoundary _ _ _ ?_
    refine kept_turnTick ?_
    refine kept_commit _ ?_
    refine kept_reportRealign ?_
    refine kept_scheduleEnd _ ?_
    exact hx7
  clear_value x9
  refine kept_ite ?_ ?_
  · exact hk
  · refine kept_account _ _ _ _ _ ?_
    exact hx9

theorem kept_swapNext [LooseTick s0] [LooseCfg s0] [LooseTime s0] [LooseRst s0] {s : State} (hk : Kept s0 s) : Kept s0 (State.swapNext s) := by
  unfold State.swapNext
  refine kept_ite ?_ ?_
  · refine kept_tickBoundary _ ?_
    exact hk
  · exact hk

theorem kept_cold [LooseTick s0] [LooseCfg s0] [LooseTime s0] [LooseRst s0] {s : State} (porNow : Bool) (hk : Kept s0 s) : Kept s0 (State.cold s porNow) := by
  exact ⟨fun _ => reset_sound, hk.otp, fun e => (by rw [LooseTick.off] at e; cases e), fun e => (by rw [LooseCfg.off] at e; cases e), fun e => (by rw [LooseTime.off] at e; cases e), fun e => (by rw [LooseRst.off] at e; cases e)⟩

theorem kept_powerOn [LooseTick s0] [LooseCfg s0] [LooseTime s0] [LooseRst s0] {s : State} (hk : Kept s0 s) : Kept s0 (State.powerOn s) := by
  unfold State.powerOn
  refine kept_cold _ ?_
  exact hk

theorem kept_internalEnd {s : State} (bootSel : Nat) (spiSec : Nat) (test : Nat) (hk : Kept s0 s) : Kept s0 (State.internalEnd s bootSel spiSec test) := by
  unfold State.internalEnd
  refine kept_ite ?_ ?_
  · exact hk
  · refine kept_tempEval ?_
    refine kept_set _ _ ?_
    refine kept_set _ _ ?_
    refine kept_set _ _ ?_
    refine kept_set _ _ ?_
    exact hk

theorem kept_powerOnEnd {s : State} (bootSel : Nat) (spiSec : Nat) (test : Nat) (hk : Kept s0 s) : Kept s0 (State.powerOnEnd s bootSel spiSec test) := by
  unfold State.powerOnEnd
  extract_lets +onlyGivenNames x1
  refine kept_ite ?_ ?_
  · exact hk
  · refine kept_internalEnd _ _ _ ?_
    refine kept_mk ?_ rfl rfl rfl rfl ⟨rfl, rfl, rfl⟩
    exact hk

theorem kept_resetNRise {s : State} (bootSel : Nat) (spiSec : Nat) (test : Nat) (hk : Kept s0 s) : Kept s0 (State.resetNRise s bootSel spiSec test) := by
  unfold State.resetNRise
  extract_lets +onlyGivenNames x1
  refine kept_ite ?_ ?_
  · exact hk
  · refine kept_internalEnd _ _ _ ?_
    refine kept_mk ?_ rfl rfl rfl rfl ⟨rfl, rfl, rfl⟩
    exact hk

theorem kept_resetNFall [LooseTick s0] [LooseCfg s0] [LooseTime s0] [LooseRst s0] {s : State} (hk : Kept s0 s) : Kept s0 (State.resetNFall s) := by
  unfold State.resetNFall
  dsimp only
  refine kept_ite (kept_same hk rfl rfl rfl rfl rfl rfl rfl rfl rfl rfl rfl ⟨rfl, rfl, rfl⟩) (kept_ite hk (kept_set _ _ (kept_set _ _ ?_)))
  refine ⟨fun h0 => ⟨reset_sound.1, ?_⟩, hk.otp, fun e => (by rw [LooseTick.off] at e; cases e), fun e => (by rw [LooseCfg.off] at e; cases e),
    fun e => (by rw [LooseTime.off] at e; cases e), fun e => (by rw [LooseRst.off] at e; cases e)⟩
  have h := hk.sound h0
  have h1 := (regsOk_iff _).mp h.2
  have h2 := (regsOk_iff _).mp reset_sound.2
  exact (regsOk_iff _).mpr ⟨tabWf_filter _ h1.1, tabWf_filter _ h1.1, h2.2.2.1, h2.2.2.2⟩

theorem kept_perstFall {s : State} (hk : Kept s0 s) : Kept s0 (State.perstFall s) := by
  unfold State.perstFall
  have h1 : Kept s0 s.spoilOpen := kept_spoilOpen hk
  generalize s.spoilOpen = u at h1 ⊢
  refine kept_regs h1 (fun h => ?_) rfl rfl rfl rfl rfl rfl rfl ⟨rfl, rfl, rfl⟩
  rw [regsOk_iff] at h ⊢
  exact ⟨tabWf_filter _ h.1, tabWf_filter _ h.2.1, h.2.2⟩

theorem kept_perstRise {s : State} (hk : Kept s0 s) : Kept s0 (State.perstRise s) := by
  unfold State.perstRise
  extract_lets +onlyGivenNames x1
  refine kept_mk ?_ rfl rfl rfl rfl ⟨rfl, rfl, rfl⟩
  exact hk

end Sys2Proof.Machine
end

