-- ==== Sys2Proof/Laws/KeptBus.lean ====
section
/-! SUPPORT. The operations of register access and the bus keep canonical forms and one-time-programmable memory. -/
namespace Sys2Proof.Machine
open Sys2Proof

variable {s0 : Base}

theorem kept_latch {s : State} (m : Master) (as : List Nat) (hk : Kept s0 s) : Kept s0 (State.latch s m as) := by
  unfold State.latch
  refine kept_foldl ?_ (fun t1 at1 ht1 => ?_) _
  · exact hk
  · extract_lets +onlyGivenNames x2
    refine kept_mk ?_ rfl rfl rfl rfl ⟨rfl, rfl, rfl⟩
    exact ht1

theorem kept_groupRead {s : State} (m : Master) (a : Nat) (hk : Kept s0 s) : Kept s0 (State.groupRead s m a) := by
  unfold State.groupRead
  extract_lets +onlyGivenNames x1
  have hx1 : Kept s0 x1 := by
    unfold x1
    refine kept_ite ?_ ?_
    · refine kept_set2 _ _ _ ?_
      exact hk
    · exact hk
  clear_value x1
  refine kept_latch _ _ ?_
  exact hx1

theorem kept_readShadow {s : State} (m : Master) (a : Nat) (side : Bool) (hk : Kept s0 s) : KeptP s0 (State.readShadow s m a side) := by
  unfold State.readShadow
  extract_lets +onlyGivenNames x1
  have hx1 : Kept s0 x1 := by
    unfold x1
    split
    · refine kept_ite ?_ ?_
      · refine kept_txqPop _ ?_
        exact hk
      · exact hk
    · exact hk
  clear_value x1
  refine keptP_ite ?_ ?_
  · refine keptP_mk ?_ _
    exact hk
  · refine keptP_ite ?_ ?_
    · refine keptP_mk ?_ _
      refine kept_ite ?_ ?_
      · refine kept_groupRead _ _ ?_
        exact hk
      · exact hk
    · refine keptP_ite ?_ ?_
      · refine keptP_mk ?_ _
        refine kept_ite ?_ ?_
        · refine kept_latch _ _ ?_
          exact hk
        · exact hk
      · refine keptP_mk ?_ _
        exact hx1

theorem kept_gldPut {s : State} (a : Nat) (v : Nat) (hk : Kept s0 s) : Kept s0 (State.gldPut s a v) := by
  unfold State.gldPut
  split
  · rename_i ha
    split
    · exact kept_raise _ hk
    · exact kept_sramPut (by rw [leBytes_length]; omega) hk
  · exact kept_ite (kept_same hk rfl rfl rfl rfl rfl rfl rfl rfl rfl rfl rfl ⟨rfl, rfl, rfl⟩) hk

theorem kept_indirectPut [LooseTick s0] [LooseRst s0] {s : State} (b : Nat) (a : Nat) (v : Nat) (hk : Kept s0 s) : Kept s0 (State.indirectPut s b a v) := by
  unfold State.indirectPut
  split
  · refine kept_gldPut _ _ ?_
    exact hk
  · refine kept_synWrite _ _ ?_
    exact hk
  · refine kept_ethWrite _ _ ?_
    exact hk
  · extract_lets +onlyGivenNames x1
    have hx1 : Kept s0 x1 := by
      unfold x1
      refine kept_ptpWrite _ _ ?_
      exact hk
    clear_value x1
    refine kept_misusedIf _ ?_
    exact hx1
  · refine kept_cjlWrite _ _ ?_
    exact hk
  · exact hk

theorem kept_indirectStep {s : State} (b : Nat) (i : Nat) (hk : Kept s0 s) : Kept s0 (State.indirectStep s b i) := by
  unfold State.indirectStep
  refine kept_ite ?_ ?_
  · refine kept_set _ _ ?_
    exact hk
  · exact hk

theorem kept_indirectStall {s : State} (b : Nat) (hk : Kept s0 s) : Kept s0 (State.indirectStall s b) := by
  unfold State.indirectStall
  extract_lets +onlyGivenNames x1
  have hx1 : Kept s0 x1 := by
    unfold x1
    refine kept_raise _ ?_
    refine kept_obsAdd _ _ ?_
    refine kept_satAdd _ _ ?_
    exact hk
  clear_value x1
  extract_lets +onlyGivenNames x2
  refine kept_ite ?_ ?_
  · exact hk
  · refine kept_mk ?_ rfl rfl rfl rfl ⟨rfl, rfl, rfl⟩
    exact hx1

theorem kept_touchPair {s : State} (b : Nat) (m : Master) (addr : Bool) (hk : Kept s0 s) : Kept s0 (State.touchPair s b m addr) := by
  unfold State.touchPair
  extract_lets +onlyGivenNames x1
  refine kept_mk ?_ rfl rfl rfl rfl ⟨rfl, rfl, rfl⟩
  exact hk

theorem kept_indAddrWrite {s : State} (m : Master) (b : Nat) (v : Nat) (hk : Kept s0 s) : Kept s0 (State.indAddrWrite s m b v) := by
  unfold State.indAddrWrite
  extract_lets +onlyGivenNames x1
  have hx1 : Kept s0 x1 := by
    unfold x1
    refine kept_touchPair _ _ _ ?_
    refine kept_indirectStall _ ?_
    exact hk
  clear_value x1
  refine kept_set _ _ ?_
  refine kept_set _ _ ?_
  exact hx1

theorem kept_indDataRead [LooseTick s0] [LooseRst s0] {s : State} (m : Master) (b : Nat) (hk : Kept s0 s) : KeptP s0 (State.indDataRead s m b) := by
  unfold State.indDataRead
  extract_lets +onlyGivenNames x1
  extract_lets +onlyGivenNames x2
  have hx2 : Kept s0 x2 := by
    unfold x2
    refine kept_touchPair _ _ _ ?_
    refine kept_indirectStall _ ?_
    exact hk
  clear_value x2
  extract_lets +onlyGivenNames x3
  extract_lets +onlyGivenNames x4
  have hx4 : KeptP s0 x4 := by
    unfold x4
    refine keptP_ite ?_ ?_
    · refine kept_caskRead _ ?_
      exact hx2
    · refine keptP_mk ?_ _
      exact hx2
  clear_value x4
  extract_lets +onlyGivenNames x5
  extract_lets +onlyGivenNames x6
  have hx6 : Kept s0 x6 := by
    unfold x6
    show KeptP s0 _
    exact hx4
  clear_value x6
  extract_lets +onlyGivenNames x7
  have hx7 : Kept s0 x7 := by
    unfold x7
    refine kept_ite ?_ ?_
    · refine kept_took ?_
      exact hx6
    · exact hx6
  clear_value x7
  extract_lets +onlyGivenNames x8
  extract_lets +onlyGivenNames x9
  have hx9 : Kept s0 x9 := by
    unfold x9
    refine kept_mk ?_ rfl rfl rfl rfl ⟨rfl, rfl, rfl⟩
    exact hx7
  clear_value x9
  refine keptP_mk ?_ _
  refine kept_misusedIf _ ?_
  refine kept_indirectStep _ _ ?_
  exact hx9

theorem kept_privIgnored {s : State} (hk : Kept s0 s) : Kept s0 (State.privIgnored s) := by
  unfold State.privIgnored
  refine kept_raise _ ?_
  refine kept_obsAdd _ _ ?_
  refine kept_satAdd _ _ ?_
  exact hk

theorem kept_indDataWrite [LooseTick s0] [LooseRst s0] {s : State} (m : Master) (b : Nat) (v : Nat) (hk : Kept s0 s) : Kept s0 (State.indDataWrite s m b v) := by
  unfold State.indDataWrite
  extract_lets +onlyGivenNames x1
  extract_lets +onlyGivenNames x2
  have hx2 : Kept s0 x2 := by
    unfold x2
    refine kept_touchPair _ _ _ ?_
    refine kept_indirectStall _ ?_
    exact hk
  clear_value x2
  extract_lets +onlyGivenNames x3
  extract_lets +onlyGivenNames x4
  have hx4 : Kept s0 x4 := by
    unfold x4
    refine kept_mk ?_ rfl rfl rfl rfl ⟨rfl, rfl, rfl⟩
    exact hx2
  clear_value x4
  refine kept_ite ?_ ?_
  · refine kept_misusedIf _ ?_
    refine kept_indirectStep _ _ ?_
    refine kept_privIgnored ?_
    exact hx2
  · refine kept_misusedIf _ ?_
    refine kept_indirectStep _ _ ?_
    refine kept_indirectPut _ _ _ ?_
    exact hx4

theorem kept_registerRead [LooseTick s0] [LooseRst s0] {s : State} (m : Master) (a : Nat) (side : Bool) (hk : Kept s0 s) : KeptP s0 (State.registerRead s m a side) := by
  unfold State.registerRead
  split
  · refine keptP_ite ?_ ?_
    · refine kept_indDataRead _ _ ?_
      exact hk
    · refine keptP_mk ?_ _
      exact hk
  · split
    · refine keptP_mk ?_ _
      exact hk
    · extract_lets +onlyGivenNames x1
      extract_lets +onlyGivenNames x2
      have hx2 : KeptP s0 x2 := by
        unfold x2
        refine kept_readShadow _ _ _ ?_
        exact hk
      clear_value x2
      refine keptP_ite ?_ ?_
      · refine keptP_mk ?_ _
        exact hk
      · refine keptP_mk ?_ _
        show KeptP s0 _
        exact hx2

theorem kept_readAt [LooseTick s0] [LooseRst s0] {s : State} (m : Master) (a : Nat) (be : Fin 16) (hk : Kept s0 s) : KeptP s0 (State.readAt s m a be) := by
  unfold State.readAt
  refine keptP_ite ?_ ?_
  · refine keptP_mk ?_ _
    exact hk
  · refine keptP_ite ?_ ?_
    · refine keptP_mk ?_ _
      exact hk
    · refine kept_registerRead _ _ _ ?_
      exact hk

theorem kept_noteRead {s : State} (m : Master) (v : Nat) (hk : Kept s0 s) : Kept s0 (State.noteRead s m v) := by
  unfold State.noteRead
  extract_lets +onlyGivenNames x1
  refine kept_mk ?_ rfl rfl rfl rfl ⟨rfl, rfl, rfl⟩
  exact hk

theorem kept_countAccess {s : State} (hk : Kept s0 s) : Kept s0 (State.countAccess s) := by
  unfold State.countAccess
  refine kept_ite ?_ ?_
  · refine kept_obsAdd _ _ ?_
    exact hk
  · exact hk

theorem kept_hostRead [LooseTick s0] [LooseRst s0] {s : State} (m : Master) (addr : Nat) (be : Fin 16) (hk : Kept s0 s) : KeptP s0 (State.hostRead s m addr be) := by
  unfold State.hostRead
  extract_lets +onlyGivenNames x1
  have hx1 : KeptP s0 x1 := by
    unfold x1
    refine kept_readAt _ _ _ ?_
    refine kept_countAccess ?_
    exact hk
  clear_value x1
  refine keptP_mk ?_ _
  refine kept_noteRead _ _ ?_
  show KeptP s0 _
  exact hx1

theorem kept_accessError {s : State} (cause : Nat) (a : Nat) (m : Master) (hk : Kept s0 s) : Kept s0 (State.accessError s cause a m) := by
  unfold State.accessError
  refine kept_raise _ ?_
  refine kept_set _ _ ?_
  refine kept_set _ _ ?_
  refine kept_set _ _ ?_
  exact hk

theorem kept_violation {s : State} (a : Nat) (hk : Kept s0 s) : Kept s0 (State.violation s a) := by
  unfold State.violation
  refine kept_raise _ ?_
  refine kept_obsAdd _ _ ?_
  refine kept_set _ _ ?_
  refine kept_satAdd _ _ ?_
  exact hk

theorem kept_writeField {s : State} (w : HostWrite) (a : Nat) (d : FieldD) (hk : Kept s0 s) : Kept s0 (State.writeField s w a d) := by
  unfold State.writeField
  extract_lets +onlyGivenNames x1
  extract_lets +onlyGivenNames x2
  extract_lets +onlyGivenNames x3
  split
  · extract_lets +onlyGivenNames x4
    have hx4 : Kept s0 x4 := by
      unfold x4
      refine kept_set _ _ ?_
      exact hk
    clear_value x4
    refine kept_ite ?_ ?_
    · refine kept_mk ?_ rfl rfl rfl rfl ⟨rfl, rfl, rfl⟩
      exact hx4
    · exact hx4
  · refine kept_ite ?_ ?_
    · exact hk
    · refine kept_set _ _ ?_
      exact hk
  · refine kept_set _ _ ?_
    exact hk
  · exact hk

theorem kept_writeFields {s : State} (w : HostWrite) (a : Nat) (ds : List FieldD) (hk : Kept s0 s) : Kept s0 (State.writeFields s w a ds) := by
  unfold State.writeFields
  refine kept_foldl ?_ (fun t1 at1 ht1 => ?_) _
  · exact hk
  · refine kept_ite ?_ ?_
    · refine kept_writeField _ _ _ ?_
      exact ht1
    · exact ht1

theorem kept_hitOutput (s : State) {t : State} (w : HostWrite) (j : Nat) (hk : Kept s0 t) : Kept s0 (State.hitOutput s t w j) := by
  unfold State.hitOutput
  extract_lets +onlyGivenNames x1
  have hx1 : Kept s0 x1 := by
    unfold x1
    refine kept_ite ?_ ?_
    · refine kept_widthChanged _ _ ?_
      exact hk
    · exact hk
  clear_value x1
  extract_lets +onlyGivenNames x2
  have hx2 : Kept s0 x2 := by
    unfold x2
    refine kept_ite ?_ ?_
    · refine kept_phaseWritten _ ?_
      exact hx1
    · exact hx1
  clear_value x2
  extract_lets +onlyGivenNames x3
  have hx3 : Kept s0 x3 := by
    unfold x3
    refine kept_ite ?_ ?_
    · refine kept_setWritten _ ?_
      exact hx2
    · exact hx2
  clear_value x3
  extract_lets +onlyGivenNames x4
  have hx4 : Kept s0 x4 := by
    unfold x4
    refine kept_ite ?_ ?_
    · refine kept_trimWritten _ ?_
      exact hx3
    · exact hx3
  clear_value x4
  refine kept_ite ?_ ?_
  · refine kept_showPend _ ?_
    exact hx1
  · refine kept_evalOutput _ ?_
    exact hx4

theorem kept_effectSys [LooseRst s0] (s : State) {t : State} (w : HostWrite) (a : Nat) (hk : Kept s0 t) : Kept s0 (State.effectSys s t w a) := by
  unfold State.effectSys
  extract_lets +onlyGivenNames x1
  extract_lets +onlyGivenNames x2
  split
  · refine kept_pdApply _ ?_
    exact hk
  · refine kept_tempEval ?_
    exact hk
  · refine kept_brstWritten _ ?_
    exact hk
  · extract_lets +onlyGivenNames x3
    refine kept_ite ?_ ?_
    · refine kept_mk ?_ rfl rfl rfl rfl ⟨rfl, rfl, rfl⟩
      exact hk
    · exact hk
  · refine kept_foldl ?_ (fun t4 at4 ht4 => ?_) _
    · exact hk
    · refine kept_ite ?_ ?_
      · refine kept_doorbell _ ?_
        exact ht4
      · exact ht4
  · refine kept_gldCtl _ _ ?_
    exact hk
  · refine kept_arbAdvance _ ?_
    exact hk
  · refine kept_ite ?_ ?_
    · refine kept_gldConfirm ?_
      exact hk
    · exact hk
  · extract_lets +onlyGivenNames x5
    have hx5 : Kept s0 x5 := by
      unfold x5
      refine kept_foldl ?_ (fun t6 at6 ht6 => ?_) _
      · exact hk
      · refine kept_ite ?_ ?_
        · refine kept_keyProg _ ?_
          exact ht6
        · exact ht6
    clear_value x5
    refine kept_foldl ?_ (fun t7 at7 ht7 => ?_) _
    · exact hx5
    · refine kept_ite ?_ ?_
      · refine kept_keyRevoke _ ?_
        exact ht7
      · exact ht7
  · refine kept_ite ?_ ?_
    · refine kept_latchClear ?_
      exact hk
    · exact hk
  · split
    · refine kept_ite ?_ ?_
      · refine kept_set _ _ ?_
        exact hk
      · exact hk
    · exact hk

theorem kept_windowsWritten {t : State} (w : HostWrite) (a : Nat) (hk : Kept s0 t) : Kept s0 (State.windowsWritten t w a) := by
  unfold State.windowsWritten
  extract_lets +onlyGivenNames x1
  split
  · refine kept_restartWindows _ _ ?_
    exact hk
  · refine kept_restartWindows _ _ ?_
    exact hk
  · refine kept_restartWindows _ _ ?_
    exact hk
  · exact hk

theorem kept_effectLoop (s : State) {t : State} (w : HostWrite) (a : Nat) (hk : Kept s0 t) : Kept s0 (State.effectLoop s t w a) := by
  unfold State.effectLoop
  split
  · refine kept_windowsWritten _ _ ?_
    exact hk
  · split
    · refine kept_ite ?_ ?_
      · refine kept_requestNamed _ ?_
        exact hk
      · exact hk
    · exact hk
  · split
    · refine kept_padjHost _ ?_
      exact hk
    · exact hk
  · refine kept_ite ?_ ?_
    · refine kept_foldl ?_ (fun t1 at1 ht1 => ?_) _
      · exact hk
      · refine kept_askClear _ ?_
        exact ht1
    · exact hk
  · refine kept_ite ?_ ?_
    · refine kept_hitOutput _ _ _ ?_
      exact hk
    · refine kept_ite ?_ ?_
      · refine kept_evalOutputs ?_
        exact hk
      · exact hk

theorem kept_effectNet {t : State} (w : HostWrite) (a : Nat) (dur : Option Nat) (hk : Kept s0 t) : Kept s0 (State.effectNet t w a dur) := by
  unfold State.effectNet
  extract_lets +onlyGivenNames x1
  split
  · refine kept_floodTx _ ?_
    exact hk
  · extract_lets +onlyGivenNames x2
    extract_lets +onlyGivenNames x3
    have hx3 : Kept s0 x3 := by
      unfold x3
      refine kept_mk ?_ rfl rfl rfl rfl ⟨rfl, rfl, rfl⟩
      exact hk
    clear_value x3
    refine kept_ite ?_ ?_
    · exact hk
    · split
      · refine kept_tnsGo _ ?_
        exact hx3
      · refine kept_took ?_
        refine kept_tnsGo _ ?_
        exact hx3
  · refine kept_tnsCancel _ ?_
    exact hk
  · extract_lets +onlyGivenNames x4
    refine kept_ite ?_ ?_
    · refine kept_mk ?_ rfl rfl rfl rfl ⟨rfl, rfl, rfl⟩
      exact hk
    · exact hk

theorem kept_effectTme (s : State) {t : State} (w : HostWrite) (a : Nat) (hk : Kept s0 t) : Kept s0 (State.effectTme s t w a) := by
  unfold State.effectTme
  refine kept_ite ?_ ?_
  · refine kept_evtStart _ ?_
    exact hk
  · split
    · refine kept_radjAsk _ _ _ ?_
      exact hk
    · refine kept_ite ?_ ?_
      · refine kept_utcCommit _ ?_
        exact hk
      · exact hk
    · exact hk

theorem kept_writeEffect [LooseRst s0] (s : State) {t : State} (w : HostWrite) (a : Nat) (dur : Option Nat) (hk : Kept s0 t) : Kept s0 (State.writeEffect s t w a dur) := by
  unfold State.writeEffect
  extract_lets +onlyGivenNames x1
  refine kept_ite ?_ ?_
  · refine kept_ite ?_ ?_
    · refine kept_captureClear _ ?_
      exact hk
    · exact hk
  · refine kept_ite ?_ ?_
    · refine kept_effectSys _ _ _ ?_
      exact hk
    · refine kept_ite ?_ ?_
      · refine kept_effectLoop _ _ _ ?_
        exact hk
      · refine kept_ite ?_ ?_
        · refine kept_effectTme _ _ _ ?_
          exact hk
        · refine kept_ite ?_ ?_
          · refine kept_effectNet _ _ _ ?_
            exact hk
          · exact hk

theorem kept_wonceWrite {s : State} (w : HostWrite) (a : Nat) (hk : Kept s0 s) : Kept s0 (State.wonceWrite s w a) := by
  unfold State.wonceWrite
  extract_lets +onlyGivenNames x1
  extract_lets +onlyGivenNames x2
  have hx2 : Kept s0 x2 := by
    unfold x2
    refine kept_set _ _ ?_
    exact hk
  clear_value x2
  refine kept_ite ?_ ?_
  · refine kept_ite ?_ ?_
    · exact hk
    · refine kept_ite ?_ ?_
      · refine kept_violation _ ?_
        exact hk
      · refine kept_oscSelected ?_
        refine kept_mk ?_ rfl rfl rfl rfl ⟨rfl, rfl, rfl⟩
        exact hx2
  · split
    · exact hk
    · extract_lets +onlyGivenNames x3
      have hx3 : Kept s0 x3 := by
        unfold x3
        refine kept_set _ _ ?_
        exact hk
      clear_value x3
      refine kept_ite ?_ ?_
      · exact hk
      · refine kept_ite ?_ ?_
        · refine kept_stepReject _ ?_
          refine kept_violation _ ?_
          exact hk
        · refine kept_ite ?_ ?_
          · refine kept_stepGo _ ?_
            exact hk
          · refine kept_stepGo _ ?_
            refine kept_mk ?_ rfl rfl rfl rfl ⟨rfl, rfl, rfl⟩
            exact hx3

theorem kept_obsPut {s : State} (k : Nat) (hi : Bool) (w : HostWrite) (hk : Kept s0 s) : Kept s0 (State.obsPut s k hi w) := by
  unfold State.obsPut
  extract_lets +onlyGivenNames x1
  extract_lets +onlyGivenNames x2
  extract_lets +onlyGivenNames x3
  refine kept_mk ?_ rfl rfl rfl rfl ⟨rfl, rfl, rfl⟩
  exact hk

theorem kept_registerPut [LooseTick s0] [LooseRst s0] {s : State} (w : HostWrite) (a : Nat) (ds : List FieldD) (dur : Option Nat) (hk : Kept s0 s) : Kept s0 (State.registerPut s w a ds dur) := by
  unfold State.registerPut
  extract_lets +onlyGivenNames x1
  have hx1 : Kept s0 x1 := by
    unfold x1
    refine kept_writeFields _ _ _ ?_
    exact hk
  clear_value x1
  refine kept_ite ?_ ?_
  · refine kept_misusedIf _ ?_
    refine kept_wonceWrite _ _ ?_
    exact hk
  · refine kept_ite ?_ ?_
    · refine kept_obsPut _ _ _ ?_
      exact hk
    · refine kept_misusedIf _ ?_
      refine kept_writeEffect _ _ _ _ ?_
      exact hx1

theorem kept_registerWrite [LooseTick s0] [LooseRst s0] {s : State} (w : HostWrite) (a : Nat) (dur : Option Nat) (hk : Kept s0 s) : Kept s0 (State.registerWrite s w a dur) := by
  unfold State.registerWrite
  split
  · exact hk
  · extract_lets +onlyGivenNames x1
    extract_lets +onlyGivenNames x2
    extract_lets +onlyGivenNames x3
    extract_lets +onlyGivenNames x4
    have hx4 : Kept s0 x4 := by
      unfold x4
      refine kept_ite ?_ ?_
      · refine kept_privIgnored ?_
        exact hk
      · exact hk
    clear_value x4
    refine kept_ite ?_ ?_
    · refine kept_accessError _ _ _ ?_
      exact hk
    · refine kept_ite ?_ ?_
      · refine kept_ite ?_ ?_
        · exact hx4
        · refine kept_violation _ ?_
          exact hx4
      · split
        · refine kept_indDataWrite _ _ _ ?_
          exact hk
        · refine kept_indAddrWrite _ _ _ ?_
          exact hk
        · refine kept_ite ?_ ?_
          · exact hx4
          · refine kept_registerPut _ _ _ _ ?_
            exact hx4

theorem kept_windowPut [LooseTick s0] [LooseRst s0] {s : State} {o : Nat} (w : HostWrite) (ho : o + 4 ≤ 2 ^ 20) (hk : Kept s0 s) : Kept s0 (State.windowPut s o w) := by
  unfold State.windowPut
  dsimp only
  exact kept_misusedIf _ (kept_putWin _ ho hk)

theorem kept_hostWriteFor [LooseTick s0] [LooseRst s0] {s : State} (w : HostWrite) (addr : Nat) (dur : Option Nat) (hk : Kept s0 s) : Kept s0 (State.hostWriteFor s w addr dur) := by
  unfold State.hostWriteFor
  have h1 : Kept s0 s.countAccess := kept_countAccess hk
  generalize s.countAccess = s1 at h1 ⊢
  dsimp only
  split
  · exact h1
  · split
    · refine kept_ite (kept_windowPut _ ?_ h1) (kept_privIgnored h1)
      omega
    · exact kept_registerWrite _ _ _ h1

theorem kept_hostWrite [LooseTick s0] [LooseRst s0] {s : State} (w : HostWrite) (addr : Nat) (hk : Kept s0 s) : Kept s0 (State.hostWrite s w addr) := by
  unfold State.hostWrite
  refine kept_hostWriteFor _ _ _ ?_
  exact hk

theorem kept_plainWrite [LooseTick s0] [LooseRst s0] {s : State} (w : HostWrite) (addr : Nat) (lost : Bool) (hk : Kept s0 s) : Kept s0 (State.plainWrite s w addr lost) := by
  unfold State.plainWrite
  refine kept_raiseIf _ _ ?_
  refine kept_hostWrite _ _ ?_
  exact hk

theorem kept_counterWrite [LooseTick s0] [LooseRst s0] {s : State} (k : Nat) (hi : Bool) (inc : Nat) (w : HostWrite) (hk : Kept s0 s) : Kept s0 (State.counterWrite s k hi inc w) := by
  unfold State.counterWrite
  extract_lets +onlyGivenNames x1
  extract_lets +onlyGivenNames x2
  extract_lets +onlyGivenNames x3
  have hx3 : Kept s0 x3 := by
    unfold x3
    refine kept_hostWrite _ _ ?_
    exact hk
  clear_value x3
  refine kept_ite ?_ ?_
  · exact hx3
  · refine kept_ite ?_ ?_
    · refine kept_raiseAll _ ?_
      exact hx3
    · refine kept_obsAdd _ _ ?_
      exact hx3

theorem kept_writeWords [LooseTick s0] [LooseRst s0] (m : Master) (step : Nat) {s : State} (a : Nat) (l : List Word) (hk : Kept s0 s) : Kept s0 (State.writeWords m step s a l) := by
  induction l generalizing s a with
  | nil => exact hk
  | cons v r ih => exact ih _ (kept_hostWrite _ _ hk)

theorem kept_answer {s : State} (v : Nat) (hk : Kept s0 s) : Kept s0 (State.answer s v) := by
  unfold State.answer
  extract_lets +onlyGivenNames x1
  refine kept_mk ?_ rfl rfl rfl rfl ⟨rfl, rfl, rfl⟩
  exact hk

theorem kept_answerStatus {s : State} (b : Nat) (hk : Kept s0 s) : Kept s0 (State.answerStatus s b) := by
  unfold State.answerStatus
  extract_lets +onlyGivenNames x1
  refine kept_mk ?_ rfl rfl rfl rfl ⟨rfl, rfl, rfl⟩
  exact hk

theorem kept_readWords [LooseTick s0] [LooseRst s0] (m : Master) (step : Nat) (n : Nat) {s : State} (a : Nat) (hk : Kept s0 s) : Kept s0 (State.readWords m step n s a) := by
  induction n generalizing s a with
  | zero => exact hk
  | succ n ih =>
    have hr := kept_hostRead m a beAll hk
    exact ih _ (kept_answer _ (kept_ite (kept_answerStatus _ hr) hr))

theorem kept_pcieReads [LooseTick s0] [LooseRst s0] (m : Master) (bar2 : Bool) (addr : BitVec 22) (first : Fin 16) (last : Fin 16) (n : Nat) (l : List Nat) {s : State} (hk : Kept s0 s) : Kept s0 (State.pcieReads m bar2 addr first last n l s) := by
  induction l generalizing s with
  | nil => exact hk
  | cons i r ih => exact ih (kept_answer _ (kept_hostRead _ _ _ hk))

theorem kept_pcieWrites [LooseTick s0] [LooseRst s0] (m : Master) (bar2 : Bool) (addr : BitVec 22) (first : Fin 16) (last : Fin 16) (n : Nat) (l : List (Word × Nat)) {s : State} (hk : Kept s0 s) : Kept s0 (State.pcieWrites m bar2 addr first last n l s) := by
  induction l generalizing s with
  | nil => exact hk
  | cons x r ih => exact ih (kept_hostWrite _ _ hk)

theorem kept_unsupported {s : State} (hk : Kept s0 s) : Kept s0 (State.unsupported s) := by
  unfold State.unsupported
  extract_lets +onlyGivenNames x1
  refine kept_mk ?_ rfl rfl rfl rfl ⟨rfl, rfl, rfl⟩
  exact hk

theorem kept_pcieRequest [LooseTick s0] [LooseRst s0] {s : State} (q : PcieReq) (hk : Kept s0 s) : Kept s0 (State.pcieRequest s q) := by
  unfold State.pcieRequest
  refine kept_ite ?_ ?_
  · exact hk
  · split
    · refine kept_ite ?_ ?_
      · refine kept_unsupported ?_
        exact hk
      · refine kept_pcieReads _ _ _ _ _ _ _ ?_
        exact hk
    · refine kept_ite ?_ ?_
      · refine kept_unsupported ?_
        exact hk
      · refine kept_pcieWrites _ _ _ _ _ _ _ ?_
        exact hk
    · extract_lets +onlyGivenNames x1
      extract_lets +onlyGivenNames x2
      extract_lets +onlyGivenNames x3
      have hx3 : Kept s0 x3 := by
        unfold x3
        refine kept_mk ?_ rfl rfl rfl rfl ⟨rfl, rfl, rfl⟩
        exact hk
      clear_value x3
      extract_lets +onlyGivenNames x4
      refine kept_ite ?_ ?_
      · refine kept_mk ?_ rfl rfl rfl rfl ⟨rfl, rfl, rfl⟩
        exact hx3
      · exact hx3

theorem kept_evtEdge {s : State} (i : Nat) (t : Nat) (rise : Bool) (hold : Nat) (hk : Kept s0 s) : Kept s0 (State.evtEdge s i t rise hold) := by
  unfold State.evtEdge
  extract_lets +onlyGivenNames x1
  refine kept_ite ?_ ?_
  · exact hk
  · refine kept_ite ?_ ?_
    · refine kept_setRef _ _ ?_
      exact hk
    · refine kept_ite ?_ ?_
      · refine kept_setRef _ _ ?_
        exact hk
      · refine kept_ite ?_ ?_
        · exact hk
        · split
          · refine kept_vrnEdge _ _ _ ?_
            exact hk
          · exact hk

theorem kept_sourceEdge {s : State} (n : Nat) (t : Nat) (rise : Bool) (hold : Nat) (hk : Kept s0 s) : Kept s0 (State.sourceEdge s n t rise hold) := by
  unfold State.sourceEdge
  refine kept_ite ?_ ?_
  · refine kept_refEdge _ _ _ _ ?_
    exact hk
  · refine kept_ite ?_ ?_
    · refine kept_evtEdge _ _ _ _ ?_
      exact hk
    · refine kept_ite ?_ ?_
      · refine kept_ite ?_ ?_
        · split
          · refine kept_tdlEdge _ _ ?_
            exact hk
          · exact hk
        · exact hk
      · refine kept_ite ?_ ?_
        · refine kept_vrnEdge _ _ _ ?_
          exact hk
        · exact hk

theorem kept_deliver {s : State} (r : Rec) (hk : Kept s0 s) : Kept s0 (State.deliver s r) := by
  unfold State.deliver
  split
  · refine kept_mk ?_ rfl rfl rfl rfl ⟨rfl, rfl, rfl⟩
    exact hk
  · refine kept_ite ?_ ?_
    · exact hk
    · refine kept_mk ?_ rfl rfl rfl rfl ⟨rfl, rfl, rfl⟩
      exact hk
  · refine kept_feedback _ ?_
    exact hk
  · refine kept_slotStamps _ ?_
    refine kept_ite ?_ ?_
    · exact hk
    · refine kept_toSlot _ ?_
      exact hk

theorem kept_recordDelivery {s : State} (hk : Kept s0 s) : Kept s0 (State.recordDelivery s) := by
  unfold State.recordDelivery
  split
  · exact hk
  · extract_lets +onlyGivenNames x1
    have hx1 : Kept s0 x1 := by
      unfold x1
      refine kept_mk ?_ rfl rfl rfl rfl ⟨rfl, rfl, rfl⟩
      exact hk
    clear_value x1
    refine kept_deliver _ ?_
    refine kept_ite ?_ ?_
    · refine kept_post _ _ ?_
      exact hx1
    · exact hx1

theorem kept_lpeJob {s : State} {f : State → State} (hf : ∀ s, Kept s0 s → Kept s0 (f s)) (hk : Kept s0 s) : Kept s0 (State.lpeJob s f) := by
  unfold State.lpeJob
  refine kept_ite ?_ ?_
  · exact hk
  · refine hf _ ?_
    exact hk

theorem kept_qulJob {s : State} {f : State → State} (hf : ∀ s, Kept s0 s → Kept s0 (f s)) (hk : Kept s0 s) : Kept s0 (State.qulJob s f) := by
  unfold State.qulJob
  refine kept_lpeJob (fun t1 ht1 => ?_) ?_
  · refine kept_ite ?_ ?_
    · exact ht1
    · refine hf _ ?_
      exact ht1
  · exact hk

theorem kept_sampleRecordJob {s : State} (_target : Nat) (hk : Kept s0 s) : Kept s0 (State.sampleRecordJob s _target) := by
  unfold State.sampleRecordJob
  exact hk

theorem getBytes_length (t : Tab Byte) (a n : Nat) : (getBytes t a n).length = n := by
  induction n generalizing a with
  | zero => rfl
  | succ n ih => simp [getBytes, ih]

/-- An item without a status lies inside the configuration SRAM. -/
theorem imageStatus_fits {s : State} {d : Desc} (h : s.imageStatus d = 0) : d.sramOfs + (s.itemBytes d).length ≤ 2 ^ 21 := by
  unfold State.itemBytes
  rw [getBytes_length]
  unfold State.imageStatus at h
  dsimp only at h
  cases ho : (d.sramOfs % 4 != 0 || decide (2097152 ≤ d.sramOfs)) <;> rw [ho] at h
  · by_cases hb : 2097152 < d.sramOfs + d.len
    · simp [firstStatus, hb] at h
    · omega
  · cases h1 : (d.len % 4 != 0) <;> cases h2 : d.badBuf <;> cases h3 : s.sramBlocked <;> rw [h1, h2, h3] at h <;> simp [firstStatus] at h

theorem kept_imageItem {s : State} (hk : Kept s0 s) : Kept s0 (State.imageItem s) := by
  unfold State.imageItem
  split
  · exact hk
  · rename_i d _
    have h1 : Kept s0 (if s.imageStatus d = 0 then s.sramPut d.sramOfs (s.itemBytes d) else s) := by
      split
      · rename_i h0
        exact kept_sramPut (imageStatus_fits h0) hk
      · exact hk
    exact kept_completeItem _ _ _ (kept_raiseIf _ _ h1)

theorem kept_hostItem {s : State} (at_ : Option PcsTime) (hk : Kept s0 s) : Kept s0 (State.hostItem s at_) := by
  unfold State.hostItem
  split
  · refine kept_hostFrameTx _ ?_
    exact hk
  · refine kept_imageItem ?_
    exact hk

theorem kept_announce {s : State} (tx : Bool) (e : Nat) (hk : Kept s0 s) : Kept s0 (State.announce s tx e) := by
  unfold State.announce
  extract_lets +onlyGivenNames x1
  refine kept_ite ?_ ?_
  · exact hk
  · refine kept_ite ?_ ?_
    · refine kept_releaseTx _ ?_
      exact hk
    · refine kept_releaseHeld _ ?_
      exact hk

theorem kept_portChange {s : State} (p : Nat) (pcs : Bool) (an : Bool) (hk : Kept s0 s) : Kept s0 (State.portChange s p pcs an) := by
  unfold State.portChange
  extract_lets +onlyGivenNames x1
  refine kept_linkChange _ _ _ ?_
  refine kept_ite ?_ ?_
  · refine kept_serdesRestart _ ?_
    exact hk
  · exact hk

theorem kept_spiUnknown {s : State} (hk : Kept s0 s) : Kept s0 (State.spiUnknown s) := by
  unfold State.spiUnknown
  refine kept_ite ?_ ?_
  · refine kept_took ?_
    refine kept_accessError _ _ _ ?_
    exact hk
  · exact hk

theorem kept_spiLast {s : State} (hk : Kept s0 s) : Kept s0 (State.spiLast s) := by
  unfold State.spiLast
  refine kept_answer _ ?_
  refine kept_answerStatus _ ?_
  exact hk

theorem kept_indirectDone {s : State} (b : Nat) (hk : Kept s0 s) : Kept s0 (State.indirectDone s b) := by
  unfold State.indirectDone
  extract_lets +onlyGivenNames x1
  refine kept_mk ?_ rfl rfl rfl rfl ⟨rfl, rfl, rfl⟩
  exact hk

theorem kept_sessionValid [LooseTick s0] [LooseRst s0] {s : State} (n : Nat) (on : Bool) (hk : Kept s0 s) : Kept s0 (State.sessionValid s n on) := by
  unfold State.sessionValid
  extract_lets +onlyGivenNames x1
  refine kept_indirectPut _ _ _ ?_
  exact hk

theorem kept_readBack [LooseTick s0] [LooseRst s0] {s : State} (m : Master) (a : Nat) (hk : Kept s0 s) : Kept s0 (State.readBack s m a) := by
  unfold State.readBack
  extract_lets +onlyGivenNames x1
  have hx1 : KeptP s0 x1 := by
    unfold x1
    refine kept_hostRead _ _ _ ?_
    exact hk
  clear_value x1
  refine kept_answer _ ?_
  show KeptP s0 _
  exact hx1

theorem kept_spiWrite [LooseTick s0] [LooseRst s0] {s : State} (fixed : Bool) (addr : Nat) (ws : List Word) (cut : Bool) (hk : Kept s0 s) : Kept s0 (State.spiWrite s fixed addr ws cut) := by
  unfold State.spiWrite
  extract_lets +onlyGivenNames x1
  extract_lets +onlyGivenNames x2
  have hx2 : Kept s0 x2 := by
    unfold x2
    refine kept_writeWords _ _ _ _ ?_
    exact hk
  clear_value x2
  refine kept_ite ?_ ?_
  · refine kept_accessError _ _ _ ?_
    exact hx2
  · exact hx2

theorem kept_i2cWrite [LooseTick s0] [LooseRst s0] {s : State} (dev : Nat) (l : List Byte) (hk : Kept s0 s) : Kept s0 (State.i2cWrite s dev l) := by
  unfold State.i2cWrite
  extract_lets +onlyGivenNames x1
  extract_lets +onlyGivenNames x2
  extract_lets +onlyGivenNames x3
  have hx3 : Kept s0 x3 := by
    unfold x3
    refine kept_writeWords _ _ _ _ ?_
    exact hk
  clear_value x3
  refine kept_ite ?_ ?_
  · exact hk
  · refine kept_ite ?_ ?_
    · exact hx3
    · refine kept_accessError _ _ _ ?_
      exact hx3

theorem kept_i2cRead [LooseTick s0] [LooseRst s0] {s : State} (dev : Nat) (l : List Byte) (n : Nat) (hk : Kept s0 s) : Kept s0 (State.i2cRead s dev l n) := by
  unfold State.i2cRead
  refine kept_ite ?_ ?_
  · exact hk
  · refine kept_readWords _ _ _ _ ?_
    exact hk

theorem kept_squelchSeen {s : State} (hk : Kept s0 s) : Kept s0 (State.squelchSeen s) := by
  unfold State.squelchSeen
  refine kept_ite ?_ ?_
  · refine kept_evalOutputs ?_
    exact hk
  · exact hk

theorem kept_idle [LooseTime s0] {s : State} (hk : Kept s0 s) : Kept s0 (State.idle s) := by
  exact kept_ite (kept_squelchSeen (kept_advance _ hk)) (kept_mk hk rfl rfl rfl rfl ⟨rfl, rfl, rfl⟩)

end Sys2Proof.Machine
end

