-- ==== Sys2Proof/Laws/Misuse.lean ====
section
/-! SUPPORT. What undefined behaviour leaves as it is (R12, log entry 57). -/
namespace Sys2Proof.Machine
open Sys2Proof

/-- A kept register keeps its value among free ones. -/
theorem regGet_regsFree (t l : Tab Nat) {k : Nat} (h : keptKey k = true) : regGet (regsFree t l) k = regGet t k := by
  unfold regsFree
  have hk : regGet (t.filter (fun e => keptKey e.1)) k = regGet t k := tabGet_filter _ _ _ _ (fun e _ he => by rw [he]; exact h)
  rw [← hk]
  have hl : ∀ e ∈ l.filter (fun e => !keptKey e.1), k ≠ e.1 := fun e he he' => by
    have := (List.mem_filter.mp he).2
    rw [← he', h] at this
    cases this
  generalize t.filter (fun e => keptKey e.1) = u
  generalize l.filter (fun e => !keptKey e.1) = m at hl
  induction m generalizing u with
  | nil => rfl
  | cons e r ih =>
    rw [List.foldl_cons, ih _ (fun x hx => hl x (List.mem_cons_of_mem _ hx))]
    split
    · exact regGet_regPut_other _ _ (hl e List.mem_cons_self)
    · rfl

/-- A kept field reads as before. -/
theorem misused_get (s : State) {f : Fld} (h : keptKey f.key = true) : s.misused.get f = s.get f := by
  unfold State.get
  split
  · exact regGet_regsFree _ _ h
  · exact regGet_regsFree _ _ h

/-- The privilege checks stand. -/
theorem misused_privileged (s : State) (m : Master) : s.misused.privileged m = s.privileged m := by
  cases m with
  | spi => simp only [State.privileged, State.bit, misused_get s (f := SYS_STRAP_SPI_SEC) (by decide +kernel)]
  | _ => rfl

/-- What R12 keeps, all of it. -/
theorem misused_bounded (s : State) : s.bounded s.misused := ⟨rfl, rfl, rfl, misused_privileged s, rfl, rfl⟩

theorem misusedIf_bounded (s : State) (bad : Bool) : s.bounded (s.misusedIf bad) := by
  unfold State.misusedIf
  split
  · exact misused_bounded s
  · exact ⟨rfl, rfl, rfl, fun _ => rfl, rfl, rfl⟩

end Sys2Proof.Machine
end

