-- ==== Sys2Proof/Laws/Write.lean ====
section
/-!
SUPPORT. A host write that is accepted: what it makes of the state, and what its fields hold after it.
-/
namespace Sys2Proof.Machine
open Sys2Proof

theorem misuse_wonce {s t : State} {w : HostWrite} {a : Nat} (h : s.accepts w a = true) (hw : isWonce a = true)
    (he : t = s.begin.countAccess) : t.misuse t w a = false := by
  subst he
  unfold State.accepts at h
  dsimp only at h
  split at h
  · simp at h
  · simp only [hw, if_true, Bool.and_eq_true, Bool.not_eq_true'] at h
    exact h.2.2

/-- A host write that is accepted goes on: a WONCE register takes its one write; another stores the fields it hits, with what
that sets going. -/
theorem hostWriteFor_ok {s : State} {w : HostWrite} {a : Nat} {r : RegD} (dur : Option Nat) (h : s.accepts w a = true)
    (ha : a % 4 = 0) (hp : pairOf a = none) (hr : findReg allRegs a = some r) (hw : a < 0x200000) (ho : ¬ (0x41000 ≤ a ∧ a < 0x41300)) :
    s.begin.hostWriteFor w a dur = (
      if isWonce a then s.begin.countAccess.wonceWrite w a
      else s.begin.countAccess.writeEffect
        (s.begin.countAccess.writeFields w a (r.fields.filter (fun d => d.acc != .ro && w.hits ⟨a, d.lo, d.len⟩))) w a dur) := by
  have hm := fun e => misuse_wonce h e rfl
  unfold State.accepts at h
  simp only [hr, Bool.and_eq_true, Bool.not_eq_true', Bool.or_eq_true] at h
  obtain ⟨⟨h1, h2⟩, ⟨⟨h3, h4⟩, h5⟩, h6⟩ := h
  have e4 : a / 4 * 4 = a := by omega
  unfold State.hostWriteFor
  dsimp only
  rw [e4]
  generalize s.begin.countAccess = u at *
  rw [if_neg (by simp [h1]), if_neg (by omega)]
  unfold State.registerWrite
  simp only [hp, hr]
  rw [if_neg (by simp only [Bool.and_eq_true, Bool.not_eq_true', not_and, Bool.not_eq_false]; intro hx; rcases h3 with h3 | h3 <;> simp_all)]
  simp only [h2, Bool.false_or, Bool.false_eq_true, if_false]
  generalize hh : r.fields.filter (fun d => d.acc != .ro && w.hits ⟨a, d.lo, d.len⟩) = hit at *
  have hmay : (if u.privileged w.m = true then hit else hit.filter (fun d => !d.priv)) = hit := by
    split
    · rfl
    · rename_i hn
      rcases h5 with h5 | h5
      · exact absurd h5 hn
      · rw [List.filter_eq_self]
        simpa using h5
  simp only [hmay, Nat.lt_irrefl, if_false, h4, Bool.false_eq_true]
  unfold State.registerPut
  by_cases hwo : isWonce a = true
  · rw [if_pos hwo, if_pos hwo, hm hwo]; rfl
  · rw [if_neg hwo, if_neg hwo, if_neg ho]
    rw [if_neg hwo] at h6
    dsimp only
    rw [h6]; rfl

/-! ## What the fields hold after a write -/

/-- The field a descriptor names in the register at `a`. -/
def FieldD.at (d : FieldD) (a : Nat) : Fld := ⟨a, d.lo, d.len⟩

theorem writeField_get_other (s : State) (w : HostWrite) (a : Nat) (d : FieldD) {g : Fld} (h : g.key ≠ (d.at a).key) :
    (s.writeField w a d).get g = s.get g := by
  unfold State.writeField
  dsimp only
  split
  · split
    · exact get_set_other _ _ h
    · exact get_set_other _ _ h
  · split
    · rfl
    · exact get_set_other _ _ h
  · exact get_set_other _ _ h
  · rfl

theorem writeField_pget_other (s : State) (w : HostWrite) (a : Nat) (d : FieldD) {g : Fld} (h : g.key ≠ (d.at a).key) :
    (s.writeField w a d).pget g = s.pget g := by
  unfold State.writeField
  dsimp only
  split
  · split
    · exact pget_set_other _ _ h
    · exact pget_set_other _ _ h
  · split
    · rfl
    · exact pget_set_other _ _ h
  · exact pget_set_other _ _ h
  · rfl

/-- The fold of `writeFields` from an accumulator. -/
theorem writeFields_fold_get (s t : State) (w : HostWrite) (a : Nat) (ds : List FieldD) {g : Fld} (h : ∀ d ∈ ds, g.key ≠ (d.at a).key) :
    (ds.foldl (fun t d => if w.hits ⟨a, d.lo, d.len⟩ && !s.heldField ⟨a, d.lo, d.len⟩ then t.writeField w a d else t) t).get g = t.get g ∧
    (ds.foldl (fun t d => if w.hits ⟨a, d.lo, d.len⟩ && !s.heldField ⟨a, d.lo, d.len⟩ then t.writeField w a d else t) t).pget g = t.pget g := by
  induction ds generalizing t with
  | nil => exact ⟨rfl, rfl⟩
  | cons d r ih =>
    rw [List.foldl_cons]
    obtain ⟨h1, h2⟩ := ih (if w.hits ⟨a, d.lo, d.len⟩ && !s.heldField ⟨a, d.lo, d.len⟩ then t.writeField w a d else t) (fun e he => h e (by simp [he]))
    rw [h1, h2]
    split
    · exact ⟨writeField_get_other _ _ _ _ (h d (by simp)), writeField_pget_other _ _ _ _ (h d (by simp))⟩
    · exact ⟨rfl, rfl⟩

/-- A field no written descriptor names keeps its value in both banks. -/
theorem writeFields_get_other (s : State) (w : HostWrite) (a : Nat) (ds : List FieldD) {g : Fld} (h : ∀ d ∈ ds, g.key ≠ (d.at a).key) :
    (s.writeFields w a ds).get g = s.get g ∧ (s.writeFields w a ds).pget g = s.pget g := writeFields_fold_get s s w a ds h

theorem writeField_get_rw (s : State) (w : HostWrite) (a : Nat) (d : FieldD) (hw : d.acc = .rw) :
    (s.writeField w a d).get (d.at a) = mergeField w.be w.v d.lo d.len (s.get (d.at a)) % 2 ^ d.len := by
  unfold State.writeField
  dsimp only
  rw [hw]
  dsimp only
  split
  · exact get_set_same s (d.at a) _
  · exact get_set_same s (d.at a) _

/-- A written RW field of the list is merged as if alone: fields of one register begin at different bits. -/
theorem writeFields_get_rw (s : State) (w : HostWrite) (a : Nat) {ds : List FieldD} {d : FieldD} (hd : d ∈ ds)
    (hp : ds.Pairwise (fun x y => x.lo ≠ y.lo)) (hl : ∀ e ∈ ds, e.lo < 32)
    (hv : w.hits (d.at a) = true) (hh : s.heldField (d.at a) = false) (hw : d.acc = .rw) :
    (s.writeFields w a ds).get (d.at a) = mergeField w.be w.v d.lo d.len (s.get (d.at a)) % 2 ^ d.len := by
  have key {x y : FieldD} (hx : x.lo < 32) (hy : y.lo < 32) (h : x.lo ≠ y.lo) : (x.at a).key ≠ (y.at a).key := by
    unfold FieldD.at Fld.key; dsimp only; omega
  unfold State.writeFields
  suffices H : ∀ t : State, (ds.foldl (fun t d => if w.hits ⟨a, d.lo, d.len⟩ && !s.heldField ⟨a, d.lo, d.len⟩ then t.writeField w a d else t) t).get
      (d.at a) = mergeField w.be w.v d.lo d.len (t.get (d.at a)) % 2 ^ d.len from H s
  induction ds with
  | nil => cases hd
  | cons e r ih =>
    intro t
    rw [List.pairwise_cons] at hp
    rw [List.foldl_cons]
    rcases List.mem_cons.mp hd with rfl | hm
    · rw [(writeFields_fold_get s _ w a r (fun x hx => key (hl _ (by simp)) (hl x (by simp [hx])) (hp.1 x hx))).1]
      have : (w.hits ⟨a, d.lo, d.len⟩ && !s.heldField ⟨a, d.lo, d.len⟩) = true := by
        unfold FieldD.at at hv hh; simp [hv, hh]
      rw [if_pos this]
      exact writeField_get_rw t w a d hw
    · rw [ih hm hp.2 (fun x hx => hl x (by simp [hx]))]
      have hne := key (hl d hd) (hl e (by simp)) (fun h => hp.1 d hm h.symm)
      split
      · rw [writeField_get_other t w a e hne]
      · rfl

end Sys2Proof.Machine
end

