-- ==== Sys2Proof/WellFormed.lean ====
section
/-!
DEFINITION. Which commands are well formed: every operand that is a plain number or list lies within what the device can
be handed. A Fin or BitVec operand needs no check.
-/
namespace Sys2Proof
open Machine

/-- An instant in 62.5 fs units lies within the life of the unwrapped coarse counter. -/
def instantOk (t : Nat) : Bool := decide (t < 2 ^ 78)

/-- A PCS instant: its variable part is some bits of 1/64 UI. -/
def pcsOk (x : PcsTime) : Bool := instantOk x.t && decide (x.var < 2 ^ 20)

/-- Raw calibration results. -/
def calOk (c : Cal) : Bool := decide (c.m1 < 65536) && decide (c.m2 < 65536)

/-- A received PTP message. -/
def ptpInOk : PtpIn → Bool
  | .sync _ _ _ t => pcsOk t
  | .delayReq _ t => pcsOk t
  | .followUp _ _ => true
  | .delayResp _ _ _ _ => true
  | .announce _ => true
  | .signaling l => decide (l.length < 64)

/-- A PCIe request: a write carries at most 64 dwords (R374). -/
def pcieOk : PcieReq → Bool
  | .write _ _ _ d _ _ => decide (d.length ≤ 64)
  | .read _ _ _ _ _ _ => true
  | .mask _ _ => true

/-- What a tick boundary is handed: at most one end and one count of slots per schedule entry, and slots of one tick (R183). -/
def tickInOk (t : TickIn) : Bool :=
  decide (t.ends.length ≤ 512) && decide (t.used.length ≤ 512) && decide ((t.used.map (fun u => u.ind + u.subj)).sum + t.front + t.back ≤ 375000)
    && decide (t.upsets.length < 65536)

/-- A command is well formed. -/
def Instr.wf : Instr → Bool
  | .powerOnReset => true
  | .powerOnResetEnd _ _ _ => true
  | .resetNAssert => true
  | .resetNRelease _ _ _ => true
  | .oscinDetectionDone hz => decide (hz < 2 ^ 32)
  | .oscSelWrite _ => true
  | .mpllLock => true
  | .mpllLockTimeout => true
  | .oscinLoss => true
  | .oscinRestore => true
  | .perstNAssert => true
  | .sysBlockResetWrite _ => true
  | .blockResetStart _ => true
  | .blockResetRelease _ => true
  | .resetShadowEnd _ => true
  | .pdEnWrite _ => true
  | .domainRampDone _ => true
  | .domainRelease _ => true
  | .outBankSupplyChange _ mv => decide (mv < 65536)
  | .outBankClassLatch _ => true
  | .dieTempRead _ => true
  | .refBankSupplyChange _ mv => decide (mv < 65536)
  | .refBankClassLatch _ => true
  | .levelLoss _ => true
  | .levelRestore _ => true
  | .refEdge _ t _ hold => instantOk t && decide (hold < 2 ^ 64)
  | .freqWindowGate _ => true
  | .missingEdge _ => true
  | .pulseWidthTimeout _ => true
  | .tdlSampleInstant _ _ cal => calOk cal
  | .tdlRecordForm _ raw => decide (raw < 65536)
  | .vernierConversionDone _ sCoarse _ n => decide (sCoarse < 2 ^ 64) && decide (n < 65536)
  | .vernierCalibrationDone _ cal => calOk cal
  | .laneToBankTransfer _ => true
  | .recordDelivery => true
  | .tickBoundary inp => tickInOk inp
  | .qualifyJob _ => true
  | .steepTimerExpiry _ => true
  | .srecExpiry _ => true
  | .lossTimeout _ => true
  | .qulForceWrite _ _ => true
  | .qulHostDqWrite _ _ => true
  | .qulWindowWrite _ _ _ => true
  | .driftIntJob _ => true
  | .adevJob _ => true
  | .selectJob _ => true
  | .transitionComplete _ => true
  | .absorbComplete _ => true
  | .fadeComplete _ _ => true
  | .selNamedSlotWrite _ _ => true
  | .selListWrite _ _ _ => true
  | .selBiasWrite _ _ _ => true
  | .filterJob _ => true
  | .lockTimerExpiry _ => true
  | .lpePadjWrite _ _ => true
  | .holdoverPreviewJob _ => true
  | .tsRateUpdateJob _ => true
  | .packetServoJob _ => true
  | .caskJob _ => true
  | .windowExportJob _ => true
  | .counterSnapshotJob _ => true
  | .sampleRecordJob _ => true
  | .sensorRead => true
  | .sensorReadDone _ => true
  | .sensorAttemptTimeout => true
  | .sensorTimeout => true
  | .tofsLearned => true
  | .hoLimitReached _ => true
  | .caskClearWrite _ => true
  | .caskClear _ => true
  | .apllBandFound _ _ _ => true
  | .apllCalTimeout _ => true
  | .apllLockDetect _ => true
  | .apllAcqTimeout _ => true
  | .apllUnlockDetect _ => true
  | .xoLoss => true
  | .xoRestore => true
  | .xfLock => true
  | .sqCauseChange _ => true
  | .outputSquelchEntry _ _ => true
  | .outputStart _ => true
  | .sqForceWrite _ => true
  | .outGoWrite _ => true
  | .outSetWrite _ _ => true
  | .outPhaseWrite _ _ => true
  | .outTrimWrite _ _ => true
  | .alignUpdate _ => true
  | .outputPhaseStep _ => true
  | .outputGateOff _ => true
  | .outputGateOn _ => true
  | .dividerReload _ => true
  | .timeStepGoWrite _ _ => true
  | .timeStepApply _ => true
  | .rateAdjDurWrite _ _ => true
  | .rateAdjStart _ => true
  | .rateAdjDone _ => true
  | .utcCommitWrite _ _ => true
  | .utcApply _ => true
  | .leapSecond _ => true
  | .timeLatchRead _ _ => true
  | .evtStamp _ => true
  | .evtTimeout _ => true
  | .txqPopRead _ _ => true
  | .linkChange _ _ _ => true
  | .quadTxPllLoss _ => true
  | .quadTxPllRelock _ => true
  | .frameReceive _ bytes _ t m => decide (bytes.length < 65536) && instantOk t.t && decide (t.var < 2 ^ 20) && (match m with | some (_, x) => ptpInOk x | none => true)
  | .esmcPduReceive _ _ _ => true
  | .esmcTimeout _ => true
  | .esmcInfoSend _ => true
  | .esmcEventSend _ => true
  | .hostFrameTransmit t => pcsOk t
  | .sessionEnable _ => true
  | .sessionDisable _ => true
  | .syncReceive _ _ _ _ t => pcsOk t
  | .followUpReceive _ _ _ => true
  | .delayReqReceive _ _ t => pcsOk t
  | .delayRespReceive _ _ _ _ _ => true
  | .announceReceive _ _ => true
  | .signalingReceive _ l => decide (l.length < 64)
  | .exchangeTimeout _ _ _ => true
  | .announceReceiptTimeout _ => true
  | .sessionTimeout _ => true
  | .grantRenew _ _ => true
  | .grantRetry _ _ => true
  | .grantExpiry _ => true
  | .syncSend _ t => pcsOk t
  | .announceSend _ => true
  | .delayReqSend _ t => pcsOk t
  | .contextExpiry _ _ _ => true
  | .missingExchange _ => true
  | .gmholdExpiry _ => true
  | .wordSyncGain _ => true
  | .wordSyncLoss _ => true
  | .cjlFrameSlot _ => true
  | .timeFrameReceive _ frame => decide (frame.length = 64)
  | .timeFrameTimeout _ => true
  | .echoRequestSend _ t => instantOk t
  | .echoMarkerReceive _ => true
  | .echoResponseInsert _ t => instantOk t
  | .responseMarkerReceive _ => true
  | .echoRspReceive _ frame => decide (frame.length = 64)
  | .echoWaitTimeout _ => true
  | .echoRetry _ t => instantOk t
  | .echoGiveUp _ => true
  | .tlTimeout _ => true
  | .floodReceive _ frame => decide (frame.length = 64)
  | .cjlFloodTxWrite _ => true
  | .tenseFrameReceive _ frame => decide (frame.length = 64)
  | .identReceive _ frame => decide (frame.length = 64)
  | .mailSendWrite _ _ => true
  | .mailReceive _ frame => decide (frame.length = 64)
  | .tnsInsert _ _ => true
  | .tnsCancelWrite _ => true
  | .tenseFire _ => true
  | .evtPulseTrailing _ => true
  | .headerReadDone bytes => decide (bytes.length = 64)
  | .imageReadDone bytes => decide (bytes.length ≤ 2097088)
  | .imageVerifyDone => true
  | .imageApplyDone => true
  | .swapBoundary => true
  | .gldStartFull _ _ _ => true
  | .gldStartSwap _ _ _ _ => true
  | .gldAbort _ => true
  | .gldConfirmWrite _ => true
  | .arbAdvanceWrite _ => true
  | .arbProgramDone => true
  | .keyProgWrite _ => true
  | .keyRevokeWrite _ => true
  | .spiWrite _ words _ => decide (words.length < 65536)
  | .spiWriteFixed _ words _ => decide (words.length < 65536)
  | .spiRead _ n => decide (n < 65536)
  | .spiReadFixed _ n => decide (n < 65536)
  | .spiReadLast => true
  | .spiStatus => true
  | .spiUnknownCommand => true
  | .i2cWrite _ bytes => decide (bytes.length < 65536)
  | .i2cRead _ abytes n => decide (abytes.length < 65536) && decide (n < 65536)
  | .pcieRequest q => pcieOk q
  | .registerWrite _ _ _ => true
  | .lowWordLatchRead _ _ => true
  | .indAddrWrite _ _ => true
  | .indDataRead _ _ => true
  | .indDataWrite _ _ => true
  | .indirectComplete _ => true
  | .ringDoorbell _ => true
  | .ringEnableWrite _ _ => true
  | .ringItemPost _ _ bytes => decide (bytes.length < 65536)
  | .hostItemComplete t => (match t with | some x => pcsOk x | none => true)
  | .frameRxRelease _ e => decide (e < 2 ^ 64)
  | .eoiWrite _ => true
  | .gravityBucketAdvance _ => true
  | .sevClearWrite _ _ => true
  | .captureClearWrite _ _ => true
  | .escClearWrite _ => true
  | .lineInversion _ _ => true
  | .lineFault _ => true
  | .counterWrap _ inc => decide (inc < 2 ^ 48)
  | .samplerCapture _ c => decide (c.tick < 2 ^ 48) && decide (c.cycle < 2 ^ 17)
  | .obsCounterWrite _ _ inc _ => decide (inc < 2 ^ 48)
  | .obsThrWrite _ _ => true
  | .perstNRelease => true
  | .cjlTxPllLock _ => true
  | .echoReqReceive _ frame => decide (frame.length = 64)

end Sys2Proof
end

