-- ==== Sys2Proof/Tests/Slice0.lean ====
section
/-!
SUPPORT. Tests: ill-formed commands refused, the manual's worked examples and single steps, and for every statement that has hypotheses
a state and operands that meet them, clause by clause.
-/
namespace Sys2Proof.Tests
open Sys2Proof Sys2Proof.Machine
set_option Elab.async false

/-- Fields of a state, as written and in force. -/
def put (l : List (Fld × Nat)) (s : State) : State :=
  let t := l.foldl (fun s e => s.set e.1 e.2) s
  { t with inForce := t.regs }

/-- A device whose image runs: clocks up, every domain on, every supply in its class. -/
def up : State :=
  put [(SYS_OSC_BOOTCLK, 0), (SYS_OSC_OSC_OK, 1), (SYS_OSC_MPLL_LOCK, 1), (SYN_XO_STAT_XO_OK, 1), (GLD_STAT_IMG_VALID, 1), (REF_BANK_STAT_PGOOD, 15)]
    { State.reset with applied := true, target := secUnit / 8000, cfg := { ImageCfg.blank with declared := List.range 88 }
                       scales := (List.range 4).map (fun k => (k, Scale.started))
                       sys := { State.reset.sys with clocks := true, pdUp := 65535 } }

/-- That device with some fields written. -/
def u (l : List (Fld × Nat)) : State := put l up

/-- A reference slot of 10 MHz whose first missing edge is a loss. -/
def refRuns (n : Nat) : List (Fld × Nat) :=
  [(REF_CFG_EN n, 1), (REF_ACT_MISS_TOL n, 1), (REF_FREQ_LO_FREQ n, 0x96800000), (REF_FREQ_HI_FREQ n, 0x98)]

/-- A state with a channel's loop state in both banks. -/
def withChan (c : Chan) (s : State) : State := { s with ind := { s.ind with chan := [(11, c)] }, pend := { s.pend with chan := [(11, c)] } }

/-- A state with slot 87's qualification state in both banks. -/
def withSlot (q : QSlot) (s : State) : State := { s with ind := { s.ind with qul := [(87, q)] }, pend := { s.pend with qul := [(87, q)] } }

/-- A whole write by the privileged function. -/
def hw (v : Nat) : HostWrite := ⟨.pf0, 15, BitVec.ofNat 32 v⟩

/-- An ESMC frame of QL code `q`, extended code 255 (R291). -/
def esmcWith (q : Byte) : List Byte :=
  [0x01, 0x80, 0xC2, 0, 0, 2] ++ List.replicate 6 0 ++ [0x88, 0x09, 0x0A, 0, 0x19, 0xA7, 0, 1] ++ List.replicate 4 0 ++ [1, 0, 4, q, 2, 0, 20, 255]
    ++ List.replicate 28 0

/-- A good link frame of a type, of zeros. -/
def frameT (type : Nat) : List Byte :=
  let b : List Byte := BitVec.ofNat 8 (16 + type) :: List.replicate 59 0
  b ++ leBytes 4 (crc32 b)

/-- An image header of `n` bytes. -/
def headerOf (n : Nat) : List Byte :=
  (leBytes 4 0x54535247 ++ leBytes 2 0 ++ leBytes 2 1 ++ leBytes 4 n ++ List.replicate 16 0 ++ leBytes 2 1 ++ List.replicate 64 0).take 64

/-! ## Ill-formed commands -/

theorem test_wf_hz : Instr.wf (.oscinDetectionDone (2 ^ 32)) = false := by decide
theorem test_wf_supply : Instr.wf (.outBankSupplyChange 0 65536) = false := by decide
theorem test_wf_ref_supply : Instr.wf (.refBankSupplyChange 0 65536) = false := by decide
theorem test_wf_edge_time : Instr.wf (.refEdge 0 (2 ^ 78) true 0) = false := by decide
theorem test_wf_edge_hold : Instr.wf (.refEdge 0 0 true (2 ^ 64)) = false := by decide
theorem test_wf_calibration : Instr.wf (.tdlSampleInstant 0 0 ⟨65536, 0⟩) = false := by decide
theorem test_wf_calibration2 : Instr.wf (.vernierCalibrationDone 0 ⟨0, 65536⟩) = false := by decide
theorem test_wf_raw : Instr.wf (.tdlRecordForm 0 65536) = false := by decide
theorem test_wf_conversion : Instr.wf (.vernierConversionDone 0 (2 ^ 64) false 0) = false := by decide
theorem test_wf_conversion2 : Instr.wf (.vernierConversionDone 0 0 false 65536) = false := by decide
theorem test_wf_tick_slots : Instr.wf (.tickBoundary ⟨[], [], 375000, 1, none, []⟩) = false := by decide
theorem test_wf_tick_used : Instr.wf (.tickBoundary ⟨[], [⟨0, 375000, 1⟩], 0, 0, none, []⟩) = false := by decide
theorem test_wf_tick_ends : Instr.wf (.tickBoundary ⟨List.replicate 513 (0, 0), [], 0, 0, none, []⟩) = false := by simp only [Instr.wf, tickInOk, List.length_replicate, -List.reduceReplicate]; decide
theorem test_wf_tick_counts : Instr.wf (.tickBoundary ⟨[], List.replicate 513 ⟨0, 0, 0⟩, 0, 0, none, []⟩) = false := by simp only [Instr.wf, tickInOk, List.length_replicate, -List.reduceReplicate]; decide
theorem test_wf_tick_upsets : Instr.wf (.tickBoundary ⟨[], [], 0, 0, none, List.replicate 65536 (0, 0, 0)⟩) = false := by simp only [Instr.wf, tickInOk, List.length_replicate, -List.reduceReplicate]; decide
theorem test_wf_frame : Instr.wf (.frameReceive 0 (List.replicate 65536 0) true ⟨0, 0⟩ none) = false := by simp only [Instr.wf, List.length_replicate, -List.reduceReplicate]; decide
theorem test_wf_frame_time : Instr.wf (.frameReceive 0 [] true ⟨2 ^ 78, 0⟩ none) = false := by decide
theorem test_wf_frame_var : Instr.wf (.frameReceive 0 [] true ⟨0, 2 ^ 20⟩ none) = false := by decide
theorem test_wf_frame_message : Instr.wf (.frameReceive 0 [] true ⟨0, 0⟩ (some (0, .delayReq ⟨0, 0, 0, 0⟩ ⟨2 ^ 78, 0⟩))) = false := by decide
theorem test_wf_signaling : Instr.wf (.signalingReceive 0 (List.replicate 64 (.request 0 0 0))) = false := by decide
theorem test_wf_pcs_time : Instr.wf (.hostFrameTransmit ⟨0, 2 ^ 20⟩) = false := by decide
theorem test_wf_link_frame : Instr.wf (.mailReceive 0 (List.replicate 63 0)) = false := by decide
theorem test_wf_echo_time : Instr.wf (.echoRequestSend 0 (2 ^ 78)) = false := by decide
theorem test_wf_header : Instr.wf (.headerReadDone []) = false := by decide
theorem test_wf_image : Instr.wf (.imageReadDone (List.replicate 2097089 0)) = false := by simp only [Instr.wf, List.length_replicate, -List.reduceReplicate]; decide
theorem test_wf_spi_words : Instr.wf (.spiWrite 0 (List.replicate 65536 0) false) = false := by simp only [Instr.wf, List.length_replicate, -List.reduceReplicate]; decide
theorem test_wf_spi_count : Instr.wf (.spiRead 0 65536) = false := by decide
theorem test_wf_i2c_bytes : Instr.wf (.i2cWrite 0 (List.replicate 65536 0)) = false := by simp only [Instr.wf, List.length_replicate, -List.reduceReplicate]; decide
theorem test_wf_i2c_count : Instr.wf (.i2cRead 0 [] 65536) = false := by decide
theorem test_wf_pcie : Instr.wf (.pcieRequest (.write false false 0 (List.replicate 65 0) 15 15)) = false := by decide
theorem test_wf_ring_item : Instr.wf (.ringItemPost 7 0 (List.replicate 65536 0)) = false := by simp only [Instr.wf, List.length_replicate, -List.reduceReplicate]; decide
theorem test_wf_ring_stamp : Instr.wf (.hostItemComplete (some ⟨2 ^ 78, 0⟩)) = false := by decide
theorem test_wf_announcing_edge : Instr.wf (.frameRxRelease false (2 ^ 64)) = false := by decide
theorem test_wf_increment : Instr.wf (.counterWrap 0 (2 ^ 48)) = false := by decide
theorem test_wf_write_increment : Instr.wf (.obsCounterWrite 0 false (2 ^ 48) (hw 0)) = false := by decide
theorem test_wf_sample_tick : Instr.wf (.samplerCapture 0 ⟨0, 2 ^ 48, 0, 0, 0, 0, 0, false, 0, 0⟩) = false := by decide
theorem test_wf_sample_cycle : Instr.wf (.samplerCapture 0 ⟨0, 0, 2 ^ 17, 0, 0, 0, 0, false, 0, 0⟩) = false := by decide

/-! ## Arithmetic and layouts -/

/-- The check value of CRC-32 over "123456789" (R322 names IEEE 802.3). -/
theorem test_crc32 : crc32 [0x31, 0x32, 0x33, 0x34, 0x35, 0x36, 0x37, 0x38, 0x39] = 0xCBF43926 := by decide +kernel

/-- Issue-lane cycles per tick at 32 kHz (the worked example of chapter 15). -/
theorem test_cycles : ({ up with cfg := { up.cfg with tickCode := 2 } } : State).cycles = 23437 := by decide +kernel

/-- The staged entry of the worked example of chapter 12. -/
theorem test_tense_word : tnsAction [0x000B00B4] = 4 ∧ tnsScope [0x000B00B4] = 1 ∧ tnsDepth [0x000B00B4] = 5 ∧ tnsTarget [0x000B00B4] = 11 := by decide

/-- 312.5 MHz in the 32.16 format (R86). -/
theorem test_ref_freq : (u [(REF_FREQ_LO_FREQ 48, 0x5F200000), (REF_FREQ_HI_FREQ 48, 0x12A0)]).refFreq 48 = 312500000 * 65536 := by decide +kernel

/-- The first record of the worked example of chapter 3, word by word. -/
theorem test_record_words : (Rec.words { (default : Rec) with lane := 72, kind := 1, calGerr := 3, seq := 0x1F3, calOfs := -2, coarse := 20000000000, fine := 1234, edges := 1, width := 200000 }).take 6
    = [0x03014800, 0xFE0001F3, 0xA817C800, 0x04D20004, 1, 0x00030D40] := by decide +kernel

/-! ## Commands -/

/-- The answer of a command that goes on passes a test. -/
def after (c : Instr) (s : State) (p : State → Bool) : Bool := match exec c s with | .next t => p t | _ => false

theorem test_id_read : after (.spiRead 0 1) up (fun t => t.hif.resp == [0x00219648#32] && t.hif.status == [1]) = true := by decide +kernel
theorem test_status_privileged : after .spiStatus (u [(SYS_STRAP_SPI_SEC, 1)]) (fun t => t.hif.status == [3]) = true := by decide +kernel
theorem test_spi_word_cut_short : after (.spiWrite 0x40040#32 [1#32] true) (u [(SYS_STRAP_SPI_SEC, 1)]) (fun t =>
  t.get HIF_ACC_ERR_INFO_CAUSE == 5 && t.get (OBS_THR_N 0) == 1) = true := by decide +kernel
theorem test_partial_write_merges : after (.registerWrite 0x40040#32 ⟨.pf0, 1, 0xFFFF#32⟩ false) up (fun t => t.get (OBS_THR_N 0) == 0xFF) = true := by decide +kernel
theorem test_partial_write_dropped : after (.registerWrite 0x18#32 ⟨.pf0, 1, 1#32⟩ false) up (fun t =>
  t.get HIF_ACC_ERR_INFO_CAUSE == 1 && t.get HIF_ACC_ERR_ADDR_ADDR == 0x18) = true := by decide +kernel
theorem test_unprivileged_write : after (.registerWrite 0x40040#32 ⟨.pf1, 15, 1#32⟩ false) up (fun t =>
  t.get (OBS_THR_N 0) == up.get (OBS_THR_N 0) && t.get HIF_CNT_PRIV_CNT == 1) = true := by decide +kernel
theorem test_boot_clock_hides : after (.spiRead 0x40040#32 1) State.reset (fun t => t.hif.resp == [0#32]) = true := by decide +kernel
theorem test_block_reset_write : after (.sysBlockResetWrite (hw 0x20)) up (fun t =>
  t.get SYS_BRST_CNT_BRST_CNT == 1 && t.bit SYS_STICKY_BRST_S && t.flt.hostReq == [5]) = true := by decide +kernel
theorem test_detection : after (.oscinDetectionDone 10152000) State.reset (fun t => t.get SYS_OSC_OSC_CODE == 0 && t.bit SYS_OSC_OSC_OK) = true := by decide +kernel
theorem test_detection_fails : after (.oscinDetectionDone 10153000) State.reset (fun t => t.bit SYS_OSC_DET_FAIL) = true := by decide +kernel
theorem test_lock_starts_time : after .mpllLock { State.reset with sys := { State.reset.sys with locking := true } } (fun t =>
  t.sys.clocks && t.coarse == 0 && !t.bit SYS_OSC_BOOTCLK && t.now 3 == 0) = true := by decide +kernel
theorem test_oscin_loss : after .oscinLoss up (fun t => !t.bit SYS_OSC_OSC_OK && t.bit SYS_STICKY_MPLL_S && t.get SYS_OSC_CNT_OSC_LOSS == 1) = true := by decide +kernel
theorem test_die_alarm : after (.dieTempRead 0x4000#16) (u [(SYS_TEMP_T_HI, 100)]) (fun t => t.bit SYS_TEMP_TALARM) = true := by decide +kernel
theorem test_level_loss_on_disabled : after (.levelLoss 0) up (fun t => t.get (REF_STAT_LEVEL_OK 0) == 0) = true := by decide +kernel
theorem test_missing_edge_declares : after (.missingEdge 3) (u (refRuns 3)) (fun t => t.bit (REF_STAT_LOST 3)) = true := by decide +kernel
/-- A change of `SIZE` while the ring runs is misuse (R386, R396), and a write of the same words is none. -/
theorem test_misuse_judged : (u [(HIF_RING_CFG_RING_EN 4, 1), (HIF_RING_CFG_SIZE 4, 8)]).misuses (hw 0) 0x10444 = true ∧
    (u [(HIF_RING_CFG_RING_EN 4, 1), (HIF_RING_CFG_SIZE 4, 8)]).misuses (hw (2 ^ (HIF_RING_CFG_RING_EN 4).lo + 8 * 2 ^ (HIF_RING_CFG_SIZE 4).lo)) 0x10444 = false := by decide +kernel
/-- What undefined behaviour leaves: OTP, the loader's image and the waiting commands (R12). -/
theorem test_misuse_keeps (s : State) : s.misused.otp = s.otp ∧ s.misused.cfg = s.cfg ∧ s.misused.pending = s.pending := ⟨rfl, rfl, rfl⟩
theorem test_bank_overflow : after (.laneToBankTransfer 0) { up with lanes := [(0, { Lane.idle with queue := [default] })], bankQ := List.replicate 1024 default }
  (fun t => t.bankQ.length == 1024 && (t.laneOf 0).queue.length == 1) = true := by decide +kernel
theorem test_forced_slot : after (.qualifyJob 0) (u [(QUL_CFG_FORCE 0, 1)]) (fun t => t.pget (QUL_STAT_STATE 0) == qForced) = true := by decide +kernel
theorem test_selector_wakes : after (.selectJob 0) (u [(SEL_CTL_EN 0, 1)]) (fun t => t.pget (SEL_STAT_SSTATE 0) == ssNoRef) = true := by decide +kernel
theorem test_filter_leaves_off : after (.filterJob 0) (u [(SEL_CTL_EN 0, 1)]) (fun t => t.pget (LPE_STAT_LSTATE 0) == lsFreerun) = true := by decide +kernel
theorem test_padj_write : after (.lpePadjWrite 0 (hw 5)) up (fun t => t.get (LPE_PADJ_PADJ 0) == 5) = true := by decide +kernel
theorem test_cask_clear_write : after (.caskClearWrite (hw 1)) up (fun t => (t.caskOf 0).clear) = true := by decide +kernel
theorem test_apll_lock : after (.apllLockDetect 0) (u [(SYN_APLL_STAT_ASTATE 0, apAcq)]) (fun t => t.astate 0 == apLocked && t.bit (SYN_APLL_STAT_LOCK 0)) = true := by decide +kernel
theorem test_xo_loss : after .xoLoss up (fun t => !t.bit SYN_XO_STAT_XO_OK) = true := by decide +kernel
theorem test_squelch_force : after (.sqForceWrite (hw 1)) up (fun t => t.get SYN_SQ_FORCE_SQ_FORCE == 1) = true := by decide +kernel
/-- The worked example of chapter 9: a second `GO` is recorded and refused. -/
theorem test_second_step : after (.timeStepGoWrite 0 (hw 1)) { u [(TME_CFG_EN 0, 1), (TME_STEP_NS_NS 0, 3)] with wonce := [(TME_STEP_GO_GO 0).key] } (fun t =>
  t.bit (TME_STICKY_STEP_REJ_S 0) && t.bit TME_STICKY_WONCE_VIOL && t.get GLD_VIOL_CNT_COUNT == 1 && t.get (TME_REJ_NS_NS 0) == 3) = true := by decide +kernel
theorem test_rate_adjustment_starts : after (.rateAdjStart 0) { u [(TME_CFG_EN 0, 1)] with scales := [(0, { Scale.started with radjNext := some (1000, 96000) })] } (fun t =>
  (t.scale 0).radj == some ⟨1000, 96000, 0⟩) = true := by decide +kernel
/-- The worked example of chapter 13: the queue's register after the frame. -/
theorem test_txq_read : after (.txqPopRead .pf0 1) { up with txq := [(1, [⟨0x0A51, 5, 6, 7⟩])] } (fun t => t.hif.resp == [0x00030A51#32]) = true := by decide +kernel
/-- And its descriptor: word 0 is 0xA100_005A. -/
theorem test_doorbell : after (.ringDoorbell (hw 2)) (((((u [(HIF_RING_CFG_RING_EN 1, 1), (HIF_RING_CFG_SIZE 1, 64), (HIF_RING_BASE_BASE 1, 0x10000)]).putWin 0x10000 0xA100005A).putWin
  0x10004 0x20000).putWin 0x10008 0xA51).putWin 0x1000C 0) (fun t => t.itemOf 1 == some ⟨0, true, 1, 90, 0x20000, 0xA51, 0xA51⟩) = true := by decide +kernel
theorem test_link_up : after (.linkChange 2 true true) (u [(ETH_CFG_EN 2, 1)]) (fun t => t.bit (ETH_STAT_LINK 2)) = true := by decide +kernel
theorem test_short_frame_counted : after (.frameReceive 15 (List.replicate 59 1) true ⟨0, 0⟩ none) (u [(ETH_CFG_EN 15, 1), (ETH_STAT_LINK 15, 1)]) (fun t =>
  t.hif.held == []) = true := by decide +kernel
theorem test_session_disabled : after (.sessionDisable 511) { up with ptp := { up.ptp with mem := [(32704, 1)], sess := [(511, { Sess.idle with on := true, w := [1] })] } } (fun t =>
  !(t.sess 511).on && t.sstate 511 == ssnDisabled) = true := by decide +kernel
theorem test_word_sync : after (.wordSyncGain 7) (u [(CJL_STAT_KSTATE 7, ksNoSync)]) (fun t => t.get (CJL_STAT_KSTATE 7) == ksSync) = true := by decide +kernel
theorem test_bad_crc : after (.mailReceive 7 (List.replicate 64 0x17#8)) (u [(CJL_STAT_KSTATE 7, ksSync)]) (fun t => t.bit (CJL_STICKY_CRC_S 7)) = true := by decide +kernel
theorem test_mail : after (.mailReceive 7 (frameT 7)) (u [(CJL_STAT_KSTATE 7, ksSync)]) (fun t => t.bit (CJL_STICKY_MAIL_S 7)) = true := by decide +kernel
theorem test_bad_insert : after (.tnsInsert (hw 1) 0) up (fun t => t.tns.entry == []) = true := by decide +kernel
theorem test_insert : after (.tnsInsert (hw 1) 0) (u [(TME_CFG_EN 0, 1), (TNS_EVT_OUT, 8), (TNS_STAGE_WORD 0, 0x00030009), (TNS_STAGE_WORD 1, 5)]) (fun t =>
  t.tns.entry.length == 1 && t.get TNS_SEQ_LSEQ == 1) = true := by decide +kernel
theorem test_bad_magic : after (.headerReadDone (List.replicate 64 0)) { u [(GLD_STAT_LOADER, 1)] with gld := { up.gld with op := some .full } } (fun t =>
  t.gld.op == none && t.get GLD_STAT_LOADER == 5 || t.get GLD_STAT_RESULT != 0) = true := by decide +kernel
theorem test_revoke_last_refused : after (.keyRevokeWrite (hw (2 ^ GLD_KEY_REVOKE.lo))) { up with otp := { up.otp with programmed := 1 } } (fun t =>
  t.bit GLD_STICKY_ARB_REFUSED && t.otp.revoked == 0) = true := by decide +kernel
theorem test_arb_programs : after .arbProgramDone { up with gld := { up.gld with arbTarget := some 9 } } (fun t => t.otp.arb == 9) = true := by decide +kernel
theorem test_window_write_read : after (.registerWrite 0x200010#32 (hw 0x12345678) false) up (fun t => t.winWord 16 == 0x12345678) = true := by decide +kernel
theorem test_line_misses : after (.lineInversion 16 false) { up with flt := { up.flt with missInv := [(16, 1)] } } (fun t => t.flt.lineBad == [16] && t.bit (FLT_LINE_S_BLK 16)) = true := by decide +kernel
theorem test_counter_wrap : after (.counterWrap 2 3) { up with obs := { up.obs with cnt := [(2, 2 ^ 48 - 1)] } } (fun t => tabGet 0 t.obs.cnt 2 == 2 && t.bit (OBS_OVF_OVF 0 2)) = true := by decide +kernel
theorem test_counter_write : after (.obsCounterWrite 5 true 1 (hw 0x10001)) up (fun t => tabGet 0 t.obs.cnt 5 == 2 ^ 32 && t.bit (OBS_COLLIDE_COLLIDE 0 5)) = true := by decide +kernel
theorem test_step_takes_front : step { State.reset with pending := [.oscinLoss, .xoLoss] } = exec .oscinLoss { State.reset with pending := [.xoLoss] } := rfl

/-! ## Witnesses of the hypotheses -/

theorem hyps_EmptyQueueIdles :
    (∃ (s : State), (s.pending = []) ∧ (s.sys.clocks = false)) ∧
    (∃ (s : State), (s.pending = []) ∧ (s.sys.clocks = true)) :=
  ⟨⟨State.reset, by decide +kernel⟩,
   ⟨{ up with coarse := 0 }, by decide +kernel⟩⟩

theorem hyps_StepsKeepSound :
    ∃ (s : State) (t : State), (s.Sound) ∧ (step s = .next t) :=
  ⟨State.reset, State.reset.idle, ⟨by decide, by decide⟩, rfl⟩

theorem hyps_StepsGrowOtp :
    ∃ (s : State) (t : State), (step s = .next t) :=
  ⟨State.reset, State.reset.idle, rfl⟩

theorem hyps_WonceKept :
    (∃ (c : Instr) (s : State) (t : State) (k : Nat), (c ≠ .powerOnReset) ∧ (c ≠ .resetNAssert) ∧ (exec c s = .next t) ∧ (k ∈ s.wonce)) ∧
    (∃ (s : State), (s.sys.por = false) ∧ (s.sys.rstN = false)) ∧
    (∃ (a : Word) (w : HostWrite) (r : RegD), (a.toNat % 4 = 0) ∧ (findReg allRegs a.toNat = some r) ∧ (r.wholeWord = true) ∧ (w.full = false)) :=
  ⟨⟨.recordDelivery, { up with wonce := [768] }, ({ up with wonce := [768] } : State).close ({ up with wonce := [768] } : State).begin.recordDelivery, 768, by decide +kernel, by decide +kernel, rfl, by decide +kernel⟩,
   ⟨State.reset, by decide +kernel⟩,
   ⟨0x18#32, ⟨.pf0, 7, 1#32⟩, ⟨0x18, 0x0, 1, [⟨0, 4, .wonce, true, false, .num⟩]⟩, by decide +kernel⟩⟩

theorem hyps_InternalReset :
    (∃ (s : State), (s.sys.por = false) ∧ (s.sys.rstN = false)) ∧
    (∃ (s : State), (s.sys.por = true)) ∧
    (∃ (s : State), (s.sys.por = true) ∧ (s.sys.rstN = false)) ∧
    (∃ (s : State), (s.sys.por = false) ∧ (s.sys.rstN = true)) ∧
    (∃ (s : State), (s.sys.por = true) ∧ (s.sys.rstN = true)) :=
  ⟨⟨State.reset, by decide +kernel⟩,
   ⟨{ State.reset with sys := { State.reset.sys with por := true } }, by decide +kernel⟩,
   ⟨{ State.reset with sys := { State.reset.sys with por := true } }, by decide +kernel⟩,
   ⟨{ State.reset with sys := { State.reset.sys with rstN := true } }, by decide +kernel⟩,
   ⟨{ State.reset with sys := { State.reset.sys with por := true, rstN := true } }, by decide +kernel⟩⟩

theorem hyps_OscillatorAndTemperature :
    (∃ (s : State) (hz : Nat) (i : Fin 11), (s.busUp = true) ∧ (s.sys.clocks = false) ∧ (s.sys.locking = false) ∧ (s.bit SYS_OSC_DET_FAIL = false) ∧ (985 * hz ≤ 1000 * oscCodes.getD i.val 0) ∧ (1000 * oscCodes.getD i.val 0 ≤ 1015 * hz)) ∧
    (∃ (s : State) (hz : Nat), (s.busUp = true) ∧ (s.sys.clocks = false) ∧ (s.sys.locking = false) ∧ (s.bit SYS_OSC_DET_FAIL = false) ∧ ((∀ f ∈ oscCodes, ¬ (985 * hz ≤ 1000 * f ∧ 1000 * f ≤ 1015 * hz)))) ∧
    (∃ (s : State) (w : HostWrite), (s.accepts w 0x18 = true) ∧ (s.bit SYS_OSC_DET_FAIL = false)) ∧
    (∃ (s : State) (w : HostWrite), (s.accepts w 0x18 = true) ∧ (s.bit SYS_OSC_DET_FAIL = true) ∧ (s.wonce.contains SYS_OSC_SEL_OSC_SEL.key = false)) ∧
    (∃ (s : State) (w : HostWrite), (s.accepts w 0x18 = true) ∧ (s.bit SYS_OSC_DET_FAIL = true) ∧ (s.wonce.contains SYS_OSC_SEL_OSC_SEL.key = true)) ∧
    (∃ (s : State), (s.busUp = true) ∧ (s.sys.clocks = false) ∧ (s.sys.locking = true)) ∧
    (∃ (s : State), (s.busUp = true) ∧ (s.sys.clocks = true) ∧ (s.bit SYS_OSC_OSC_OK = true) ∧ (s.bit SYS_OSC_MPLL_LOCK = true)) ∧
    (∃ (s : State), (s.busUp = true) ∧ (s.sys.clocks = true) ∧ (s.bit SYS_OSC_OSC_OK = false)) ∧
    (∃ (s : State), (s.busUp = true)) :=
  ⟨⟨State.reset, (oscCodes.getD 10 0) * 1000 / 985, 10, by decide +kernel⟩,
   ⟨State.reset, 1, by decide +kernel⟩,
   ⟨State.reset, hw 1, by decide +kernel⟩,
   ⟨State.reset.set SYS_OSC_DET_FAIL 1, hw 15, by decide +kernel⟩,
   ⟨{ State.reset.set SYS_OSC_DET_FAIL 1 with wonce := [SYS_OSC_SEL_OSC_SEL.key] }, hw 1, by decide +kernel⟩,
   ⟨{ State.reset with sys := { State.reset.sys with locking := true } }, by decide +kernel⟩,
   ⟨up, by decide +kernel⟩,
   ⟨u [(SYS_OSC_OSC_OK, 0)], by decide +kernel⟩,
   ⟨up, by decide +kernel⟩⟩

theorem hyps_ResetsOfBlocks :
    (∃ (s : State) (w : HostWrite), (s.accepts w 0x30 = true)) ∧
    (∃ (s : State) (u : Fin 24), (s.busUp = true) ∧ (1 ≤ u.val) ∧ (s.flt.hostReq = [u.val]) ∧ (s.flt.rstReq = []) ∧ (s.gld.op = none)) ∧
    (∃ (s : State) (u : Fin 24), (s.busUp = true) ∧ (tabGet 0 s.flt.rstLeft u.val = 1) ∧ (s.unitHeld u.val = false)) ∧
    (∃ (s : State) (u : Fin 24), (s.busUp = true) ∧ (tabGet 0 s.flt.rstLeft u.val = 0) ∧ (tabGet 0 s.flt.shdLeft u.val = 1)) :=
  ⟨⟨up, hw 0x20, by decide +kernel⟩,
   ⟨{ up with flt := { up.flt with hostReq := [23] } }, 23, by decide +kernel⟩,
   ⟨{ up with flt := { up.flt with rstLeft := [(23, 1)] } }, 23, by decide +kernel⟩,
   ⟨{ up with flt := { up.flt with shdLeft := [(5, 1)] } }, 5, by decide +kernel⟩⟩

theorem hyps_DomainsAndSupplies :
    (∃ (s : State) (w : HostWrite), (s.accepts w 0x20 = true)) ∧
    (∃ (s : State) (d : Fin 16), (s.busUp = true) ∧ (bitAt (s.get SYS_PD_STAT_RAMP) d.val = true)) ∧
    (∃ (s : State) (d : Fin 16), (s.busUp = true) ∧ (bitAt s.sys.pdWait d.val = true)) ∧
    (∃ (s : State) (b : Fin 3), (s.busUp = true) ∧ (classOf (s.get SYS_SUP_STAT_VDDO_CLASS) b.val = 3) ∧ (supplyClass (tabGet 0 s.sys.bankMv b.val) ≠ 3)) :=
  ⟨⟨up, hw 0xFFFF, by decide +kernel⟩,
   ⟨u [(SYS_PD_STAT_RAMP, 0x8000)], 15, by decide +kernel⟩,
   ⟨{ up with sys := { up.sys with pdWait := 0x8000 } }, 15, by decide +kernel⟩,
   ⟨{ u [(SYS_SUP_STAT_VDDO_CLASS, 63)] with sys := { up.sys with bankMv := [(2, 1800)] } }, 2, by decide +kernel⟩⟩

theorem hyps_ReferenceInputs :
    (∃ (s : State) (b : Fin 4), (s.busUp = true) ∧ (classOf (s.get REF_BANK_STAT_CLASS) b.val = 3) ∧ (supplyClass (tabGet 0 s.sys.bankMv (3 + b.val)) ≠ 3)) ∧
    (∃ (s : State) (n : Fin 32), (s.busUp = true) ∧ (s.inFb (REF_CFG_EN n.val) = true) ∧ (s.bit (REF_STAT_LEVEL_OK n.val) = true)) ∧
    (∃ (s : State) (n : Fin 32), (s.busUp = true) ∧ (s.inFb (REF_CFG_EN n.val) = false)) :=
  ⟨⟨{ u [(REF_BANK_STAT_CLASS, 255)] with sys := { up.sys with bankMv := [(6, 3300)] } }, 3, by decide +kernel⟩,
   ⟨u [(REF_CFG_EN 31, 1), (REF_STAT_LEVEL_OK 31, 1)], 31, by decide +kernel⟩,
   ⟨up, 31, by decide +kernel⟩⟩

theorem hyps_EdgeConditioning :
    (∃ (s : State) (n : Fin 104), (s.busUp = true) ∧ (n.val < 56) ∧ (s.refDelivers n.val = false)) ∧
    (∃ (s : State) (n : Fin 104), (s.busUp = true) ∧ (n.val < 32) ∧ (s.refDelivers n.val = true) ∧ ((s.refSlot n.val).skip = true)) ∧
    (∃ (s : State) (n : Fin 104) (hold : Nat), (s.busUp = true) ∧ (n.val < 32) ∧ (s.refDelivers n.val = true) ∧ ((s.refSlot n.val).skip = false) ∧ (hold < s.glitchWidth n.val)) ∧
    (∃ (s : State) (n : Fin 104) (rise : Bool) (hold : Nat), (s.busUp = true) ∧ (n.val < 56) ∧ (s.refDelivers n.val = true) ∧ ((n.val < 32 → (s.refSlot n.val).skip = false ∧ s.glitchWidth n.val ≤ hold)) ∧ (rise ≠ (decide (n.val < 32) && s.inFb (REF_CFG_INV n.val))) ∧ ((s.refSlot n.val).divPh + 1 ≠ Nat.max 1 (s.inF (REF_DIV_DIV n.val)))) ∧
    (∃ (s : State) (n : Fin 104) (rise : Bool) (hold : Nat), (s.busUp = true) ∧ (n.val < 56) ∧ (s.refDelivers n.val = true) ∧ ((n.val < 32 → (s.refSlot n.val).skip = false ∧ s.glitchWidth n.val ≤ hold)) ∧ (rise ≠ (decide (n.val < 32) && s.inFb (REF_CFG_INV n.val))) ∧ ((s.refSlot n.val).divPh + 1 = Nat.max 1 (s.inF (REF_DIV_DIV n.val))) ∧ (s.isPulse n.val = false) ∧ ((s.refSlot n.val).actPh + 1 = Nat.max 1 (s.inF (REF_ACT_ACT_DIV n.val)))) ∧
    (∃ (s : State) (n : Fin 104) (rise : Bool) (hold : Nat), (s.busUp = true) ∧ (n.val < 56) ∧ (s.refDelivers n.val = true) ∧ ((n.val < 32 → (s.refSlot n.val).skip = false ∧ s.glitchWidth n.val ≤ hold)) ∧ (rise ≠ (decide (n.val < 32) && s.inFb (REF_CFG_INV n.val))) ∧ ((s.refSlot n.val).divPh + 1 = Nat.max 1 (s.inF (REF_DIV_DIV n.val))) ∧ (s.isPulse n.val = true)) ∧
    (∃ (s : State) (n : Fin 104) (rise : Bool) (l : Nat), (s.busUp = true) ∧ (72 ≤ n.val) ∧ (n.val < 96) ∧ (rise = true) ∧ (s.tdlOf (0x80 + (n.val - 72)) = some l)) :=
  ⟨⟨up, 55, by decide +kernel⟩,
   ⟨{ u [(REF_CFG_EN 31, 1), (REF_STAT_LEVEL_OK 31, 1)] with refs := [(31, { RefSlot.idle with skip := true })] }, 31, by decide +kernel⟩,
   ⟨u [(REF_CFG_EN 31, 1), (REF_STAT_LEVEL_OK 31, 1), (REF_GLITCH_GW 31, 20)], 31, 31999, by decide +kernel⟩,
   ⟨u [(REF_CFG_EN 31, 1), (REF_STAT_LEVEL_OK 31, 1), (REF_DIV_DIV 31, 3)], 31, true, 0, by decide +kernel⟩,
   ⟨u [(REF_CFG_EN 31, 1), (REF_STAT_LEVEL_OK 31, 1), (REF_CFG_TYPE 31, 0)], 31, true, 0, by decide +kernel⟩,
   ⟨u [(REF_CFG_EN 31, 1), (REF_STAT_LEVEL_OK 31, 1), (REF_CFG_TYPE 31, 1)], 31, true, 0, by decide +kernel⟩,
   ⟨u [(TIM_TDL_CFG_SRC 63, 0x97), (TIM_TDL_CFG_RPT 63, 8)], 95, true, 63, by decide +kernel⟩⟩

theorem hyps_ReferenceMonitors :
    (∃ (s : State) (n : Fin 56), (s.busUp = true) ∧ (s.inFb (REF_CFG_EN n.val) = true) ∧ (s.unitInRst 5 = false) ∧ (s.refPeriod n.val ≠ 0) ∧ (s.inTick (s.missInstant n.val) = true) ∧ (s.bit (REF_STAT_LOST n.val) = true ∨ min 255 (s.get (REF_STAT_MISSING n.val) + 1) ≠ s.inF (REF_ACT_MISS_TOL n.val))) ∧
    (∃ (s : State) (n : Fin 56), (s.busUp = true) ∧ (s.inFb (REF_CFG_EN n.val) = true) ∧ (s.unitInRst 5 = false) ∧ (s.refPeriod n.val ≠ 0) ∧ (s.inTick (s.missInstant n.val) = true) ∧ (s.bit (REF_STAT_LOST n.val) = false) ∧ (min 255 (s.get (REF_STAT_MISSING n.val) + 1) = s.inF (REF_ACT_MISS_TOL n.val))) ∧
    (∃ (s : State) (n : Fin 56) (nExp : Rat), (s.busUp = true) ∧ (s.isPulse n.val = false) ∧ (s.inFb (REF_CFG_EN n.val) = true) ∧ (s.inF (REF_WIN_WIN_PPM n.val) ≠ 0) ∧ (2 ^ s.inF (REF_WIN_GATE n.val) + 1 ≤ (s.refSlot n.val).gateTicks) ∧ (nExp = (s.refFreq n.val : Rat) / 65536 * ((2 ^ s.inF (REF_WIN_GATE n.val) : Nat) : Rat) / (s.rate : Rat)) ∧ (absRat (((s.refSlot n.val).gateEdges : Rat) - nExp) ≤ nExp * (s.inF (REF_WIN_WIN_PPM n.val) : Rat) / 1000000 + 1)) ∧
    (∃ (s : State) (n : Fin 56) (nExp : Rat), (s.busUp = true) ∧ (s.isPulse n.val = false) ∧ (s.inFb (REF_CFG_EN n.val) = true) ∧ (s.inF (REF_WIN_WIN_PPM n.val) ≠ 0) ∧ (2 ^ s.inF (REF_WIN_GATE n.val) + 1 ≤ (s.refSlot n.val).gateTicks) ∧ (nExp = (s.refFreq n.val : Rat) / 65536 * ((2 ^ s.inF (REF_WIN_GATE n.val) : Nat) : Rat) / (s.rate : Rat)) ∧ (absRat (((s.refSlot n.val).gateEdges : Rat) - nExp) > nExp * (s.inF (REF_WIN_WIN_PPM n.val) : Rat) / 1000000 + 1)) ∧
    (∃ (s : State) (n : Fin 56), (s.busUp = true) ∧ (n.val < 32) ∧ (s.isPulse n.val = true) ∧ ((∃ p, (s.refSlot n.val).lead = some p ∧ s.inTick ((p + (s.inF (REF_PW_MAX_PW n.val) + 1) * 8000 : Nat) : Rat) = true))) :=
  ⟨⟨u ((REF_STAT_LOST 55, 1) :: refRuns 55), 55, by decide +kernel⟩,
   ⟨u (refRuns 55), 55, by decide +kernel⟩,
   ⟨{ u [(REF_CFG_EN 55, 1), (REF_CFG_TYPE 55, 0), (REF_WIN_WIN_PPM 55, 100), (REF_WIN_GATE 55, 0)] with refs := [(55, { RefSlot.idle with gateTicks := 2 })] }, 55, (((0 : Nat) : Rat) / 65536 * ((2 ^ 0 : Nat) : Rat) / ((8000 : Nat) : Rat)), by decide +kernel⟩,
   ⟨{ u [(REF_CFG_EN 55, 1), (REF_CFG_TYPE 55, 0), (REF_WIN_WIN_PPM 55, 100), (REF_WIN_GATE 55, 0)] with refs := [(55, { RefSlot.idle with gateTicks := 2, gateEdges := 2 })] }, 55, (((0 : Nat) : Rat) / 65536 * ((2 ^ 0 : Nat) : Rat) / ((8000 : Nat) : Rat)), by decide +kernel⟩,
   ⟨{ u [(REF_CFG_TYPE 31, 1)] with refs := [(31, { RefSlot.idle with lead := some 0 })] }, 31, by decide +kernel⟩⟩

theorem hyps_LanesSampleEdges :
    (∃ (s : State) (l : Fin 64) (k : Fin 8), (s.busUp = true) ∧ (s.laneOn l.val = true) ∧ (k.val < min 8 (s.inF (TIM_TDL_CFG_RPT l.val)))) ∧
    (∃ (s : State) (l : Fin 64) (k : Fin 8), (s.busUp = true) ∧ ((s.laneOn l.val = false ∨ min 8 (s.inF (TIM_TDL_CFG_RPT l.val)) ≤ k.val))) ∧
    (∃ (s : State) (l : Fin 64) (c : Capture), (s.busUp = true) ∧ ((s.laneOf l.val).cap = some c) ∧ ((s.laneOf l.val).queue.length < 32)) ∧
    (∃ (s : State) (l : Fin 64) (c : Capture), (s.busUp = true) ∧ ((s.laneOf l.val).cap = some c) ∧ (32 ≤ (s.laneOf l.val).queue.length) ∧ ((s.laneOf l.val).dfact < 12)) ∧
    (∃ (s : State) (l : Fin 64) (c : Capture), (s.busUp = true) ∧ ((s.laneOf l.val).cap = some c) ∧ (32 ≤ (s.laneOf l.val).queue.length) ∧ (12 ≤ (s.laneOf l.val).dfact)) :=
  ⟨⟨u [(TIM_TDL_CFG_SRC 63, 31), (TIM_TDL_CFG_RPT 63, 8)], 63, 7, by decide +kernel⟩,
   ⟨up, 63, 7, by decide +kernel⟩,
   ⟨{ up with lanes := [(63, { Lane.idle with cap := some ⟨0, 1, none, false, false, none, ⟨none, false, 0, 0⟩⟩, dfact := 0, queue := List.replicate 31 default })] }, 63, ⟨0, 1, none, false, false, none, ⟨none, false, 0, 0⟩⟩, by decide +kernel⟩,
   ⟨{ up with lanes := [(63, { Lane.idle with cap := some ⟨0, 1, none, false, false, none, ⟨none, false, 0, 0⟩⟩, dfact := 11, queue := List.replicate 32 default })] }, 63, ⟨0, 1, none, false, false, none, ⟨none, false, 0, 0⟩⟩, by decide +kernel⟩,
   ⟨{ up with lanes := [(63, { Lane.idle with cap := some ⟨0, 1, none, false, false, none, ⟨none, false, 0, 0⟩⟩, dfact := 12, queue := List.replicate 32 default })] }, 63, ⟨0, 1, none, false, false, none, ⟨none, false, 0, 0⟩⟩, by decide +kernel⟩⟩

theorem hyps_RecordsConvertAndMove :
    (∃ (s : State) (i : Fin 16) (sc : Nat) (fall : Bool) (n : Nat) (x : Lane) (c : Capture) (tm : Nat), (s.busUp = true) ∧ (x = s.laneOf (64 + i.val)) ∧ (x.cap = some c) ∧ (c.conv = none) ∧ (tm = s.lessDelay (64 + i.val) (((sc * 8000 + (if fall then 4000 else 0) : Nat) : Int) - rnd (c.scaling.convert (64 + i.val) n) - 32000)) ∧ (srcKind (64 + i.val) (s.laneSrc (64 + i.val)) = 1) ∧ (c.width = none)) ∧
    (∃ (s : State) (i : Fin 16) (sc : Nat) (fall : Bool) (n : Nat) (x : Lane) (c : Capture) (tm : Nat), (s.busUp = true) ∧ (x = s.laneOf (64 + i.val)) ∧ (x.cap = some c) ∧ (c.conv = none) ∧ (tm = s.lessDelay (64 + i.val) (((sc * 8000 + (if fall then 4000 else 0) : Nat) : Int) - rnd (c.scaling.convert (64 + i.val) n) - 32000)) ∧ ((srcKind (64 + i.val) (s.laneSrc (64 + i.val)) ≠ 1 ∨ c.width ≠ none)) ∧ (x.queue.length < 32)) ∧
    (∃ (s : State) (i : Fin 16) (x : Lane), (s.busUp = true) ∧ (x = s.laneOf (64 + i.val)) ∧ (s.laneOn (64 + i.val) = true) ∧ ((x.busy = false ∨ x.cap = none ∨ ∃ k, x.cap = some k ∧ k.conv ≠ none))) ∧
    (∃ (s : State) (l : Fin 80) (r : Rec) (q : List Rec), (s.busUp = true) ∧ ((s.laneOf l.val).queue = r :: q) ∧ (s.laneTurn = some l.val) ∧ (s.bankQ.length < 1024)) ∧
    (∃ (s : State) (l : Fin 80) (r : Rec) (q : List Rec), (s.busUp = true) ∧ ((s.laneOf l.val).queue = r :: q) ∧ (s.laneTurn = some l.val) ∧ (1024 ≤ s.bankQ.length)) ∧
    (∃ (s : State) (l : Fin 80), (s.busUp = true) ∧ ((s.laneOf l.val).queue = [] ∨ s.laneTurn ≠ some l.val)) ∧
    (∃ (s : State) (r : Rec) (q : List Rec), (s.busUp = true) ∧ (s.bankQ = r :: q) ∧ (s.bit TIM_TAP_TAP_EN = false ∨ s.get TIM_TAP_TAP_LANE ≠ r.lane) ∧ (r.kind = 2)) ∧
    (∃ (s : State) (r : Rec) (q : List Rec), (s.busUp = true) ∧ (s.bankQ = r :: q) ∧ (s.bit TIM_TAP_TAP_EN = false ∨ s.get TIM_TAP_TAP_LANE ≠ r.lane) ∧ (r.kind = 3) ∧ (s.unitInRst 15 = false)) ∧
    (∃ (s : State) (r : Rec) (q : List Rec), (s.busUp = true) ∧ (s.bankQ = r :: q) ∧ (s.bit TIM_TAP_TAP_EN = false ∨ s.get TIM_TAP_TAP_LANE ≠ r.lane) ∧ (r.kind = 6)) ∧
    (∃ (s : State) (r : Rec) (q : List Rec), (s.busUp = true) ∧ (s.bankQ = r :: q) ∧ (s.bit TIM_TAP_TAP_EN = false ∨ s.get TIM_TAP_TAP_LANE ≠ r.lane) ∧ (r.kind ≠ 2) ∧ (r.kind ≠ 3) ∧ (r.kind ≠ 6) ∧ (s.unitInRst 9 = false) ∧ (s.unitInRst 7 = false) ∧ (r.slot < 88)) :=
  ⟨⟨{ u [(TIM_VRN_CFG_SRC 15, 0x1F)] with lanes := [(79, { Lane.idle with cap := some ⟨800000, 1, none, false, false, none, ⟨none, false, 0, 0⟩⟩ })] }, 15, 0, false, 0, ({ u [(TIM_VRN_CFG_SRC 15, 0x1F)] with lanes := [(79, { Lane.idle with cap := some ⟨800000, 1, none, false, false, none, ⟨none, false, 0, 0⟩⟩ })] }).laneOf 79, ⟨800000, 1, none, false, false, none, ⟨none, false, 0, 0⟩⟩, (({ u [(TIM_VRN_CFG_SRC 15, 0x1F)] with lanes := [(79, { Lane.idle with cap := some ⟨800000, 1, none, false, false, none, ⟨none, false, 0, 0⟩⟩ })] })).lessDelay 79 (((0 * 8000 + (if false then 4000 else 0) : Nat) : Int) - rnd ((⟨none, false, 0, 0⟩ : Scaling).convert 79 0) - 32000), by decide +kernel, by decide +kernel, by decide +kernel, by decide +kernel, rfl, by decide +kernel, by decide +kernel⟩,
   ⟨{ u [(TIM_VRN_CFG_SRC 15, 0x40)] with lanes := [(79, { Lane.idle with cap := some ⟨800000, 1, none, false, false, none, ⟨none, false, 0, 0⟩⟩ })] }, 15, 0, false, 0, ({ u [(TIM_VRN_CFG_SRC 15, 0x40)] with lanes := [(79, { Lane.idle with cap := some ⟨800000, 1, none, false, false, none, ⟨none, false, 0, 0⟩⟩ })] }).laneOf 79, ⟨800000, 1, none, false, false, none, ⟨none, false, 0, 0⟩⟩, (({ u [(TIM_VRN_CFG_SRC 15, 0x40)] with lanes := [(79, { Lane.idle with cap := some ⟨800000, 1, none, false, false, none, ⟨none, false, 0, 0⟩⟩ })] })).lessDelay 79 (((0 * 8000 + (if false then 4000 else 0) : Nat) : Int) - rnd ((⟨none, false, 0, 0⟩ : Scaling).convert 79 0) - 32000), by decide +kernel, by decide +kernel, by decide +kernel, by decide +kernel, rfl, by decide +kernel, by decide +kernel⟩,
   ⟨{ u [(TIM_VRN_CFG_SRC 15, 0x40)] with lanes := [(79, Lane.idle)] }, 15, ({ u [(TIM_VRN_CFG_SRC 15, 0x40)] with lanes := [(79, Lane.idle)] }).laneOf 79, by decide +kernel⟩,
   ⟨{ up with lanes := [(79, { Lane.idle with queue := [default] })] }, 79, default, [], by decide +kernel⟩,
   ⟨{ up with lanes := [(79, { Lane.idle with queue := [default] })], bankQ := List.replicate 1024 default }, 79, default, [], by decide +kernel⟩,
   ⟨up, 79, by decide +kernel⟩,
   ⟨{ up with bankQ := [{ (default : Rec) with kind := 2 }] }, { (default : Rec) with kind := 2 }, [], by decide +kernel⟩,
   ⟨{ up with bankQ := [{ (default : Rec) with kind := 3 }] }, { (default : Rec) with kind := 3 }, [], by decide +kernel⟩,
   ⟨{ up with bankQ := [{ (default : Rec) with kind := 6 }] }, { (default : Rec) with kind := 6 }, [], by decide +kernel⟩,
   ⟨{ up with bankQ := [{ (default : Rec) with slot := 87 }] }, { (default : Rec) with slot := 87 }, [], by decide +kernel⟩⟩

theorem hyps_SlotQualifies :
    ∃ (s : State) (n : Fin 88) (c : Conds) (st : Nat), (s.busUp = true) ∧ (s.jobsRun = true) ∧ (s.unitInRst 7 = false) ∧ (s.declared n.val = true) ∧ (s.slotInShadow n.val = false) ∧ ((s.qslot n.val).judged = false) ∧ ((s.qslot n.val).inbox = []) ∧ (s.tickIndex ≠ 0) ∧ (c = s.evalConds n.val (s.qslot n.val)) ∧ (st = s.pget (QUL_STAT_STATE n.val)) ∧ (st ≤ 5) :=
  ⟨withSlot (QSlot.idle) { u [(QUL_STAT_STATE 87, 5)] with target := 2 * up.period, bound := 0 }, 87, (withSlot (QSlot.idle) { u [(QUL_STAT_STATE 87, 5)] with target := 2 * up.period, bound := 0 } : State).evalConds 87 QSlot.idle, 5, by decide +kernel⟩

theorem hyps_SlotTimersAndStatistics :
    (∃ (s : State) (n : Fin 88), (s.busUp = true) ∧ (s.jobsRun = true) ∧ (s.unitInRst 7 = false) ∧ (s.declared n.val = true) ∧ (s.slotInShadow n.val = false) ∧ ((s.qslot n.val).judged = false) ∧ ((s.qslot n.val).inbox = []) ∧ (s.tickIndex ≠ 0) ∧ ((s.evalConds n.val (s.qslot n.val)).none = true) ∧ (s.inFb (QUL_CFG_FORCE n.val) = false) ∧ (s.pget (QUL_STAT_STATE n.val) = qSteeping) ∧ ((s.qslot n.val).steep ≤ 1)) ∧
    (∃ (s : State) (n : Fin 88), (s.busUp = true) ∧ (s.jobsRun = true) ∧ (s.unitInRst 7 = false) ∧ (s.declared n.val = true) ∧ (s.slotInShadow n.val = false) ∧ ((s.qslot n.val).judged = false) ∧ ((s.qslot n.val).inbox = []) ∧ (s.tickIndex ≠ 0) ∧ ((s.evalConds n.val (s.qslot n.val)).none = true) ∧ (s.inFb (QUL_CFG_FORCE n.val) = false) ∧ (s.pget (QUL_STAT_STATE n.val) = qSuspect) ∧ ((s.qslot n.val).srec ≤ 1)) ∧
    (∃ (s : State) (n : Fin 88), (s.busUp = true) ∧ (s.jobsRun = true) ∧ (s.unitInRst 7 = false) ∧ (s.declared n.val = true) ∧ (s.slotInShadow n.val = false) ∧ (s.pget (QUL_STAT_STATE n.val) ≠ qSteeping ∨ 1 < (s.qslot n.val).steep)) ∧
    (∃ (s : State) (n : Fin 88), (s.busUp = true) ∧ (s.jobsRun = true) ∧ (s.unitInRst 7 = false) ∧ (s.declared n.val = true) ∧ (s.slotInShadow n.val = false) ∧ (s.pget (QUL_STAT_STATE n.val) ≠ qSuspect ∨ 1 < (s.qslot n.val).srec)) ∧
    (∃ (s : State) (n : Fin 88), (s.busUp = true) ∧ (s.jobsRun = true) ∧ (s.unitInRst 7 = false) ∧ (s.declared n.val = true) ∧ (s.slotInShadow n.val = false) ∧ ((s.qslot n.val).confirmed = true) ∧ ((s.qslot n.val).lossOut = false) ∧ ((s.qslot n.val).inbox.any Rec.confirms = false) ∧ (s.lossDue n.val = true)) ∧
    (∃ (s : State) (n : Fin 88), (s.busUp = true) ∧ (s.jobsRun = true) ∧ (s.unitInRst 7 = false) ∧ (s.declared n.val = true) ∧ (s.slotInShadow n.val = false) ∧ (s.lossDue n.val = false)) ∧
    (∃ (s : State) (n : Fin 88), (s.busUp = true) ∧ (s.jobsRun = true) ∧ (s.unitInRst 7 = false) ∧ (s.declared n.val = true) ∧ ((s.qslot n.val).judged = true ∨ s.tickIndex ≠ 0)) ∧
    (∃ (s : State) (n : Fin 88), (s.busUp = true) ∧ (s.jobsRun = true) ∧ (s.unitInRst 7 = false) ∧ (s.declared n.val = true) ∧ ((s.qslot n.val).judged = false) ∧ (s.tickIndex = 0) ∧ (s.slotInShadow n.val = false)) :=
  ⟨⟨withSlot ({ QSlot.idle with lastConf := 1 }) { u [(QUL_STAT_STATE 87, qSteeping)] with target := 2 * up.period, bound := 0 }, 87, by decide +kernel⟩,
   ⟨withSlot (QSlot.idle) { u [(QUL_STAT_STATE 87, qSuspect)] with target := 2 * up.period, bound := 0 }, 87, by decide +kernel⟩,
   ⟨up, 87, by decide +kernel⟩,
   ⟨up, 87, by decide +kernel⟩,
   ⟨withSlot ({ QSlot.idle with confirmed := true }) { u [] with target := 2 * up.period, bound := 0 }, 87, by decide +kernel⟩,
   ⟨withSlot ({ QSlot.idle with lastConf := 1 }) { u [] with target := 2 * up.period, bound := 0 }, 87, by decide +kernel⟩,
   ⟨withSlot (QSlot.idle) { u [] with target := 2 * up.period, bound := 0 }, 87, by decide +kernel⟩,
   ⟨withSlot (QSlot.idle) { u [(QUL_CFG_INT_EN 87, 1)] with target := 1 * up.period, bound := 0 }, 87, by decide +kernel⟩⟩

theorem hyps_LoopHostWrites :
    (∃ (s : State) (n : Fin 88) (w : HostWrite), (s.accepts w (0x71000 + 0x80 * n.val) = true)) ∧
    (∃ (s : State) (n : Fin 88) (w : HostWrite), (s.accepts w (0x71004 + 0x80 * n.val) = true)) ∧
    (∃ (s : State) (n : Fin 88) (w : HostWrite), (s.accepts w (0x71008 + 0x80 * n.val) = true)) ∧
    (∃ (s : State) (n : Fin 88) (w : HostWrite), (s.accepts w (0x71034 + 0x80 * n.val) = true)) ∧
    (∃ (s : State) (c : Fin 12) (w : HostWrite), (s.accepts w (0x81000 + 0x100 * c.val) = true)) ∧
    (∃ (s : State) (c : Fin 12) (i : Fin 4) (w : HostWrite), (s.accepts w (0x81004 + 0x100 * c.val + 4 * i.val) = true)) ∧
    (∃ (s : State) (c : Fin 12) (i : Fin 4) (w : HostWrite), (s.accepts w (0x81020 + 0x100 * c.val + 4 * i.val) = true)) :=
  ⟨⟨u [(SEL_CTL_EN 11, 1)], 87, hw (11 * 2 ^ (QUL_CFG_CHAN 87).lo + 65535 * 2 ^ (QUL_CFG_SOAK 87).lo), by decide +kernel⟩,
   ⟨u [(QUL_FWIN2_W2 87, 4)], 87, hw (2 ^ (QUL_FWIN_W0 87).lo + 2 * 2 ^ (QUL_FWIN_W1 87).lo), by decide +kernel⟩,
   ⟨up, 87, hw (4 * 2 ^ (QUL_FWIN2_W2 87).lo + 65534 * 2 ^ (QUL_FWIN2_DW 87).lo), by decide +kernel⟩,
   ⟨up, 87, hw (65535 * 2 ^ (QUL_TIMES_WW 87).lo), by decide +kernel⟩,
   ⟨up, 11, hw 0, by decide +kernel⟩,
   ⟨up, 11, 3, hw 0, by decide +kernel⟩,
   ⟨up, 11, 3, hw 0, by decide +kernel⟩⟩

theorem hyps_SelectorMoves :
    (∃ (s : State) (c : Fin 12), (s.busUp = true) ∧ (s.jobsRun = true) ∧ ((s.chan c.val).tns = []) ∧ (s.chanEn c.val = false) ∧ (s.pget (SEL_STAT_SSTATE c.val) ≠ ssOff)) ∧
    (∃ (s : State) (c : Fin 12), (s.busUp = true) ∧ (s.jobsRun = true) ∧ ((s.chan c.val).tns = []) ∧ (s.chanEn c.val = true) ∧ (s.pget (SEL_STAT_SSTATE c.val) = ssOff)) ∧
    (∃ (s : State) (c : Fin 12), (s.busUp = true) ∧ (s.jobsRun = true) ∧ ((s.chan c.val).tns = []) ∧ (s.chanEn c.val = true) ∧ (s.pget (SEL_STAT_SSTATE c.val) ≠ ssOff) ∧ (s.unitInShadow 8 = false) ∧ (s.forcedHo c.val = true)) ∧
    (∃ (s : State) (c : Fin 12), (s.busUp = true) ∧ (s.jobsRun = true) ∧ ((s.chan c.val).tns = []) ∧ (s.chanEn c.val = true) ∧ (s.forcedHo c.val = false) ∧ (s.unitInShadow 8 = false) ∧ (s.qulAway = false) ∧ (s.ensemble c.val = false) ∧ ((s.chan c.val).carried = []) ∧ (s.pget (SEL_STAT_SSTATE c.val) = ssNoRef) ∧ (s.firstCand c.val [] = none)) ∧
    (∃ (s : State) (c : Fin 12) (n : Nat), (s.busUp = true) ∧ (s.jobsRun = true) ∧ ((s.chan c.val).tns = []) ∧ (s.chanEn c.val = true) ∧ (s.forcedHo c.val = false) ∧ (s.unitInShadow 8 = false) ∧ (s.qulAway = false) ∧ (s.ensemble c.val = false) ∧ ((s.chan c.val).carried = []) ∧ (s.pget (SEL_STAT_SSTATE c.val) = ssNoRef) ∧ (s.firstCand c.val [] = some n)) ∧
    (∃ (s : State) (c : Fin 12), (s.busUp = true) ∧ (s.jobsRun = true) ∧ ((s.chan c.val).tns = []) ∧ (s.chanEn c.val = true) ∧ (s.forcedHo c.val = false) ∧ (s.unitInShadow 8 = false) ∧ (s.qulAway = false) ∧ (s.ensemble c.val = false) ∧ ((s.chan c.val).carried = []) ∧ (s.pget (SEL_STAT_SSTATE c.val) = ssTracking) ∧ (isUsable (s.pget (QUL_STAT_STATE (s.pget (SEL_STAT_CUR c.val)))) = false) ∧ (s.firstCand c.val [s.pget (SEL_STAT_CUR c.val)] = none)) ∧
    (∃ (s : State) (c : Fin 12) (n : Nat), (s.busUp = true) ∧ (s.jobsRun = true) ∧ ((s.chan c.val).tns = []) ∧ (s.chanEn c.val = true) ∧ (s.forcedHo c.val = false) ∧ (s.unitInShadow 8 = false) ∧ (s.qulAway = false) ∧ (s.ensemble c.val = false) ∧ ((s.chan c.val).carried = []) ∧ (s.pget (SEL_STAT_SSTATE c.val) = ssTracking) ∧ (isUsable (s.pget (QUL_STAT_STATE (s.pget (SEL_STAT_CUR c.val)))) = false) ∧ (s.firstCand c.val [s.pget (SEL_STAT_CUR c.val)] = some n)) ∧
    (∃ (s : State) (c : Fin 12), (s.busUp = true) ∧ (s.jobsRun = true) ∧ ((s.chan c.val).tns = []) ∧ (s.chanEn c.val = true) ∧ (s.forcedHo c.val = false) ∧ (s.unitInShadow 8 = false) ∧ (s.qulAway = false) ∧ (s.ensemble c.val = false) ∧ ((s.chan c.val).carried = []) ∧ (s.pget (SEL_STAT_SSTATE c.val) = ssTracking) ∧ (isUsable (s.slotState (s.pget (SEL_STAT_CUR c.val))) = true) ∧ ((s.chan c.val).cut = []) ∧ (s.preferred c.val (s.pget (SEL_STAT_CUR c.val)) = none)) ∧
    (∃ (s : State) (c : Fin 12), (s.busUp = true) ∧ (s.jobsRun = true) ∧ ((s.chan c.val).tns = []) ∧ (s.chanEn c.val = true) ∧ (s.forcedHo c.val = false) ∧ (s.unitInShadow 8 = false) ∧ (s.qulAway = false) ∧ (s.ensemble c.val = false) ∧ ((s.chan c.val).carried = []) ∧ (s.pget (SEL_STAT_SSTATE c.val) = ssTransition) ∧ (isUsable (s.slotState (s.pget (SEL_STAT_TGT c.val))) = true) ∧ ((s.chan c.val).cut = []) ∧ (s.preferred c.val (s.pget (SEL_STAT_TGT c.val)) = none) ∧ (s.pget (SEL_PROG_K c.val) + 1 < s.pget (SEL_XLEN_XLEN c.val)) ∧ (s.pget (SEL_XLEN_XLEN c.val) < 2 ^ 24)) :=
  ⟨⟨u [(SEL_STAT_SSTATE 11, ssNoRef)], 11, by decide +kernel⟩,
   ⟨u [(SEL_CTL_EN 11, 1)], 11, by decide +kernel⟩,
   ⟨u [(SEL_CTL_EN 11, 1), (SEL_STAT_SSTATE 11, ssNoRef), (BLK_FLT_HO_MASK 16, 2048), (BLK_FLT_SEV 16 0, 1), (BLK_FLT_CFG_R_HO 16 0, 1)], 11, by decide +kernel⟩,
   ⟨u [(SEL_CTL_EN 11, 1), (SEL_STAT_SSTATE 11, ssNoRef), (SEL_CTL_MODE 11, 1)], 11, by decide +kernel⟩,
   ⟨{ u [(SEL_CTL_EN 11, 1), (SEL_STAT_SSTATE 11, ssNoRef), (SEL_CTL_MODE 11, 1), (SEL_LIST3_SLOT 11 3, 87), (SEL_LIST3_V 11 3, 1), (QUL_STAT_STATE 87, qQualified)] with ind := { (u [(SEL_CTL_EN 11, 1), (SEL_STAT_SSTATE 11, ssNoRef), (SEL_CTL_MODE 11, 1), (SEL_LIST3_SLOT 11 3, 87), (SEL_LIST3_V 11 3, 1), (QUL_STAT_STATE 87, qQualified)]).ind with qul := [(87, { QSlot.idle with last := some ⟨0, 0⟩ })] }, pend := { (u [(SEL_CTL_EN 11, 1), (SEL_STAT_SSTATE 11, ssNoRef), (SEL_CTL_MODE 11, 1), (SEL_LIST3_SLOT 11 3, 87), (SEL_LIST3_V 11 3, 1), (QUL_STAT_STATE 87, qQualified)]).pend with qul := [(87, { QSlot.idle with last := some ⟨0, 0⟩ })] } }, 11, 87, by decide +kernel⟩,
   ⟨u [(SEL_CTL_EN 11, 1), (SEL_STAT_SSTATE 11, ssTracking), (SEL_CTL_MODE 11, 1), (SEL_STAT_CUR 11, 5)], 11, by decide +kernel⟩,
   ⟨{ u [(SEL_CTL_EN 11, 1), (SEL_STAT_SSTATE 11, ssTracking), (SEL_CTL_MODE 11, 1), (SEL_STAT_CUR 11, 5), (SEL_LIST3_SLOT 11 3, 87), (SEL_LIST3_V 11 3, 1), (QUL_STAT_STATE 87, qQualified)] with ind := { (u [(SEL_CTL_EN 11, 1), (SEL_STAT_SSTATE 11, ssTracking), (SEL_CTL_MODE 11, 1), (SEL_STAT_CUR 11, 5), (SEL_LIST3_SLOT 11 3, 87), (SEL_LIST3_V 11 3, 1), (QUL_STAT_STATE 87, qQualified)]).ind with qul := [(87, { QSlot.idle with last := some ⟨0, 0⟩ })] }, pend := { (u [(SEL_CTL_EN 11, 1), (SEL_STAT_SSTATE 11, ssTracking), (SEL_CTL_MODE 11, 1), (SEL_STAT_CUR 11, 5), (SEL_LIST3_SLOT 11 3, 87), (SEL_LIST3_V 11 3, 1), (QUL_STAT_STATE 87, qQualified)]).pend with qul := [(87, { QSlot.idle with last := some ⟨0, 0⟩ })] } }, 11, 87, by decide +kernel⟩,
   ⟨u [(SEL_CTL_EN 11, 1), (SEL_STAT_SSTATE 11, ssTracking), (SEL_CTL_MODE 11, 1), (SEL_STAT_CUR 11, 5), (QUL_STAT_STATE 5, qQualified)], 11, by decide +kernel⟩,
   ⟨u [(SEL_CTL_EN 11, 1), (SEL_STAT_SSTATE 11, ssTransition), (SEL_CTL_MODE 11, 1), (SEL_STAT_TGT 11, 5), (QUL_STAT_STATE 5, qQualified), (SEL_XLEN_XLEN 11, 0xFFFFFF), (SEL_PROG_K 11, 0xFFFFFD)], 11, by decide +kernel⟩⟩

theorem hyps_SelectorCompletions :
    (∃ (s : State) (c : Fin 12), (s.busUp = true) ∧ (s.jobsRun = true) ∧ (s.pget (SEL_STAT_SSTATE c.val) = ssTransition) ∧ (s.pget (SEL_XLEN_XLEN c.val) ≤ s.pget (SEL_PROG_K c.val))) ∧
    (∃ (s : State) (c : Fin 12), (s.busUp = true) ∧ (s.jobsRun = true) ∧ (s.pbit (SEL_STAT_ABSORBING c.val) = true) ∧ ((if s.pget (SEL_STAT_SSTATE c.val) = ssCombining then (s.chan c.val).ebo else (s.chan c.val).curOfs) = 0)) ∧
    (∃ (s : State) (c : Fin 12) (j : Fin 8) (m : Member), (s.busUp = true) ∧ (s.jobsRun = true) ∧ ((s.chan c.val).members[j.val]? = some m) ∧ (m.inn = true) ∧ (s.roleState c.val m.slot = qSuspect) ∧ (m.f = 0)) :=
  ⟨⟨u [(SEL_STAT_SSTATE 11, ssTransition)], 11, by decide +kernel⟩,
   ⟨u [(SEL_STAT_ABSORBING 11, 1)], 11, by decide +kernel⟩,
   ⟨{ u [(QUL_STAT_STATE 87, qSuspect)] with ind := { (u [(QUL_STAT_STATE 87, qSuspect)]).ind with chan := [(11, { Chan.idle with members := List.replicate 8 ⟨87, none, 0, 0, 0, 0, 0, false, true, 0, false, 0⟩ })] }, pend := { (u [(QUL_STAT_STATE 87, qSuspect)]).pend with chan := [(11, { Chan.idle with members := List.replicate 8 ⟨87, none, 0, 0, 0, 0, 0, false, true, 0, false, 0⟩ })] } }, 11, 7, ⟨87, none, 0, 0, 0, 0, 0, false, true, 0, false, 0⟩, by decide +kernel⟩⟩

theorem hyps_FilterJob :
    (∃ (s : State) (c : Fin 12), (s.busUp = true) ∧ (s.jobsRun = true) ∧ (s.chanEn c.val = false) ∧ (s.get (LPE_STAT_LSTATE c.val) ≠ lsOff)) ∧
    (∃ (s : State) (c : Fin 12), (s.busUp = true) ∧ (s.jobsRun = true) ∧ (s.chanEn c.val = true) ∧ (s.get (LPE_STAT_LSTATE c.val) = lsOff)) ∧
    (∃ (s : State) (c : Fin 12), (s.busUp = true) ∧ (s.jobsRun = true) ∧ (s.chanEn c.val = true) ∧ (s.get (LPE_STAT_LSTATE c.val) = lsFreerun) ∧ (s.pget (LPE_STAT_LSTATE c.val) = lsFreerun) ∧ ((s.chan c.val).est = none)) ∧
    (∃ (s : State) (c : Fin 12), (s.busUp = true) ∧ (s.jobsRun = true) ∧ (s.chanEn c.val = true) ∧ (s.get (LPE_STAT_LSTATE c.val) = lsFreerun) ∧ (s.pget (LPE_STAT_LSTATE c.val) = lsFreerun) ∧ ((s.chan c.val).est ≠ none)) ∧
    (∃ (s : State) (c : Fin 12), (s.busUp = true) ∧ (s.jobsRun = true) ∧ (s.chanEn c.val = true) ∧ (s.get (LPE_STAT_LSTATE c.val) = lsHoldover) ∧ (s.pget (LPE_STAT_LSTATE c.val) = lsHoldover) ∧ ((s.chan c.val).est ≠ none) ∧ (s.pget (SEL_STAT_SSTATE c.val) ≠ ssNoRef)) ∧
    (∃ (s : State) (c : Fin 12), (s.busUp = true) ∧ (s.jobsRun = true) ∧ (s.chanEn c.val = true) ∧ (s.get (LPE_STAT_LSTATE c.val) = lsHoldover) ∧ (s.pget (LPE_STAT_LSTATE c.val) = lsHoldover) ∧ ((s.chan c.val).est = none ∨ s.pget (SEL_STAT_SSTATE c.val) = ssNoRef)) ∧
    (∃ (s : State) (c : Fin 12), (s.busUp = true) ∧ (s.jobsRun = true) ∧ (s.chanEn c.val = true) ∧ (lsAcquire ≤ s.get (LPE_STAT_LSTATE c.val)) ∧ (s.get (LPE_STAT_LSTATE c.val) ≤ lsLocked) ∧ (s.missingInput c.val = true)) ∧
    (∃ (s : State) (c : Fin 12) (e : Rat), (s.busUp = true) ∧ (s.jobsRun = true) ∧ (s.chanEn c.val = true) ∧ ((s.chan c.val).est = some e) ∧ (s.get (LPE_STAT_LSTATE c.val) = s.pget (LPE_STAT_LSTATE c.val)) ∧ (lsAcquire ≤ s.get (LPE_STAT_LSTATE c.val)) ∧ (s.get (LPE_STAT_LSTATE c.val) ≤ lsLocked) ∧ (s.missingInput c.val = false)) :=
  ⟨⟨withChan (Chan.idle) (u [(LPE_STAT_LSTATE 11, lsLocked)]), 11, by decide +kernel⟩,
   ⟨withChan (Chan.idle) (u [(SEL_CTL_EN 11, 1)]), 11, by decide +kernel⟩,
   ⟨withChan (Chan.idle) (u [(SEL_CTL_EN 11, 1), (LPE_STAT_LSTATE 11, lsFreerun)]), 11, by decide +kernel⟩,
   ⟨withChan ({ Chan.idle with est := some 0 }) (u [(SEL_CTL_EN 11, 1), (LPE_STAT_LSTATE 11, lsFreerun)]), 11, by decide +kernel⟩,
   ⟨withChan ({ Chan.idle with est := some 0 }) (u [(SEL_CTL_EN 11, 1), (LPE_STAT_LSTATE 11, lsHoldover), (SEL_STAT_SSTATE 11, ssTracking)]), 11, by decide +kernel⟩,
   ⟨withChan (Chan.idle) (u [(SEL_CTL_EN 11, 1), (LPE_STAT_LSTATE 11, lsHoldover)]), 11, by decide +kernel⟩,
   ⟨withChan (Chan.idle) (u [(SEL_CTL_EN 11, 1), (LPE_STAT_LSTATE 11, lsLocked)]), 11, by decide +kernel⟩,
   ⟨withChan ({ Chan.idle with est := some 0, side := .slot 87 0 }) (u [(SEL_CTL_EN 11, 1), (LPE_STAT_LSTATE 11, lsLocked), (SEL_STAT_SSTATE 11, ssTracking), (SEL_CTL_MODE 11, 1), (SEL_STAT_CUR 11, 87), (QUL_STAT_STATE 87, qQualified)]), 11, 0, by decide +kernel⟩⟩

theorem hyps_LoopCommands :
    (∃ (s : State) (c : Fin 12), (s.busUp = true) ∧ (s.jobsRun = true) ∧ (s.pget (LPE_STAT_LSTATE c.val) = lsAcquire) ∧ (0 < (s.chan c.val).lockT) ∧ (s.inF (LPE_LOCK_T_LOCK_T c.val) * s.rate ≤ (s.chan c.val).lockT)) ∧
    (∃ (s : State) (c : Fin 12) (u : State), (s.busUp = true) ∧ (s.jobsRun = true) ∧ (lsAcquire ≤ s.get (LPE_STAT_LSTATE c.val)) ∧ (s.get (LPE_STAT_LSTATE c.val) ≤ lsLocked) ∧ (u = s.predictEval c.val) ∧ ((u.chan c.val).preview = none) ∧ (u.previewCause c.val ≠ 0)) ∧
    (∃ (s : State) (c : Fin 12) (u : State), (s.busUp = true) ∧ (s.jobsRun = true) ∧ (lsAcquire ≤ s.get (LPE_STAT_LSTATE c.val)) ∧ (s.get (LPE_STAT_LSTATE c.val) ≤ lsLocked) ∧ (u = s.predictEval c.val) ∧ ((u.chan c.val).preview = none) ∧ (u.previewCause c.val = 0)) ∧
    (∃ (s : State) (c : Fin 12) (u : State), (s.busUp = true) ∧ (s.jobsRun = true) ∧ (lsAcquire ≤ s.get (LPE_STAT_LSTATE c.val)) ∧ (s.get (LPE_STAT_LSTATE c.val) ≤ lsLocked) ∧ (u = s.predictEval c.val) ∧ ((u.chan c.val).preview ≠ none)) ∧
    (∃ (s : State) (c : Fin 12), (s.busUp = true) ∧ (s.jobsRun = true) ∧ (s.get (LPE_STAT_LSTATE c.val) < lsAcquire ∨ lsLocked < s.get (LPE_STAT_LSTATE c.val))) ∧
    (∃ (s : State) (c : Fin 12) (w : HostWrite) (v : Nat), (s.accepts w (0x91024 + 0x100 * c.val) = true) ∧ (v = ((s.tns.padj.find? (fun e => e.1 == c.val)).map (fun e => e.2 % 2 ^ 32)).getD (s.merged w (LPE_PADJ_PADJ c.val)))) :=
  ⟨⟨withChan ({ Chan.idle with lockT := 1 }) (u [(LPE_STAT_LSTATE 11, lsAcquire), (LPE_LOCK_T_LOCK_T 11, 0)]), 11, by decide +kernel⟩,
   ⟨withChan ({ Chan.idle with members := [{ (⟨87, none, 0, 0, 0, 0, 0, false, true, 0, false, 0⟩ : Member) with w := 1 }] }) (u [(SEL_CTL_EN 11, 1), (LPE_STAT_LSTATE 11, lsLocked), (SEL_STAT_SSTATE 11, ssCombining)]), 11, (withChan ({ Chan.idle with members := [{ (⟨87, none, 0, 0, 0, 0, 0, false, true, 0, false, 0⟩ : Member) with w := 1 }] }) (u [(SEL_CTL_EN 11, 1), (LPE_STAT_LSTATE 11, lsLocked), (SEL_STAT_SSTATE 11, ssCombining)])).predictEval 11, by decide +kernel, by decide +kernel, by decide +kernel, by decide +kernel, rfl, by decide +kernel, by decide +kernel⟩,
   ⟨withChan ({ Chan.idle with est := some 0 }) (u [(LPE_STAT_LSTATE 11, lsLocked)]), 11, (withChan ({ Chan.idle with est := some 0 }) (u [(LPE_STAT_LSTATE 11, lsLocked)])).predictEval 11, by decide +kernel, by decide +kernel, by decide +kernel, by decide +kernel, rfl, by decide +kernel, by decide +kernel⟩,
   ⟨withChan ({ Chan.idle with preview := some default }) (u [(LPE_STAT_LSTATE 11, lsLocked)]), 11, (withChan ({ Chan.idle with preview := some default }) (u [(LPE_STAT_LSTATE 11, lsLocked)])).predictEval 11, by decide +kernel, by decide +kernel, by decide +kernel, by decide +kernel, rfl, by decide +kernel⟩,
   ⟨withChan (Chan.idle) (u [(LPE_STAT_LSTATE 11, lsHoldover)]), 11, by decide +kernel⟩,
   ⟨up, 11, hw 0, 0, by decide +kernel⟩⟩

theorem hyps_OtherJobs :
    (∃ (s : State) (k : Fin 4), (s.busUp = true) ∧ (s.jobsRun = true) ∧ (s.unitInRst 12 = false) ∧ (s.scaleEn k.val = true)) ∧
    (∃ (s : State) (g : Fin 32) (x : Grp) (r : List GrpX × List Rat × Nat), (s.busUp = true) ∧ (s.jobsRun = true) ∧ (s.unitInRst 14 = false) ∧ ((s.grp g.val).got ≠ []) ∧ (x = s.grp g.val) ∧ (r = gateFold (s.get (PTP_GRP_GATE_MPD_GATE g.val)) x.got x.mpds) ∧ (r.1 = [])) ∧
    (∃ (s : State) (g : Fin 32) (x : Grp) (r : List GrpX × List Rat × Nat) (u : GrpX) (l : List GrpX), (s.busUp = true) ∧ (s.jobsRun = true) ∧ (s.unitInRst 14 = false) ∧ ((s.grp g.val).got ≠ []) ∧ (x = s.grp g.val) ∧ (r = gateFold (s.get (PTP_GRP_GATE_MPD_GATE g.val)) x.got x.mpds) ∧ (r.1 = u :: l)) ∧
    (∃ (s : State) (g : Fin 32), (s.busUp = true) ∧ (s.jobsRun = true) ∧ ((s.grp g.val).got = [])) ∧
    (∃ (s : State), (s.busUp = true) ∧ (s.jobsRun = true)) ∧
    (∃ (s : State) (g : Fin 256), (s.busUp = true) ∧ (s.jobsRun = true) ∧ (g.val ≤ 11)) ∧
    (∃ (s : State) (g : Fin 256), (s.busUp = true) ∧ (s.jobsRun = true) ∧ (11 < g.val)) ∧
    (∃ (s : State), (s.busUp = true) ∧ (s.jobsRun = true)) :=
  ⟨⟨u [(TME_CFG_EN 3, 1)], 3, by decide +kernel⟩,
   ⟨{ u [(PTP_GRP_GATE_MPD_GATE 31, 10)] with ptp := { up.ptp with grp := [(31, { Grp.idle with got := [⟨0, 0, 11⟩], mpds := [0] })] } }, 31, { Grp.idle with got := [⟨0, 0, 11⟩], mpds := [0] }, gateFold 10 [⟨0, 0, 11⟩] [0], by decide +kernel⟩,
   ⟨{ up with ptp := { up.ptp with grp := [(31, { Grp.idle with got := [⟨0, 0, 0⟩] })] } }, 31, { Grp.idle with got := [⟨0, 0, 0⟩] }, gateFold 0 [⟨0, 0, 0⟩] [], ⟨0, 0, 0⟩, [], by decide +kernel⟩,
   ⟨up, 31, by decide +kernel⟩,
   ⟨up, by decide +kernel⟩,
   ⟨up, 11, by decide +kernel⟩,
   ⟨up, 12, by decide +kernel⟩,
   ⟨up, by decide +kernel⟩⟩

theorem hyps_JobsWaitForImage :
    ∃ (s : State) (j : Instr), (loopJob j = true) ∧ (s.jobsRun = false) :=
  ⟨State.reset, .filterJob 11, by decide +kernel⟩

theorem hyps_CaskAndSensor :
    (∃ (s : State) (ask : Wire) (v : BitVec 16) (x : Rat), (s.busUp = true) ∧ (ask = .sensor (s.inF CSK_SNS_CFG_ADDR) (s.inF CSK_SNS_CFG_PTR) (s.inFb CSK_SNS_CFG_SPEED)) ∧ (s.csk.attempts ≠ 0) ∧ (x = s.sensorValue v) ∧ ((x < -7040 ∨ x > 19200 ∨ ∃ e, s.csk.ext = some e ∧ absRat (x - (e : Rat)) > (s.inF CSK_SNS_LIM_SNS_STEP : Rat) * 128 / 10))) ∧
    (∃ (s : State) (ask : Wire) (v : BitVec 16) (x : Rat), (s.busUp = true) ∧ (ask = .sensor (s.inF CSK_SNS_CFG_ADDR) (s.inF CSK_SNS_CFG_PTR) (s.inFb CSK_SNS_CFG_SPEED)) ∧ (s.csk.attempts ≠ 0) ∧ (x = s.sensorValue v) ∧ (-7040 ≤ x) ∧ (x ≤ 19200) ∧ ((∀ e, s.csk.ext = some e → absRat (x - (e : Rat)) ≤ (s.inF CSK_SNS_LIM_SNS_STEP : Rat) * 128 / 10))) ∧
    (∃ (s : State) (ask : Wire), (s.busUp = true) ∧ (ask = .sensor (s.inF CSK_SNS_CFG_ADDR) (s.inF CSK_SNS_CFG_PTR) (s.inFb CSK_SNS_CFG_SPEED)) ∧ (s.inFb CSK_SNS_CFG_SNS_EN = true) ∧ (s.bit CSK_TUSE_FALLBACK = false) ∧ (s.unitInRst 10 = false) ∧ (s.sensorDue = true)) ∧
    (∃ (s : State) (ask : Wire), (s.busUp = true) ∧ (ask = .sensor (s.inF CSK_SNS_CFG_ADDR) (s.inF CSK_SNS_CFG_PTR) (s.inFb CSK_SNS_CFG_SPEED)) ∧ (s.sensorDue = false)) ∧
    (∃ (s : State) (ask : Wire), (s.busUp = true) ∧ (ask = .sensor (s.inF CSK_SNS_CFG_ADDR) (s.inF CSK_SNS_CFG_PTR) (s.inFb CSK_SNS_CFG_SPEED)) ∧ (3600 ≤ s.csk.tofsRun)) ∧
    (∃ (s : State) (c : Fin 12), (s.busUp = true) ∧ ((s.caskOf c.val).clear = true) ∧ (s.tickIndex = 0)) ∧
    (∃ (s : State) (c : Fin 12), (s.busUp = true) ∧ ((s.caskOf c.val).clear = false ∨ s.tickIndex ≠ 0)) ∧
    (∃ (s : State) (c : Fin 12), (s.busUp = true) ∧ (s.get (LPE_STAT_LSTATE c.val) = lsHoldover) ∧ (s.inF (CSK_HO_LIMIT_HO_LIMIT c.val) ≠ 0) ∧ (s.inF (CSK_HO_LIMIT_HO_LIMIT c.val) * s.rate ≤ (s.chan c.val).hoDur)) ∧
    (∃ (s : State), (s.busUp = true) ∧ (s.jobsRun = true) ∧ (s.unitInRst 10 = false)) ∧
    (∃ (s : State) (w : HostWrite), (s.accepts w 0xA0004 = true)) :=
  ⟨⟨{ u [(CSK_SNS_CFG_WIDTH, 16), (CSK_SNS_CFG_FRAC, 7)] with csk := { up.csk with attempts := 1 } }, .sensor 0 0 false, 0x7FFF#16, ({ u [(CSK_SNS_CFG_WIDTH, 16), (CSK_SNS_CFG_FRAC, 7)] with csk := { up.csk with attempts := 1 } } : State).sensorValue 0x7FFF#16, by decide +kernel⟩,
   ⟨{ u [(CSK_SNS_CFG_WIDTH, 16), (CSK_SNS_CFG_FRAC, 7)] with csk := { up.csk with attempts := 1 } }, .sensor 0 0 false, 19200#16, ({ u [(CSK_SNS_CFG_WIDTH, 16), (CSK_SNS_CFG_FRAC, 7)] with csk := { up.csk with attempts := 1 } } : State).sensorValue 19200#16, by decide +kernel⟩,
   ⟨{ u [(CSK_SNS_CFG_SNS_EN, 1)] with csk := { up.csk with extAt := some 0 } }, .sensor 0 0 false, by decide +kernel⟩,
   ⟨up, .sensor 0 0 false, by decide +kernel⟩,
   ⟨{ up with csk := { up.csk with tofsRun := 3600 } }, .sensor 0 0 false, by decide +kernel⟩,
   ⟨{ up with cask := [(11, { Cask.idle with clear := true })] }, 11, by decide +kernel⟩,
   ⟨{ up with cask := [(11, { Cask.idle with clear := false })] }, 11, by decide +kernel⟩,
   ⟨withChan ({ Chan.idle with hoDur := 8000 }) (u [(LPE_STAT_LSTATE 11, lsHoldover), (CSK_HO_LIMIT_HO_LIMIT 11, 1)]), 11, by decide +kernel⟩,
   ⟨up, by decide +kernel⟩,
   ⟨up, hw 0, by decide +kernel⟩⟩

theorem hyps_ApllAndXo :
    (∃ (s : State) (m : Fin 4), (s.busUp = true) ∧ (s.astate m.val = apCal) ∧ (s.bit SYN_XO_STAT_XO_OK = true)) ∧
    (∃ (s : State) (m : Fin 4), (s.busUp = true) ∧ (s.astate m.val = apCal) ∧ (s.bit SYN_XO_STAT_XO_OK = true) ∧ (s.dueBy ((s.apll m.val).since + 6000000) = true)) ∧
    (∃ (s : State) (m : Fin 4), (s.busUp = true) ∧ (s.astate m.val = apCal) ∧ (s.bit SYN_XO_STAT_XO_OK = true) ∧ (s.dueBy ((s.apll m.val).since + 6000000) = false)) ∧
    (∃ (s : State) (m : Fin 4), (s.busUp = true) ∧ (s.astate m.val = apAcq) ∧ (s.dueBy ((s.apll m.val).since + 4000000) = true)) ∧
    (∃ (s : State) (m : Fin 4), (s.busUp = true) ∧ (s.astate m.val = apAcq) ∧ (s.dueBy ((s.apll m.val).since + 4000000) = false)) ∧
    (∃ (s : State) (m : Fin 4), (s.busUp = true) ∧ (s.astate m.val = apLocked)) ∧
    (∃ (s : State) (m : Fin 4), (s.busUp = true) ∧ (s.astate m.val ≠ apCal)) ∧
    (∃ (s : State) (m : Fin 4), (s.busUp = true) ∧ (s.astate m.val ≠ apAcq)) ∧
    (∃ (s : State) (m : Fin 4), (s.busUp = true) ∧ (s.astate m.val ≠ apLocked)) ∧
    (∃ (s : State), (s.busUp = true) ∧ (s.bit SYN_XO_STAT_XO_OK = true)) ∧
    (∃ (s : State), (s.busUp = true) ∧ (s.bit SYN_XO_STAT_XO_OK = false)) ∧
    (∃ (s : State), (s.busUp = true) ∧ (s.bit SYN_XO_STAT_XF_LOCK = false) ∧ (s.rate ≤ s.syn.xoT)) :=
  ⟨⟨{ u [(SYN_APLL_STAT_ASTATE 3, apCal), (SYN_XO_STAT_XO_OK, 1)] with target := 8 * secUnit, syn := { up.syn with apll := [(3, { Apll.idle with since := 0 })] } }, 3, by decide +kernel⟩,
   ⟨{ u [(SYN_APLL_STAT_ASTATE 3, apCal), (SYN_XO_STAT_XO_OK, 1)] with target := 8 * secUnit, syn := { up.syn with apll := [(3, { Apll.idle with since := 0 })] } }, 3, by decide +kernel⟩,
   ⟨{ u [(SYN_APLL_STAT_ASTATE 3, apCal), (SYN_XO_STAT_XO_OK, 1)] with target := 8 * secUnit, syn := { up.syn with apll := [(3, { Apll.idle with since := 100000000000 })] } }, 3, by decide +kernel⟩,
   ⟨{ u [(SYN_APLL_STAT_ASTATE 3, apAcq), (SYN_XO_STAT_XO_OK, 1)] with target := 8 * secUnit, syn := { up.syn with apll := [(3, { Apll.idle with since := 0 })] } }, 3, by decide +kernel⟩,
   ⟨{ u [(SYN_APLL_STAT_ASTATE 3, apAcq), (SYN_XO_STAT_XO_OK, 1)] with target := 8 * secUnit, syn := { up.syn with apll := [(3, { Apll.idle with since := 100000000000 })] } }, 3, by decide +kernel⟩,
   ⟨u [(SYN_APLL_STAT_ASTATE 3, apLocked)], 3, by decide +kernel⟩,
   ⟨up, 3, by decide +kernel⟩,
   ⟨up, 3, by decide +kernel⟩,
   ⟨up, 3, by decide +kernel⟩,
   ⟨up, by decide +kernel⟩,
   ⟨u [(SYN_XO_STAT_XO_OK, 0)], by decide +kernel⟩,
   ⟨{ up with syn := { up.syn with xoT := 8000 } }, by decide +kernel⟩⟩

theorem hyps_OutputStates :
    (∃ (s : State) (j : Fin 24), (s.busUp = true) ∧ (s.unitInRst 11 = false) ∧ (s.get (SYN_OUT_STAT_OSTATE j.val) ≤ 3)) ∧
    (∃ (s : State) (j : Fin 24), (s.busUp = true) ∧ ((s.get (SYN_OUT_STAT_OSTATE j.val) = osSquelched ∨ s.get (SYN_OUT_STAT_OSTATE j.val) = osGated)) ∧ ((s.out j.val).drive = .active)) ∧
    (∃ (s : State) (j : Fin 24), (s.busUp = true) ∧ (s.get (SYN_OUT_STAT_OSTATE j.val) = osRunning) ∧ ((s.out j.val).drive ≠ .active)) :=
  ⟨⟨up, 23, by decide +kernel⟩,
   ⟨{ u [(SYN_OUT_STAT_OSTATE 23, osGated)] with syn := { up.syn with out := [(23, { Out.idle with drive := .active })] } }, 23, by decide +kernel⟩,
   ⟨u [(SYN_OUT_STAT_OSTATE 23, osRunning)], 23, by decide +kernel⟩⟩

theorem hyps_OutputWritesAndActions :
    (∃ (s : State) (w : HostWrite), (s.accepts w 0xB0030 = true)) ∧
    (∃ (s : State) (w : HostWrite), (s.accepts w 0xB0034 = true) ∧ (s.unitInRst 11 = true)) ∧
    (∃ (s : State) (w : HostWrite), (s.accepts w 0xB0034 = true) ∧ (s.unitInRst 11 = false)) ∧
    (∃ (s : State) (j : Fin 24) (w : HostWrite), (s.accepts w (0xB1000 + 0x40 * j.val) = true)) ∧
    (∃ (s : State) (j : Fin 24) (w : HostWrite), (s.accepts w (0xB1028 + 0x40 * j.val) = true)) ∧
    (∃ (s : State) (j : Fin 24) (w : HostWrite), (s.accepts w (0xB102C + 0x40 * j.val) = true)) ∧
    (∃ (s : State) (j : Fin 24), (s.busUp = true) ∧ (s.synAway = false) ∧ (s.get (SYN_OUT_ACFG_ALIGN_N j.val) ≠ 0) ∧ (s.get (SYN_OUT_ACFG_ALIGN_N j.val) ≤ (s.out j.val).diffs.length)) ∧
    (∃ (s : State) (j : Fin 24) (a : OutAct) (b : Nat) (r : List Nat) (d : Int), (s.busUp = true) ∧ ((s.out j.val).acts = [(a, b, r)]) ∧ (b ≤ s.coarse) ∧ (s.outIsOff j.val = false) ∧ (s.unitInRst 11 = false) ∧ (s.sqCause j.val = 0) ∧ (s.get (SYN_OUT_STAT_OSTATE j.val) = osRunning) ∧ (a = .phaseAdd d)) ∧
    (∃ (s : State) (j : Fin 24) (a : OutAct) (b : Nat) (r : List Nat), (s.busUp = true) ∧ ((s.out j.val).acts = [(a, b, r)]) ∧ (b ≤ s.coarse) ∧ (s.outIsOff j.val = false) ∧ (s.unitInRst 11 = false) ∧ (s.sqCause j.val = 0) ∧ (s.get (SYN_OUT_STAT_OSTATE j.val) = osRunning) ∧ (a = .gateOff) ∧ (s.gatedOff j.val = false)) ∧
    (∃ (s : State) (j : Fin 24) (a : OutAct) (b : Nat) (r : List Nat) (x : Bool), (s.busUp = true) ∧ ((s.out j.val).acts = [(a, b, r)]) ∧ (b ≤ s.coarse) ∧ (s.outIsOff j.val = false) ∧ (s.unitInRst 11 = false) ∧ (s.sqCause j.val = 0) ∧ (s.get (SYN_OUT_STAT_OSTATE j.val) = osRunning) ∧ (a = .reload x)) ∧
    (∃ (s : State) (j : Fin 24) (b : Nat) (r : List Nat), (s.busUp = true) ∧ ((s.out j.val).acts = [(.gateOn, b, r)]) ∧ (b ≤ s.coarse) ∧ (s.outIsOff j.val = false) ∧ (s.unitInRst 11 = false) ∧ (s.sqCause j.val = 0) ∧ (s.get (SYN_OUT_STAT_OSTATE j.val) = osGated)) :=
  ⟨⟨up, hw 0, by decide +kernel⟩,
   ⟨{ up with flt := { up.flt with rstLeft := [(11, 3)] } }, hw 0xFFFFFF, by decide +kernel⟩,
   ⟨up, hw 0, by decide +kernel⟩,
   ⟨u [(SYN_OUT_DIVA_LO_DIV 23, 1)], 23, hw 0, by decide +kernel⟩,
   ⟨up, 23, hw 0, by decide +kernel⟩,
   ⟨up, 23, hw 0, by decide +kernel⟩,
   ⟨{ u [(SYN_OUT_ACFG_ALIGN_N 23, 1)] with syn := { up.syn with out := [(23, { Out.idle with diffs := [0] })] } }, 23, by decide +kernel⟩,
   ⟨{ u [(SYN_APLL_STAT_ASTATE 0, apLocked), (SYN_OUT_CFG_EN 23, 1), (SYN_XO_STAT_XF_LOCK, 1), (SYN_OUT_STAT_OSTATE 23, osRunning), (SYS_SUP_STAT_VDDO_CLASS, 0), (SYS_SUP_STAT_SUP_PGOOD, 7)] with syn := { up.syn with out := [(23, { Out.idle with met := true, drive := .active, acts := [(.phaseAdd 5, 0, [])] })] } }, 23, .phaseAdd 5, 0, [], 5, by decide +kernel⟩,
   ⟨{ u [(SYN_APLL_STAT_ASTATE 0, apLocked), (SYN_OUT_CFG_EN 23, 1), (SYN_XO_STAT_XF_LOCK, 1), (SYN_OUT_STAT_OSTATE 23, osRunning), (SYS_SUP_STAT_VDDO_CLASS, 0), (SYS_SUP_STAT_SUP_PGOOD, 7)] with syn := { up.syn with out := [(23, { Out.idle with met := true, drive := .active, acts := [(.gateOff, 0, [])] })] } }, 23, .gateOff, 0, [], by decide +kernel⟩,
   ⟨{ u [(SYN_APLL_STAT_ASTATE 0, apLocked), (SYN_OUT_CFG_EN 23, 1), (SYN_XO_STAT_XF_LOCK, 1), (SYN_OUT_STAT_OSTATE 23, osRunning), (SYS_SUP_STAT_VDDO_CLASS, 0), (SYS_SUP_STAT_SUP_PGOOD, 7)] with syn := { up.syn with out := [(23, { Out.idle with met := true, drive := .active, acts := [(.reload true, 0, [])] })] } }, 23, .reload true, 0, [], true, by decide +kernel⟩,
   ⟨{ u [(SYN_APLL_STAT_ASTATE 0, apLocked), (SYN_OUT_CFG_EN 23, 1), (SYN_XO_STAT_XF_LOCK, 1), (SYN_OUT_STAT_OSTATE 23, osGated), (SYS_SUP_STAT_VDDO_CLASS, 0), (SYS_SUP_STAT_SUP_PGOOD, 7), (SYN_OUT_STAT_SQ_CAUSE 23, 0)] with syn := { up.syn with out := [(23, { Out.idle with met := true, drive := .active, acts := [(.gateOn, 0, [])] })] } }, 23, 0, [], by decide +kernel⟩⟩

theorem hyps_TickTurns :
    (∃ (s : State), (s.busUp = true) ∧ (s.sys.clocks = true)) ∧
    (∃ (s : State), (s.busUp = true) ∧ (s.sys.clocks = false)) :=
  ⟨⟨up, by decide +kernel⟩,
   ⟨State.reset, by decide +kernel⟩⟩

theorem hyps_TimeStep :
    (∃ (s : State) (k : Fin 4) (w : HostWrite), (s.accepts w (0xC0130 + 0x80 * k.val) = true) ∧ (bitAt w.v.toNat 0 = false)) ∧
    (∃ (s : State) (k : Fin 4) (w : HostWrite), (s.accepts w (0xC0130 + 0x80 * k.val) = true) ∧ (bitAt w.v.toNat 0 = true) ∧ (s.wonce.contains (TME_STEP_GO_GO k.val).key = false) ∧ (s.unitInRst 12 = false) ∧ (s.scaleEn k.val = true)) ∧
    (∃ (s : State) (k : Fin 4) (w : HostWrite), (s.accepts w (0xC0130 + 0x80 * k.val) = true) ∧ (bitAt w.v.toNat 0 = true) ∧ (s.wonce.contains (TME_STEP_GO_GO k.val).key = true)) ∧
    (∃ (s : State) (k : Fin 4) (d : Int) (n : Nat), (s.busUp = true) ∧ ((s.scale k.val).step = some (d, n)) ∧ ((s.dueBy n = true ∨ s.applied = false))) ∧
    (∃ (s : State) (k : Fin 4) (d : Int) (n : Nat), (s.busUp = true) ∧ ((s.scale k.val).step = some (d, n)) ∧ (s.dueBy n = false) ∧ (s.applied = true) ∧ (s.gld.op ≠ some .swap)) ∧
    (∃ (s : State) (k : Fin 4), (s.busUp = true) ∧ ((s.scale k.val).step = none) ∧ (s.gld.op ≠ some .swap)) :=
  ⟨⟨up, 3, hw 0, by decide +kernel⟩,
   ⟨u [(TME_CFG_EN 3, 1)], 3, hw 1, by decide +kernel⟩,
   ⟨{ u [(TME_CFG_EN 3, 1)] with wonce := [(TME_STEP_GO_GO 3).key] }, 3, hw 1, by decide +kernel⟩,
   ⟨{ u [(TME_CFG_EN 3, 1)] with scales := [(0, Scale.started), (3, { Scale.started with step := some (5, 0) })] }, 3, 5, 0, by decide +kernel⟩,
   ⟨{ u [(TME_CFG_EN 3, 1)] with scales := [(3, { Scale.started with step := some (5, 1000000) })] }, 3, 5, 1000000, by decide +kernel⟩,
   ⟨up, 3, by decide +kernel⟩⟩

theorem hyps_RateAndUtc :
    (∃ (s : State) (k : Fin 4) (w : HostWrite), (s.accepts w (0xC0148 + 0x80 * k.val) = true)) ∧
    (∃ (s : State) (k : Fin 4) (r : Int) (d : Nat), (s.busUp = true) ∧ ((s.scale k.val).radjNext = some (r, d))) ∧
    (∃ (s : State) (k : Fin 4), (s.busUp = true) ∧ ((s.scale k.val).radjNext = none)) ∧
    (∃ (s : State) (k : Fin 4) (a : Radj), (s.busUp = true) ∧ ((s.scale k.val).radj = some a) ∧ (a.left = 0)) ∧
    (∃ (s : State) (k : Fin 4) (a : Radj), (s.busUp = true) ∧ ((s.scale k.val).radj = some a) ∧ (a.left ≠ 0)) ∧
    (∃ (s : State) (k : Fin 4) (w : HostWrite), (s.accepts w (0xC0158 + 0x80 * k.val) = true) ∧ (bitAt w.v.toNat 0 = true)) ∧
    (∃ (s : State) (k : Fin 4) (w : HostWrite), (s.accepts w (0xC0158 + 0x80 * k.val) = true) ∧ (bitAt w.v.toNat 0 = false)) ∧
    (∃ (s : State) (k : Fin 4) (u : UtcData), (s.busUp = true) ∧ ((s.scale k.val).utcDue = some u)) ∧
    (∃ (s : State) (k : Fin 4), (s.busUp = true) ∧ ((s.scale k.val).utcDue = none)) ∧
    (∃ (s : State) (k : Fin 4), (s.busUp = true) ∧ ((s.scale k.val).secSeen < (s.scale k.val).utc.sec) ∧ ((s.scale k.val).utc.sec ≤ tsSec (s.now k.val)) ∧ ((s.scale k.val).utc.leap61 = true) ∧ ((s.scale k.val).utc.leap59 = false)) ∧
    (∃ (s : State) (k : Fin 4), (s.busUp = true) ∧ ((s.scale k.val).secSeen < (s.scale k.val).utc.sec) ∧ ((s.scale k.val).utc.sec ≤ tsSec (s.now k.val)) ∧ ((s.scale k.val).utc.leap61 = false) ∧ ((s.scale k.val).utc.leap59 = true)) ∧
    (∃ (s : State) (k : Fin 4), (s.busUp = true) ∧ ((s.scale k.val).utc.leap61 = false) ∧ ((s.scale k.val).utc.leap59 = false)) :=
  ⟨⟨up, 3, hw 1, by decide +kernel⟩,
   ⟨{ u [(TME_CFG_EN 3, 1)] with scales := [(3, { Scale.started with radjNext := some (-1, 1) })] }, 3, -1, 1, by decide +kernel⟩,
   ⟨up, 3, by decide +kernel⟩,
   ⟨{ u [(TME_CFG_EN 3, 1)] with scales := [(3, { Scale.started with radj := some ⟨1, 0, 0⟩ })] }, 3, ⟨1, 0, 0⟩, by decide +kernel⟩,
   ⟨{ u [(TME_CFG_EN 3, 1)] with scales := [(3, { Scale.started with radj := some ⟨1, 1, 0⟩ })] }, 3, ⟨1, 1, 0⟩, by decide +kernel⟩,
   ⟨up, 3, hw 1, by decide +kernel⟩,
   ⟨up, 3, hw 0, by decide +kernel⟩,
   ⟨{ u [(TME_CFG_EN 3, 1)] with scales := [(3, { Scale.started with utcDue := some ⟨37, true, false, false, 0⟩ })] }, 3, ⟨37, true, false, false, 0⟩, by decide +kernel⟩,
   ⟨up, 3, by decide +kernel⟩,
   ⟨{ u [(TME_CFG_EN 3, 1)] with scales := [(3, { Scale.started with segs := [⟨0, 5 * secUnit, incNominal, 0⟩], utc := ⟨37, true, true, false, 5⟩, secSeen := 4 })] }, 3, by decide +kernel⟩,
   ⟨{ u [(TME_CFG_EN 3, 1)] with scales := [(3, { Scale.started with segs := [⟨0, 5 * secUnit, incNominal, 0⟩], utc := ⟨37, true, false, true, 5⟩, secSeen := 4 })] }, 3, by decide +kernel⟩,
   ⟨up, 3, by decide +kernel⟩⟩

theorem hyps_StampsRead :
    (∃ (s : State) (m : Master) (g : TimeGroup), (s.serves m g.addr = true) ∧ (s.allMember g.addr = false)) ∧
    (∃ (s : State) (i : Fin 16) (r : Rec), (s.evtIn.find? (fun r => r.srcidx == i.val) = some r) ∧ (s.busUp = true) ∧ (s.bit (TME_EVT_CFG_EN i.val) = true) ∧ (s.scaleEn (s.get (TME_EVT_CFG_TS i.val)) = true)) ∧
    (∃ (s : State) (i : Fin 16) (r : Rec), (s.evtIn.find? (fun r => r.srcidx == i.val) = some r) ∧ (s.busUp = true) ∧ (s.bit (TME_EVT_CFG_EN i.val) = false ∨ s.scaleEn (s.get (TME_EVT_CFG_TS i.val)) = false)) ∧
    (∃ (s : State) (i : Fin 16) (c : Nat), (s.busUp = true) ∧ (tabGet none s.evtFrom i.val = some c) ∧ (s.get (TME_EVT_CFG_EVT_TO i.val) ≠ 0) ∧ (s.bit (TME_EVT_CFG_EN i.val) = true) ∧ (s.unitInRst 12 = false) ∧ (s.dueBy (c + s.get (TME_EVT_CFG_EVT_TO i.val) * 2000000) = true)) ∧
    (∃ (s : State) (i : Fin 16) (c : Nat), (s.busUp = true) ∧ (tabGet none s.evtFrom i.val = some c) ∧ (s.get (TME_EVT_CFG_EVT_TO i.val) ≠ 0) ∧ (s.bit (TME_EVT_CFG_EN i.val) = true) ∧ (s.unitInRst 12 = false) ∧ (s.dueBy (c + s.get (TME_EVT_CFG_EVT_TO i.val) * 2000000) = false)) ∧
    (∃ (s : State) (i : Fin 16), (s.busUp = true) ∧ (tabGet none s.evtFrom i.val = none ∨ s.get (TME_EVT_CFG_EVT_TO i.val) = 0 ∨ s.bit (TME_EVT_CFG_EN i.val) = false ∨ s.unitInRst 12 = true)) ∧
    (∃ (s : State) (m : Master) (p : Fin 16) (e : TxEntry) (q : List TxEntry), (s.serves m (0xC100C + 0x40 * p.val) = true) ∧ (s.txQueue p.val = e :: q)) ∧
    (∃ (s : State) (m : Master) (p : Fin 16), (s.serves m (0xC100C + 0x40 * p.val) = true) ∧ (s.txQueue p.val = [])) :=
  ⟨⟨up, .pf0, .now 3, by decide +kernel⟩,
   ⟨{ u [(TME_EVT_CFG_EN 15, 1), (TME_EVT_CFG_TS 15, 3), (TME_CFG_EN 3, 1)] with evtIn := [{ (default : Rec) with srcidx := 15 }] }, 15, { (default : Rec) with srcidx := 15 }, by decide +kernel⟩,
   ⟨{ u [] with evtIn := [{ (default : Rec) with srcidx := 15 }] }, 15, { (default : Rec) with srcidx := 15 }, by decide +kernel⟩,
   ⟨{ u [(TME_EVT_CFG_EN 15, 1), (TME_EVT_CFG_EVT_TO 15, 1)] with target := 8 * secUnit, evtFrom := [(15, some 0)] }, 15, 0, by decide +kernel⟩,
   ⟨{ u [(TME_EVT_CFG_EN 15, 1), (TME_EVT_CFG_EVT_TO 15, 1)] with target := 8 * secUnit, evtFrom := [(15, some 100000000000)] }, 15, 100000000000, by decide +kernel⟩,
   ⟨up, 15, by decide +kernel⟩,
   ⟨{ up with txq := [(15, [⟨5, 6, 7, 8⟩])] }, .pf0, 15, ⟨5, 6, 7, 8⟩, [], by decide +kernel⟩,
   ⟨up, .pf0, 15, by decide +kernel⟩⟩

theorem hyps_PortLines :
    (∃ (s : State) (p : Fin 16) (pcs : Bool) (an : Bool), (s.busUp = true) ∧ (s.portLive p.val = true) ∧ (((pcs && (s.get (ETH_CFG_MODE p.val) != 0 || !s.bit (ETH_CFG_AN_EN p.val) || an)) = true ∨ s.inFb (REF_CFG_EN (32 + p.val)) = false ∨ s.unitInRst 5 = true))) ∧
    (∃ (s : State) (p : Fin 16) (pcs : Bool) (an : Bool), (s.busUp = true) ∧ (s.portLive p.val = true) ∧ ((pcs && (s.get (ETH_CFG_MODE p.val) != 0 || !s.bit (ETH_CFG_AN_EN p.val) || an)) = false) ∧ (s.inFb (REF_CFG_EN (32 + p.val)) = true) ∧ (s.unitInRst 5 = false)) ∧
    (∃ (s : State) (p : Fin 16), (s.busUp = true) ∧ (s.portLive p.val = false)) ∧
    (∃ (s : State), (s.busUp = true)) :=
  ⟨⟨u [(ETH_CFG_EN 15, 1)], 15, false, false, by decide +kernel⟩,
   ⟨u [(ETH_CFG_EN 15, 1), (REF_CFG_EN 47, 1)], 15, false, false, by decide +kernel⟩,
   ⟨up, 15, by decide +kernel⟩,
   ⟨up, by decide +kernel⟩⟩

theorem hyps_FramesReceived :
    (∃ (s : State) (p : Fin 16), (s.busUp = true) ∧ (s.portUp p.val = false)) ∧
    (∃ (s : State) (p : Fin 16) (f : List Byte) (fcs : Bool), (s.busUp = true) ∧ (s.portUp p.val = true) ∧ ((fcs = false ∨ f.length + 4 < 64 ∨ 9216 < f.length + 4))) ∧
    (∃ (s : State) (p : Fin 16) (f : List Byte), (s.busUp = true) ∧ (s.portUp p.val = true) ∧ (64 ≤ f.length + 4) ∧ (f.length + 4 ≤ 9216) ∧ ((s.bit (ETH_CFG_ESMC_EN p.val) = false ∨ parseEsmc f = none)) ∧ (s.forHost p.val f = false)) ∧
    (∃ (s : State) (p : Fin 16) (f : List Byte), (s.busUp = true) ∧ (s.portUp p.val = true) ∧ (64 ≤ f.length + 4) ∧ (f.length + 4 ≤ 9216) ∧ ((s.bit (ETH_CFG_ESMC_EN p.val) = false ∨ parseEsmc f = none)) ∧ (s.forHost p.val f = true) ∧ ((s.hostToken p.val (f.length + 4)).2 = false ∨ s.frameRoom = false)) ∧
    (∃ (s : State) (p : Fin 16) (f : List Byte), (s.busUp = true) ∧ (s.portUp p.val = true) ∧ (64 ≤ f.length + 4) ∧ (f.length + 4 ≤ 9216) ∧ ((s.bit (ETH_CFG_ESMC_EN p.val) = false ∨ parseEsmc f = none)) ∧ (s.forHost p.val f = true) ∧ ((s.hostToken p.val (f.length + 4)).2 = true) ∧ (s.frameRoom = true) ∧ (s.portAnnounce p.val = false) ∧ (s.hif.held = []) ∧ (s.winWord (s.descAt 0 (s.ringIdx 0) + 4) % 2 ^ 20 / 16 * 16 + s.winWord (s.descAt 0 (s.ringIdx 0)) % 65536 ≤ 2 ^ 20) ∧ (f.length + 16 ≤ s.winWord (s.descAt 0 (s.ringIdx 0)) % 65536)) ∧
    (∃ (s : State) (p : Fin 16) (f : List Byte) (q : Fin 16) (e : Option (Fin 256)), (s.busUp = true) ∧ (s.portUp p.val = true) ∧ (64 ≤ f.length + 4) ∧ (f.length + 4 ≤ 9216) ∧ (s.bit (ETH_CFG_ESMC_EN p.val) = true) ∧ (parseEsmc f = some (q.val, e.map Fin.val))) ∧
    (∃ (s : State) (p : Fin 16) (f : List Byte), (s.busUp = true) ∧ (s.portUp p.val = true) ∧ (64 ≤ f.length + 4) ∧ (f.length + 4 ≤ 9216) ∧ ((s.bit (ETH_CFG_ESMC_EN p.val) = false ∨ parseEsmc f = none))) ∧
    (∃ (s : State) (d : Desc), (s.itemOf 1 = some d) ∧ (s.busUp = true) ∧ (s.txStatus d ≠ 0)) ∧
    (∃ (s : State) (d : Desc), (s.itemOf 1 = some d) ∧ (s.busUp = true) ∧ (s.txStatus d = 0) ∧ (s.portTx d.port = false)) ∧
    (∃ (s : State) (d : Desc), (s.itemOf 1 = some d) ∧ (s.busUp = true) ∧ (s.txStatus d = 0) ∧ (s.portTx d.port = true)) ∧
    (∃ (s : State) (p : Fin 16), (s.busUp = true) ∧ (s.portUp p.val = true) ∧ (s.bit (ETH_CFG_ESMC_EN p.val) = true)) ∧
    (∃ (s : State) (p : Fin 16), (s.busUp = true) ∧ (s.portUp p.val = true) ∧ (s.bit (ETH_CFG_ESMC_EN p.val) = false)) ∧
    (∃ (s : State) (p : Fin 16), (s.busUp = true) ∧ (s.bit (ETH_STAT_ESMC_OK p.val) = true) ∧ (s.portFrozen p.val = false) ∧ (tabGet none s.eth.esmcTick p.val ≠ some s.tick) ∧ (s.dueBy (tabGet 0 s.eth.esmcAt p.val + 10000000000) = true)) ∧
    (∃ (s : State) (p : Fin 16), (s.busUp = true) ∧ (s.bit (ETH_STAT_ESMC_OK p.val) = false ∨ tabGet none s.eth.esmcTick p.val = some s.tick ∨ s.dueBy (tabGet 0 s.eth.esmcAt p.val + 10000000000) = false)) ∧
    (∃ (s : State) (p : Fin 16), (s.busUp = true) ∧ (s.bit (ETH_CFG_ESMC_EN p.val) = true) ∧ (s.portTx p.val = true) ∧ (s.tickIndex = 0)) ∧
    (∃ (s : State) (p : Fin 16), (s.busUp = true) ∧ (s.bit (ETH_CFG_ESMC_EN p.val) = true) ∧ (s.portTx p.val = true) ∧ (tabGet none s.eth.sent p.val ≠ none) ∧ (tabGet none s.eth.sent p.val ≠ some (s.esmcCodes p.val))) ∧
    (∃ (s : State) (p : Fin 16), (s.busUp = true) ∧ (s.bit (ETH_CFG_ESMC_EN p.val) = false ∨ s.portTx p.val = false)) :=
  ⟨⟨up, 15, by decide +kernel⟩,
   ⟨u [(ETH_CFG_EN 15, 1), (ETH_STAT_LINK 15, 1), (ETH_QUAD_QTX_LOCK 3, 1)], 15, List.replicate 59 (1#8), true, by decide +kernel⟩,
   ⟨u [(ETH_CFG_EN 15, 1), (ETH_STAT_LINK 15, 1), (ETH_QUAD_QTX_LOCK 3, 1)], 15, List.replicate 60 (2#8), by decide +kernel⟩,
   ⟨u [(ETH_CFG_EN 15, 1), (ETH_STAT_LINK 15, 1), (ETH_QUAD_QTX_LOCK 3, 1)], 15, List.replicate 60 (1#8), by decide +kernel⟩,
   ⟨(u [(ETH_CFG_EN 15, 1), (ETH_STAT_LINK 15, 1), (ETH_QUAD_QTX_LOCK 3, 1), (HIF_RING_CFG_RING_EN 0, 1), (HIF_RING_CFG_SIZE 0, 4), (ETH_HRATE_HRATE 15, 1)]).putWin 0 (0x80000000 + 76), 15, List.replicate 60 (1#8), by decide +kernel⟩,
   ⟨u [(ETH_CFG_EN 15, 1), (ETH_STAT_LINK 15, 1), (ETH_QUAD_QTX_LOCK 3, 1), (ETH_CFG_ESMC_EN 15, 1)], 15, esmcWith 15, 15, some 255, by decide +kernel⟩,
   ⟨u [(ETH_CFG_EN 15, 1), (ETH_STAT_LINK 15, 1), (ETH_QUAD_QTX_LOCK 3, 1)], 15, List.replicate 60 (1#8), by decide +kernel⟩,
   ⟨{ up with hif := { up.hif with item := [(1, some ⟨0, false, 15, 59, 0, 0, 0⟩)] } }, ⟨0, false, 15, 59, 0, 0, 0⟩, by decide +kernel⟩,
   ⟨{ u [(ETH_CFG_EN 15, 1), (ETH_STAT_LINK 15, 1)] with hif := { up.hif with item := [(1, some ⟨0, false, 15, 60, 0, 0, 0⟩)] } }, ⟨0, false, 15, 60, 0, 0, 0⟩, by decide +kernel⟩,
   ⟨{ u [(ETH_CFG_EN 15, 1), (ETH_STAT_LINK 15, 1), (ETH_QUAD_QTX_LOCK 3, 1)] with hif := { up.hif with item := [(1, some ⟨0, false, 15, 60, 0, 0, 0⟩)] } }, ⟨0, false, 15, 60, 0, 0, 0⟩, by decide +kernel⟩,
   ⟨u [(ETH_CFG_EN 15, 1), (ETH_STAT_LINK 15, 1), (ETH_QUAD_QTX_LOCK 3, 1), (ETH_CFG_ESMC_EN 15, 1)], 15, by decide +kernel⟩,
   ⟨u [(ETH_CFG_EN 15, 1), (ETH_STAT_LINK 15, 1), (ETH_QUAD_QTX_LOCK 3, 1)], 15, by decide +kernel⟩,
   ⟨{ u [(ETH_STAT_ESMC_OK 15, 1)] with target := 8 * secUnit }, 15, by decide +kernel⟩,
   ⟨up, 15, by decide +kernel⟩,
   ⟨{ u [(ETH_CFG_EN 15, 1), (ETH_STAT_LINK 15, 1), (ETH_QUAD_QTX_LOCK 3, 1), (ETH_CFG_ESMC_EN 15, 1)] with target := up.period }, 15, by decide +kernel⟩,
   ⟨{ u [(ETH_CFG_EN 15, 1), (ETH_STAT_LINK 15, 1), (ETH_QUAD_QTX_LOCK 3, 1), (ETH_CFG_ESMC_EN 15, 1)] with eth := { up.eth with sent := [(15, some (99, none))] } }, 15, by decide +kernel⟩,
   ⟨up, 15, by decide +kernel⟩⟩

theorem hyps_Sessions :
    (∃ (s : State) (n : Fin 512), (s.ctxFld n.val 0 0 1 = 0) ∧ ((s.sess n.val).on = false) ∧ (s.unitInRst 14 = false) ∧ ((s.begin.ptpWrite (256 * n.val) (s.ptpRead (256 * n.val) / 2 * 2 + 1)).sessionMisuse n.val = false)) ∧
    (∃ (s : State) (n : Fin 512), (s.ctxFld n.val 0 0 1 = 1) ∧ ((s.sess n.val).on = true) ∧ (s.unitInRst 14 = false)) ∧
    (∃ (s : State) (n : Fin 512), (s.ctxFld n.val 0 0 1 = 1) ∧ (s.unitInRst 14 = true)) :=
  ⟨⟨{ u [(ETH_CFG_EN 0, 1)] with ptp := { up.ptp with mem := [(32712, 1)] } }, 511, by decide +kernel⟩,
   ⟨{ up with ptp := { up.ptp with mem := [(32704, 1)], sess := [(511, { Sess.idle with on := true, w := [1] })] } }, 511, by decide +kernel⟩,
   ⟨{ up with ptp := { up.ptp with mem := [(32704, 1)] }, flt := { up.flt with rstLeft := [(14, 1)] } }, 511, by decide +kernel⟩⟩

theorem hyps_SlaveTakesSync :
    (∃ (s : State) (n : Fin 512), (s.busUp = true) ∧ (s.sessTakes n.val 0 = false) ∧ (s.portUp (s.sess n.val).port = true)) ∧
    (∃ (s : State) (n : Fin 512) (h : PtpHdr), (s.busUp = true) ∧ (s.sessTakes n.val 0 = true) ∧ ((s.admitRx n.val true).2 = true) ∧ (s.fromPartner n.val h = true)) ∧
    (∃ (s : State) (n : Fin 512) (h : PtpHdr), (s.busUp = true) ∧ (s.sessTakes n.val 0 = true) ∧ ((s.admitRx n.val true).2 = true) ∧ (s.fromPartner n.val h = false)) ∧
    (∃ (s : State) (n : Fin 512), (s.busUp = true) ∧ (s.sessTakes n.val 0 = true) ∧ ((s.sessToken n.val).2 = false)) ∧
    (∃ (s : State) (n : Fin 512) (h : PtpHdr), (s.busUp = true) ∧ (s.sessTakes n.val 0 = true) ∧ ((s.admitRx n.val false).2 = true) ∧ (s.fromPartner n.val h = false)) ∧
    (∃ (s : State) (n : Fin 512) (h : PtpHdr) (y : SyncX), (s.busUp = true) ∧ (s.sessTakes n.val 0 = true) ∧ ((s.admitRx n.val false).2 = true) ∧ ((s.sess n.val).syncs = [y]) ∧ (y.seq = h.seq.toNat) ∧ (y.t1 = none) ∧ (s.fromPartner n.val h = true) ∧ ((s.sess n.val).flag 0 10 = false) ∧ ((s.sess n.val).dreqs = [])) ∧
    (∃ (s : State) (n : Fin 512) (h : PtpHdr) (y : SyncX), (s.busUp = true) ∧ (s.sessTakes n.val 0 = true) ∧ ((s.admitRx n.val false).2 = true) ∧ ((s.sess n.val).syncs = [y]) ∧ (y.seq = h.seq.toNat) ∧ (y.t1 = none) ∧ (s.fromPartner n.val h = true) ∧ ((s.sess n.val).flag 0 10 = true) ∧ (s.portFrozen (s.sess n.val).port = false)) ∧
    (∃ (s : State) (n : Fin 512) (h : PtpHdr) (y : SyncX), (s.busUp = true) ∧ (s.sessTakes n.val 0 = true) ∧ ((s.admitRx n.val false).2 = true) ∧ ((s.sess n.val).syncs = [y]) ∧ (y.seq = h.seq.toNat) ∧ (y.t1 = none) ∧ (s.fromPartner n.val h = true) ∧ ((s.sess n.val).flag 0 10 = true) ∧ (s.portFrozen (s.sess n.val).port = true)) :=
  ⟨⟨u [(ETH_CFG_EN 0, 1), (ETH_STAT_LINK 0, 1)], 511, by decide +kernel⟩,
   ⟨{ u [(ETH_CFG_EN 15, 1), (ETH_STAT_LINK 15, 1), (ETH_QUAD_QTX_LOCK 3, 1)] with ptp := { up.ptp with sess := [(511, { Sess.idle with on := true, w := [15 * 4096 + 0, 0, 0, 0, 0, 0, 0, 0, 0, 300], lvl := 64000000000 })], mem := [], lvl := 10 ^ 15 } }, 511, ⟨0, 0, 0, 0⟩, by decide +kernel⟩,
   ⟨{ u [(ETH_CFG_EN 15, 1), (ETH_STAT_LINK 15, 1), (ETH_QUAD_QTX_LOCK 3, 1)] with ptp := { up.ptp with sess := [(511, { Sess.idle with on := true, w := [15 * 4096 + 0, 0, 0, 0, 0, 0, 0, 0, 0, 300], lvl := 64000000000 })], mem := [], lvl := 10 ^ 15 } }, 511, ⟨1, 0, 0, 0⟩, by decide +kernel⟩,
   ⟨{ u [(ETH_CFG_EN 15, 1), (ETH_STAT_LINK 15, 1), (ETH_QUAD_QTX_LOCK 3, 1)] with ptp := { up.ptp with sess := [(511, { Sess.idle with on := true, w := [15 * 4096 + 0, 0, 0, 0, 0, 0, 0, 0, 0, 300], lvl := 0 })], mem := [], lvl := 10 ^ 15 } }, 511, by decide +kernel⟩,
   ⟨{ u [(ETH_CFG_EN 15, 1), (ETH_STAT_LINK 15, 1), (ETH_QUAD_QTX_LOCK 3, 1)] with ptp := { up.ptp with sess := [(511, { Sess.idle with on := true, w := [15 * 4096 + 0, 0, 0, 0, 0, 0, 0, 0, 0, 300], lvl := 64000000000 })], mem := [], lvl := 10 ^ 15 } }, 511, ⟨1, 0, 0, 0⟩, by decide +kernel⟩,
   ⟨{ u [(ETH_CFG_EN 15, 1), (ETH_STAT_LINK 15, 1), (ETH_QUAD_QTX_LOCK 3, 1)] with ptp := { up.ptp with sess := [(511, { Sess.idle with on := true, w := [15 * 4096 + 0, 0, 0, 0, 0, 0, 0, 0, 0, 300], lvl := 64000000000, syncs := [⟨0, 0, 0, false, none, 0, 0⟩] })], mem := [], lvl := 10 ^ 15 } }, 511, ⟨0, 0, 0, 0⟩, ⟨0, 0, 0, false, none, 0, 0⟩, by decide +kernel⟩,
   ⟨{ u [(ETH_CFG_EN 15, 1), (ETH_STAT_LINK 15, 1), (ETH_QUAD_QTX_LOCK 3, 1)] with ptp := { up.ptp with sess := [(511, { Sess.idle with on := true, w := [15 * 4096 + 1024, 0, 0, 0, 0, 0, 0, 0, 0, 300], lvl := 64000000000, syncs := [⟨0, 0, 0, false, none, 0, 0⟩] })], mem := [], lvl := 10 ^ 15 } }, 511, ⟨0, 0, 0, 0⟩, ⟨0, 0, 0, false, none, 0, 0⟩, by decide +kernel⟩,
   ⟨{ u [(ETH_CFG_EN 15, 1), (ETH_STAT_LINK 15, 1), (ETH_QUAD_QTX_LOCK 3, 1)] with ptp := { up.ptp with sess := [(511, { Sess.idle with on := true, w := [15 * 4096 + 1024, 0, 0, 0, 0, 0, 0, 0, 0, 300], lvl := 64000000000, syncs := [⟨0, 0, 0, false, none, 0, 0⟩] })], mem := [], lvl := 10 ^ 15 }, flt := { up.flt with shdLeft := [(23, 64)] } }, 511, ⟨0, 0, 0, 0⟩, ⟨0, 0, 0, false, none, 0, 0⟩, by decide +kernel⟩⟩

theorem hyps_DelayExchanges :
    (∃ (s : State) (n : Fin 512) (h : PtpHdr) (o : PtpTime) (d : DreqX) (y : SyncX) (t1 : Rat) (p : BitVec 16) (i : BitVec 64), (s.busUp = true) ∧ ((s.sess n.val).dreqs = [d]) ∧ ((s.sess n.val).syncs = [y]) ∧ (y.t1 = some t1) ∧ (d.sy = some y) ∧ (d.t4 = none) ∧ (d.seq = h.seq.toNat) ∧ (s.fromPartner n.val h = true) ∧ (s.sessTakes n.val 0 = true) ∧ (s.portFrozen (s.sess n.val).port = false) ∧ ((s.admitRx n.val false).2 = true) ∧ (p.toNat = (s.sess n.val).fld 7 0 16) ∧ (i.toNat = s.get PTP_CLOCK_ID_LO_CLOCK_ID + 2 ^ 32 * s.get PTP_CLOCK_ID_HI_CLOCK_ID) ∧ (y.side = d.side) ∧ (0 ≤ ((y.t2 - d.t3) + (o.ns' - t1) - y.c - h.c) / 2) ∧ (((y.t2 - d.t3) + (o.ns' - t1) - y.c - h.c) / 2 ≤ (s.sess n.val).mpdMax)) ∧
    (∃ (s : State) (n : Fin 512) (h : PtpHdr) (o : PtpTime) (d : DreqX) (y : SyncX) (t1 : Rat) (p : BitVec 16) (i : BitVec 64), (s.busUp = true) ∧ ((s.sess n.val).dreqs = [d]) ∧ ((s.sess n.val).syncs = [y]) ∧ (y.t1 = some t1) ∧ (d.sy = some y) ∧ (d.t4 = none) ∧ (d.seq = h.seq.toNat) ∧ (s.fromPartner n.val h = true) ∧ (s.sessTakes n.val 0 = true) ∧ (s.portFrozen (s.sess n.val).port = false) ∧ ((s.admitRx n.val false).2 = true) ∧ (p.toNat = (s.sess n.val).fld 7 0 16) ∧ (i.toNat = s.get PTP_CLOCK_ID_LO_CLOCK_ID + 2 ^ 32 * s.get PTP_CLOCK_ID_HI_CLOCK_ID) ∧ (y.side = d.side) ∧ (((y.t2 - d.t3) + (o.ns' - t1) - y.c - h.c) / 2 < 0 ∨ (s.sess n.val).mpdMax < ((y.t2 - d.t3) + (o.ns' - t1) - y.c - h.c) / 2)) ∧
    (∃ (s : State) (n : Fin 512) (h : PtpHdr) (d : DreqX) (y : SyncX) (t1 : Rat) (p : BitVec 16) (i : BitVec 64), (s.busUp = true) ∧ ((s.sess n.val).dreqs = [d]) ∧ ((s.sess n.val).syncs = [y]) ∧ (y.t1 = some t1) ∧ (d.sy = some y) ∧ (d.t4 = none) ∧ (d.seq = h.seq.toNat) ∧ (s.fromPartner n.val h = true) ∧ (s.sessTakes n.val 0 = true) ∧ (s.portFrozen (s.sess n.val).port = false) ∧ ((s.admitRx n.val false).2 = true) ∧ (p.toNat = (s.sess n.val).fld 7 0 16) ∧ (i.toNat = s.get PTP_CLOCK_ID_LO_CLOCK_ID + 2 ^ 32 * s.get PTP_CLOCK_ID_HI_CLOCK_ID) ∧ (y.side ≠ d.side)) ∧
    (∃ (s : State) (n : Fin 512), (s.busUp = true) ∧ (s.sessTakes n.val 0 = true) ∧ ((s.sess n.val).flag 0 10 = false) ∧ (ssnWait ≤ s.sstate n.val) ∧ (s.sessFrozen n.val = false) ∧ ((s.sess n.val).flag 0 9 = false) ∧ ((s.sendPtp n.val true (.delayReq (s.seqTx n.val))).2 = true)) ∧
    (∃ (s : State) (n : Fin 512), (s.busUp = true) ∧ (s.sessTakes n.val 0 = false)) ∧
    (∃ (s : State) (n : Fin 512) (q : BitVec 16), (s.busUp = true) ∧ (s.sessFrozen n.val = false) ∧ ((s.sess n.val).dreqs.any (fun d => d.seq == q.toNat && d.t4.isNone && s.aged d.since) = true)) ∧
    (∃ (s : State) (n : Fin 512) (q : BitVec 16), (s.busUp = true) ∧ (s.sessFrozen n.val = false) ∧ ((s.sess n.val).syncs.any (fun y => y.seq == q.toNat && y.t1.isNone && s.aged y.since) = true)) ∧
    (∃ (s : State) (n : Fin 512) (q : BitVec 16), (s.busUp = true) ∧ (s.sessFrozen n.val = false) ∧ ((s.sess n.val).dreqs.any (fun d => d.seq == q.toNat && s.aged d.since) = false)) ∧
    (∃ (s : State) (n : Fin 512) (q : BitVec 16), (s.busUp = true) ∧ (s.sessFrozen n.val = false) ∧ ((s.sess n.val).syncs.any (fun y => y.seq == q.toNat && s.aged y.since) = false)) ∧
    (∃ (s : State) (n : Fin 512), (s.busUp = true) ∧ (s.sessFrozen n.val = true)) :=
  ⟨⟨{ u [(ETH_CFG_EN 15, 1), (ETH_STAT_LINK 15, 1), (ETH_QUAD_QTX_LOCK 3, 1)] with ptp := { up.ptp with sess := [(511, { Sess.idle with on := true, w := [15 * 4096 + 0, 0, 0, 0, 0, 0, 0, 0, 0, 300], lvl := 64000000000, syncs := [⟨0, 0, 0, false, some 0, 0, 0⟩], dreqs := [⟨0, 0, false, some ⟨0, 0, 0, false, some 0, 0, 0⟩, none, 0, 0⟩] })], mem := [], lvl := 10 ^ 15 } }, 511, ⟨0, 0, 0, 0⟩, ⟨0, 0⟩, ⟨0, 0, false, some ⟨0, 0, 0, false, some 0, 0, 0⟩, none, 0, 0⟩, ⟨0, 0, 0, false, some 0, 0, 0⟩, 0, 0, 0, by decide +kernel⟩,
   ⟨{ u [(ETH_CFG_EN 15, 1), (ETH_STAT_LINK 15, 1), (ETH_QUAD_QTX_LOCK 3, 1)] with ptp := { up.ptp with sess := [(511, { Sess.idle with on := true, w := [15 * 4096 + 0, 0, 0, 0, 0, 0, 0, 0, 0, 300], lvl := 64000000000, syncs := [⟨0, 0, 0, false, some 0, 0, 0⟩], dreqs := [⟨0, 0, false, some ⟨0, 0, 0, false, some 0, 0, 0⟩, none, 0, 0⟩] })], mem := [], lvl := 10 ^ 15 } }, 511, ⟨0, 0, 0, 0x20000⟩, ⟨0, 0⟩, ⟨0, 0, false, some ⟨0, 0, 0, false, some 0, 0, 0⟩, none, 0, 0⟩, ⟨0, 0, 0, false, some 0, 0, 0⟩, 0, 0, 0, by decide +kernel⟩,
   ⟨{ u [(ETH_CFG_EN 15, 1), (ETH_STAT_LINK 15, 1), (ETH_QUAD_QTX_LOCK 3, 1)] with ptp := { up.ptp with sess := [(511, { Sess.idle with on := true, w := [15 * 4096 + 0, 0, 0, 0, 0, 0, 0, 0, 0, 300], lvl := 64000000000, syncs := [⟨0, 0, 0, false, some 0, 0, 0⟩], dreqs := [⟨0, 0, true, some ⟨0, 0, 0, false, some 0, 0, 0⟩, none, 0, 0⟩] })], mem := [], lvl := 10 ^ 15 } }, 511, ⟨0, 0, 0, 0⟩, ⟨0, 0, true, some ⟨0, 0, 0, false, some 0, 0, 0⟩, none, 0, 0⟩, ⟨0, 0, 0, false, some 0, 0, 0⟩, 0, 0, 0, by decide +kernel⟩,
   ⟨{ u [(ETH_CFG_EN 15, 1), (ETH_STAT_LINK 15, 1), (ETH_QUAD_QTX_LOCK 3, 1)] with ptp := { up.ptp with sess := [(511, { Sess.idle with on := true, w := [15 * 4096 + 0, 0, 0, 0, 0, 0, 0, 0, 0, 300], lvl := 64000000000 })], mem := [(32716, 2)], lvl := 10 ^ 15 } }, 511, by decide +kernel⟩,
   ⟨up, 511, by decide +kernel⟩,
   ⟨{ u [(ETH_CFG_EN 15, 1), (ETH_STAT_LINK 15, 1), (ETH_QUAD_QTX_LOCK 3, 1)] with ptp := { up.ptp with sess := [(511, { Sess.idle with on := true, w := [15 * 4096 + 0, 0, 0, 0, 0, 0, 0, 0, 0, 300], lvl := 64000000000, dreqs := [⟨7, 0, false, none, none, 0, 0⟩] })], mem := [], lvl := 10 ^ 15 }, target := 64 * secUnit }, 511, 7, by decide +kernel⟩,
   ⟨{ u [(ETH_CFG_EN 15, 1), (ETH_STAT_LINK 15, 1), (ETH_QUAD_QTX_LOCK 3, 1)] with ptp := { up.ptp with sess := [(511, { Sess.idle with on := true, w := [15 * 4096 + 0, 0, 0, 0, 0, 0, 0, 0, 0, 300], lvl := 64000000000, syncs := [⟨7, 0, 0, false, none, 0, 0⟩] })], mem := [], lvl := 10 ^ 15 }, target := 64 * secUnit }, 511, 7, by decide +kernel⟩,
   ⟨{ u [(ETH_CFG_EN 15, 1), (ETH_STAT_LINK 15, 1), (ETH_QUAD_QTX_LOCK 3, 1)] with ptp := { up.ptp with sess := [(511, { Sess.idle with on := true, w := [15 * 4096 + 0, 0, 0, 0, 0, 0, 0, 0, 0, 300], lvl := 64000000000, dreqs := [⟨7, 0, false, none, none, 0, 10 ^ 12⟩] })], mem := [], lvl := 10 ^ 15 } }, 511, 7, by decide +kernel⟩,
   ⟨{ u [(ETH_CFG_EN 15, 1), (ETH_STAT_LINK 15, 1), (ETH_QUAD_QTX_LOCK 3, 1)] with ptp := { up.ptp with sess := [(511, { Sess.idle with on := true, w := [15 * 4096 + 0, 0, 0, 0, 0, 0, 0, 0, 0, 300], lvl := 64000000000, syncs := [⟨7, 0, 0, false, none, 0, 10 ^ 12⟩] })], mem := [], lvl := 10 ^ 15 } }, 511, 7, by decide +kernel⟩,
   ⟨{ u [(ETH_CFG_EN 15, 1), (ETH_STAT_LINK 15, 1), (ETH_QUAD_QTX_LOCK 3, 1)] with ptp := { up.ptp with sess := [(511, { Sess.idle with on := true, w := [15 * 4096 + 0, 0, 0, 0, 0, 0, 0, 0, 0, 300], lvl := 64000000000 })], mem := [], lvl := 10 ^ 15 }, flt := { up.flt with shdLeft := [(14, 1)] } }, 511, by decide +kernel⟩⟩

theorem hyps_AnnounceAndMaster :
    (∃ (s : State) (n : Fin 512), (s.busUp = true) ∧ ((s.sessTakes n.val 0 || s.sessTakes n.val 2) = true) ∧ ((s.admitRx n.val false).2 = true)) ∧
    (∃ (s : State) (n : Fin 512), (s.busUp = true) ∧ ((s.sess n.val).on = true) ∧ (s.sessFrozen n.val = false) ∧ ((s.sess n.val).role ≠ 1) ∧ ((s.sess n.val).flag 0 9 = false) ∧ (s.dueBy ((s.sess n.val).annAt + (s.sess n.val).annBudget) = true)) ∧
    (∃ (s : State) (n : Fin 512), (s.busUp = true) ∧ ((s.sess n.val).on = true) ∧ (s.sessFrozen n.val = false) ∧ (s.dueBy ((s.sess n.val).annAt + (s.sess n.val).annBudget) = false)) ∧
    (∃ (s : State) (n : Fin 512), (s.busUp = true) ∧ ((s.sess n.val).on = true) ∧ (s.sessFrozen n.val = false) ∧ ((s.sess n.val).freeMaster = false) ∧ (ssnNegotiating ≤ s.sstate n.val) ∧ (s.sstate n.val ≤ ssnRunning) ∧ ((s.sess n.val).okTick ≠ some s.tick) ∧ (s.dueBy ((s.sess n.val).okAt + (s.sess n.val).fld 8 0 32 * 2000000) = true)) ∧
    (∃ (s : State) (n : Fin 512), (s.busUp = true) ∧ ((s.sess n.val).on = true) ∧ (s.sessFrozen n.val = false) ∧ ((s.sess n.val).okTick = some s.tick ∨ (s.sess n.val).freeMaster = true ∨ s.dueBy ((s.sess n.val).okAt + (s.sess n.val).fld 8 0 32 * 2000000) = false)) ∧
    (∃ (s : State) (n : Fin 512), (s.busUp = true) ∧ ((s.sess n.val).on = false)) ∧
    (∃ (s : State) (n : Fin 512), (s.busUp = true) ∧ (s.sessTakes n.val 1 = true) ∧ (s.sstate n.val = ssnRunning) ∧ ((s.sess n.val).flag 0 9 = false) ∧ ((s.admitRx n.val true).2 = true) ∧ (s.portTx (s.sess n.val).port = true) ∧ (4000000000 ≤ refill (s.sess n.val).lvl (s.sess n.val).lvlAt s.coarse 256 32)) ∧
    (∃ (s : State) (n : Fin 512), (s.busUp = true) ∧ (s.mayServe n.val 0 = true) ∧ ((s.sendPtp n.val false (.announce (s.seqTx n.val) (s.announceDs n.val))).2 = true)) ∧
    (∃ (s : State) (n : Fin 512), (s.busUp = true) ∧ (s.mayServe n.val 1 = true) ∧ ((s.sendPtp n.val true (.sync (s.seqTx n.val) ((s.sess n.val).flag 0 7) 0)).2 = true) ∧ (4000000000 ≤ refill (s.sess n.val).lvl (s.sess n.val).lvlAt s.coarse 256 32)) ∧
    (∃ (s : State) (n : Fin 512), (s.busUp = true) ∧ (s.mayServe n.val 0 = false)) ∧
    (∃ (s : State) (n : Fin 512), (s.busUp = true) ∧ (s.mayServe n.val 1 = false)) :=
  ⟨⟨{ u [(ETH_CFG_EN 15, 1), (ETH_STAT_LINK 15, 1), (ETH_QUAD_QTX_LOCK 3, 1)] with ptp := { up.ptp with sess := [(511, { Sess.idle with on := true, w := [15 * 4096 + 0, 0, 0, 0, 0, 0, 0, 0, 0, 300], lvl := 64000000000 })], mem := [], lvl := 10 ^ 15 } }, 511, by decide +kernel⟩,
   ⟨{ u [(ETH_CFG_EN 15, 1), (ETH_STAT_LINK 15, 1), (ETH_QUAD_QTX_LOCK 3, 1)] with ptp := { up.ptp with sess := [(511, { Sess.idle with on := true, w := [15 * 4096 + 0, 0, 0, 0, 0, 0, 0, 0, 0, 300], lvl := 64000000000 })], mem := [], lvl := 10 ^ 15 } }, 511, by decide +kernel⟩,
   ⟨{ u [(ETH_CFG_EN 15, 1), (ETH_STAT_LINK 15, 1), (ETH_QUAD_QTX_LOCK 3, 1)] with ptp := { up.ptp with sess := [(511, { Sess.idle with on := true, w := [15 * 4096 + 0, 0, 0, 0, 0, 0, 0, 0, 0, 300], lvl := 64000000000, annAt := 10 ^ 15 })], mem := [], lvl := 10 ^ 15 } }, 511, by decide +kernel⟩,
   ⟨{ u [(ETH_CFG_EN 15, 1), (ETH_STAT_LINK 15, 1), (ETH_QUAD_QTX_LOCK 3, 1)] with ptp := { up.ptp with sess := [(511, { Sess.idle with on := true, w := [15 * 4096 + 0, 0, 0, 0, 0, 0, 0, 0, 0, 300], lvl := 64000000000 })], mem := [(32716, 3)], lvl := 10 ^ 15 } }, 511, by decide +kernel⟩,
   ⟨{ u [(ETH_CFG_EN 15, 1), (ETH_STAT_LINK 15, 1), (ETH_QUAD_QTX_LOCK 3, 1)] with ptp := { up.ptp with sess := [(511, { Sess.idle with on := true, w := [15 * 4096 + 0, 0, 0, 0, 0, 0, 0, 0, 0, 300], lvl := 64000000000, okTick := some 0 })], mem := [], lvl := 10 ^ 15 } }, 511, by decide +kernel⟩,
   ⟨up, 511, by decide +kernel⟩,
   ⟨{ u [(ETH_CFG_EN 15, 1), (ETH_STAT_LINK 15, 1), (ETH_QUAD_QTX_LOCK 3, 1)] with ptp := { up.ptp with sess := [(511, { Sess.idle with on := true, w := [15 * 4096 + 2, 0, 0, 0, 0, 0, 0, 0, 0, 300], lvl := 64000000000 })], mem := [(32716, 3)], lvl := 10 ^ 15 } }, 511, by decide +kernel⟩,
   ⟨{ u [(ETH_CFG_EN 15, 1), (ETH_STAT_LINK 15, 1), (ETH_QUAD_QTX_LOCK 3, 1)] with ptp := { up.ptp with sess := [(511, { Sess.idle with on := true, w := [15 * 4096 + 2, 0, 0, 0, 0, 0, 0, 0, 0, 300], lvl := 64000000000 })], mem := [(32716, 3)], lvl := 10 ^ 15 } }, 511, by decide +kernel⟩,
   ⟨{ u [(ETH_CFG_EN 15, 1), (ETH_STAT_LINK 15, 1), (ETH_QUAD_QTX_LOCK 3, 1)] with ptp := { up.ptp with sess := [(511, { Sess.idle with on := true, w := [15 * 4096 + 2, 0, 0, 0, 0, 0, 0, 0, 0, 300], lvl := 64000000000 })], mem := [(32716, 3)], lvl := 10 ^ 15 } }, 511, by decide +kernel⟩,
   ⟨up, 511, by decide +kernel⟩,
   ⟨up, 511, by decide +kernel⟩⟩

theorem hyps_NegotiationAndGroups :
    (∃ (s : State) (n : Fin 512), (s.busUp = true) ∧ ((s.admitRx n.val false).2 = true) ∧ ((s.sessTakes n.val 0 || s.sessTakes n.val 1 || s.sessTakes n.val 2) = true)) ∧
    (∃ (s : State) (n : Fin 512) (y : Fin 3) (l : BitVec 8) (d : BitVec 32), (s.busUp = true) ∧ ((s.admitRx n.val false).2 = true) ∧ (s.sessTakes n.val 1 = true) ∧ ((s.sess n.val).flag 0 9 = true) ∧ (s.portTx (s.sess n.val).port = true) ∧ (4000000000 ≤ refill (s.sess n.val).lvl (s.sess n.val).lvlAt s.coarse 256 32) ∧ ((s.sess n.val).logInt y.val ≤ l.toInt) ∧ (d.toNat ≤ (s.sess n.val).fld 9 0 16) ∧ (d.toNat ≠ 0)) ∧
    (∃ (s : State) (n : Fin 512) (y : Fin 3) (l : BitVec 8) (d : BitVec 32), (s.busUp = true) ∧ ((s.admitRx n.val false).2 = true) ∧ (s.sessTakes n.val 1 = true) ∧ ((s.sess n.val).flag 0 9 = true) ∧ (s.portTx (s.sess n.val).port = true) ∧ (4000000000 ≤ refill (s.sess n.val).lvl (s.sess n.val).lvlAt s.coarse 256 32) ∧ (l.toInt < (s.sess n.val).logInt y.val ∨ (s.sess n.val).fld 9 0 16 < d.toNat ∨ d.toNat = 0)) ∧
    (∃ (s : State) (n : Fin 512), (s.busUp = true) ∧ ((s.admitRx n.val false).2 = true) ∧ (s.sessTakes n.val 0 = true) ∧ ((s.sess n.val).flag 0 9 = true)) ∧
    (∃ (s : State) (n : Fin 512) (y : Fin 3), (s.busUp = true) ∧ ((s.sess n.val).on = true) ∧ (s.sessFrozen n.val = false) ∧ ((s.sess n.val).role ≠ 1) ∧ ((s.sess n.val).grants.any (fun g => g.type == y.val && s.dueBy (g.till - g.dur / 4)) = true) ∧ ((s.sess n.val).asking y.val = false) ∧ ((s.sendPtp n.val false (.request y.val ((s.sess n.val).logInt y.val) ((s.sess n.val).fld 9 0 16))).2 = true)) ∧
    (∃ (s : State) (n : Fin 512) (y : Fin 3), (s.busUp = true) ∧ ((s.sess n.val).on = true) ∧ (s.sessFrozen n.val = false) ∧ ((s.sess n.val).role = 1 ∨ (s.sess n.val).asking y.val = true ∨ (s.sess n.val).grants.any (fun g => g.type == y.val && s.dueBy (g.till - g.dur / 4)) = false)) ∧
    (∃ (s : State) (n : Fin 512) (y : Fin 3), (s.busUp = true) ∧ ((s.sess n.val).on = true) ∧ (s.sessFrozen n.val = false) ∧ ((s.sess n.val).asks.any (fun a => a.1 == y.val && s.aged a.2) = true)) ∧
    (∃ (s : State) (n : Fin 512) (y : Fin 3), (s.busUp = true) ∧ ((s.sess n.val).on = true) ∧ (s.sessFrozen n.val = false) ∧ ((s.sess n.val).asks.any (fun a => a.1 == y.val && s.aged a.2) = false)) ∧
    (∃ (s : State) (n : Fin 512), (s.busUp = true) ∧ ((s.sess n.val).on = true) ∧ ((s.sess n.val).role = 1) ∧ ((s.sess n.val).flag 0 8 = true) ∧ ((s.sess n.val).flag 0 9 = true) ∧ (s.sessFrozen n.val = false)) ∧
    (∃ (s : State) (n : Fin 512), (s.busUp = true) ∧ ((s.sess n.val).on = false)) ∧
    (∃ (s : State) (g : Fin 32), (s.busUp = true) ∧ (s.bit (PTP_GRP_STAT_GSTATE g.val) = true) ∧ (s.unitInShadow 14 = false) ∧ (s.groupFrozen g.val = false) ∧ (s.dueBy ((s.grp g.val).usedAt + s.get (PTP_GRP_CFG_MISS_TO g.val) * 2000000) = true)) ∧
    (∃ (s : State) (g : Fin 32), (s.busUp = true) ∧ (s.bit (PTP_GRP_STAT_GSTATE g.val) = false ∨ s.unitInShadow 14 = true ∨ s.groupFrozen g.val = true ∨ s.dueBy ((s.grp g.val).usedAt + s.get (PTP_GRP_CFG_MISS_TO g.val) * 2000000) = false)) ∧
    (∃ (s : State) (g : Fin 32), (s.busUp = true) ∧ (s.bit (PTP_GRP_STAT_HOLDING g.val) = true) ∧ (s.unitInShadow 14 = false) ∧ (s.dueBy ((s.grp g.val).holdAt + s.get (PTP_GRP_CFG_GMHOLD g.val) * 2000000000) = true)) ∧
    (∃ (s : State) (g : Fin 32), (s.busUp = true) ∧ (s.bit (PTP_GRP_STAT_HOLDING g.val) = false ∨ s.unitInShadow 14 = true ∨ s.dueBy ((s.grp g.val).holdAt + s.get (PTP_GRP_CFG_GMHOLD g.val) * 2000000000) = false)) :=
  ⟨⟨{ u [(ETH_CFG_EN 15, 1), (ETH_STAT_LINK 15, 1), (ETH_QUAD_QTX_LOCK 3, 1)] with ptp := { up.ptp with sess := [(511, { Sess.idle with on := true, w := [15 * 4096 + 0, 0, 0, 0, 0, 0, 0, 0, 0, 300], lvl := 64000000000 })], mem := [], lvl := 10 ^ 15 } }, 511, by decide +kernel⟩,
   ⟨{ u [(ETH_CFG_EN 15, 1), (ETH_STAT_LINK 15, 1), (ETH_QUAD_QTX_LOCK 3, 1)] with ptp := { up.ptp with sess := [(511, { Sess.idle with on := true, w := [15 * 4096 + 514, 0, 0, 0, 0, 0, 0, 0, 0, 300], lvl := 64000000000 })], mem := [], lvl := 10 ^ 15 } }, 511, 2, 0, 300, by decide +kernel⟩,
   ⟨{ u [(ETH_CFG_EN 15, 1), (ETH_STAT_LINK 15, 1), (ETH_QUAD_QTX_LOCK 3, 1)] with ptp := { up.ptp with sess := [(511, { Sess.idle with on := true, w := [15 * 4096 + 514, 0, 0, 0, 0, 0, 0, 0, 0, 300], lvl := 64000000000 })], mem := [], lvl := 10 ^ 15 } }, 511, 2, 0, 301, by decide +kernel⟩,
   ⟨{ u [(ETH_CFG_EN 15, 1), (ETH_STAT_LINK 15, 1), (ETH_QUAD_QTX_LOCK 3, 1)] with ptp := { up.ptp with sess := [(511, { Sess.idle with on := true, w := [15 * 4096 + 512, 0, 0, 0, 0, 0, 0, 0, 0, 300], lvl := 64000000000 })], mem := [], lvl := 10 ^ 15 } }, 511, by decide +kernel⟩,
   ⟨{ u [(ETH_CFG_EN 15, 1), (ETH_STAT_LINK 15, 1), (ETH_QUAD_QTX_LOCK 3, 1)] with ptp := { up.ptp with sess := [(511, { Sess.idle with on := true, w := [15 * 4096 + 0, 0, 0, 0, 0, 0, 0, 0, 0, 300], lvl := 64000000000, grants := [⟨2, 0, 0⟩] })], mem := [], lvl := 10 ^ 15 } }, 511, 2, by decide +kernel⟩,
   ⟨{ u [(ETH_CFG_EN 15, 1), (ETH_STAT_LINK 15, 1), (ETH_QUAD_QTX_LOCK 3, 1)] with ptp := { up.ptp with sess := [(511, { Sess.idle with on := true, w := [15 * 4096 + 0, 0, 0, 0, 0, 0, 0, 0, 0, 300], lvl := 64000000000 })], mem := [], lvl := 10 ^ 15 } }, 511, 2, by decide +kernel⟩,
   ⟨{ u [(ETH_CFG_EN 15, 1), (ETH_STAT_LINK 15, 1), (ETH_QUAD_QTX_LOCK 3, 1)] with ptp := { up.ptp with sess := [(511, { Sess.idle with on := true, w := [15 * 4096 + 0, 0, 0, 0, 0, 0, 0, 0, 0, 300], lvl := 64000000000, asks := [(2, 0)] })], mem := [], lvl := 10 ^ 15 }, target := 64 * secUnit }, 511, 2, by decide +kernel⟩,
   ⟨{ u [(ETH_CFG_EN 15, 1), (ETH_STAT_LINK 15, 1), (ETH_QUAD_QTX_LOCK 3, 1)] with ptp := { up.ptp with sess := [(511, { Sess.idle with on := true, w := [15 * 4096 + 0, 0, 0, 0, 0, 0, 0, 0, 0, 300], lvl := 64000000000 })], mem := [], lvl := 10 ^ 15 } }, 511, 2, by decide +kernel⟩,
   ⟨{ u [(ETH_CFG_EN 15, 1), (ETH_STAT_LINK 15, 1), (ETH_QUAD_QTX_LOCK 3, 1)] with ptp := { up.ptp with sess := [(511, { Sess.idle with on := true, w := [15 * 4096 + 770, 0, 0, 0, 0, 0, 0, 0, 0, 300], lvl := 64000000000 })], mem := [], lvl := 10 ^ 15 } }, 511, by decide +kernel⟩,
   ⟨up, 511, by decide +kernel⟩,
   ⟨u [(PTP_GRP_STAT_GSTATE 31, 1)], 31, by decide +kernel⟩,
   ⟨up, 31, by decide +kernel⟩,
   ⟨u [(PTP_GRP_STAT_HOLDING 31, 1)], 31, by decide +kernel⟩,
   ⟨up, 31, by decide +kernel⟩⟩

theorem hyps_LinkWordSync :
    (∃ (s : State) (k : Fin 8), (s.busUp = true) ∧ (s.get (CJL_STAT_KSTATE k.val) = ksNoSync)) ∧
    (∃ (s : State) (k : Fin 8), (s.busUp = true) ∧ (s.get (CJL_STAT_KSTATE k.val) ≠ ksNoSync)) ∧
    (∃ (s : State) (k : Fin 8), (s.busUp = true) ∧ (s.get (CJL_STAT_KSTATE k.val) = ksSync) ∧ ((s.inFb (REF_CFG_EN (48 + k.val)) = false ∨ s.unitInRst 5 = true))) ∧
    (∃ (s : State) (k : Fin 8), (s.busUp = true) ∧ (s.get (CJL_STAT_KSTATE k.val) = ksSync) ∧ (s.inFb (REF_CFG_EN (48 + k.val)) = true) ∧ (s.unitInRst 5 = false)) ∧
    (∃ (s : State) (k : Fin 8), (s.busUp = true) ∧ (s.get (CJL_STAT_KSTATE k.val) ≠ ksSync)) :=
  ⟨⟨u [(CJL_STAT_KSTATE 7, ksNoSync)], 7, by decide +kernel⟩,
   ⟨u [(CJL_STAT_KSTATE 7, ksSync)], 7, by decide +kernel⟩,
   ⟨u [(CJL_STAT_KSTATE 7, ksSync)], 7, by decide +kernel⟩,
   ⟨u [(CJL_STAT_KSTATE 7, ksSync), (REF_CFG_EN 55, 1)], 7, by decide +kernel⟩,
   ⟨up, 7, by decide +kernel⟩⟩

theorem hyps_LinkFrames :
    (∃ (s : State) (k : Fin 8), (s.busUp = true) ∧ (s.get (CJL_STAT_KSTATE k.val) = ksOff ∨ s.unitInRst 15 = true)) ∧
    (∃ (s : State) (k : Fin 8), (s.busUp = true) ∧ (s.get (CJL_STAT_KSTATE k.val) ≠ ksOff) ∧ (s.unitInRst 15 = false) ∧ (s.get (CJL_DELEG_SIZE k.val) = 0) ∧ (15 ≤ (s.link k.val).sinceT)) ∧
    (∃ (s : State) (k : Fin 8), (s.busUp = true) ∧ (s.get (CJL_STAT_KSTATE k.val) ≠ ksOff) ∧ (s.unitInRst 15 = false) ∧ (s.get (CJL_DELEG_SIZE k.val) = 0) ∧ ((s.link k.val).rsps = []) ∧ ((s.link k.val).reqs = []) ∧ ((s.link k.val).floods = []) ∧ ((s.link k.val).tenses = []) ∧ (s.bit (CJL_MAIL_SEND k.val) = false)) ∧
    (∃ (s : State) (k : Fin 8) (r : EchoRsp) (l : List EchoRsp), (s.busUp = true) ∧ (s.get (CJL_STAT_KSTATE k.val) ≠ ksOff) ∧ (s.unitInRst 15 = false) ∧ (s.get (CJL_DELEG_SIZE k.val) = 0) ∧ ((s.link k.val).sinceT < 15) ∧ ((s.link k.val).rsps = r :: l)) ∧
    (∃ (s : State) (k : Fin 8) (e : Nat) (l : List Nat), (s.busUp = true) ∧ (s.get (CJL_STAT_KSTATE k.val) ≠ ksOff) ∧ (s.unitInRst 15 = false) ∧ (s.get (CJL_DELEG_SIZE k.val) = 0) ∧ ((s.link k.val).sinceT < 15) ∧ ((s.link k.val).reqs = e :: l) ∧ ((s.link k.val).rsps = [])) ∧
    (∃ (s : State) (k : Fin 8) (x : Flood) (l : List Flood), (s.busUp = true) ∧ (s.get (CJL_STAT_KSTATE k.val) ≠ ksOff) ∧ (s.unitInRst 15 = false) ∧ (s.get (CJL_DELEG_SIZE k.val) = 0) ∧ ((s.link k.val).sinceT < 15) ∧ ((s.link k.val).floods = x :: l) ∧ ((s.link k.val).rsps = []) ∧ ((s.link k.val).reqs = [])) ∧
    (∃ (s : State) (k : Fin 8) (f : List Byte) (e : Nat × Instr), (s.busUp = true) ∧ (s.linkSync k.val = false) ∧ (e ∈ frameCommands k f)) ∧
    (∃ (s : State) (k : Fin 8) (f : List Byte) (e : Nat × Instr), (s.busUp = true) ∧ (s.linkSync k.val = true) ∧ (frameGood f = false) ∧ (e ∈ frameCommands k f)) ∧
    (∃ (s : State) (k : Fin 8) (f : List Byte), (s.busUp = true) ∧ (s.linkSync k.val = true) ∧ (frameOf f 1 = true)) ∧
    (∃ (s : State) (k : Fin 8), (s.busUp = true) ∧ (s.dueBy ((s.link k.val).timeAt + 131072) = true)) ∧
    (∃ (s : State) (k : Fin 8), (s.busUp = true) ∧ (s.dueBy ((s.link k.val).timeAt + 131072) = false)) :=
  ⟨⟨up, 7, by decide +kernel⟩,
   ⟨{ u [(CJL_STAT_KSTATE 7, ksSync)] with cjl := { up.cjl with link := [(7, { Link.idle with sinceT := 15 })] } }, 7, by decide +kernel⟩,
   ⟨{ u [(CJL_STAT_KSTATE 7, ksSync)] with cjl := { up.cjl with link := [(7, { Link.idle with sinceT := 14 })] } }, 7, by decide +kernel⟩,
   ⟨{ u [(CJL_STAT_KSTATE 7, ksSync)] with cjl := { up.cjl with link := [(7, { Link.idle with rsps := [⟨0, 0, 0, 0, 0⟩] })] } }, 7, ⟨0, 0, 0, 0, 0⟩, [], by decide +kernel⟩,
   ⟨{ u [(CJL_STAT_KSTATE 7, ksSync)] with cjl := { up.cjl with link := [(7, { Link.idle with reqs := [1] })] } }, 7, 1, [], by decide +kernel⟩,
   ⟨{ u [(CJL_STAT_KSTATE 7, ksSync)] with cjl := { up.cjl with link := [(7, { Link.idle with floods := [⟨0, 0, 0, 0, 0⟩] })] } }, 7, ⟨0, 0, 0, 0, 0⟩, [], by decide +kernel⟩,
   ⟨up, 7, [], (7, .mailReceive 7 []), by decide +kernel⟩,
   ⟨u [(CJL_STAT_KSTATE 7, ksSync)], 7, [], (7, .mailReceive 7 []), by decide +kernel⟩,
   ⟨u [(CJL_STAT_KSTATE 7, ksSync)], 7, frameT 1, by decide +kernel⟩,
   ⟨up, 7, by decide +kernel⟩,
   ⟨{ u [(CJL_STAT_KSTATE 7, ksSync)] with cjl := { up.cjl with link := [(7, { Link.idle with timeAt := 10 ^ 15 })] } }, 7, by decide +kernel⟩⟩

theorem hyps_EchoInitiator :
    (∃ (s : State) (k : Fin 8) (b : Bool), (s.busUp = true) ∧ (s.initiates k.val = true) ∧ ((s.link k.val).retry = b) ∧ ((b = true → (s.link k.val).giveUp = false)) ∧ ((if b then 4 else s.get (CJL_CFG_ECHO_PER k.val)) ≤ (s.link k.val).sinceR) ∧ ((s.link k.val).slotFree = true) ∧ ((s.link k.val).out.length < 64)) ∧
    (∃ (s : State) (k : Fin 8) (b : Bool), (s.busUp = true) ∧ (s.initiates k.val = true) ∧ ((s.link k.val).retry = b) ∧ ((b = true → (s.link k.val).giveUp = false)) ∧ ((if b then 4 else s.get (CJL_CFG_ECHO_PER k.val)) ≤ (s.link k.val).sinceR) ∧ ((s.link k.val).slotFree = true) ∧ (64 ≤ (s.link k.val).out.length)) ∧
    (∃ (s : State) (k : Fin 8), (s.busUp = true) ∧ ((s.link k.val).sinceR < s.get (CJL_CFG_ECHO_PER k.val) ∨ (s.link k.val).slotFree = false)) ∧
    (∃ (s : State) (k : Fin 8), (s.busUp = true) ∧ ((s.link k.val).sinceR < 4 ∨ (s.link k.val).giveUp = true ∨ (s.link k.val).slotFree = false)) ∧
    (∃ (s : State) (k : Fin 8) (e : EchoX) (l : List EchoX), (s.busUp = true) ∧ (s.linkSync k.val = true) ∧ ((s.link k.val).out = e :: l) ∧ (e.seen = false)) ∧
    (∃ (s : State) (k : Fin 8), (s.busUp = true) ∧ (s.linkSync k.val = false)) ∧
    (∃ (s : State) (k : Fin 8), (s.busUp = true) ∧ (s.initiates k.val = false) ∧ ((s.link k.val).out = [])) ∧
    (∃ (s : State) (k : Fin 8) (e : EchoX) (l : List EchoX), (s.busUp = true) ∧ ((s.link k.val).out = e :: l) ∧ (s.unitInRst 15 = false) ∧ (s.dueBy (e.since + s.get (CJL_CFG_ECHO_WAIT k.val) * 2000) = false)) ∧
    (∃ (s : State) (k : Fin 8) (e : EchoX) (l : List EchoX), (s.busUp = true) ∧ ((s.link k.val).out = e :: l) ∧ (s.unitInRst 15 = false) ∧ (s.dueBy (e.since + s.get (CJL_CFG_ECHO_WAIT k.val) * 2000) = true)) ∧
    (∃ (s : State) (k : Fin 8), (s.busUp = true) ∧ ((s.link k.val).out = [] ∨ s.unitInRst 15 = true)) ∧
    (∃ (s : State) (k : Fin 8), (s.busUp = true) ∧ (s.unitInShadow 15 = false) ∧ ((s.link k.val).giveUp = true)) ∧
    (∃ (s : State) (k : Fin 8), (s.busUp = true) ∧ (s.unitInShadow 15 = false) ∧ ((s.link k.val).giveUp = false)) ∧
    (∃ (s : State) (k : Fin 8), (s.busUp = true) ∧ (s.unitInShadow 15 = false) ∧ (s.bit (CJL_STAT_TL_OK k.val) = true) ∧ ((s.link k.val).doneTick ≠ some s.tick) ∧ (s.tlDue k.val = true)) ∧
    (∃ (s : State) (k : Fin 8), (s.busUp = true) ∧ (s.unitInShadow 15 = false) ∧ (s.bit (CJL_STAT_TL_OK k.val) = false ∨ (s.link k.val).doneTick = some s.tick ∨ s.tlDue k.val = false)) :=
  ⟨⟨{ u [(CJL_STAT_KSTATE 7, ksSync), (CJL_STAT_INIT 7, 1)] with cjl := { up.cjl with link := [(7, { Link.idle with out := List.replicate 63 ⟨0, 0, false, some 0, false, false, 0, false⟩, retry := true, sinceR := 4 })] } }, 7, true, by decide +kernel⟩,
   ⟨{ u [(CJL_STAT_KSTATE 7, ksSync), (CJL_STAT_INIT 7, 1)] with cjl := { up.cjl with link := [(7, { Link.idle with out := List.replicate 64 ⟨0, 0, false, some 0, false, false, 0, false⟩ })] } }, 7, false, by decide +kernel⟩,
   ⟨{ u [(CJL_CFG_ECHO_PER 7, 8)] with cjl := { up.cjl with link := [(7, { Link.idle with sinceR := 0 })] } }, 7, by decide +kernel⟩,
   ⟨{ u [(CJL_STAT_KSTATE 7, ksSync)] with cjl := { up.cjl with link := [(7, { Link.idle with giveUp := true })] } }, 7, by decide +kernel⟩,
   ⟨{ u [(CJL_STAT_KSTATE 7, ksSync), (CJL_STAT_INIT 7, 1)] with cjl := { up.cjl with link := [(7, { Link.idle with out := [⟨0, 0, false, some 0, false, false, 0, false⟩] })] } }, 7, ⟨0, 0, false, some 0, false, false, 0, false⟩, [], by decide +kernel⟩,
   ⟨up, 7, by decide +kernel⟩,
   ⟨up, 7, by decide +kernel⟩,
   ⟨{ u [(CJL_STAT_KSTATE 7, ksSync), (CJL_STAT_INIT 7, 1)] with cjl := { up.cjl with link := [(7, { Link.idle with out := [⟨0, 0, false, some 0, false, true, 10 ^ 15, false⟩] })] } }, 7, ⟨0, 0, false, some 0, false, true, 10 ^ 15, false⟩, [], by decide +kernel⟩,
   ⟨{ u [(CJL_STAT_KSTATE 7, ksSync), (CJL_STAT_INIT 7, 1)] with cjl := { up.cjl with link := [(7, { Link.idle with out := [⟨0, 0, false, some 0, false, false, 0, false⟩] })] } }, 7, ⟨0, 0, false, some 0, false, false, 0, false⟩, [], by decide +kernel⟩,
   ⟨up, 7, by decide +kernel⟩,
   ⟨{ u [(CJL_STAT_KSTATE 7, ksSync)] with cjl := { up.cjl with link := [(7, { Link.idle with giveUp := true })] } }, 7, by decide +kernel⟩,
   ⟨up, 7, by decide +kernel⟩,
   ⟨u [(CJL_STAT_TL_OK 7, 1)], 7, by decide +kernel⟩,
   ⟨{ u [(CJL_STAT_TL_OK 7, 1)] with cjl := { up.cjl with link := [(7, { Link.idle with doneTick := some 0 })] } }, 7, by decide +kernel⟩⟩

theorem hyps_EchoEnds :
    (∃ (s : State) (k : Fin 8) (f : List Byte), (s.busUp = true) ∧ (s.linkSync k.val = true) ∧ (frameOf f 3 = true) ∧ ((∀ e ∈ (s.link k.val).out, e.eseq ≠ frameLe f 6 2))) ∧
    (∃ (s : State) (k : Fin 8) (f : List Byte) (e : EchoX) (l : List EchoX), (s.busUp = true) ∧ (s.linkSync k.val = true) ∧ (frameOf f 3 = true) ∧ ((s.link k.val).out = e :: l) ∧ (e.eseq = frameLe f 6 2) ∧ ((∀ y ∈ l, y.eseq ≠ e.eseq)) ∧ (echoCode e (frameLe f 8 1) (frameLe f 28 4) (frameLe f 10 2 == (s.link k.val).rmc) (s.unitInShadow 15 || s.unitInShadow 19) ((e.t4.getD 0 - e.t1 - (frameLe f 28 4 : Rat) / 16000) / 2) = 0)) ∧
    (∃ (s : State) (k : Fin 8) (f : List Byte) (e : EchoX) (l : List EchoX) (c : Nat), (s.busUp = true) ∧ (s.linkSync k.val = true) ∧ (frameOf f 3 = true) ∧ ((s.link k.val).out = e :: l) ∧ (e.eseq = frameLe f 6 2) ∧ ((∀ y ∈ l, y.eseq ≠ e.eseq)) ∧ (c = echoCode e (frameLe f 8 1) (frameLe f 28 4) (frameLe f 10 2 == (s.link k.val).rmc) (s.unitInShadow 15 || s.unitInShadow 19) ((e.t4.getD 0 - e.t1 - (frameLe f 28 4 : Rat) / 16000) / 2)) ∧ (c ≠ 0)) ∧
    (∃ (s : State) (k : Fin 8), (s.busUp = true) ∧ (s.answers k.val = false)) ∧
    (∃ (s : State) (k : Fin 8) (m : EchoR) (l : List EchoR), (s.busUp = true) ∧ (s.answers k.val = true) ∧ ((s.link k.val).marks = m :: l) ∧ (m.t3 = none)) ∧
    (∃ (s : State) (k : Fin 8) (f : List Byte), (s.busUp = true) ∧ (s.linkSync k.val = true) ∧ (frameOf f 2 = true) ∧ ((∀ m ∈ (s.link k.val).marks, m.met = true))) ∧
    (∃ (s : State) (k : Fin 8) (f : List Byte) (m : EchoR) (l : List EchoR), (s.busUp = true) ∧ (s.linkSync k.val = true) ∧ (frameOf f 2 = true) ∧ ((s.link k.val).marks = m :: l) ∧ (m.met = false) ∧ (m.t3 = none)) :=
  ⟨⟨u [(CJL_STAT_KSTATE 7, ksSync)], 7, frameT 3, by decide +kernel⟩,
   ⟨{ u [(CJL_STAT_KSTATE 7, ksSync), (CJL_STAT_INIT 7, 1)] with cjl := { up.cjl with link := [(7, { Link.idle with out := [⟨0, 0, false, some 0, false, false, 0, false⟩] })] } }, 7, frameT 3, ⟨0, 0, false, some 0, false, false, 0, false⟩, [], by decide +kernel⟩,
   ⟨{ u [(CJL_STAT_KSTATE 7, ksSync), (CJL_STAT_INIT 7, 1)] with cjl := { up.cjl with link := [(7, { Link.idle with out := [⟨0, 0, false, none, false, false, 0, false⟩] })] } }, 7, frameT 3, ⟨0, 0, false, none, false, false, 0, false⟩, [], 8, by decide +kernel⟩,
   ⟨up, 7, by decide +kernel⟩,
   ⟨{ u [(CJL_STAT_KSTATE 7, ksSync)] with cjl := { up.cjl with link := [(7, { Link.idle with marks := [⟨none, false, false, none, false, none, false, false⟩] })] } }, 7, ⟨none, false, false, none, false, none, false, false⟩, [], by decide +kernel⟩,
   ⟨u [(CJL_STAT_KSTATE 7, ksSync)], 7, frameT 2, by decide +kernel⟩,
   ⟨{ u [(CJL_STAT_KSTATE 7, ksSync)] with cjl := { up.cjl with link := [(7, { Link.idle with marks := [⟨none, false, false, none, false, none, false, false⟩] })] } }, 7, frameT 2, ⟨none, false, false, none, false, none, false, false⟩, [], by decide +kernel⟩⟩

theorem hyps_LinkMessages :
    (∃ (s : State) (k : Fin 8) (f : List Byte), (s.busUp = true) ∧ (s.linkSync k.val = true) ∧ (frameOf f 5 = true) ∧ (s.isUplink k.val = true)) ∧
    (∃ (s : State) (k : Fin 8) (f : List Byte), (s.busUp = true) ∧ (s.linkSync k.val = true) ∧ (frameOf f 5 = true) ∧ (s.isUplink k.val = false)) ∧
    (∃ (s : State) (w : HostWrite), (s.accepts w 0xF0014 = true) ∧ (w.v.toNat % 256 < 0x80 ∨ s.unitInRst 15 = true)) ∧
    (∃ (s : State) (w : HostWrite), (s.accepts w 0xF0014 = true) ∧ (0x80 ≤ w.v.toNat % 256) ∧ (s.unitInRst 15 = false)) ∧
    (∃ (s : State) (k : Fin 8) (f : List Byte), (s.busUp = true) ∧ (s.linkSync k.val = true) ∧ (frameOf f 6 = true) ∧ (s.bit CJL_CTL_ID_MODE = true) ∧ (s.isUplink k.val = true) ∧ (s.bit CJL_NODE_ID_VALID = false)) ∧
    (∃ (s : State) (k : Fin 8) (f : List Byte), (s.busUp = true) ∧ (s.linkSync k.val = true) ∧ (frameOf f 6 = true) ∧ (s.bit CJL_CTL_ID_MODE = false ∨ s.isUplink k.val = false)) ∧
    (∃ (s : State) (k : Fin 8) (f : List Byte), (s.busUp = true) ∧ (s.linkSync k.val = true) ∧ (frameOf f 7 = true)) ∧
    (∃ (s : State) (k : Fin 8) (f : List Byte), (s.busUp = true) ∧ (s.linkSync k.val = true) ∧ (frameOf f 4 = true) ∧ (s.isUplink k.val = false)) ∧
    (∃ (s : State) (k : Fin 8) (f : List Byte), (s.busUp = true) ∧ (s.linkSync k.val = true) ∧ (frameOf f 4 = true) ∧ (s.isUplink k.val = true) ∧ (s.unitInRst 16 = false)) ∧
    (∃ (s : State) (k : Fin 8) (w : HostWrite), (s.accepts w (0xF103C + 0x80 * k.val) = true)) :=
  ⟨⟨u [(CJL_STAT_KSTATE 7, ksSync), (CJL_ROOT_UP_V, 1), (CJL_ROOT_UPLINK, 7)], 7, frameT 5, by decide +kernel⟩,
   ⟨u [(CJL_STAT_KSTATE 7, ksSync)], 7, frameT 5, by decide +kernel⟩,
   ⟨up, hw 0x7F, by decide +kernel⟩,
   ⟨up, hw 0x80, by decide +kernel⟩,
   ⟨u [(CJL_STAT_KSTATE 7, ksSync), (CJL_ROOT_UP_V, 1), (CJL_ROOT_UPLINK, 7), (CJL_CTL_ID_MODE, 1)], 7, frameT 6, by decide +kernel⟩,
   ⟨u [(CJL_STAT_KSTATE 7, ksSync)], 7, frameT 6, by decide +kernel⟩,
   ⟨u [(CJL_STAT_KSTATE 7, ksSync)], 7, frameT 7, by decide +kernel⟩,
   ⟨u [(CJL_STAT_KSTATE 7, ksSync)], 7, frameT 4, by decide +kernel⟩,
   ⟨u [(CJL_STAT_KSTATE 7, ksSync), (CJL_ROOT_UP_V, 1), (CJL_ROOT_UPLINK, 7)], 7, frameT 4, by decide +kernel⟩,
   ⟨up, 7, hw (48 * 2 ^ (CJL_MAIL_LEN 7).lo), by decide +kernel⟩⟩

theorem hyps_TenseInsert :
    (∃ (s : State) (w : HostWrite), (s.accepts w 0x10002C = true) ∧ (bitAt w.v.toNat 0 = false)) ∧
    (∃ (s : State) (w : HostWrite), (s.accepts w 0x10002C = true) ∧ (bitAt w.v.toNat 0 = true) ∧ (tnsAction s.staged ≠ 12) ∧ (s.insertResult s.staged (askOf s.staged) = 0)) ∧
    (∃ (s : State) (w : HostWrite), (s.accepts w 0x10002C = true) ∧ (bitAt w.v.toNat 0 = true) ∧ (tnsAction s.staged ≠ 12) ∧ (s.insertResult s.staged (askOf s.staged) ≠ 0)) ∧
    (∃ (s : State) (w : HostWrite) (e : Nat × List Nat), (s.accepts w 0x10002C = true) ∧ (bitAt w.v.toNat 0 = true) ∧ (tnsAction s.staged = 12) ∧ (s.cancelResult s.staged (askOf s.staged) = (0, some e))) :=
  ⟨⟨up, hw 0, by decide +kernel⟩,
   ⟨u [(TME_CFG_EN 0, 1), (TNS_EVT_OUT, 8), (TNS_STAGE_WORD 0, 9 + 3 * 65536), (TNS_STAGE_WORD 1, 5)], hw 1, by decide +kernel⟩,
   ⟨up, hw 1, by decide +kernel⟩,
   ⟨{ u [(TME_CFG_EN 0, 1), (TNS_EVT_OUT, 8), (TNS_STAGE_WORD 0, 12), (TNS_STAGE_WORD 1, 5)] with tns := { up.tns with entry := [(4095, [9, 5, 0, 0, 1, 0, 0, 0])] } }, hw 1, (4095, [9, 5, 0, 0, 1, 0, 0, 0]), by decide +kernel⟩⟩

theorem hyps_TenseCancelAndFire :
    (∃ (s : State) (w : HostWrite), (s.accepts w 0x100034 = true)) ∧
    (∃ (s : State), (s.busUp = true)) ∧
    (∃ (s : State) (k : Fin 4) (f : Nat), (s.busUp = true) ∧ (s.nextFire k.val = some f) ∧ (s.scaleEn k.val = true) ∧ (s.dueBy f = true)) ∧
    (∃ (s : State) (k : Fin 4), (s.busUp = true) ∧ (s.nextFire k.val = none ∨ s.scaleEn k.val = false)) ∧
    (∃ (s : State) (k : Fin 4) (f : Nat), (s.busUp = true) ∧ (s.nextFire k.val = some f) ∧ (s.dueBy f = false)) :=
  ⟨⟨up, hw 0xFFF, by decide +kernel⟩,
   ⟨up, by decide +kernel⟩,
   ⟨{ u [(TME_CFG_EN 3, 1)] with tns := { up.tns with entry := [(4095, [9 + 512 * 3, 0, 0, 0, 0, 0, 0, 0])] }, scales := up.scales, target := up.period }, 3, 0, by decide +kernel⟩,
   ⟨up, 3, by decide +kernel⟩,
   ⟨{ u [(TME_CFG_EN 3, 1)] with tns := { up.tns with entry := [(4095, [9 + 512 * 3, 5, 0, 0, 0, 0, 0, 0])] }, scales := up.scales, target := up.period }, 3, 10000000000, by decide +kernel⟩⟩

theorem hyps_LoaderRuns :
    (∃ (s : State) (m : Master) (src : Bool) (fb : Bool), (s.accepts ⟨m, beAll, ctlWord true false 0 src fb false⟩ 0x20000 = true) ∧ (s.gld.op = none)) ∧
    (∃ (s : State) (m : Master) (src : Bool) (fb : Bool), (s.accepts ⟨m, beAll, ctlWord true false 0 src fb false⟩ 0x20000 = true) ∧ (s.gld.op ≠ none)) ∧
    (∃ (s : State) (m : Master) (src : Bool) (fb : Bool) (sw : Bool), (s.accepts ⟨m, beAll, ctlWord true false 1 src fb sw⟩ 0x20000 = true) ∧ (s.gld.op = none)) ∧
    (∃ (s : State) (m : Master) (src : Bool) (fb : Bool) (sw : Bool), (s.accepts ⟨m, beAll, ctlWord true false 1 src fb sw⟩ 0x20000 = true) ∧ (s.gld.op ≠ none)) ∧
    (∃ (s : State) (m : Master), (s.accepts ⟨m, beAll, ctlWord false true (s.get GLD_CTL_MODE) (s.bit GLD_CTL_SRC) (s.bit GLD_CTL_FLASH_SLOT) (s.bit GLD_CTL_SWAP_AT_EN)⟩ 0x20000 = true) ∧ ((s.gld.applying = false ∨ s.gld.op = some .swap))) ∧
    (∃ (s : State) (m : Master), (s.accepts ⟨m, beAll, ctlWord false true (s.get GLD_CTL_MODE) (s.bit GLD_CTL_SRC) (s.bit GLD_CTL_FLASH_SLOT) (s.bit GLD_CTL_SWAP_AT_EN)⟩ 0x20000 = true) ∧ (s.gld.applying = true) ∧ (s.gld.op ≠ some .swap)) ∧
    (∃ (s : State) (b : List Byte), (s.busUp = true) ∧ (s.gld.op ≠ none) ∧ (s.get GLD_STAT_LOADER = 1) ∧ (s.gld.hdr = false) ∧ (b.length = 64) ∧ (headerCheck b = 0)) ∧
    (∃ (s : State) (b : List Byte), (s.busUp = true) ∧ (s.gld.op ≠ none) ∧ (s.get GLD_STAT_LOADER = 1) ∧ (s.gld.hdr = false) ∧ (b.length = 64) ∧ (headerCheck b ≠ 0) ∧ ((s.gld.op ≠ some .boot ∨ s.gld.alternate = true))) ∧
    (∃ (s : State) (b : List Byte), (s.busUp = true) ∧ (s.gld.op ≠ none) ∧ (s.get GLD_STAT_LOADER = 1) ∧ (s.gld.hdr = false) ∧ (b.length = 64) ∧ (headerCheck b ≠ 0) ∧ (s.gld.op = some .boot) ∧ (s.gld.alternate = false) ∧ (s.get GLD_BOOT_BOOT_SEL ≤ 1)) ∧
    (∃ (s : State), (s.busUp = true) ∧ (s.gld.op ≠ none) ∧ (s.get GLD_STAT_LOADER = 1) ∧ (s.gld.hdr = true)) ∧
    (∃ (s : State), (s.busUp = true) ∧ (s.gld.op = none ∨ s.get GLD_STAT_LOADER ≠ 1)) :=
  ⟨⟨up, .pf0, true, true, by decide +kernel⟩,
   ⟨{ up with gld := { up.gld with op := some .full } }, .pf0, true, true, by decide +kernel⟩,
   ⟨up, .pf0, true, true, true, by decide +kernel⟩,
   ⟨{ up with gld := { up.gld with op := some .swap } }, .pf0, true, true, true, by decide +kernel⟩,
   ⟨up, .pf0, by decide +kernel⟩,
   ⟨{ up with gld := { up.gld with op := some .full, applying := true } }, .pf0, by decide +kernel⟩,
   ⟨{ u [(GLD_STAT_LOADER, 1)] with gld := { up.gld with op := some .full } }, headerOf 2048, by decide +kernel⟩,
   ⟨{ u [(GLD_STAT_LOADER, 1)] with gld := { up.gld with op := some .full } }, List.replicate 64 0, by decide +kernel⟩,
   ⟨{ u [(GLD_STAT_LOADER, 1), (GLD_BOOT_BOOT_SEL, 1)] with gld := { up.gld with op := some .boot } }, List.replicate 64 0, by decide +kernel⟩,
   ⟨{ u [(GLD_STAT_LOADER, 1)] with gld := { up.gld with op := some .boot, hdr := true } }, by decide +kernel⟩,
   ⟨up, by decide +kernel⟩⟩

theorem hyps_ImageChecksAndApplies :
    (∃ (s : State), (s.busUp = true) ∧ (s.gld.op ≠ none) ∧ (s.gld.op ≠ some .boot) ∧ (s.get GLD_STAT_LOADER = 2) ∧ ((s.imageCheck s.sramImage ≠ 0 ∨ s.imageSound (imageCfgOf s.sramImage) = true))) ∧
    (∃ (s : State), (s.busUp = true) ∧ (s.gld.op = some .boot) ∧ (s.get GLD_STAT_LOADER = 2) ∧ (s.imageCheck s.sramImage ≠ 0) ∧ (s.gld.alternate = false) ∧ (s.get GLD_BOOT_BOOT_SEL ≤ 1)) ∧
    (∃ (s : State), (s.busUp = true) ∧ (s.gld.op = none ∨ s.get GLD_STAT_LOADER ≠ 2)) ∧
    (∃ (s : State) (c : ImageCfg), (s.busUp = true) ∧ (s.gld.next = some c) ∧ (s.gld.applying = true) ∧ (s.get GLD_STAT_LOADER = 3) ∧ (s.gld.op ≠ some .swap)) ∧
    (∃ (s : State) (c : ImageCfg), (s.busUp = true) ∧ (s.gld.next = some c) ∧ (s.gld.applying = true) ∧ (s.get GLD_STAT_LOADER = 3) ∧ (s.gld.op = some .swap) ∧ (s.swapTooLate = false)) ∧
    (∃ (s : State) (c : ImageCfg), (s.busUp = true) ∧ (s.gld.next = some c) ∧ (s.gld.applying = true) ∧ (s.get GLD_STAT_LOADER = 3) ∧ (s.gld.op = some .swap) ∧ (s.swapTooLate = true)) ∧
    (∃ (s : State) (c : ImageCfg), (s.busUp = true) ∧ (s.gld.next = some c) ∧ (s.gld.applying = false ∨ s.get GLD_STAT_LOADER ≠ 3)) ∧
    (∃ (s : State) (c : ImageCfg), (s.busUp = true) ∧ (s.gld.next = some c) ∧ (s.swapDue = true) ∧ (s.sys.clocks = true) ∧ (s.dueBefore = none)) ∧
    (∃ (s : State) (c : ImageCfg), (s.busUp = true) ∧ (s.gld.next = some c) ∧ (s.swapDue = false ∨ s.sys.clocks = false)) :=
  ⟨⟨{ u [(GLD_STAT_LOADER, 2)] with gld := { up.gld with op := some .full } }, by decide +kernel⟩,
   ⟨{ u [(GLD_STAT_LOADER, 2), (GLD_BOOT_BOOT_SEL, 1)] with gld := { up.gld with op := some .boot } }, by decide +kernel⟩,
   ⟨up, by decide +kernel⟩,
   ⟨{ u [(GLD_STAT_LOADER, 3)] with gld := { up.gld with op := some .full, applying := true, next := some ImageCfg.blank } }, ImageCfg.blank, by decide +kernel⟩,
   ⟨{ u [(GLD_STAT_LOADER, 3)] with gld := { up.gld with op := some .swap, applying := true, next := some ImageCfg.blank } }, ImageCfg.blank, by decide +kernel⟩,
   ⟨{ u [(GLD_STAT_LOADER, 3), (GLD_CTL_SWAP_AT_EN, 1)] with gld := { up.gld with op := some .swap, applying := true, next := some ImageCfg.blank } }, ImageCfg.blank, by decide +kernel⟩,
   ⟨{ u [(GLD_STAT_LOADER, 3)] with gld := { up.gld with next := some ImageCfg.blank } }, ImageCfg.blank, by decide +kernel⟩,
   ⟨{ u [(GLD_STAT_LOADER, 4)] with gld := { up.gld with op := some .swap, next := some ImageCfg.blank } }, ImageCfg.blank, by decide +kernel⟩,
   ⟨{ u [(GLD_STAT_LOADER, 3)] with gld := { up.gld with op := some .swap, next := some ImageCfg.blank } }, ImageCfg.blank, by decide +kernel⟩⟩

theorem hyps_OtpWrites :
    (∃ (s : State) (w : HostWrite), (s.accepts w 0x2001C = true) ∧ (w.hits GLD_BOOT_CONFIRM = true) ∧ (s.bit GLD_STAT_IMG_VALID = true) ∧ (writtenBits w.be w.v GLD_BOOT_CONFIRM.lo 1 = 1)) ∧
    (∃ (s : State) (w : HostWrite), (s.accepts w 0x2001C = true) ∧ (w.hits GLD_BOOT_CONFIRM = true) ∧ (s.bit GLD_STAT_IMG_VALID = false ∨ writtenBits w.be w.v GLD_BOOT_CONFIRM.lo 1 = 0)) ∧
    (∃ (s : State) (w : HostWrite), (s.accepts w 0x20018 = true) ∧ (s.gld.arbTarget = none) ∧ (s.otp.arb < w.v.toNat % 256) ∧ (s.bit GLD_STAT_IMG_VALID = true) ∧ (w.v.toNat % 256 ≤ s.cfg.svn) ∧ (s.bit GLD_BOOT_CONFIRM = true)) ∧
    (∃ (s : State) (w : HostWrite), (s.accepts w 0x20018 = true) ∧ (s.gld.arbTarget ≠ none ∨ w.v.toNat % 256 ≤ s.otp.arb ∨ s.bit GLD_STAT_IMG_VALID = false ∨ s.cfg.svn < w.v.toNat % 256 ∨ s.bit GLD_BOOT_CONFIRM = false)) ∧
    (∃ (s : State) (n : Nat), (s.busUp = true) ∧ (s.gld.arbTarget = some n)) ∧
    (∃ (s : State), (s.busUp = true) ∧ (s.gld.arbTarget = none)) ∧
    (∃ (s : State) (w : HostWrite) (k : Fin 4), (s.accepts w 0x20080 = true) ∧ (writtenBits w.be w.v GLD_KEY_PROG.lo 4 = 2 ^ k.val) ∧ (writtenBits w.be w.v GLD_KEY_REVOKE.lo 4 = 0) ∧ (bitAt s.otp.programmed k.val = false) ∧ (bitAt s.otp.revoked k.val = false)) ∧
    (∃ (s : State) (w : HostWrite) (k : Fin 4), (s.accepts w 0x20080 = true) ∧ (writtenBits w.be w.v GLD_KEY_PROG.lo 4 = 2 ^ k.val) ∧ (writtenBits w.be w.v GLD_KEY_REVOKE.lo 4 = 0) ∧ (bitAt s.otp.programmed k.val = true ∨ bitAt s.otp.revoked k.val = true)) ∧
    (∃ (s : State) (w : HostWrite) (k : Fin 4), (s.accepts w 0x20080 = true) ∧ (writtenBits w.be w.v GLD_KEY_REVOKE.lo 4 = 2 ^ k.val) ∧ (writtenBits w.be w.v GLD_KEY_PROG.lo 4 = 0) ∧ ((List.range 4).filter (fun i => bitAt s.otp.programmed i && !bitAt s.otp.revoked i) ≠ [k.val])) ∧
    (∃ (s : State) (w : HostWrite) (k : Fin 4), (s.accepts w 0x20080 = true) ∧ (writtenBits w.be w.v GLD_KEY_REVOKE.lo 4 = 2 ^ k.val) ∧ (writtenBits w.be w.v GLD_KEY_PROG.lo 4 = 0) ∧ ((List.range 4).filter (fun i => bitAt s.otp.programmed i && !bitAt s.otp.revoked i) = [k.val])) :=
  ⟨⟨up, hw (2 ^ GLD_BOOT_CONFIRM.lo), by decide +kernel⟩,
   ⟨up, hw 0, by decide +kernel⟩,
   ⟨{ u [(GLD_BOOT_CONFIRM, 1)] with cfg := { up.cfg with svn := 128 } }, hw 128, by decide +kernel⟩,
   ⟨up, hw 0, by decide +kernel⟩,
   ⟨{ up with gld := { up.gld with arbTarget := some 128 } }, 128, by decide +kernel⟩,
   ⟨up, by decide +kernel⟩,
   ⟨up, hw (8 * 2 ^ GLD_KEY_PROG.lo), 3, by decide +kernel⟩,
   ⟨{ up with otp := { up.otp with revoked := 8 } }, hw (8 * 2 ^ GLD_KEY_PROG.lo), 3, by decide +kernel⟩,
   ⟨up, hw (8 * 2 ^ GLD_KEY_REVOKE.lo), 3, by decide +kernel⟩,
   ⟨{ up with otp := { up.otp with programmed := 8 } }, hw (8 * 2 ^ GLD_KEY_REVOKE.lo), 3, by decide +kernel⟩⟩

theorem hyps_WritesByAccessType :
    ∃ (s : State) (a : Word) (w : HostWrite), (s.accepts w a.toNat = true) ∧ (a.toNat % 4 = 0) ∧ (pairOf a.toNat = none) ∧ (a.toNat < 0x41000 ∨ 0x41300 ≤ a.toNat) :=
  ⟨up, 0x4005C, hw 0x1FFF, by decide +kernel⟩

theorem hyps_WritesRefused :
    (∃ (s : State) (a : Word), (a.toNat % 4 = 0) ∧ (a.toNat < 0x200000) ∧ (s.begin.countAccess.responds a.toNat = false)) ∧
    (∃ (s : State) (a : Word) (w : HostWrite) (r : RegD), (a.toNat % 4 = 0) ∧ (a.toNat < 0x200000) ∧ (findReg allRegs a.toNat = some r) ∧ (s.begin.countAccess.responds a.toNat = true) ∧ (r.wholeWord = true ∨ pairOf a.toNat ≠ none) ∧ (w.full = false)) ∧
    (∃ (s : State) (a : Word) (w : HostWrite) (r : RegD), (a.toNat % 4 = 0) ∧ (a.toNat < 0x200000) ∧ (findReg allRegs a.toNat = some r) ∧ (s.begin.countAccess.responds a.toNat = true) ∧ ((r.wholeWord = false ∨ w.full = true)) ∧ (pairOf a.toNat = none) ∧ (s.locked a.toNat = false) ∧ (s.privileged w.m = false) ∧ ((∀ d ∈ r.fields, d.acc ≠ .ro → d.priv = true)) ∧ (r.fields.any (fun d => d.acc != .ro && w.hits ⟨a.toNat, d.lo, d.len⟩) = true)) ∧
    (∃ (s : State) (a : Word) (w : HostWrite) (r : RegD), (a.toNat % 4 = 0) ∧ (a.toNat < 0x200000) ∧ (findReg allRegs a.toNat = some r) ∧ (s.begin.countAccess.responds a.toNat = true) ∧ (((r.wholeWord = false ∧ pairOf a.toNat = none) ∨ w.full = true)) ∧ (s.locked a.toNat = true) ∧ (r.fields.any (fun d => w.hits ⟨a.toNat, d.lo, d.len⟩ && (s.privileged w.m || !d.priv)) = true)) ∧
    (∃ (s : State) (a : Word) (w : HostWrite), (a.toNat % 4 = 0) ∧ (a.toNat < 0x200000) ∧ (s.accepts w a.toNat = true) ∧ ((a.toNat = 0x18 ∧ s.bit SYS_OSC_DET_FAIL = true ∧ s.wonce.contains SYS_OSC_SEL_OSC_SEL.key = true) ∨ (∃ k : Fin 4, a.toNat = 0xC0130 + 0x80 * k.val ∧ bitAt w.v.toNat 0 = true ∧ s.wonce.contains (TME_STEP_GO_GO k.val).key = true))) :=
  ⟨⟨State.reset, 0x4005C, by decide +kernel⟩,
   ⟨up, 0x18, ⟨.pf0, 14, 1⟩, ⟨0x18, 0x0, 1, [⟨0, 4, .wonce, true, false, .num⟩]⟩, by decide +kernel⟩,
   ⟨up, 0x18, ⟨.pf1, 15, 1⟩, ⟨0x18, 0x0, 1, [⟨0, 4, .wonce, true, false, .num⟩]⟩, by decide +kernel⟩,
   ⟨{ up with cfg := { up.cfg with locks := [0x4005C] } }, 0x4005C, hw 1, ⟨0x40040, 0x4, 8, [⟨0, 13, .rw, true, false, .img⟩]⟩, by decide +kernel⟩,
   ⟨{ u [(TME_CFG_EN 3, 1)] with wonce := [(TME_STEP_GO_GO 3).key] }, 0xC02B0, hw 1, by decide +kernel⟩⟩

theorem hyps_BusReads :
    (∃ (s : State) (a : Word) (n : Nat), (a.toNat + 4 * n < 0x200000) ∧ (n ≤ 16) ∧ ((∀ i : Nat, i < n → plainReg (a.toNat / 4 * 4 + 4 * i) = true ∧ s.allMember (a.toNat / 4 * 4 + 4 * i) = false ∧ s.serves .spi (a.toNat / 4 * 4 + 4 * i) = true)) ∧ (1 ≤ n)) ∧
    (∃ (s : State) (a : Word) (n : Nat), (a.toNat + 4 * n < 0x200000) ∧ (n ≤ 16) ∧ ((∀ i : Nat, i < n → plainReg (a.toNat / 4 * 4 + 4 * i) = true ∧ s.allMember (a.toNat / 4 * 4 + 4 * i) = false ∧ s.serves .spi (a.toNat / 4 * 4 + 4 * i) = true)) ∧ ((∀ i : Nat, i < n → plainReg (a.toNat / 4 * 4 + 4 * i) = true ∧ s.allMember (a.toNat / 4 * 4 + 4 * i) = false ∧ s.serves .i2c (a.toNat / 4 * 4 + 4 * i) = true))) ∧
    (∃ (s : State) (a : Word) (n : Nat) (d : BitVec 7) (l : List Byte), (a.toNat + 4 * n < 0x200000) ∧ (n ≤ 16) ∧ ((∀ i : Nat, i < n → plainReg (a.toNat / 4 * 4 + 4 * i) = true ∧ s.allMember (a.toNat / 4 * 4 + 4 * i) = false ∧ s.serves .spi (a.toNat / 4 * 4 + 4 * i) = true)) ∧ ((d.toNat ≠ s.get HIF_I2C_ADDR_ADDR ∨ l.length < 4))) ∧
    (∃ (s : State) (a : Word) (n : Nat), (a.toNat + 4 * n < 0x200000) ∧ (n ≤ 16) ∧ ((∀ i : Nat, i < n → plainReg (a.toNat / 4 * 4 + 4 * i) = true ∧ s.allMember (a.toNat / 4 * 4 + 4 * i) = false ∧ s.serves .spi (a.toNat / 4 * 4 + 4 * i) = true)) ∧ (s.begin.countAccess.responds (a.toNat / 4 * 4) = false)) ∧
    (∃ (s : State) (a : Word) (n : Nat) (m : Master), (a.toNat + 4 * n < 0x200000) ∧ (n ≤ 16) ∧ ((∀ i : Nat, i < n → plainReg (a.toNat / 4 * 4 + 4 * i) = true ∧ s.allMember (a.toNat / 4 * 4 + 4 * i) = false ∧ s.serves .spi (a.toNat / 4 * 4 + 4 * i) = true)) ∧ (isLoWord a.toNat = true) ∧ (s.allMember a.toNat = false) ∧ (inGroup a.toNat = false) ∧ (isLoWord (a.toNat - 4) = false) ∧ (s.serves m a.toNat = true) ∧ (a.toNat % 4 = 0) ∧ (pairOf a.toNat = none) ∧ (groupLen a.toNat = 0)) :=
  ⟨⟨u [(SYS_STRAP_SPI_SEC, 1)], 0x40040, 8, by decide +kernel⟩,
   ⟨u [(SYS_STRAP_SPI_SEC, 1)], 0, 1, by decide +kernel⟩,
   ⟨u [(SYS_STRAP_SPI_SEC, 1)], 0x40040, 8, 0x7F, [], by decide +kernel⟩,
   ⟨State.reset, 0x40040, 0, by decide +kernel⟩,
   ⟨up, 0x60004, 0, .pf0, by decide +kernel⟩⟩

theorem hyps_BusWrites :
    (∃ (s : State) (a : Word) (v : Word), (s.accepts ⟨.spi, beAll, v⟩ a.toNat = true) ∧ (quietReg a.toNat = true)) ∧
    (∃ (s : State) (a : Word) (v : Word), (s.accepts ⟨.i2c, beAll, v⟩ a.toNat = true) ∧ (quietReg a.toNat = true)) ∧
    (∃ (s : State) (d : BitVec 7) (l : List Byte), ((d.toNat ≠ s.get HIF_I2C_ADDR_ADDR ∨ l.length < 4))) ∧
    (∃ (s : State), (s.busUp = true)) ∧
    (∃ (s : State) (a : Word) (v : Word) (pf1 : Bool) (b : Fin 16), (s.pcieUp = true) ∧ (a.toNat < 0x200000) ∧ (s.accepts ⟨fnMaster pf1, b, v⟩ a.toNat = true) ∧ (quietReg a.toNat = true) ∧ (a.toNat % 4 = 0)) ∧
    (∃ (s : State) (a : Word) (pf1 : Bool), (s.pcieUp = true) ∧ (a.toNat < 0x200000) ∧ (plainReg a.toNat = true) ∧ (s.allMember a.toNat = false) ∧ (s.serves (fnMaster pf1) a.toNat = true)) ∧
    (∃ (s : State) (a : Word) (n : Fin 129), (s.pcieUp = true) ∧ (a.toNat < 0x200000) ∧ (16 < n.val)) ∧
    (∃ (s : State), (s.pcieUp = true)) ∧
    (∃ (s : State), (s.pcieUp = false)) :=
  ⟨⟨u [(SYS_STRAP_SPI_SEC, 1)], 0x4005C, 1, by decide +kernel⟩,
   ⟨up, 0xC0000, 1, by decide +kernel⟩,
   ⟨up, 0x7F, [], by decide +kernel⟩,
   ⟨up, by decide +kernel⟩,
   ⟨up, 0x4005C, 1, false, 15, by decide +kernel⟩,
   ⟨up, 0x4005C, false, by decide +kernel⟩,
   ⟨up, 0x4005C, 17, by decide +kernel⟩,
   ⟨up, by decide +kernel⟩,
   ⟨{ up with hif := { up.hif with perst := true } }, by decide +kernel⟩⟩

theorem hyps_IndirectPairs :
    (∃ (s : State) (b : Fin 17) (w : HostWrite), (indirectBlocks.contains b.val = true) ∧ (s.begin.countAccess.responds (0x10000 * b.val + 0xFF4) = true) ∧ (w.full = true) ∧ (s.locked (0x10000 * b.val + 0xFF0) = false) ∧ (tabGet 0 s.hif.indBusy b.val = 0)) ∧
    (∃ (s : State) (b : Fin 17) (w : HostWrite), (indirectBlocks.contains b.val = true) ∧ (s.begin.countAccess.responds (0x10000 * b.val + 0xFF4) = true) ∧ (w.full = false)) ∧
    (∃ (s : State) (b : Fin 17) (m : Master), (indirectBlocks.contains b.val = true) ∧ (s.begin.countAccess.responds (0x10000 * b.val + 0xFF4) = true) ∧ (pairMoved (s.pairUse b.val) m = false) ∧ (tabGet 0 s.hif.indBusy b.val = 0) ∧ ((indirectPriv b.val = false ∨ s.privileged m = true))) ∧
    (∃ (s : State) (b : Fin 17) (m : Master), (indirectBlocks.contains b.val = true) ∧ (s.begin.countAccess.responds (0x10000 * b.val + 0xFF4) = true) ∧ (pairMoved (s.pairUse b.val) m = false) ∧ (tabGet 0 s.hif.indBusy b.val = 0) ∧ (indirectPriv b.val = true) ∧ (s.privileged m = false) ∧ (s.locked (0x10000 * b.val + 0xFF4) = false)) ∧
    (∃ (s : State) (b : Fin 17) (w : HostWrite), (indirectBlocks.contains b.val = true) ∧ (s.begin.countAccess.responds (0x10000 * b.val + 0xFF4) = true) ∧ (w.full = true) ∧ (s.locked (0x10000 * b.val + 0xFF4) = false) ∧ (s.privileged w.m = true) ∧ (pairMoved (s.pairUse b.val) w.m = false) ∧ (tabGet 0 s.hif.indBusy b.val = 0) ∧ (b.val ≠ 14)) ∧
    (∃ (s : State) (b : Fin 17), (indirectBlocks.contains b.val = true) ∧ (s.begin.countAccess.responds (0x10000 * b.val + 0xFF4) = true) ∧ (s.busUp = true)) :=
  ⟨⟨up, 16, hw 0, by decide +kernel⟩,
   ⟨up, 16, ⟨.pf0, 7, 0⟩, by decide +kernel⟩,
   ⟨up, 16, .pf1, by decide +kernel⟩,
   ⟨up, 2, .i2c, by decide +kernel⟩,
   ⟨up, 16, hw 0, by decide +kernel⟩,
   ⟨up, 16, by decide +kernel⟩⟩

theorem hyps_MisuseBounded :
    (∃ (s : State) (a : Word) (w : HostWrite), (a.toNat % 4 = 0) ∧ (a.toNat < 0x200000) ∧ (s.misuses w a.toNat = true)) ∧
    (∃ (a : Word), (0x200000 ≤ a.toNat) ∧ (a.toNat < 0x300000)) ∧
    (∃ (s : State) (b : Fin 17) (m : Master), (indirectBlocks.contains b.val = true) ∧ (pairMoved (s.pairUse b.val) m = true) ∧ (s.begin.countAccess.responds (0x10000 * b.val + 0xFF4) = true)) ∧
    (∃ (s : State), (s.busUp = true) ∧ (s.gld.op ≠ none) ∧ (s.get GLD_STAT_LOADER = 2)) :=
  ⟨⟨u [(HIF_RING_CFG_RING_EN 4, 1), (HIF_RING_CFG_SIZE 4, 8)], 0x10444, hw 0, by decide +kernel⟩,
   ⟨0x2FFFFC#32, by decide +kernel⟩,
   ⟨{ up with hif := { up.hif with indBy := [(16, 0xFF)] } }, 16, .pf0, by decide +kernel⟩,
   ⟨{ u [(GLD_STAT_LOADER, 2)] with gld := { up.gld with op := some .full } }, by decide +kernel⟩⟩

theorem hyps_RingsMove :
    (∃ (s : State) (w : HostWrite) (r : Fin 3), (s.accepts w 0x10300 = true) ∧ (1 ≤ r.val) ∧ (w.v.toNat / 2 % 4 = r.val) ∧ (s.bit (HIF_RING_CFG_RING_EN r.val) = true) ∧ (s.itemOf r.val = none) ∧ (s.ownAt (s.descAt r.val (s.ringIdx r.val)) = true)) ∧
    (∃ (s : State) (w : HostWrite), (s.accepts w 0x10300 = true) ∧ (w.v.toNat / 2 % 4 = 0 ∨ (s.bit (HIF_RING_CFG_RING_EN 1) = false ∧ s.bit (HIF_RING_CFG_RING_EN 2) = false))) ∧
    (∃ (s : State) (w : HostWrite) (r : Fin 8), (s.accepts w (0x10404 + 0x10 * r.val) = true)) ∧
    (∃ (s : State) (w : HostWrite), (s.accepts w 0x10188 = true)) ∧
    (∃ (s : State) (r : Fin 8), (s.busUp = true) ∧ (3 ≤ r.val) ∧ (s.bit (HIF_RING_CFG_RING_EN r.val) = false)) ∧
    (∃ (s : State) (r : Fin 8), (s.busUp = true) ∧ (3 ≤ r.val) ∧ (s.bit (HIF_RING_CFG_RING_EN r.val) = true) ∧ (s.ownAt (s.descAt r.val (s.ringIdx r.val)) = false)) ∧
    (∃ (s : State) (r : Fin 8) (l : List Byte), (s.busUp = true) ∧ (3 ≤ r.val) ∧ (s.bit (HIF_RING_CFG_RING_EN r.val) = true) ∧ (s.ownAt (s.descAt r.val (s.ringIdx r.val)) = true) ∧ (s.winWord (s.descAt r.val (s.ringIdx r.val) + 4) % 2 ^ 20 / 16 * 16 + s.winWord (s.descAt r.val (s.ringIdx r.val)) % 65536 ≤ 2 ^ 20) ∧ (l.length ≤ s.winWord (s.descAt r.val (s.ringIdx r.val)) % 65536)) ∧
    (∃ (s : State) (d : Desc), (s.busUp = true) ∧ (s.itemOf 2 = some d)) ∧
    (∃ (s : State), (s.busUp = true) ∧ (s.itemOf 2 = none)) ∧
    (∃ (s : State) (e : Nat), (s.busUp = true) ∧ (s.coarse + 128 ≤ 4 * e) ∧ (s.announceWaits 104 = false)) ∧
    (∃ (s : State) (e : Nat), (s.busUp = true) ∧ (s.coarse + 128 ≤ 4 * e) ∧ (s.announceWaits 105 = false)) ∧
    (∃ (s : State) (e : Nat), (s.busUp = true) ∧ (s.coarse + 128 ≤ 4 * e) ∧ (s.announceWaits 104 = true)) :=
  ⟨⟨((u [(HIF_RING_CFG_RING_EN 2, 1), (HIF_RING_CFG_SIZE 2, 4)]).putWin 0 (0x80000000 + 64)).putWin 4 131072, hw 4, 2, by decide +kernel⟩,
   ⟨up, hw 0, by decide +kernel⟩,
   ⟨up, hw 0, 7, by decide +kernel⟩,
   ⟨up, hw 31, by decide +kernel⟩,
   ⟨up, 7, by decide +kernel⟩,
   ⟨((u [(HIF_RING_CFG_RING_EN 7, 1), (HIF_RING_CFG_SIZE 7, 4)]).putWin 0 0).putWin 4 131072, 7, by decide +kernel⟩,
   ⟨((u [(HIF_RING_CFG_RING_EN 7, 1), (HIF_RING_CFG_SIZE 7, 4)]).putWin 0 (0x80000000 + 1)).putWin 4 0xFFFF0, 7, [1], by decide +kernel⟩,
   ⟨{ up with hif := { up.hif with item := [(2, some ⟨0, false, 0, 0, 0, 0, 0⟩)] } }, ⟨0, false, 0, 0, 0, 0, 0⟩, by decide +kernel⟩,
   ⟨up, by decide +kernel⟩,
   ⟨up, 32, by decide +kernel⟩,
   ⟨up, 32, by decide +kernel⟩,
   ⟨{ u [(HIF_EV_EN_EN 3, 0xFFFFFFFF)] with hif := { up.hif with vecMask := 0xFFFFFFFF } }, 32, by decide +kernel⟩⟩

theorem hyps_FaultLogic :
    (∃ (s : State) (x : Fin 128), (s.busUp = true) ∧ (s.inF (BLK_FLT_WIN (unitOfSource x.val).1 (unitOfSource x.val).2) ≠ 0) ∧ (s.dueBy (tabGet 0 s.flt.bucketAt x.val + s.bucketLen x.val) = false)) ∧
    (∃ (s : State) (x : Fin 128), (s.busUp = true) ∧ (s.inF (BLK_FLT_WIN (unitOfSource x.val).1 (unitOfSource x.val).2) ≠ 0) ∧ (s.dueBy (tabGet 0 s.flt.bucketAt x.val + s.bucketLen x.val) = true)) ∧
    (∃ (s : State) (b : Fin 17) (w : HostWrite) (j : Fin 16), (s.accepts w (0x10000 * b.val + 0xE04) = true) ∧ (j.val < unitSources b.val) ∧ (writtenBits w.be w.v j.val 1 = 1) ∧ (s.pinHolders = s.flt.holders)) ∧
    (∃ (s : State) (b : Fin 18) (w : HostWrite), (s.pinHolders = s.flt.holders) ∧ (b.val ≠ 17) ∧ (s.accepts w (0x10000 * b.val + 0xE08) = true) ∧ (bitAt (w.v.toNat &&& beMask w.be) 7 = true)) ∧
    (∃ (s : State) (b : Fin 18) (w : HostWrite), (s.pinHolders = s.flt.holders) ∧ (b.val = 17) ∧ (s.accepts w 0x30008 = true) ∧ (writtenBits w.be w.v FLT_PIN_FIRST_V.lo 1 = 1)) ∧
    (∃ (s : State) (w : HostWrite), (s.accepts w 0x30018 = true)) ∧
    (∃ (s : State) (b : Fin 17), (s.busUp = true) ∧ (b.val = 3)) ∧
    (∃ (s : State) (b : Fin 17), (s.busUp = true) ∧ (b.val ≠ 3) ∧ (s.flt.lineBad.contains b.val = false)) ∧
    (∃ (s : State) (b : Fin 17), (s.busUp = true) ∧ (b.val ≠ 3) ∧ (s.flt.lineBad.contains b.val = true)) ∧
    (∃ (s : State) (b : Fin 17), (s.busUp = true) ∧ (b.val ≠ 3) ∧ (s.unitInRst 3 = false) ∧ (tabGet 0 s.flt.missInv b.val = 0)) ∧
    (∃ (s : State) (b : Fin 17), (s.busUp = true) ∧ (b.val ≠ 3) ∧ (s.unitInRst 3 = false) ∧ (1 ≤ tabGet 0 s.flt.missInv b.val)) :=
  ⟨⟨{ u [(BLK_FLT_WIN (unitOfSource 127).1 (unitOfSource 127).2, 1)] with flt := { up.flt with bucketAt := [(127, 10 ^ 15)] } }, 127, by decide +kernel⟩,
   ⟨u [(BLK_FLT_WIN (unitOfSource 127).1 (unitOfSource 127).2, 1)], 127, by decide +kernel⟩,
   ⟨up, 16, hw 1, 0, by decide +kernel⟩,
   ⟨up, 16, hw 0x80, by decide +kernel⟩,
   ⟨up, 17, hw (2 ^ FLT_PIN_FIRST_V.lo), by decide +kernel⟩,
   ⟨up, hw 0x1FFFF, by decide +kernel⟩,
   ⟨up, 3, by decide +kernel⟩,
   ⟨up, 16, by decide +kernel⟩,
   ⟨{ up with flt := { up.flt with lineBad := [16] } }, 16, by decide +kernel⟩,
   ⟨up, 16, by decide +kernel⟩,
   ⟨{ up with flt := { up.flt with missInv := [(16, 1)] } }, 16, by decide +kernel⟩⟩

theorem hyps_ObservationCounters :
    (∃ (s : State) (k : Fin 96) (n : Nat), (s.busUp = true) ∧ (n < 2 ^ 48) ∧ (tabGet 0 s.obs.cnt k.val < 2 ^ 48) ∧ (tabGet 0 s.obs.cnt k.val + n < 2 ^ 48)) ∧
    (∃ (s : State) (k : Fin 96) (n : Nat), (s.busUp = true) ∧ (n < 2 ^ 48) ∧ (tabGet 0 s.obs.cnt k.val < 2 ^ 48) ∧ (2 ^ 48 ≤ tabGet 0 s.obs.cnt k.val + n) ∧ (s.unitInRst 4 = false)) ∧
    (∃ (s : State) (k : Fin 96) (hi : Bool) (w : HostWrite) (n : Nat), (s.accepts w (0x41000 + 8 * k.val + (if hi then 4 else 0)) = true) ∧ (k.val ≠ 76) ∧ (k.val < 80) ∧ (0 < n)) ∧
    (∃ (s : State) (i : Fin 4), (s.busUp = true) ∧ (s.obs.pend.contains i.val = false)) ∧
    (∃ (s : State) (i : Fin 4), (s.busUp = true) ∧ (s.obs.pend.contains i.val = true)) ∧
    (∃ (s : State) (i : Fin 8) (w : HostWrite), (s.accepts w (0x40040 + 4 * i.val) = true)) :=
  ⟨⟨up, 95, (2 ^ 48 - 1), by decide +kernel⟩,
   ⟨{ up with obs := { up.obs with cnt := [(79, 1)] } }, 79, (2 ^ 48 - 1), by decide +kernel⟩,
   ⟨up, 79, true, hw 0xFFFF, 1, by decide +kernel⟩,
   ⟨up, 3, by decide +kernel⟩,
   ⟨{ up with obs := { up.obs with pend := [3] } }, 3, by decide +kernel⟩,
   ⟨up, 7, hw 0x1FFF, by decide +kernel⟩⟩

end Sys2Proof.Tests
end

section
/-!
SUPPORT. What no effect of a write moves: one value of the state that holds what R12 keeps with the loader and its state, and the
named operations that leave it (log entry 57).
-/
namespace Sys2Proof.Machine
open Sys2Proof

/-- What R12 keeps of a state, the loader with its state, and whether every event that waits for the commit is calm. -/
structure Anchor where
  otp     : Otp
  cfg     : ImageCfg
  applied : Bool
  coarse  : Nat
  pending : List Instr
  gld     : Gld
  spiSec  : Nat
  loader  : Nat
  calm    : Bool

/-- The two fields that the anchor holds: the strap of the privilege checks (R9) and the loader's state (R48). -/
def anchored (k : Nat) : Bool := k == SYS_STRAP_SPI_SEC.key || k == GLD_STAT_LOADER.key

/-- A field that the anchor does not hold: by its register's address, the base of a group past the loader's state, or by its key. -/
inductive Fld.Clear (f : Fld) : Prop
  | inst (a k : Nat) (ha : f.addr = a + k) (h : GLD_STAT_LOADER.addr < a)
  | one (h : anchored f.key = false)

/-- An event that counts, or sets a field past the loader's state. -/
def Ev.calm : Ev → Bool
  | .put f _ | .raise f | .count f _ => decide (GLD_STAT_LOADER.addr < f.addr)
  | .obs _ _ => true
  | _ => false

/-- Every event is calm. -/
def allCalm (evs : List (Nat × Ev)) : Bool := evs.all (fun e => e.2.calm)

def State.anchor (s : State) : Anchor :=
  { otp := s.otp, cfg := s.cfg, applied := s.applied, coarse := s.coarse, pending := s.pending, gld := s.gld,
    spiSec := regGet s.regs SYS_STRAP_SPI_SEC.key, loader := regGet s.regs GLD_STAT_LOADER.key, calm := allCalm s.pend.evs }

/-! ## From the anchor to what the statements ask -/

theorem get_spiSec (s : State) : s.get SYS_STRAP_SPI_SEC = s.anchor.spiSec := by
  unfold State.get
  rw [if_neg (by decide)]
  rfl

theorem get_loader (s : State) : s.get GLD_STAT_LOADER = s.anchor.loader := by
  unfold State.get
  rw [if_neg (by decide)]
  rfl

/-- The strap is all that the privilege checks read of the registers. -/
theorem privileged_of_spiSec {s t : State} (h : t.get SYS_STRAP_SPI_SEC = s.get SYS_STRAP_SPI_SEC) (m : Master) : t.privileged m = s.privileged m := by
  cases m with
  | spi => simp only [State.privileged, State.bit, h]
  | _ => rfl

theorem bounded_refl (s : State) : s.bounded s := ⟨rfl, rfl, rfl, fun _ => rfl, rfl, rfl⟩

theorem bounded_trans {s t u : State} (h : s.bounded t) (h' : t.bounded u) : s.bounded u := by
  obtain ⟨ho, hc, ha, hp, ht, hq⟩ := h
  obtain ⟨ho', hc', ha', hp', ht', hq'⟩ := h'
  exact ⟨ho'.trans ho, hc'.trans hc, ha'.trans ha, fun m => (hp' m).trans (hp m), ht'.trans ht, hq'.trans hq⟩

theorem bounded_privileged {s t : State} (h : s.bounded t) (m : Master) : t.privileged m = s.privileged m := by
  obtain ⟨_, _, _, hp, _, _⟩ := h
  exact hp m

theorem bounded_of_anchor {s t : State} (h : t.anchor = s.anchor) : s.bounded t :=
  ⟨congrArg Anchor.otp h, congrArg Anchor.cfg h, congrArg Anchor.applied h,
    privileged_of_spiSec (by rw [get_spiSec, get_spiSec, h]), congrArg Anchor.coarse h, congrArg Anchor.pending h⟩

/-! ## Fields -/

theorem key_ne_of_anchored {f g : Fld} (hg : anchored g.key = true) (h : anchored f.key = false) : g.key ≠ f.key := by
  rintro e
  rw [e, h] at hg
  cases hg

theorem spiSec_key : SYS_STRAP_SPI_SEC.key = 514 := rfl
theorem loader_key : GLD_STAT_LOADER.key = 4194432 := rfl

theorem anchored_eq_false_iff {k : Nat} : anchored k = false ↔ k ≠ 514 ∧ k ≠ 4194432 := by
  unfold anchored
  rw [spiSec_key, loader_key, Bool.or_eq_false_iff, beq_eq_false_iff_ne, beq_eq_false_iff_ne]

theorem Fld.Clear.anchored {f : Fld} (h : f.Clear) : anchored f.key = false := by
  cases h with
  | one h => exact h
  | inst a k ha h =>
    have hpast : 131076 < a := h
    rw [anchored_eq_false_iff]
    unfold Fld.key
    omega

theorem Fld.Clear.of_addr {f : Fld} (h : GLD_STAT_LOADER.addr < f.addr) : f.Clear := .inst f.addr 0 rfl h

/-- A field of a fault unit. -/
theorem Fld.Clear.of_gravity {f : Fld} (h : gravityKey f.key = true) : f.Clear := by
  refine .one (anchored_eq_false_iff.mpr ⟨?_, ?_⟩) <;> rintro e <;> rw [e] at h <;> revert h <;> decide

/-- A field of a ring (R382). -/
theorem Fld.Clear.of_ring {f : Fld} (o r : Nat) (ha : f.addr = 0x10408 + 4 * o + 0x10 * r) (ho : o < 2) (hl : f.lo < 32) : f.Clear := by
  refine .one (anchored_eq_false_iff.mpr ?_)
  unfold Fld.key
  omega

/-- A field of an indirect address. -/
theorem Fld.Clear.of_pair {f : Fld} (b : Nat) (ha : f.addr = b * 0x10000 + 0xFF0) (hl : f.lo < 32) : f.Clear := by
  refine .one (anchored_eq_false_iff.mpr ?_)
  unfold Fld.key
  omega

/-- Only register stores, what hangs on the bus and the fault units have moved, and neither of the two fields. -/
theorem anchor_of_regs {s t : State}
    (h : t = { s with regs := t.regs, inForce := t.inForce, upset := t.upset, ind := t.ind, pend := { s.pend with regs := t.pend.regs },
                      hif := t.hif, flt := t.flt, obs := t.obs })
    (hr : ∀ k, anchored k = true → regGet t.regs k = regGet s.regs k) : t.anchor = s.anchor := by
  unfold State.anchor
  rw [hr _ (by decide), hr _ (by decide), h]

theorem set_anchor (s : State) {f : Fld} (v : Nat) (h : f.Clear) : (s.set f v).anchor = s.anchor := by
  unfold State.set
  split
  · rfl
  · refine anchor_of_regs rfl (fun k hk => regGet_regPut_other _ _ ?_)
    rintro rfl
    rw [h.anchored] at hk
    cases hk

theorem pset_anchor (s : State) {f : Fld} (v : Nat) (h : f.Clear) : (s.pset f v).anchor = s.anchor := by
  unfold State.pset
  split
  · rfl
  · refine anchor_of_regs rfl (fun k hk => regGet_regPut_other _ _ ?_)
    rintro rfl
    rw [h.anchored] at hk
    cases hk

theorem setB_anchor (s : State) {f : Fld} (b : Bool) (h : f.Clear) : (s.setB f b).anchor = s.anchor := set_anchor s _ h
theorem psetB_anchor (s : State) {f : Fld} (b : Bool) (h : f.Clear) : (s.psetB f b).anchor = s.anchor := pset_anchor s _ h
theorem psetS_anchor (s : State) {f : Fld} (i : Int) (h : f.Clear) : (s.psetS f i).anchor = s.anchor := pset_anchor s _ h
theorem satAdd_anchor (s : State) {f : Fld} (n : Nat) (h : f.Clear) : (s.satAdd f n).anchor = s.anchor := set_anchor s _ h
theorem wrapAdd_anchor (s : State) {f : Fld} (n : Nat) (h : f.Clear) : (s.wrapAdd f n).anchor = s.anchor := set_anchor s _ h
theorem psetS2_anchor (s : State) {lo hi : Fld} (i : Int) (hl : lo.Clear) (hh : hi.Clear) : (s.psetS2 lo hi i).anchor = s.anchor :=
  (pset_anchor _ _ hh).trans (pset_anchor s _ hl)
theorem psetOfs_anchor (s : State) {lo hi : Fld} (o : Rat) (hl : lo.Clear) (hh : hi.Clear) : (s.psetOfs lo hi o).anchor = s.anchor :=
  psetS2_anchor s _ hl hh

theorem hwm_anchor (s : State) {f : Fld} (v : Nat) (h : f.Clear) : (s.hwm f v).anchor = s.anchor := by
  unfold State.hwm
  split
  · exact set_anchor s v h
  · rfl

/-! ## Sticky bits and counters -/

theorem Settled.anchor {L : List Fld} {s t : State} (h : Settled L s t) (hL : ∀ f ∈ L, f.Clear) : t.anchor = s.anchor := by
  have hget : ∀ g : Fld, Machine.anchored g.key = true → gravityKey g.key = false → t.get g = s.get g := fun g hg hgr =>
    h.get g hgr (fun f hf => key_ne_of_anchored hg (hL f hf).anchored)
  have hs : t.anchor.spiSec = s.anchor.spiSec := by
    rw [← get_spiSec, ← get_spiSec]
    exact hget _ (by decide) (by decide)
  have hl : t.anchor.loader = s.anchor.loader := by
    rw [← get_loader, ← get_loader]
    exact hget _ (by decide) (by decide)
  dsimp only [State.anchor] at hs hl ⊢
  rw [hs, hl, h.shape]

theorem raise_anchor (s : State) {f : Fld} (h : f.Clear) : (s.raise f).anchor = s.anchor :=
  (raise_settled s f).anchor (by simpa using h)

theorem raiseIf_anchor (s : State) {f : Fld} (c : Bool) (h : f.Clear) : (s.raiseIf c f).anchor = s.anchor :=
  (raiseIf_settled s c f).anchor (by simpa using h)

theorem obsAdd_anchor (s : State) (k n : Nat) : (s.obsAdd k n).anchor = s.anchor := by
  simp only [State.anchor, obsAdd_otp, obsAdd_cfg, obsAdd_applied, obsAdd_coarse, obsAdd_pending, obsAdd_gld, obsAdd_regs, obsAdd_pend]

theorem captureCause_anchor (s : State) (b lower : Nat) : (s.captureCause b lower).anchor = s.anchor := by
  have hs : (BLK_FLT_FIRST_CAUSE_SRC b).Clear := .of_gravity (gravityKey_blk (by decide) (by decide) (by decide) _)
  have hv : (BLK_FLT_FIRST_CAUSE_V b).Clear := .of_gravity (gravityKey_blk (by decide) (by decide) (by decide) _)
  unfold State.captureCause
  split
  · exact (set_anchor _ _ hv).trans (set_anchor s _ hs)
  · rfl

/-! ## Updates of one part of the state

Proved by `(rfl)`, so that a rewrite by one of them stands in the proof and the kernel does not compute the states again. -/

/-- A part that the anchor does not hold has moved. -/
theorem anchor_mk (u : State) {x2 x4 x5 x6 x12 x13 x14 x15 x16 x17 x21 x22 x23 x24 x25 x26 x27 x28 x29 x30 x31 x32 x33 x34 x35 x36 x37 x38 x39 x40 x41 x42}
    {i : Bank} {hf : Hif} {fl : Flt} :
    (State.mk u.pending x2 u.regs x4 x5 x6 i u.pend u.cfg u.applied u.coarse x12 x13 x14 x15 x16 x17 hf u.gld u.otp fl x21 x22 x23 x24 x25 x26 x27 x28
      x29 x30 x31 x32 x33 x34 x35 x36 x37 x38 x39 x40 x41 x42).anchor = u.anchor := (rfl)

theorem modChan_anchor (s : State) (n : Nat) (f : Chan → Chan) : (s.modChan n f).anchor = s.anchor := (rfl)
theorem setQslot_anchor (s : State) (n : Nat) (q : QSlot) : (s.setQslot n q).anchor = s.anchor := (rfl)
theorem noteSlot_anchor (s : State) (n : Nat) (f : QSlot → QSlot) : (s.noteSlot n f).anchor = s.anchor := (rfl)
theorem setLane_anchor (s : State) (l : Nat) (x : Lane) : (s.setLane l x).anchor = s.anchor := (rfl)
theorem setScale_anchor (s : State) (k : Nat) (x : Scale) : (s.setScale k x).anchor = s.anchor := (rfl)
theorem modScale_anchor (s : State) (k : Nat) (f : Scale → Scale) : (s.modScale k f).anchor = s.anchor := (rfl)
theorem modCask_anchor (s : State) (c : Nat) (f : Cask → Cask) : (s.modCask c f).anchor = s.anchor := (rfl)
theorem modOut_anchor (s : State) (j : Nat) (f : Out → Out) : (s.modOut j f).anchor = s.anchor := (rfl)
theorem setApll_anchor (s : State) (m : Nat) (a : Apll) : (s.setApll m a).anchor = s.anchor := (rfl)
theorem modLink_anchor (s : State) (k : Nat) (f : Link → Link) : (s.modLink k f).anchor = s.anchor := (rfl)
theorem setPin_anchor (s : State) (i : Nat) (x : EvtPin) : (s.setPin i x).anchor = s.anchor := (rfl)
theorem setCtxWord_anchor (s : State) (n w v : Nat) : (s.setCtxWord n w v).anchor = s.anchor := (rfl)
theorem setCtxFld_anchor (s : State) (n w lo len v : Nat) : (s.setCtxFld n w lo len v).anchor = s.anchor := (rfl)
theorem setSess_anchor (s : State) (n : Nat) (x : Sess) : (s.setSess n x).anchor = s.anchor := (rfl)
theorem modSess_anchor (s : State) (n : Nat) (f : Sess → Sess) : (s.modSess n f).anchor = s.anchor := (rfl)
theorem setGrp_anchor (s : State) (g : Nat) (x : Grp) : (s.setGrp g x).anchor = s.anchor := (rfl)
theorem putWin_anchor (s : State) (a v : Nat) : (s.putWin a v).anchor = s.anchor := (rfl)

theorem foldl_anchor {α : Type} {g : State → α → State} (hg : ∀ t a, (g t a).anchor = t.anchor) (l : List α) (s : State) :
    (l.foldl g s).anchor = s.anchor := by
  induction l generalizing s with
  | nil => rfl
  | cons a r ih => exact (ih _).trans (hg s a)

/-- An action on both banks leaves what it leaves of the pending bank's side. -/
theorem inBoth_anchor {f : State → State} (hf : ∀ s, (f s).anchor = s.anchor) (s : State) : (s.inBoth f).anchor = s.anchor := hf s

/-! ## Events for the commit -/

theorem emit_anchor (s : State) (owner : Nat) {e : Ev} (h : e.calm = true) : (s.emit owner e).anchor = s.anchor := by
  have hc : allCalm (s.pend.evs ++ [(owner, e)]) = allCalm s.pend.evs := by simp [allCalm, h]
  unfold State.emit State.anchor
  rw [hc]

theorem emitAll_anchor (s : State) (owner : Nat) {es : List Ev} (h : es.all Ev.calm = true) : (s.emitAll owner es).anchor = s.anchor := by
  unfold State.emitAll
  induction es generalizing s with
  | nil => rfl
  | cons e r ih =>
    simp only [List.all_cons, Bool.and_eq_true] at h
    exact (ih _ h.2).trans (emit_anchor s owner h.1)

theorem applyEv_anchor (s : State) {e : Ev} (h : e.calm = true) : (s.applyEv e).anchor = s.anchor := by
  cases e with
  | put f v => exact set_anchor s v (.of_addr (by simpa [Ev.calm] using h))
  | raise f => exact raise_anchor s (.of_addr (by simpa [Ev.calm] using h))
  | count f n => exact satAdd_anchor s n (.of_addr (by simpa [Ev.calm] using h))
  | obs k n => exact obsAdd_anchor s k n
  | _ => simp [Ev.calm] at h

theorem foldl_applyEv_anchor (s : State) {evs : List (Nat × Ev)} (h : allCalm evs = true) :
    (evs.foldl (fun s e => s.applyEv e.2) s).anchor = s.anchor := by
  induction evs generalizing s with
  | nil => rfl
  | cons e r ih =>
    simp only [allCalm, List.all_cons, Bool.and_eq_true] at h
    exact (ih _ h.2).trans (applyEv_anchor s h.1)

theorem allCalm_filter {evs : List (Nat × Ev)} (p : Nat × Ev → Bool) (h : allCalm evs = true) : allCalm (evs.filter p) = true := by
  unfold allCalm at *
  rw [List.all_eq_true] at *
  exact fun e he => h e (List.mem_filter.mp he).1

/-- Calm events are applied; none is left. -/
theorem flushEvs_anchor {s : State} (h : s.anchor.calm = true) : s.flushEvs.anchor = s.anchor := by
  unfold State.flushEvs
  dsimp only
  rw [foldl_anchor (fun t o => foldl_applyEv_anchor t (allCalm_filter _ h))]
  unfold State.anchor at *
  dsimp only at *
  rw [h]
  rfl

/-- The events that wait for the commit are others. -/
theorem anchor_evs (s : State) (l : List (Nat × Ev)) :
    ({ s with pend := { s.pend with evs := l } } : State).anchor = { s.anchor with calm := allCalm l } := rfl

theorem atOnce_anchor {f : State → State} (hf : ∀ s, (f s).anchor = s.anchor) (s : State) : (s.atOnce f).anchor = s.anchor := by
  have h : (f { s with pend := { s.pend with evs := [] } }).anchor = { s.anchor with calm := true } := hf _
  have hfl := (flushEvs_anchor (congrArg Anchor.calm h)).trans h
  exact (anchor_evs _ _).trans (congrArg (fun x : Anchor => { x with calm := allCalm s.pend.evs }) hfl)

/-! ## The registers of a block after its reset -/

theorem regGet_putAll_other (l t : Tab Nat) {k : Nat} (h : ∀ e ∈ l, k ≠ e.1) : regGet (l.foldl (fun t e => regPut t e.1 e.2) t) k = regGet t k := by
  induction l generalizing t with
  | nil => rfl
  | cons e r ih =>
    rw [List.foldl_cons, ih _ (fun x hx => h x (by simp [hx]))]
    exact regGet_regPut_other _ _ (h e (by simp))

/-- A field of another block is as it was. -/
theorem regGet_resetTable_other (img t : Tab Nat) {b k : Nat} (h : keyBlock k ≠ b) : regGet (resetTable img b t) k = regGet t k := by
  have hg : resetGoes b k = false := by simp [resetGoes, h]
  unfold resetTable
  dsimp only
  rw [regGet_putAll_other]
  · exact tabGet_filter _ _ _ _ (fun e _ he => by rw [he, hg]; rfl)
  · rintro e he rfl
    rw [(List.mem_filter.mp he).2] at hg
    cases hg

theorem resetRegs_anchor (s : State) {b : Nat} (h0 : b ≠ 0) (h2 : b ≠ 2) : (s.resetRegs b).anchor = s.anchor := by
  refine anchor_of_regs rfl (fun k hk => regGet_resetTable_other _ _ ?_)
  simp only [anchored, Bool.or_eq_true, beq_iff_eq] at hk
  rcases hk with rfl | rfl
  · exact fun e => h0 (e.symm.trans rfl)
  · exact fun e => h2 (e.symm.trans rfl)

end Sys2Proof.Machine
end

section
/-!
SUPPORT. The outputs, the rings and the resets of units other than GLD leave the anchor.
-/
namespace Sys2Proof.Machine
open Sys2Proof

/-! ## Rings and the journal (R383, R384) -/

theorem returnDesc_anchor (s : State) (r w0 w2 status : Nat) : (s.returnDesc r w0 w2 status).anchor = s.anchor := by
  have hidx : (HIF_RING_IDX_IDX r).Clear := .of_ring 0 r rfl (by decide) (by decide : 0 < 32)
  have hseq : (HIF_RING_IDX_RSEQ r).Clear := .of_ring 0 r rfl (by decide) (by decide : 16 < 32)
  simp only [State.returnDesc, set_anchor _ _ hseq, set_anchor _ _ hidx, putWin_anchor]

/-- The sticky bits of the eight rings are clear of the anchor. -/
theorem ringSticky_clear {r : Nat} (h : r < 8) :
    (HIF_RING_STICKY_DONE_S r).Clear ∧ (HIF_RING_STICKY_DROP_S r).Clear ∧ (HIF_RING_STICKY_ERR_S r).Clear := by
  have hd : ∀ r < 8, anchored (HIF_RING_STICKY_DONE_S r).key = false ∧ anchored (HIF_RING_STICKY_DROP_S r).key = false ∧
      anchored (HIF_RING_STICKY_ERR_S r).key = false := by decide
  obtain ⟨h1, h2, h3⟩ := hd r h
  exact ⟨.one h1, .one h2, .one h3⟩

theorem ringDrop_anchor (s : State) {r : Nat} (h : r < 8) : (s.ringDrop r).anchor = s.anchor := by
  obtain ⟨_, hdrop, _⟩ := ringSticky_clear h
  unfold State.ringDrop
  rw [raise_anchor _ hdrop, obsAdd_anchor, satAdd_anchor _ _ (.of_ring 1 r rfl (by decide) (by decide : 0 < 32))]

theorem ringPost_anchor (s : State) {it : RingItem} (h : it.ring < 8) : (s.ringPost it).1.anchor = s.anchor := by
  obtain ⟨hdone, _, herr⟩ := ringSticky_clear h
  unfold State.ringPost
  dsimp only
  split
  · rfl
  · split
    · exact ringDrop_anchor s h
    · split
      · exact ((raise_anchor _ herr).trans (ringDrop_anchor _ h)).trans (returnDesc_anchor s _ _ _ _)
      · exact ((raise_anchor _ hdone).trans (obsAdd_anchor _ _ _)).trans (returnDesc_anchor _ _ _ _ _)

theorem journal_anchor (s : State) (rec : List Nat) (outcome : Nat) : (s.journal rec outcome).anchor = s.anchor := by
  have hpost : ∀ (t : State) (l : List Byte), (t.ringPost ⟨6, 0, l⟩).1.anchor = t.anchor := fun t _ => ringPost_anchor t (by decide : 6 < 8)
  unfold State.journal
  split
  · simp (disch := exact .one (by decide)) only [apply_ite State.anchor, hpost, raise_anchor, satAdd_anchor, ite_self]
  · rfl

/-! ## Losses of references and links -/

theorem lowerLoss_anchor (s : State) (n : Nat) (t : Int) : (s.lowerLoss n t).anchor = s.anchor := by
  simp (disch := exact .inst _ _ rfl (by decide)) only [State.lowerLoss, apply_ite State.anchor, set_anchor, setB_anchor, noteSlot_anchor, ite_self]

theorem refLoss_anchor (s : State) (n : Nat) (t : Int) : (s.refLoss n t).anchor = s.anchor := by
  simp (disch := exact .inst _ _ rfl (by decide)) only [State.refLoss, apply_ite State.anchor, lowerLoss_anchor, raise_anchor, set_anchor, ite_self]

theorem srcLoss_anchor (s : State) (n : Nat) : (s.srcLoss n).anchor = s.anchor := by
  simp only [State.srcLoss, apply_ite State.anchor, refLoss_anchor, ite_self]

theorem linkChange_anchor (s : State) (p : Nat) (pcs an : Bool) : (s.linkChange p pcs an).anchor = s.anchor := by
  simp (disch := exact .inst _ _ rfl (by decide)) only [State.linkChange, apply_ite State.anchor, raise_anchor, obsAdd_anchor, srcLoss_anchor,
    setB_anchor, ite_self]

theorem quadFall_anchor (s : State) (q : Nat) : (s.quadFall q).anchor = s.anchor :=
  foldl_anchor (fun t _ => linkChange_anchor t _ _ _) _ s

/-! ## Outputs (R236 – R250) -/

theorem arm_anchor (s : State) (j : Nat) : (s.arm j).anchor = s.anchor := by
  simp (disch := exact .one (by decide)) only [State.arm, set_anchor, modOut_anchor]

theorem armAll_anchor (s : State) : s.armAll.anchor = s.anchor := foldl_anchor arm_anchor _ s

theorem takeValues_anchor (s : State) (j : Nat) : (s.takeValues j).anchor = s.anchor := by
  simp (disch := exact .inst _ _ rfl (by decide)) only [State.takeValues, set_anchor, modOut_anchor]

theorem showPend_anchor (s : State) (j : Nat) : (s.showPend j).anchor = s.anchor := setB_anchor s _ (.inst _ _ rfl (by decide))

theorem outNext_anchor (s : State) (j cause : Nat) : (s.outNext j cause).anchor = s.anchor := by
  simp (disch := exact .inst _ _ rfl (by decide)) only [State.outNext, apply_ite State.anchor, arm_anchor, modOut_anchor, takeValues_anchor, raise_anchor,
    obsAdd_anchor, set_anchor, ite_self]

theorem evalOutput_anchor (s : State) (j : Nat) : (s.evalOutput j).anchor = s.anchor := by
  simp (disch := exact .inst _ _ rfl (by decide)) only [State.evalOutput, apply_ite State.anchor, outNext_anchor, set_anchor, ite_self]

theorem evalOutputs_anchor (s : State) : s.evalOutputs.anchor = s.anchor := foldl_anchor evalOutput_anchor _ s

theorem phaseWritten_anchor (s : State) (j : Nat) : (s.phaseWritten j).anchor = s.anchor := showPend_anchor _ j
theorem setWritten_anchor (s : State) (j : Nat) : (s.setWritten j).anchor = s.anchor := showPend_anchor _ j
theorem trimWritten_anchor (s : State) (j : Nat) : (s.trimWritten j).anchor = s.anchor := setB_anchor _ _ (.inst _ _ rfl (by decide))
theorem widthChanged_anchor (s : State) (j old : Nat) : (s.widthChanged j old).anchor = s.anchor := rfl

/-- What a write to an output's registers sets going. -/
theorem hitOutput_anchor (s t : State) (w : HostWrite) (j : Nat) : (s.hitOutput t w j).anchor = t.anchor := by
  simp only [State.hitOutput, apply_ite State.anchor, evalOutput_anchor, trimWritten_anchor, setWritten_anchor, phaseWritten_anchor, showPend_anchor,
    widthChanged_anchor, ite_self]

/-! ## APLLs (R229 – R235) -/

theorem setAstate_anchor (s : State) (m st : Nat) : (s.setAstate m st).anchor = s.anchor := by
  simp (disch := exact .inst _ _ rfl (by decide)) only [State.setAstate, setB_anchor, set_anchor, setApll_anchor]

theorem apllEval_anchor (s : State) (m : Nat) : (s.apllEval m).anchor = s.anchor := by
  simp (disch := exact .inst _ _ rfl (by decide)) only [State.apllEval, State.unlocked, apply_ite State.anchor, setAstate_anchor, raise_anchor, obsAdd_anchor,
    satAdd_anchor, ite_self]

theorem apllEvals_anchor (s : State) : s.apllEvals.anchor = s.anchor := (evalOutputs_anchor _).trans (foldl_anchor apllEval_anchor _ s)

/-! ## Slots and channels -/

theorem putConds_anchor (s : State) (n : Nat) (c : Conds) : (s.putConds n c).anchor = s.anchor := by
  simp (disch := exact .inst _ _ rfl (by decide)) only [State.putConds, psetB_anchor]

/-- A fixed address past the loader's state, with an offset in its group. -/
theorem calm_inst {f : Fld} {a k : Nat} (ha : f.addr = a + k) (h : GLD_STAT_LOADER.addr < a) : decide (GLD_STAT_LOADER.addr < f.addr) = true :=
  decide_eq_true (by omega)

/-- A slot enters a state with no sticky bit: what waits for the commit is calm. -/
theorem enter_none_anchor (s : State) (n st : Nat) : (s.enter n st none).anchor = s.anchor := by
  have hn : (Ev.count (QUL_CNT_TRANS n) 1).calm = true := calm_inst rfl (by decide)
  have ho : ∀ k n, (Ev.obs k n).calm = true := fun _ _ => rfl
  unfold State.enter
  dsimp only
  rw [emitAll_anchor, pset_anchor _ _ (.inst _ _ rfl (by decide))]
  simp only [List.all_append, List.all_nil, Bool.true_and, Bool.and_eq_true]
  refine ⟨⟨?_, ?_⟩, ?_⟩ <;> split <;> simp [hn, ho]

theorem adevClear_calm (n : Nat) : (adevClear n).all Ev.calm = true := by
  simp only [adevClear, List.all_cons, List.all_nil, Ev.calm, Bool.and_true, Bool.and_eq_true]
  refine ⟨?_, ?_, ?_, ?_, ?_⟩ <;> exact calm_inst rfl (by decide)

theorem undeclared_anchor (s : State) (n : Nat) : (s.undeclared n).anchor = s.anchor := by
  simp (disch := exact .inst _ _ rfl (by decide)) only [State.undeclared, pset_anchor, psetB_anchor, putConds_anchor, setQslot_anchor,
    emitAll_anchor _ _ (adevClear_calm n), enter_none_anchor]

theorem showPrep_anchor (s : State) (c : Nat) (p : Option Prep) : (s.showPrep c p).anchor = s.anchor := by
  cases p <;> simp (disch := exact .inst _ _ rfl (by decide)) only [State.showPrep, psetOfs_anchor, pset_anchor, modChan_anchor]

theorem showMembers_anchor (s : State) (c : Nat) (ms : List Member) : (s.showMembers c ms).anchor = s.anchor := by
  have hone : ∀ (t : State) (e : Member × Nat), ((((((t.pset (wtW c e.2) e.1.w).psetB (wtHeld c e.2) e.1.held).psetB (wtIn c e.2) e.1.inn).pset (wtF c e.2)
      (rndDown (e.1.f * 4096)).toNat)).psetS (mdD c e.2) (sat32 e.1.d)).anchor = t.anchor := fun t e => by
    simp (disch := exact .inst _ _ rfl (Nat.lt_add_right _ (by decide))) only [pset_anchor, psetB_anchor, psetS_anchor]
  exact (pset_anchor _ _ (.inst _ _ rfl (by decide))).trans (foldl_anchor hone _ _)

theorem selOff_anchor (s : State) (c : Nat) : (s.selOff c).anchor = s.anchor := by
  simp (disch := exact .inst _ _ rfl (by decide)) only [State.selOff, psetB_anchor, pset_anchor, psetOfs_anchor, showPrep_anchor, showMembers_anchor,
    modChan_anchor]

theorem selRestart_anchor (s : State) (c : Nat) : (s.selRestart c).anchor = s.anchor :=
  (pset_anchor _ _ (.inst _ _ rfl (by decide))).trans (selOff_anchor s c)

theorem clearPreview_anchor (s : State) (c : Nat) : (s.clearPreview c).anchor = s.anchor := by
  simp (disch := exact .inst _ _ rfl (by decide)) only [State.clearPreview, psetS2_anchor, pset_anchor, psetB_anchor]

theorem discardPreview_anchor (s : State) (c : Nat) : (s.discardPreview c).anchor = s.anchor := by
  unfold State.discardPreview
  split
  · rfl
  · rw [emitAll_anchor, clearPreview_anchor, modChan_anchor]
    simp only [List.all_cons, List.all_nil, Ev.calm, Bool.and_true, Bool.and_eq_true]
    exact ⟨calm_inst rfl (by decide), calm_inst rfl (by decide)⟩

/-! ## Links, pins, time scales, lanes -/

theorem noteBad_anchor (s : State) (k : Nat) : (s.noteBad k).anchor = s.anchor := by
  simp only [State.noteBad, apply_ite State.anchor, captureCause_anchor, modLink_anchor, ite_self]

theorem voidEcho_anchor (s : State) (k code : Nat) : (s.voidEcho k code).anchor = s.anchor := by
  simp (disch := exact .inst _ _ rfl (by decide)) only [State.voidEcho, apply_ite State.anchor, raise_anchor, noteBad_anchor, modLink_anchor, set_anchor,
    satAdd_anchor, obsAdd_anchor, ite_self]

theorem voidAll_anchor (s : State) (k : Nat) : (s.voidAll k).anchor = s.anchor := foldl_anchor (fun t _ => voidEcho_anchor t k 10) _ _

theorem cjlReset_anchor (s : State) : s.cjlReset.anchor = s.anchor := by
  unfold State.cjlReset
  dsimp only
  rw [anchor_mk, foldl_anchor (fun t k => (modLink_anchor _ _ _).trans (voidAll_anchor t k))]

theorem evtInit_anchor (s : State) : s.evtInit.anchor = s.anchor := by
  unfold State.evtInit
  exact foldl_anchor (fun t i => setPin_anchor t i _) _ s

theorem radjRefuse_anchor (s : State) (k : Nat) : (s.radjRefuse k).anchor = s.anchor := foldl_anchor (fun t _ => journal_anchor t _ _) _ _

theorem laneSeq_clear (l : Nat) : (laneSeq l).Clear := by
  unfold laneSeq
  split <;> exact .inst _ _ rfl (by decide)

theorem laneDrop_clear (l : Nat) : (laneDrop l).Clear := by
  unfold laneDrop
  split <;> exact .inst _ _ rfl (by decide)

theorem carry_anchor (s : State) (c : Nat) : (s.carry c).anchor = s.anchor := modChan_anchor s c _

theorem resetLane_anchor (s : State) (l : Nat) : (s.resetLane l).anchor = s.anchor := by
  simp only [State.resetLane, apply_ite State.anchor, raise_anchor _ (.one (f := TIM_STICKY_LANE_DROP) (by decide)), obsAdd_anchor,
    satAdd_anchor _ _ (laneDrop_clear l), set_anchor _ _ (laneSeq_clear l), setLane_anchor, ite_self]

theorem resetRings_anchor (s : State) : s.resetRings.anchor = s.anchor := by
  unfold State.resetRings
  dsimp only
  rw [anchor_mk]
  refine foldl_anchor (fun t r => ?_) _ s
  have hdrop : (HIF_RING_CNT_DROPS r).Clear := .of_ring 1 r rfl (by decide) (by decide : 0 < 32)
  simp only [apply_ite State.anchor, satAdd_anchor _ _ hdrop, ite_self]

/-! ## The reset of a unit (R406) -/

/-- The reset of a unit other than GLD. -/
theorem unitReset_anchor (s : State) {u : Nat} (h : u ≠ 2) : (s.unitReset u).anchor = s.anchor := by
  have regs : ∀ (t : State) (b : Nat), b ≠ 0 ∧ b ≠ 2 → (t.resetRegs b).anchor = t.anchor := fun t _ hb => resetRegs_anchor t hb.1 hb.2
  unfold State.unitReset
  split
  · exact resetRings_anchor s
  · exact absurd rfl h
  · dsimp only
    rw [anchor_mk, regs _ 3 (by decide)]
  · rw [anchor_mk]
  · rw [anchor_mk, regs _ 5 (by decide)]
  · dsimp only
    rw [regs _ 7 (by decide), atOnce_anchor (inBoth_anchor (foldl_anchor undeclared_anchor _)), regs _ 7 (by decide),
      inBoth_anchor (foldl_anchor carry_anchor _)]
  · rw [inBoth_anchor (foldl_anchor selRestart_anchor _), regs _ 8 (by decide)]
  · rw [atOnce_anchor (inBoth_anchor (foldl_anchor discardPreview_anchor _)), regs _ 9 (by decide)]
  · dsimp only
    rw [set_anchor _ _ (.one (by decide)), anchor_mk, foldl_anchor (fun t c => modCask_anchor t c _), regs _ 10 (by decide)]
  · exact regs s 11 (by decide)
  · dsimp only
    rw [anchor_mk, foldl_anchor radjRefuse_anchor, foldl_anchor (fun t k => modScale_anchor t k _), regs _ 12 (by decide)]
  · dsimp only
    rw [anchor_mk, regs _ 13 (by decide), foldl_anchor quadFall_anchor]
  · rw [State.ptpReset, anchor_mk, regs _ 14 (by decide)]
  · rw [cjlReset_anchor, regs _ 15 (by decide)]
  · rw [evtInit_anchor, regs _ 16 (by decide)]
  · rw [foldl_anchor resetLane_anchor, regs _ 6 (by decide)]
  · exact quadFall_anchor s 0
  · exact quadFall_anchor s 1
  · exact quadFall_anchor s 2
  · exact quadFall_anchor s 3
  · exact foldl_anchor resetLane_anchor _ s

/-- The units that a load resets are blocks other than GLD. -/
theorem loadResets_anchor (s : State) : s.loadResets.anchor = s.anchor := by
  unfold State.loadResets
  dsimp only
  have hu : ∀ u ∈ loadUnits, u ≠ 2 := by decide
  generalize loadUnits = l at hu
  induction l generalizing s with
  | nil => rfl
  | cons u r ih =>
    rw [List.foldl_cons, ih _ (fun x hx => hu x (by simp [hx]))]
    exact unitReset_anchor s (hu u (by simp))

end Sys2Proof.Machine
end

section
/-!
SUPPORT. Power domains, PTP sessions, the tense table and the other effects of writes leave the anchor.
-/
namespace Sys2Proof.Machine
open Sys2Proof

/-! ## Power domains (R444, R445) -/

theorem keepLine_anchor (s : State) (b : Nat) : (s.keepLine b).anchor = s.anchor := by
  simp only [State.keepLine, apply_ite State.anchor, anchor_mk, ite_self]

theorem spoilOpen_anchor (s : State) : s.spoilOpen.anchor = s.anchor := foldl_anchor (fun t c => modCask_anchor t c _) _ s

theorem resetBegin_anchor (s : State) {u : Nat} (n : Nat) (h : u ≠ 2) : (s.resetBegin u n).anchor = s.anchor := by
  simp only [State.resetBegin, unitReset_anchor _ h, apply_ite State.anchor, spoilOpen_anchor, anchor_mk, keepLine_anchor, ite_self]

theorem domainUnit_ne_gld {d u : Nat} (h : domainUnit d = some u) : u ≠ 2 := by
  unfold domainUnit at h
  repeat' split at h
  all_goals simp only [Option.some.injEq, reduceCtorEq] at h <;> omega

theorem domainOn_anchor (s : State) (d : Nat) : (s.domainOn d).anchor = s.anchor := by
  have hramp : SYS_PD_STAT_RAMP.Clear := .one (by decide)
  unfold State.domainOn
  dsimp only
  split
  · rename_i u hu
    rw [resetBegin_anchor _ 1 (domainUnit_ne_gld hu), set_anchor _ _ hramp]
  · exact set_anchor s _ hramp

theorem showLink_anchor (s : State) (k : Nat) : (s.showLink k).anchor = s.anchor := by
  simp (disch := exact .inst _ _ rfl (by decide)) only [State.showLink, set_anchor]

theorem hopNone_anchor (s : State) (k : Nat) : (s.hopNone k).anchor = s.anchor := by
  simp (disch := exact .inst _ _ rfl (by decide)) only [State.hopNone, modLink_anchor, set_anchor]

theorem setInit_anchor (s : State) (k : Nat) (b : Bool) : (s.setInit k b).anchor = s.anchor := by
  simp (disch := exact .inst _ _ rfl (by decide)) only [State.setInit, apply_ite State.anchor, set_anchor, modLink_anchor, hopNone_anchor, ite_self]

theorem linkOff_anchor (s : State) (k : Nat) : (s.linkOff k).anchor = s.anchor := by
  simp (disch := exact .inst _ _ rfl (by decide)) only [State.linkOff, showLink_anchor, srcLoss_anchor, set_anchor, setInit_anchor,
    hopNone_anchor, voidAll_anchor]

theorem domainIsolate_anchor (s : State) (d : Nat) : (s.domainIsolate d).anchor = s.anchor := by
  have hlock : CJL_CTL_TX_LOCK.Clear := .one (by decide)
  unfold State.domainIsolate
  cases domainUnit d <;>
    simp only [apply_ite State.anchor, quadFall_anchor, foldl_anchor linkOff_anchor, set_anchor _ _ hlock,
      foldl_anchor (fun t l => setLane_anchor t l _), ite_self]

theorem domainEval_anchor (s : State) (d : Nat) : (s.domainEval d).anchor = s.anchor := by
  simp only [State.domainEval, apply_ite State.anchor, apllEvals_anchor, ite_self]

theorem domainOff_anchor (s : State) (d : Nat) : (s.domainOff d).anchor = s.anchor := by
  simp (disch := exact .one (by decide)) only [State.domainOff, raiseIf_anchor, domainEval_anchor, anchor_mk, set_anchor, domainIsolate_anchor]

theorem pdApply_anchor (s : State) (old : Nat) : (s.pdApply old).anchor = s.anchor := by
  unfold State.pdApply
  refine foldl_anchor (fun t d => ?_) _ s
  simp only [apply_ite State.anchor, domainOn_anchor, domainOff_anchor, ite_self]

/-! ## PTP sessions (R296 – R317) -/

theorem sendEth_anchor (s : State) (w : Wire) : (s.sendEth w).anchor = s.anchor := obsAdd_anchor _ _ _

theorem sessToken_anchor (s : State) (n : Nat) : (s.sessToken n).1.anchor = s.anchor := by
  simp only [State.sessToken, apply_ite Prod.fst, apply_ite State.anchor, setSess_anchor, ite_self]

theorem aggToken_anchor (s : State) : s.aggToken.1.anchor = s.anchor := by
  have hptp : ∀ p : Ptp, ({ s with ptp := p } : State).anchor = s.anchor := fun _ => rfl
  simp only [State.aggToken, apply_ite Prod.fst, apply_ite State.anchor, hptp, ite_self]

theorem ctxSat_anchor (s : State) (n w lo : Nat) : (s.ctxSat n w lo).anchor = s.anchor := setCtxFld_anchor s n w lo 16 _

theorem admitEvent_anchor (s : State) (n : Nat) : (s.admitEvent n).1.anchor = s.anchor := by
  simp (disch := exact .one (by decide)) only [State.admitEvent, apply_ite Prod.fst, apply_ite State.anchor, raise_anchor, obsAdd_anchor, satAdd_anchor,
    ctxSat_anchor, anchor_mk, aggToken_anchor, ite_self]

theorem sendPtp_anchor (s : State) (n : Nat) (evt : Bool) (m : PtpOut) : (s.sendPtp n evt m).1.anchor = s.anchor := by
  simp only [State.sendPtp, apply_ite Prod.fst, apply_ite State.anchor, sendEth_anchor, obsAdd_anchor, setCtxWord_anchor, sessToken_anchor,
    admitEvent_anchor, ite_self]

theorem groupLoss_anchor (s : State) (g : Nat) : (s.groupLoss g).anchor = s.anchor := by
  have hs : (PTP_GRP_STICKY_LOSS_S g).Clear := .inst _ _ rfl (by decide)
  simp only [State.groupLoss, apply_ite State.anchor, lowerLoss_anchor, raise_anchor _ hs, setGrp_anchor, ite_self]

theorem groupEval_anchor (s : State) (g : Nat) : (s.groupEval g).anchor = s.anchor := by
  unfold State.groupEval
  split
  · rfl
  · dsimp only
    split <;> simp (disch := exact .inst _ _ rfl (by decide)) only [apply_ite State.anchor, groupLoss_anchor, raise_anchor, set_anchor, setGrp_anchor, ite_self]

theorem sessGroup_anchor (s : State) (n : Nat) : (s.sessGroup n).anchor = s.anchor := by
  simp only [State.sessGroup, apply_ite State.anchor, groupEval_anchor, ite_self]

theorem setSstate_anchor (s : State) (n st : Nat) : (s.setSstate n st).anchor = s.anchor := by
  simp only [State.setSstate, sessGroup_anchor, setCtxFld_anchor, apply_ite State.anchor, modSess_anchor, ite_self]

theorem askGrant_anchor (s : State) (n type : Nat) : (s.askGrant n type).anchor = s.anchor :=
  (sendPtp_anchor _ _ _ _).trans (setSess_anchor s n _)

theorem sessionStart_anchor (s : State) (n : Nat) : (s.sessionStart n).anchor = s.anchor := by
  simp only [State.sessionStart, apply_ite State.anchor, foldl_anchor (fun t a => askGrant_anchor t n a), setSstate_anchor, setCtxFld_anchor, setSess_anchor,
    ite_self]

theorem sessionStop_anchor (s : State) (n : Nat) : (s.sessionStop n).anchor = s.anchor := by
  simp only [State.sessionStop, modSess_anchor, setSstate_anchor, foldl_anchor (fun t (g : Grant) => sendPtp_anchor t n false (.cancel g.type))]

theorem sessionCheck_anchor (s : State) (n : Nat) : (s.sessionCheck n).anchor = s.anchor := by
  simp only [State.sessionCheck, apply_ite State.anchor, sessionStart_anchor, sessionStop_anchor, ite_self]

theorem ptpWrite_anchor (s : State) (a v : Nat) : (s.ptpWrite a v).anchor = s.anchor := by
  have hp : (PTP_SESS_EVT_PEND (a / 256 / 32)).Clear := .inst _ _ rfl (by decide)
  simp only [State.ptpWrite, apply_ite State.anchor, set_anchor _ _ hp, sessionCheck_anchor, setCtxWord_anchor, ite_self]

/-! ## The tense table (R347 – R366) -/

theorem removeEntry_anchor (s : State) (i : Nat) (w : List Nat) (outcome : Nat) : (s.removeEntry i w outcome).anchor = s.anchor :=
  journal_anchor _ _ _

theorem storeEntry_anchor (s : State) (i : Nat) (w : List Nat) : (s.storeEntry i w).anchor = s.anchor := by
  simp (disch := exact .one (by decide)) only [State.storeEntry, hwm_anchor, wrapAdd_anchor, anchor_mk]

theorem tnsRefuse_anchor (s : State) (w : List Nat) (recv : Bool) (r : Nat) : (s.tnsRefuse w recv r).anchor = s.anchor := by
  simp (disch := exact .one (by decide)) only [State.tnsRefuse, journal_anchor, apply_ite State.anchor, raise_anchor, satAdd_anchor, obsAdd_anchor, ite_self]

theorem tnsTake_anchor (s : State) (w : List Nat) (a : TnsAsk) : (s.tnsTake w a).1.anchor = s.anchor := by
  unfold State.tnsTake
  split
  · split
    · exact (obsAdd_anchor _ _ _).trans (removeEntry_anchor s _ _ _)
    · exact tnsRefuse_anchor s _ _ _
  · dsimp only
    split
    · exact tnsRefuse_anchor s _ _ _
    · exact (obsAdd_anchor _ _ _).trans (storeEntry_anchor s _ _)

theorem queueTense_anchor (s : State) (f : TenseF) : (s.queueTense f).anchor = s.anchor := by
  unfold State.queueTense
  refine foldl_anchor (fun t k => ?_) _ s
  simp (disch := exact .inst _ _ rfl (by decide)) only [apply_ite State.anchor, raise_anchor, satAdd_anchor, modLink_anchor, ite_self]

theorem tnsLocal_anchor (s : State) (stage : List Nat) : (s.tnsLocal stage).1.anchor = s.anchor := by
  unfold State.tnsLocal
  extract_lets q w dom w' r
  split
  · dsimp only
    rw [queueTense_anchor, anchor_mk, tnsTake_anchor]
  · exact tnsTake_anchor s _ _

theorem tnsGo_anchor (s : State) (dur : Nat) : (s.tnsGo dur).anchor = s.anchor := by
  simp (disch := exact .one (by decide)) only [State.tnsGo, apply_ite State.anchor, anchor_mk, set_anchor, tnsLocal_anchor, ite_self]

theorem tnsCancel_anchor (s : State) (i : Nat) : (s.tnsCancel i).anchor = s.anchor := by
  unfold State.tnsCancel
  split
  · exact removeEntry_anchor s _ _ _
  · rfl

theorem floodTx_anchor (s : State) (code : Nat) : (s.floodTx code).anchor = s.anchor := by
  have hq : ∀ (t : State) (f : Flood), (t.queueFlood f).anchor = t.anchor := fun t f =>
    foldl_anchor (fun u k => by simp only [apply_ite State.anchor, modLink_anchor, ite_self]) _ t
  simp only [State.floodTx, State.originate, apply_ite State.anchor, obsAdd_anchor, hq, anchor_mk, ite_self]

/-! ## Channels, time scales and EVT pins -/

theorem padjWritten_anchor (s : State) (c : Nat) : (s.padjWritten c).anchor = s.anchor := by
  have hshow : ∀ t : State, (t.padjShow c).anchor = t.anchor := fun t => by
    simp (disch := exact .inst _ _ rfl (by decide)) only [State.padjShow, apply_ite State.anchor, psetB_anchor, ite_self]
  simp (disch := exact .inst _ _ rfl (by decide)) only [State.padjWritten, State.padjFollow, apply_ite State.anchor, psetB_anchor, pset_anchor,
    inBoth_anchor hshow, ite_self]

theorem padjHost_anchor (s : State) (c : Nat) : (s.padjHost c).anchor = s.anchor := by
  unfold State.padjHost
  split
  · exact (padjWritten_anchor _ c).trans (set_anchor s _ (.inst _ _ rfl (by decide)))
  · exact padjWritten_anchor s c

theorem evtStart_anchor (s was : State) : (s.evtStart was).anchor = s.anchor :=
  foldl_anchor (fun t i => by simp only [apply_ite State.anchor, State.evtCheck, anchor_mk, ite_self]) _ s

/-- Clearing a captured fault writes fields of the fault unit. -/
theorem captureClear_anchor (s : State) (b : Nat) : (s.captureClear b).anchor = s.anchor := by
  have hone : ∀ (l : List Fld) (t : State), (∀ f ∈ l, gravityKey f.key = true) → (l.foldl (fun s f => s.set f 0) t).anchor = t.anchor := fun l => by
    induction l with
    | nil => exact fun _ _ => rfl
    | cons f r ih => exact fun t h => (ih _ (fun g hg => h g (by simp [hg]))).trans (set_anchor t 0 (.of_gravity (h f (by simp))))
  refine hone _ s (fun f hf => ?_)
  simp only [List.mem_cons, List.not_mem_nil, or_false] at hf
  rcases hf with rfl | rfl | rfl | rfl | rfl | rfl | rfl | rfl | rfl | rfl <;> exact gravityKey_blk (by decide) (by decide) (by decide) _

/-! ## The cask's port and the SerDes words -/

theorem caskRead_anchor (s : State) (a : Nat) : (s.caskRead a).1.anchor = s.anchor := by
  unfold State.caskRead
  split
  · rfl
  · split
    · split <;> rfl
    · rfl

theorem synWrite_anchor (s : State) (a v : Nat) : (s.synWrite a v).anchor = s.anchor := by
  simp only [State.synWrite, apply_ite State.anchor, setApll_anchor, ite_self]

theorem ethWrite_anchor (s : State) (a v : Nat) : (s.ethWrite a v).anchor = s.anchor := by
  simp only [State.ethWrite, apply_ite State.anchor, anchor_mk, ite_self]

theorem cjlWrite_anchor (s : State) (a v : Nat) : (s.cjlWrite a v).anchor = s.anchor := by
  simp only [State.cjlWrite, apply_ite State.anchor, anchor_mk, ite_self]

end Sys2Proof.Machine
end

section
/-!
SUPPORT. What R12 keeps through the accesses of the host and the loader's checks (R371 – R381, R47, R49).
-/
namespace Sys2Proof.Machine
open Sys2Proof

/-! ## What every command keeps of it -/

theorem close_bounded {s t : State} (h : s.bounded t) : s.bounded (s.close t) := by
  obtain ⟨ho, hc, ha, hp, ht, _⟩ := h
  exact ⟨(close_otp s t).trans ho, (close_cfg s t).trans hc, (close_applied s t).trans ha,
    fun m => (privileged_of_spiSec (close_get s t (by decide)) m).trans (hp m), (close_coarse s t).trans ht, close_pending s t⟩

theorem begin_bounded (s : State) : s.bounded s.begin := bounded_refl s

/-- A command whose effect keeps what R12 keeps, with `P` of the state that it leaves. -/
theorem goes_bounded {c : Instr} {s : State} {f : State → State} {P : State → Prop} (he : exec c s = run f s) (hb : s.begin.bounded (f s.begin))
    (hP : P (s.close (f s.begin))) : Goes c s (fun t => s.bounded t ∧ P t) :=
  ⟨_, he, close_bounded (bounded_trans (begin_bounded s) hb), hP⟩

theorem set_bounded (s : State) {f : Fld} (v : Nat) (h : SYS_STRAP_SPI_SEC.key ≠ f.key) : s.bounded (s.set f v) :=
  ⟨by simp, by simp, by simp, privileged_of_spiSec (get_set_other s v h), by simp, by simp⟩

theorem gld_bounded (s : State) (g : Gld) : s.bounded { s with gld := g } := bounded_refl s

/-! ## Accesses -/

theorem countAccess_anchor (s : State) : s.countAccess.anchor = s.anchor := by
  simp only [State.countAccess, apply_ite State.anchor, obsAdd_anchor, ite_self]

theorem privIgnored_anchor (s : State) : s.privIgnored.anchor = s.anchor := by
  simp (disch := exact .one (by decide)) only [State.privIgnored, raise_anchor, obsAdd_anchor, satAdd_anchor]

theorem accessError_anchor (s : State) (cause a : Nat) (m : Master) : (s.accessError cause a m).anchor = s.anchor := by
  simp (disch := exact .one (by decide)) only [State.accessError, raise_anchor, set_anchor]

theorem wonceViol_clear (b : Nat) : (wonceViol b).Clear := by
  unfold wonceViol
  split <;> exact .one (by decide)

theorem violation_anchor (s : State) (a : Nat) : (s.violation a).anchor = s.anchor := by
  rw [State.violation, raise_anchor _ (wonceViol_clear _), obsAdd_anchor, set_anchor _ _ (.one (by decide)), satAdd_anchor _ _ (.one (by decide))]

theorem noteRead_anchor (s : State) (m : Master) (v : Nat) : (s.noteRead m v).anchor = s.anchor := (rfl)
theorem answer_anchor (s : State) (v : Nat) : (s.answer v).anchor = s.anchor := (rfl)
theorem took_anchor (s : State) : s.took.anchor = s.anchor := (rfl)
theorem touchPair_anchor (s : State) (b : Nat) (m : Master) (addr : Bool) : (s.touchPair b m addr).anchor = s.anchor := (rfl)

/-! ## The indirect pair (R379, R380) -/

theorem indirectStall_anchor (s : State) (b : Nat) : (s.indirectStall b).anchor = s.anchor := by
  simp (disch := exact .one (by decide)) only [State.indirectStall, apply_ite State.anchor, anchor_mk, raise_anchor, obsAdd_anchor, satAdd_anchor, ite_self]

theorem indAddr_clear (b : Nat) : (BLK_IND_ADDR_ADDR b).Clear := .of_pair b rfl (by decide : 0 < 32)
theorem indInc_clear (b : Nat) : (BLK_IND_ADDR_INC b).Clear := .of_pair b rfl (by decide : 30 < 32)

theorem indAddrWrite_anchor (s : State) (m : Master) (b v : Nat) : (s.indAddrWrite m b v).anchor = s.anchor := by
  rw [State.indAddrWrite, set_anchor _ _ (indInc_clear b), set_anchor _ _ (indAddr_clear b), touchPair_anchor, indirectStall_anchor]

theorem indirectStep_anchor (s : State) (b i : Nat) : (s.indirectStep b i).anchor = s.anchor := by
  simp only [State.indirectStep, apply_ite State.anchor, set_anchor _ _ (indAddr_clear b), ite_self]

theorem sramPut_bounded (s : State) (a : Nat) (l : List Byte) : s.bounded (s.sramPut a l) :=
  bounded_trans (gld_bounded s _) (set_bounded _ _ (by decide))

theorem gldPut_bounded (s : State) (a v : Nat) : s.bounded (s.gldPut a v) := by
  unfold State.gldPut
  split
  · split
    · exact bounded_of_anchor (raise_anchor s (.one (by decide)))
    · exact sramPut_bounded s _ _
  · split
    · exact gld_bounded s _
    · exact bounded_refl s

theorem indirectPut_bounded (s : State) (b a v : Nat) : s.bounded (s.indirectPut b a v) := by
  unfold State.indirectPut
  split
  · exact gldPut_bounded s a v
  · exact bounded_of_anchor (synWrite_anchor s a v)
  · exact bounded_of_anchor (ethWrite_anchor s a v)
  · exact bounded_trans (bounded_of_anchor (ptpWrite_anchor s a v)) (misusedIf_bounded _ _)
  · exact bounded_of_anchor (cjlWrite_anchor s a v)
  · exact bounded_refl s

theorem indDataWrite_bounded (s : State) (m : Master) (b v : Nat) : s.bounded (s.indDataWrite m b v) := by
  unfold State.indDataWrite
  dsimp only
  have hpair : s.bounded ((s.indirectStall b).touchPair b m false) := bounded_of_anchor ((touchPair_anchor _ b m false).trans (indirectStall_anchor s b))
  refine bounded_trans hpair ?_
  generalize (s.indirectStall b).touchPair b m false = u
  split
  · exact bounded_trans (bounded_of_anchor ((indirectStep_anchor _ b 1).trans (privIgnored_anchor u))) (misusedIf_bounded _ _)
  · have hput := indirectPut_bounded { u with hif := { u.hif with indBusy := tabPut 0 u.hif.indBusy b 1 } } b
    exact bounded_trans (bounded_trans (hput _ v) (bounded_of_anchor (indirectStep_anchor _ b 1))) (misusedIf_bounded _ _)

theorem indDataRead_bounded (s : State) (m : Master) (b : Nat) : s.bounded (s.indDataRead m b).1 := by
  unfold State.indDataRead
  dsimp only
  refine bounded_trans (bounded_of_anchor ?_) (misusedIf_bounded _ _)
  rw [indirectStep_anchor, anchor_mk]
  simp only [apply_ite State.anchor, apply_ite Prod.fst, took_anchor, caskRead_anchor, touchPair_anchor, indirectStall_anchor, ite_self]

end Sys2Proof.Machine
end

section
/-!
SUPPORT. What R12 keeps through the writes of R396's table, of registers, window words and indirect data.
-/
namespace Sys2Proof.Machine
open Sys2Proof

/-! ## Where a register write is misuse (R396) -/

theorem onInst_range {a base stride count : Nat} {p : Nat → Bool} (h : onInst a base stride count p = true) :
    base ≤ a ∧ (a - base) / stride < count := by
  unfold onInst instOf at h
  split at h
  case isTrue hi => exact ⟨hi.1, hi.2.2⟩
  case isFalse => cases h

/-- Below block 5, R396's table names `PD_EN`, the I²C address, the rings and the fault units. -/
def tableReg (a : Nat) : Prop := a = 0x20 ∨ a = 0x10010 ∨ 0x400 ≤ a % 0x10000 ∨ 5 ≤ a / 0x10000

theorem tableReg_of_misuse {s t : State} {w : HostWrite} {a : Nat} (h : s.misuse t w a = true) : tableReg a := by
  unfold tableReg
  unfold State.misuse at h
  rw [Bool.or_eq_true] at h
  rcases h with hflt | h
  · unfold State.fltMisuse at hflt
    dsimp only at hflt
    split at hflt
    · cases hflt
    · omega
  · by_cases h5 : 5 ≤ a / 0x10000
    · exact .inr (.inr (.inr h5))
    · split at h
      case h_1 =>
        simp only [Bool.and_eq_true, beq_iff_eq] at h
        exact .inl h.1
      case h_2 =>
        simp only [State.hifMisuse, Bool.or_eq_true, Bool.and_eq_true, beq_iff_eq] at h
        rcases h with (⟨⟨ha, _⟩, _⟩ | hr) | hr
        · exact .inr (.inl ha)
        · have := onInst_range hr
          omega
        · have := onInst_range hr
          omega
      case h_15 => cases h
      all_goals omega

/-! ## What a write sets going -/

theorem effectSys_anchor (s t : State) (w : HostWrite) {a : Nat} (h : tableReg a) (hb : a / 0x10000 < 5) : (s.effectSys t w a).anchor = t.anchor := by
  unfold tableReg at h
  have hidx : ∀ r, (HIF_RING_IDX_IDX r).Clear := fun r => .of_ring 0 r rfl (by decide) (by decide : 0 < 32)
  unfold State.effectSys
  dsimp only
  split
  case h_1 => exact pdApply_anchor t _
  case h_11 => split <;> simp only [apply_ite State.anchor, set_anchor _ _ (hidx _), ite_self]
  all_goals omega

theorem windowsWritten_anchor (t : State) (w : HostWrite) (a : Nat) : (t.windowsWritten w a).anchor = t.anchor := by
  unfold State.windowsWritten
  dsimp only
  split <;> simp only [State.restartWindows, noteSlot_anchor]

theorem requestNamed_anchor (t : State) (c : Nat) : (t.requestNamed c).anchor = t.anchor := (rfl)

theorem effectLoop_anchor (s t : State) (w : HostWrite) (a : Nat) : (s.effectLoop t w a).anchor = t.anchor := by
  unfold State.effectLoop
  split
  · exact windowsWritten_anchor t w a
  · split <;> simp only [apply_ite State.anchor, requestNamed_anchor, ite_self]
  · split <;> simp only [padjHost_anchor]
  · simp only [apply_ite State.anchor, foldl_anchor (fun t c => modCask_anchor t c _), ite_self, State.askClear]
  · simp only [apply_ite State.anchor, hitOutput_anchor, evalOutputs_anchor, ite_self]

theorem effectNet_anchor (t : State) (w : HostWrite) (a : Nat) (dur : Option Nat) : (t.effectNet w a dur).anchor = t.anchor := by
  unfold State.effectNet
  dsimp only
  split
  · exact floodTx_anchor t _
  · cases dur <;> simp only [apply_ite State.anchor, took_anchor, tnsGo_anchor, anchor_mk, ite_self]
  · exact tnsCancel_anchor t _
  · simp only [apply_ite State.anchor, anchor_mk, ite_self]

theorem effectTme_anchor (s t : State) (w : HostWrite) (a : Nat) : (s.effectTme t w a).anchor = t.anchor := by
  unfold State.effectTme
  split
  · exact evtStart_anchor t s
  · split <;> simp only [State.radjAsk, State.utcCommit, apply_ite State.anchor, setScale_anchor, ite_self]

/-- A write past what the loader, the OTP and the boot clock act on moves nothing that R12 keeps. -/
theorem writeEffect_anchor (s t : State) (w : HostWrite) {a : Nat} (dur : Option Nat) (h : tableReg a) :
    (s.writeEffect t w a dur).anchor = t.anchor := by
  unfold State.writeEffect
  dsimp only
  split
  · simp only [apply_ite State.anchor, captureClear_anchor, ite_self]
  · split
    case isTrue hb => exact effectSys_anchor s t w h hb
    case isFalse => simp only [apply_ite State.anchor, effectLoop_anchor, effectTme_anchor, effectNet_anchor, ite_self]

/-! ## The fields that a write stores -/

theorem upset_bounded (s : State) (u : Tab (Nat × Nat)) : s.bounded { s with upset := u } := bounded_refl s

theorem writeField_bounded (s : State) (w : HostWrite) (a : Nat) (d : FieldD) (h : SYS_STRAP_SPI_SEC.key ≠ (d.at a).key) :
    s.bounded (s.writeField w a d) := by
  have hset : ∀ v, s.bounded (s.set (d.at a) v) := fun v => set_bounded s v h
  unfold State.writeField
  dsimp only
  split
  · split
    · exact bounded_trans (hset _) (upset_bounded _ _)
    · exact hset _
  · split
    · exact bounded_refl s
    · exact hset _
  · exact hset _
  · exact bounded_refl s

/-- The strap of the privilege checks lies below `PD_EN`. -/
theorem writeFields_bounded (s : State) (w : HostWrite) {a : Nat} (ds : List FieldD) (h : 0x20 ≤ a) : s.bounded (s.writeFields w a ds) := by
  have hkey : ∀ d : FieldD, SYS_STRAP_SPI_SEC.key ≠ (d.at a).key := fun d => by
    rw [spiSec_key]
    unfold FieldD.at Fld.key
    dsimp only
    omega
  have hfold : ∀ t : State, t.bounded
      (ds.foldl (fun t d => if w.hits ⟨a, d.lo, d.len⟩ && !s.heldField ⟨a, d.lo, d.len⟩ then t.writeField w a d else t) t) := by
    induction ds with
    | nil => exact bounded_refl
    | cons d r ih =>
      intro t
      refine bounded_trans ?_ (ih _)
      dsimp only
      split
      · exact writeField_bounded t w a d (hkey d)
      · exact bounded_refl t
  exact hfold s

/-! ## Writes of registers, window words and indirect data -/

theorem registerPut_bounded (s : State) (w : HostWrite) {a : Nat} (ds : List FieldD) (dur : Option Nat) (hw : isWonce a = false) (ha : tableReg a) :
    s.bounded (s.registerPut w a ds dur) := by
  have hlow : 0x20 ≤ a := by unfold tableReg at ha; omega
  unfold State.registerPut
  rw [if_neg (by simp [hw])]
  split
  · exact bounded_refl s
  · have heffect := bounded_of_anchor (writeEffect_anchor s (s.writeFields w a ds) w dur ha)
    exact bounded_trans (bounded_trans (writeFields_bounded s w ds hlow) heffect) (misusedIf_bounded _ _)

/-- A write of an indirect pair, or of a register that R396's table may name. -/
theorem registerWrite_bounded (s : State) (w : HostWrite) {a : Nat} (dur : Option Nat) (h : pairOf a = none → isWonce a = false ∧ tableReg a) :
    s.bounded (s.registerWrite w a dur) := by
  have hpriv : ∀ n m : Nat, (if n < m then s.privIgnored else s).anchor = s.anchor := fun n m => by
    rw [apply_ite State.anchor, privIgnored_anchor, ite_self]
  unfold State.registerWrite
  split
  · exact bounded_refl s
  · split
    · exact bounded_of_anchor (accessError_anchor s 1 a w.m)
    · extract_lets lock hit may
      generalize may.length = n
      split
      · split
        · exact bounded_of_anchor (hpriv _ _)
        · exact bounded_of_anchor ((violation_anchor _ a).trans (hpriv _ _))
      · split
        · exact indDataWrite_bounded s _ _ _
        · exact bounded_of_anchor (indAddrWrite_anchor s _ _ _)
        · rename_i hp
          obtain ⟨hw, ha⟩ := h hp
          split
          · exact bounded_of_anchor (hpriv _ _)
          · exact bounded_trans (bounded_of_anchor (hpriv _ _)) (registerPut_bounded _ w may dur hw ha)

/-- A word written into the window. -/
theorem windowPut_bounded (s : State) (o : Nat) (w : HostWrite) : s.bounded (s.windowPut o w) :=
  bounded_trans (bounded_of_anchor (putWin_anchor s o _)) (misusedIf_bounded _ _)

/-- A host write keeps what R12 keeps where the write of its register does; one of the window does. -/
theorem hostWriteFor_bounded (s : State) (w : HostWrite) (a : Nat) (dur : Option Nat)
    (h : ¬ (0x200000 ≤ a / 4 * 4 ∧ a / 4 * 4 < 0x300000) → s.countAccess.bounded (s.countAccess.registerWrite w (a / 4 * 4) dur)) :
    s.bounded (s.hostWriteFor w a dur) := by
  refine bounded_trans (bounded_of_anchor (countAccess_anchor s)) ?_
  unfold State.hostWriteFor
  dsimp only
  split
  · exact bounded_refl _
  · split
    · split
      · exact windowPut_bounded _ _ w
      · exact bounded_of_anchor (privIgnored_anchor _)
    · rename_i hwin
      exact h hwin

/-- Where a register write that is misuse lies. -/
theorem misuses_reg {s : State} {w : HostWrite} {a : Nat} (h : s.misuses w a = true) : isWonce a = false ∧ tableReg a := by
  simp only [State.misuses, Bool.and_eq_true, Bool.not_eq_true'] at h
  obtain ⟨⟨⟨_, hw⟩, _⟩, hreg⟩ := h
  split at hreg
  · cases hreg
  · simp only [Bool.and_eq_true] at hreg
    exact ⟨hw, tableReg_of_misuse hreg.2⟩

end Sys2Proof.Machine
end

section
/-!
O57. Misuse leaves alone what R12 says, kind by kind: registers, window words, indirect data between two masters, images.
-/
namespace Sys2Proof.Machine
open Sys2Proof

/-- A host write, by what its register's write keeps. -/
theorem hostWrite_goes {c : Instr} {s : State} {w : HostWrite} {a : Nat} (he : exec c s = run (fun s => s.hostWrite w a) s)
    (h : ¬ (0x200000 ≤ a / 4 * 4 ∧ a / 4 * 4 < 0x300000) → pairOf (a / 4 * 4) = none → isWonce (a / 4 * 4) = false ∧ tableReg (a / 4 * 4)) :
    Goes c s s.bounded :=
  ⟨_, he, close_bounded (hostWriteFor_bounded _ w a none (fun hn => registerWrite_bounded _ w none (h hn)))⟩

/-- `REGISTER_WRITE` with no event of a count field in its cycle. -/
theorem exec_registerWrite (s : State) (a : Word) (w : HostWrite) :
    exec (.registerWrite a w false) s = run (fun s => s.hostWrite w a.toNat) s := rfl

/-! ## Indirect data between two masters (R380) -/

theorem pairOf_indData : ∀ b : Fin 17, indirectBlocks.contains b.val = true → pairOf (0x10000 * b.val + 0xFF4) = some (b.val, true) := by decide

/-- Where the pair answers, `IND_DATA` is read. -/
theorem readBack_indData {s : State} {b : Fin 17} (m : Master) (hb : indirectBlocks.contains b.val = true)
    (hr : s.countAccess.responds (0x10000 * b.val + 0xFF4) = true) :
    s.readBack m (0x10000 * b.val + 0xFF4) =
      ((s.countAccess.indDataRead m b.val).1.noteRead m ((s.countAccess.indDataRead m b.val).2 &&& beMask beAll)).answer
        ((s.countAccess.indDataRead m b.val).2 &&& beMask beAll) := by
  have ha : (0x10000 * b.val + 0xFF4) / 4 * 4 = 0x10000 * b.val + 0xFF4 := by omega
  have hwin : ¬ (0x200000 ≤ 0x10000 * b.val + 0xFF4 ∧ 0x10000 * b.val + 0xFF4 < 0x300000) := by omega
  have hside : bitAt beAll.val 0 = true := by decide
  simp only [State.readBack, State.hostRead, ha, State.readAt, hr, Bool.not_true, Bool.false_eq_true, if_false, if_neg hwin, State.registerRead,
    pairOf_indData b hb, hside, if_true]

/-- A read of a privileged space by an unprivileged master gives 0 (R378). -/
theorem indDataRead_unprivileged (s : State) {m : Master} {b : Nat} (hi : indirectPriv b = true) (hp : s.privileged m = false) :
    (s.indDataRead m b).2 = 0 := by
  have hpair : ((s.indirectStall b).touchPair b m false).privileged m = s.privileged m :=
    bounded_privileged (bounded_of_anchor ((touchPair_anchor _ b m false).trans (indirectStall_anchor s b))) m
  simp only [State.indDataRead, hi, hpair, hp, Bool.not_false, Bool.and_self, if_true]

/-! ### The words answered so far -/

theorem answer_resp (s : State) (v : Nat) : (s.answer v).hif.resp = s.hif.resp ++ [BitVec.ofNat 32 v] := rfl
theorem noteRead_resp (s : State) (m : Master) (v : Nat) : (s.noteRead m v).hif.resp = s.hif.resp := rfl
theorem touchPair_resp (s : State) (b : Nat) (m : Master) (addr : Bool) : (s.touchPair b m addr).hif.resp = s.hif.resp := rfl

theorem countAccess_resp (s : State) : s.countAccess.hif.resp = s.hif.resp := by
  unfold State.countAccess
  split <;> simp

theorem indirectStall_resp (s : State) (b : Nat) : (s.indirectStall b).hif.resp = s.hif.resp := by
  unfold State.indirectStall
  split <;> simp [State.satAdd]

theorem indirectStep_resp (s : State) (b i : Nat) : (s.indirectStep b i).hif.resp = s.hif.resp := by
  unfold State.indirectStep
  split <;> simp

theorem caskRead_hif (s : State) (a : Nat) : (s.caskRead a).1.hif = s.hif := by
  unfold State.caskRead
  split
  · rfl
  · split
    · split <;> rfl
    · rfl

theorem misusedIf_resp (s : State) (bad : Bool) : (s.misusedIf bad).hif.resp = s.hif.resp := by cases bad <;> rfl

/-- A read of `IND_DATA` leaves the words answered so far. -/
theorem indDataRead_resp (s : State) (m : Master) (b : Nat) : (s.indDataRead m b).1.hif.resp = s.hif.resp := by
  unfold State.indDataRead
  dsimp only
  rw [misusedIf_resp, indirectStep_resp]
  dsimp only
  simp only [apply_ite State.hif, apply_ite Prod.fst, took_hif, caskRead_hif, touchPair_resp, indirectStall_resp, ite_self]

theorem indDataRead_goes {s : State} {b : Fin 17} (m : Master) (hb : indirectBlocks.contains b.val = true)
    (hr : s.begin.countAccess.responds (0x10000 * b.val + 0xFF4) = true) :
    Goes (.indDataRead m b) s (fun t => s.bounded t ∧ (indirectPriv b.val = true → s.privileged m = false → t.hif.resp = [0])) := by
  have he := readBack_indData m hb hr
  have hc : s.bounded s.begin.countAccess := bounded_of_anchor (countAccess_anchor s.begin)
  refine goes_bounded (f := fun s => s.readBack m (0x10000 * b.val + 0xFF4)) rfl ?_ (fun hi hp => ?_)
  · have hread : ∀ v v', s.begin.countAccess.bounded (((s.begin.countAccess.indDataRead m b.val).1.noteRead m v).answer v') := fun v v' =>
      bounded_trans (indDataRead_bounded _ m b.val) (bounded_of_anchor ((answer_anchor _ v').trans (noteRead_anchor _ m v)))
    rw [he]
    exact bounded_trans hc (hread _ _)
  · have hz := indDataRead_unprivileged (s := s.begin.countAccess) hi ((bounded_privileged hc m).trans hp)
    rw [close_hif_resp, he, hz, answer_resp, noteRead_resp, indDataRead_resp, countAccess_resp]
    rfl

/-! ## Images (R47, R49) -/

theorem gldEnd_bounded (s : State) (code : Nat) : s.bounded (s.gldEnd code) := by
  have hsticky : ∀ b : Bool, (if b then GLD_STICKY_SWAP_REFUSED else GLD_STICKY_LOAD_FAIL).Clear := fun b => by cases b <;> exact .one (by decide)
  unfold State.gldEnd
  split
  · exact bounded_refl s
  · have hidle := fun g => bounded_trans (gld_bounded s g) (set_bounded _ 0 (f := GLD_STAT_LOADER) (by decide))
    have hcode := fun g => bounded_trans (hidle g) (set_bounded _ code (f := GLD_STAT_RESULT) (by decide))
    dsimp only
    refine bounded_trans ?_ (bounded_of_anchor (raise_anchor _ (hsticky _)))
    split
    · exact bounded_trans (hcode _) (set_bounded _ 0 (by decide))
    · exact hcode _

theorem gldBegin_bounded (s : State) (k : LoadKind) (flash slotB alt : Bool) : s.bounded (s.gldBegin k flash slotB alt) :=
  bounded_trans (gld_bounded s _) (set_bounded _ _ (by decide))

theorem gldFail_bounded (s : State) (code : Nat) : s.bounded (s.gldFail code) := by
  unfold State.gldFail
  dsimp only
  split
  · have hagain := bounded_trans (set_bounded s code (f := GLD_STAT_RESULT) (by decide)) (gldBegin_bounded _ .boot true (!s.gld.slotB) true)
    exact bounded_trans hagain (bounded_of_anchor (raise_anchor _ (.one (by decide))))
  · exact gldEnd_bounded s code

theorem imagePassed_bounded (s : State) (c : ImageCfg) : s.bounded (s.imagePassed c) :=
  bounded_trans (gld_bounded s _) (set_bounded _ _ (by decide))

/-- What a full load or boot sets going when the checks have passed leaves the anchor; a swap sets nothing going. -/
theorem loadUnlessSwap_anchor (t : State) (swap : Prop) [Decidable swap] : (if swap then t else t.armAll.evalOutputs.loadResets).anchor = t.anchor := by
  rw [apply_ite State.anchor, loadResets_anchor, evalOutputs_anchor, armAll_anchor, ite_self]

theorem misusedIf_gld (s : State) (bad : Bool) : (s.misusedIf bad).gld = s.gld := by cases bad <;> rfl

theorem misusedIf_get (s : State) (bad : Bool) {f : Fld} (h : keptKey f.key = true) : (s.misusedIf bad).get f = s.get f := by
  cases bad with
  | false => rfl
  | true => exact misused_get s h

/-- R12 holds of the checks' outcome; where the loader's own checks pass, the image waits for the apply step, sound or not (R49). -/
theorem imageVerified_spec {s : State} (ho : s.gld.op ≠ none) (hl : s.get GLD_STAT_LOADER = 2) :
    s.bounded s.imageVerified ∧ (s.imageCheck s.sramImage = 0 →
      s.imageVerified.gld = (s.imagePassed (imageCfgOf s.sramImage)).gld ∧ s.imageVerified.get GLD_STAT_LOADER = 3) := by
  have hgo : ¬ (s.gld.op.isNone || s.get GLD_STAT_LOADER != 2) = true := by simp [hl, ho]
  unfold State.imageVerified
  rw [if_neg hgo]
  dsimp only
  split
  case isTrue hr => exact ⟨gldFail_bounded s _, fun h => absurd h hr⟩
  case isFalse =>
    generalize imageCfgOf s.sramImage = c
    have hpass : (s.imagePassed c).get GLD_STAT_LOADER = 3 := get_set_same _ _ _
    have hload := loadUnlessSwap_anchor (s.imagePassed c) (s.gld.op = some .swap)
    have hgld := congrArg Anchor.gld hload
    refine ⟨bounded_trans (bounded_trans (imagePassed_bounded s c) (bounded_of_anchor hload)) (misusedIf_bounded _ _), fun _ => ⟨?_, ?_⟩⟩
    · exact (misusedIf_gld _ _).trans hgld
    · rw [misusedIf_get _ _ (by decide), get_loader, hload, ← get_loader, hpass]

theorem imageVerifyDone_goes {s : State} (ho : s.gld.op ≠ none) (hl : s.get GLD_STAT_LOADER = 2) :
    Goes .imageVerifyDone s (fun t => s.bounded t ∧ (s.imageCheck s.sramImage = 0 →
      t.gld.op = s.gld.op ∧ t.gld.next = some (imageCfgOf s.sramImage) ∧ t.gld.applying = true ∧ t.get GLD_STAT_LOADER = 3)) := by
  obtain ⟨hb, hpass⟩ := imageVerified_spec (s := s.begin) ho hl
  refine goes_bounded (f := State.imageVerified) rfl hb (fun hc => ?_)
  obtain ⟨hgld, hload⟩ := hpass hc
  have hset : (s.begin.imagePassed (imageCfgOf s.begin.sramImage)).gld = { s.gld with next := some (imageCfgOf s.sramImage), applying := true } :=
    set_gld _ _ _
  rw [close_gld, close_get _ _ (by decide), hgld, hload, hset]
  exact ⟨rfl, rfl, rfl, rfl⟩

/-! ## The four kinds -/

/-- Settles O57, by what each write sets going: outside the loader's registers it leaves the anchor, and the free state of misuse keeps
what R12 names. -/
theorem misuseBounded : Obligations.MisuseBounded := by
  unfold Obligations.MisuseBounded
  intro s
  refine ⟨fun a w ha _ hm => ?_, fun a w h2 h3 => ?_, fun b m hb _ hr => ⟨indDataRead_goes m hb hr, fun w => ?_⟩,
    fun _ ho hl => imageVerifyDone_goes ho hl⟩
  · have h4 : a.toNat / 4 * 4 = a.toNat := by omega
    exact hostWrite_goes (exec_registerWrite s a w) (fun _ _ => h4.symm ▸ misuses_reg hm)
  · exact hostWrite_goes (exec_registerWrite s a w) (fun hn => by omega)
  · have h4 : (0x10000 * b.val + 0xFF4) / 4 * 4 = 0x10000 * b.val + 0xFF4 := by omega
    exact hostWrite_goes rfl (fun _ hp => by rw [h4, pairOf_indData b hb] at hp; cases hp)

end Sys2Proof.Machine
end

section
/-!
SUPPORT. Two tick boundaries worked through on concrete states: a rate adjustment that writes past the state-bank swap, and a reset of GLD at a
swap boundary.
-/
namespace Sys2Proof.Machine
open Sys2Proof

/-- What TICK_BOUNDARY answers once the internal reset has ended. -/
theorem exec_tickBoundary {s : State} (inp : TickIn) (h : s.busUp = true) :
    exec (.tickBoundary inp) s = .next (s.close (s.begin.tickBoundary inp)) := runUp_up (fun s => s.tickBoundary inp) h

/-! ## A rate adjustment at a tick boundary (R26, R178, R268) -/

/-- An image runs, channel 0 free-runs with no phase slope limit, and the rate of scale 0, which channel 0 steers, is being adjusted: 800 ps/s, nine
ticks more. -/
def adjusting : State :=
  ({ State.reset with
      applied := true, target := secUnit / 8000, sys := { State.reset.sys with clocks := true },
      scales := [(0, { Scale.started with radj := some ⟨800, 9, 0⟩ })] } : State).set (LPE_STAT_LSTATE 0) lsFreerun

/-- The adjustment's step of `PADJ` comes after the banks have swapped, and `PH` follows it in the pending bank alone (`padjFollow`). -/
theorem adjusting_phase :
    (adjusting.close (adjusting.begin.tickBoundary TickIn.allDone)).get (LPE_PH_PH 0) = 0 ∧
    (adjusting.close (adjusting.begin.tickBoundary TickIn.allDone)).pget (LPE_PH_PH 0) = 1 := by
  decide +kernel

/-- Refutes O31: while a rate adjustment runs, the boundary moves `PADJ` after the state-bank swap, and `PH` of the steered channel follows in the
pending bank alone, so the next pending bank does not start as a copy of the indicative one. -/
theorem not_tickTurns : ¬ Obligations.TickTurns := by
  unfold Obligations.TickTurns
  intro h
  have hup : adjusting.busUp = true := by decide +kernel
  obtain ⟨hturns, _⟩ := h adjusting TickIn.allDone hup
  obtain ⟨t, ht, _, _, _, _, hbanks, _⟩ := hturns (by decide +kernel)
  rw [exec_tickBoundary _ hup] at ht
  cases ht
  obtain ⟨hget, hpget⟩ := adjusting_phase
  have hsame := hbanks (LPE_PH_PH 0)
  rw [hget, hpget] at hsame
  cases hsame

/-! ## A swap boundary at which GLD is reset (R60, R62, R454) -/

/-- What a swap does to the sessions, each in turn. -/
def State.swapSessions (s : State) (old : ImageCfg) : State := (List.range 512).foldl (fun s n => s.swapSession old n) s

theorem swapSession_same {s : State} {old : ImageCfg} (n : Nat) (h : old.ptpCtx = s.cfg.ptpCtx) : s.swapSession old n = s := by
  simp [State.swapSession, h]

/-- With the same session templates no session is touched. The test in front lets the kernel pass over the 512 sessions at once. -/
theorem swapSessions_eq (s : State) (old : ImageCfg) :
    (List.range 512).foldl (fun s n => s.swapSession old n) s = if old.ptpCtx = s.cfg.ptpCtx then s else s.swapSessions old := by
  split
  next h =>
    induction List.range 512 with
    | nil => rfl
    | cons n r ih => rwa [List.foldl_cons, swapSession_same n h]
  next => rfl

/-- An image that declares every slot and nothing else. -/
def declaringImage : ImageCfg := { ImageCfg.blank with declared := List.range 88 }

/-- That image runs, a swap to it is ARMED in tick 1, and the host has asked for a reset of GLD. -/
def armed : State :=
  { State.reset with
    tick := 1, cfg := declaringImage, applied := true, regs := [(GLD_STAT_LOADER.key, 4)], sys := { State.reset.sys with clocks := true },
    gld := { State.reset.gld with op := some .swap, next := some declaringImage }, flt := { State.reset.flt with hostReq := [2] } }

/-- The register fields that the commit with its swap leaves: the swap is counted, in tick 1, and the outputs'
squelch causes hold LOAD no more. -/
def swappedRegs : Tab Nat :=
  [(GLD_STAT_IMG_VALID.key, 1), (GLD_STAT_SRAM_MATCH.key, 1), (GLD_BOOT_LOADED_FROM.key, 3), (GLD_SWAP_TICK_TICK.key, 1),
   (GLD_SWAP_TICK_SWAPS.key, 1), (QUL_COMMIT_TICK_TICK.key, 1)] ++ (List.range 24).map (fun j => ((SYN_OUT_STAT_SQ_CAUSE j).key, 3))

/-- The state after the commit: the swap is made, and the reset of GLD still waits. -/
def swapped : State :=
  { armed with regs := swappedRegs, inForce := swappedRegs, gld := { armed.gld with op := none, next := none } }

theorem armed_commit : armed.commit [] = swapped := by
  unfold State.commit State.swapBoundary State.swapNow
  simp -zeta only [swapSessions_eq]
  decide +kernel

/-- Before its commit this boundary changes nothing, with no scale started, no entry to fire and no job to issue. -/
theorem armed_tickBoundary : armed.begin.tickBoundary TickIn.allDone =
    (swapped.turnTick.blocksAtBoundary TickIn.allDone true 0).account armed TickIn.allDone false [] 1 := by
  have hclocks : armed.begin.sys.clocks = true := rfl
  have hcatch : catchUp (armed.begin.tns.entry.length + 8) armed.begin = armed := by decide +kernel
  have hadvance : armed.advance armed.nextBoundary = armed := by decide +kernel
  have hdt : armed.coarse - armed.bound = 0 := rfl
  have htags : armed.tagsCount (0 / 8) = armed := by decide +kernel
  have hovr : armed.overran TickIn.allDone = [] := by decide +kernel
  have hissue : (armed.scheduleEnd TickIn.allDone).reportRealign = armed := by decide +kernel
  have hsec : (armed.target % secUnit == 0) = true := by decide +kernel
  have hlpe : armed.unitInRst 9 = false := rfl
  have htick : armed.tick = 1 := rfl
  simp only [State.tickBoundary, hclocks, hcatch, hadvance, hdt, htags, hovr, hissue, armed_commit, hsec, hlpe, htick, Bool.not_true, Bool.false_eq_true,
    if_false]

/-- The blocks' part of the boundary resets GLD, and the tick of the swap is lost. -/
theorem swapped_tick_lost :
    (armed.close ((swapped.turnTick.blocksAtBoundary TickIn.allDone true 0).account armed TickIn.allDone false [] 1)).get GLD_SWAP_TICK_TICK = 0 := by
  decide +kernel

/-- Refutes O50, in the clause on the swap boundary: a reset of GLD that the host has asked for starts at the same boundary, after the swap, and
takes `SWAP_TICK` with the other registers of GLD. -/
theorem not_imageChecksAndApplies : ¬ Obligations.ImageChecksAndApplies := by
  unfold Obligations.ImageChecksAndApplies
  rintro ⟨_, happly⟩
  have hup : armed.busUp = true := by decide +kernel
  obtain ⟨_, _, hswap, _⟩ := happly armed hup declaringImage rfl
  obtain ⟨t, _, ht, _, _, _, _, _, htick, _⟩ := hswap (by decide +kernel) (by decide +kernel) (by decide +kernel)
  rw [exec_tickBoundary _ hup, armed_tickBoundary] at ht
  cases ht
  rw [swapped_tick_lost] at htick
  cases htick

end Sys2Proof.Machine
end

section
/-!
SUPPORT. Two jobs of the selector worked through on concrete states: the selection job of an ensemble that is forced into holdover at tick 0, and the
end of a fade in a member list longer than the registers that show it.
-/
namespace Sys2Proof.Machine
open Sys2Proof

/-- What a job of the loop engine answers while the jobs run. -/
theorem runUp_lpeJob {s : State} (f : State → State) (hup : s.busUp = true) (hjobs : s.jobsRun = true) :
    runUp (fun s => s.lpeJob f) s = .next (s.close (f s.begin)) := by
  obtain ⟨happlied, hrst⟩ := Bool.and_eq_true_iff.mp hjobs
  have hbegin : s.begin.applied = true := happlied
  have hout : s.begin.unitInRst 9 = false := (Bool.not_eq_true' _).mp hrst
  rw [runUp_up _ hup, State.lpeJob, hbegin, hout]
  rfl

theorem exec_selectJob {s : State} (c : Fin 12) (hup : s.busUp = true) (hjobs : s.jobsRun = true) :
    exec (.selectJob c) s = .next (s.close (s.begin.selectJob c.val)) := runUp_lpeJob (fun s => s.selectJob c.val) hup hjobs

theorem exec_fadeComplete {s : State} (c : Fin 12) (j : Fin 8) (hup : s.busUp = true) (hjobs : s.jobsRun = true) :
    exec (.fadeComplete c j) s = .next (s.close (s.begin.fadeComplete c.val j.val)) :=
  runUp_lpeJob (fun s => s.fadeComplete c.val j.val) hup hjobs

/-! ## An ensemble forced into holdover at tick 0 (R149, R405) -/

/-- The fields of a channel 0 enabled in ENSEMBLE mode, and of source 0 of QUL, which is severe and forces channel 0 into holdover. -/
def heldFields : Tab Nat :=
  [((BLK_FLT_SEV 7 0).key, 1), ((BLK_FLT_HO_MASK 7).key, 1), ((BLK_FLT_CFG_R_HO 7 0).key, 1), ((SEL_CTL_MODE 0).key, 2), ((SEL_CTL_EN 0).key, 1)]

/-- An image runs with these fields in force, in tick 0 of a second, and channel 0 is in NO_REF. -/
def heldEnsemble : State :=
  ({ State.reset with
      applied := true, target := secUnit / 8000, sys := { State.reset.sys with clocks := true },
      regs := heldFields, inForce := heldFields } : State).set (SEL_STAT_SSTATE 0) ssNoRef

/-- The job weighs the members all the same (`State.weigh`), which uses a free value at tick 0. -/
theorem heldEnsemble_free : (heldEnsemble.begin.selectJob 0).free = 1 := by decide +kernel

/-- Refutes O21, in the clause on forced holdover, which does not leave ensembles out: at tick 0 the selection job of an ensemble forms the raw weights
(R149) and uses a free value for it, where the frame leaves the channels alone to move. -/
theorem not_selectorMoves : ¬ Obligations.SelectorMoves := by
  unfold Obligations.SelectorMoves
  intro h
  have hup : heldEnsemble.busUp = true := by decide +kernel
  have hjobs : heldEnsemble.jobsRun = true := by decide +kernel
  obtain ⟨_, _, hforced, _⟩ := h heldEnsemble 0 hup hjobs (by decide +kernel)
  obtain ⟨t, ht, _, _, _, _, hparts⟩ := hforced (by decide +kernel) (by decide +kernel) (by decide +kernel) (by decide +kernel)
  rw [exec_selectJob 0 hup hjobs] at ht
  cases ht
  have hfree : (heldEnsemble.close (heldEnsemble.begin.selectJob 0)).free = 0 := hparts .free (by decide)
  rw [close_free, heldEnsemble_free] at hfree
  cases hfree

/-! ## A fade that ends in too long a list of members (R151, R166) -/

/-- A member in the combination, of slot 0, faded to 0 with its weight still shown. -/
def fadedMember : Member := { Member.new 0 with inn := true, w := 1 }

/-- An image runs, slot 0 is SUSPECT, and channel 0 holds 37 such members. A job leaves a channel eight (`State.memberList`); the statement allows any
number, and the registers of member 36 would be those of the next channel. -/
def longEnsemble : State :=
  let bank : Bank := { Bank.blank with chan := [(0, { Chan.idle with members := List.replicate 37 fadedMember })] }
  ({ State.reset with applied := true, sys := { State.reset.sys with clocks := true }, ind := bank, pend := bank } : State).set (QUL_STAT_STATE 0) qSuspect

/-- `wtW 0 36` has the key of `MODE` of channel 1, and the weight of member 36 goes there. -/
theorem longEnsemble_mode : (longEnsemble.begin.fadeComplete 0 0).get (SEL_CTL_MODE 1) = 1 := by decide +kernel

/-- Refutes O22, in the clause on the fade, which leaves the length of the member list open: with 37 members the weights that the job shows reach past the
channel's own registers and overwrite `MODE` of the next channel. -/
theorem not_selectorCompletions : ¬ Obligations.SelectorCompletions := by
  unfold Obligations.SelectorCompletions
  intro h
  have hup : longEnsemble.busUp = true := by decide +kernel
  have hjobs : longEnsemble.jobsRun = true := by decide +kernel
  obtain ⟨_, _, hfade⟩ := h longEnsemble 0 hup hjobs
  obtain ⟨t, ht, _, _, hfields, _⟩ := hfade 0 fadedMember (by decide +kernel) rfl (by decide +kernel) rfl
  rw [exec_fadeComplete 0 0 hup hjobs] at ht
  cases ht
  have hmode := (hfields (SEL_CTL_MODE 1) (by decide) (by decide)).1
  have hwas : longEnsemble.get (SEL_CTL_MODE 1) = 0 := by decide +kernel
  rw [close_get _ _ (by decide), hwas] at hmode
  cases longEnsemble_mode.symm.trans hmode

end Sys2Proof.Machine
end

section
/-!
SUPPORT. The frame of a command step by step: each operation that writes a field, a channel or an event leaves the rest as it was.
-/
namespace Sys2Proof.Machine
open Sys2Proof

variable {s t : State} {moves : Nat → Bool} {parts : List Part}

/-! ## Parts -/

theorem Part.kept_refl (p : Part) (s : State) : p.kept s s := by
  cases p <;> simp [Part.kept]

theorem Part.kept_trans {p : Part} {u : State} (h : p.kept s t) (h' : p.kept t u) : p.kept s u := by
  cases p <;> simp_all [Part.kept]

theorem Part.kept_begin (p : Part) (s : State) : p.kept s s.begin := by
  cases p <;> simp [Part.kept, State.begin]

theorem Part.kept_close {p : Part} (u : State) (h : p.kept s t) : p.kept s (u.close t) := by
  cases p with
  | counters => exact fun k hk => (close_cnt u t hk).trans (h k hk)
  | _ => simpa [Part.kept] using h

theorem Part.kept_set {p : Part} (f : Fld) (v : Nat) (h : p.kept s t) : p.kept s (t.set f v) := by
  cases p <;> simpa [Part.kept] using h

theorem Part.kept_pset {p : Part} (f : Fld) (v : Nat) (h : p.kept s t) : p.kept s (t.pset f v) := by
  cases p <;> simpa [Part.kept] using h

theorem Part.kept_obsAdd {p : Part} (k n : Nat) (hp : p ≠ .counters) (h : p.kept s t) : p.kept s (t.obsAdd k n) := by
  cases p with
  | counters => exact absurd rfl hp
  | _ => simpa [Part.kept] using h

/-- The channels and the events that wait are others. -/
theorem Part.kept_channels {p : Part} (c : Tab Chan) (evs : List (Nat × Ev)) (hp : p ≠ .channels) (h : p.kept s t) :
    p.kept s { t with pend := { t.pend with chan := c, evs := evs } } := by
  cases p with
  | channels => exact absurd rfl hp
  | _ => exact h

/-! ## Frames -/

theorem Frame.refl (s : State) (moves : Nat → Bool) (parts : List Part) : Frame s s moves parts :=
  ⟨rfl, fun _ _ _ => ⟨rfl, rfl⟩, fun p _ => p.kept_refl s⟩

theorem Frame.of_begin (s : State) (moves : Nat → Bool) (parts : List Part) : Frame s s.begin moves parts :=
  ⟨rfl, fun _ _ _ => ⟨rfl, rfl⟩, fun p _ => p.kept_begin s⟩

theorem Frame.trans {u : State} (h : Frame s t moves parts) (h' : Frame t u moves parts) : Frame s u moves parts := by
  obtain ⟨hq, hf, hk⟩ := h
  obtain ⟨hq', hf', hk'⟩ := h'
  exact ⟨hq'.trans hq, fun g hg hn => ⟨(hf' g hg hn).1.trans (hf g hg hn).1, (hf' g hg hn).2.trans (hf g hg hn).2⟩,
    fun p hn => Part.kept_trans (hk p hn) (hk' p hn)⟩

theorem Frame.close (h : Frame s t moves parts) : Frame s (s.close t) moves parts := by
  obtain ⟨_, hf, hp⟩ := h
  exact ⟨rfl, fun g hg hm => ⟨(close_get s t hg).trans (hf g hg hm).1, (close_pget s t hg).trans (hf g hg hm).2⟩,
    fun p hn => Part.kept_close s (hp p hn)⟩

/-- A frame leaves at least what a wider one leaves. -/
theorem Frame.mono {moves' : Nat → Bool} {parts' : List Part} (h : Frame s t moves parts) (hm : ∀ k, moves k = true → moves' k = true)
    (hp : parts ⊆ parts') : Frame s t moves' parts' := by
  obtain ⟨hq, hf, hk⟩ := h
  refine ⟨hq, fun g hg hn => hf g hg (Bool.eq_false_iff.mpr fun hy => ?_), fun p hn => hk p (fun hy => hn (hp hy))⟩
  rw [hm _ hy] at hn
  cases hn

theorem key_ne_of_moves {f g : Fld} (hf : moves f.key = true) (hg : moves g.key = false) : g.key ≠ f.key := by
  intro e
  rw [e, hf] at hg
  cases hg

theorem Frame.set (h : Frame s t moves parts) {f : Fld} (v : Nat) (hm : moves f.key = true) : Frame s (t.set f v) moves parts := by
  obtain ⟨hq, hf, hk⟩ := h
  exact ⟨(set_pending t f v).trans hq,
    fun g hg hn => ⟨(get_set_other t v (key_ne_of_moves hm hn)).trans (hf g hg hn).1, (pget_set_other t v (key_ne_of_moves hm hn)).trans (hf g hg hn).2⟩,
    fun p hp => Part.kept_set f v (hk p hp)⟩

theorem Frame.pset (h : Frame s t moves parts) {f : Fld} (v : Nat) (hm : moves f.key = true) : Frame s (t.pset f v) moves parts := by
  obtain ⟨hq, hf, hk⟩ := h
  exact ⟨(pset_pending t f v).trans hq,
    fun g hg hn => ⟨(get_pset_other t v (key_ne_of_moves hm hn)).trans (hf g hg hn).1, (pget_pset_other t v (key_ne_of_moves hm hn)).trans (hf g hg hn).2⟩,
    fun p hp => Part.kept_pset f v (hk p hp)⟩

theorem obsAdd_get (s : State) (k n : Nat) (g : Fld) : (s.obsAdd k n).get g = s.get g := by simp [State.get]
theorem obsAdd_pget (s : State) (k n : Nat) (g : Fld) : (s.obsAdd k n).pget g = s.pget g := by simp [State.pget]

theorem Frame.obsAdd (h : Frame s t moves parts) (k n : Nat) (hc : Part.counters ∈ parts) : Frame s (t.obsAdd k n) moves parts := by
  obtain ⟨hq, hf, hk⟩ := h
  exact ⟨(obsAdd_pending t k n).trans hq, fun g hg hn => by rw [obsAdd_get, obsAdd_pget]; exact hf g hg hn,
    fun p hp => Part.kept_obsAdd k n (fun e => hp (e ▸ hc)) (hk p hp)⟩

theorem Frame.channels (h : Frame s t moves parts) (c : Tab Chan) (evs : List (Nat × Ev)) (hc : Part.channels ∈ parts) :
    Frame s { t with pend := { t.pend with chan := c, evs := evs } } moves parts := by
  obtain ⟨hq, hf, hk⟩ := h
  exact ⟨hq, hf, fun p hp => Part.kept_channels c evs (fun e => hp (e ▸ hc)) (hk p hp)⟩

theorem Frame.setChan (h : Frame s t moves parts) (n : Nat) (x : Chan) (hc : Part.channels ∈ parts) : Frame s (t.setChan n x) moves parts :=
  h.channels _ _ hc

theorem Frame.emit (h : Frame s t moves parts) (owner : Nat) (e : Ev) (hc : Part.channels ∈ parts) : Frame s (t.emit owner e) moves parts :=
  h.channels _ _ hc

theorem Frame.emitAll (h : Frame s t moves parts) (owner : Nat) (es : List Ev) (hc : Part.channels ∈ parts) :
    Frame s (t.emitAll owner es) moves parts := by
  unfold State.emitAll
  induction es generalizing t with
  | nil => exact h
  | cons e r ih => exact ih (h.emit owner e hc)

/-- A change of banked state on both banks leaves what it leaves on each. -/
theorem Frame.inBoth {f : State → State} (hp : Frame s (f s) moves parts) (hi : Frame { s with pend := s.ind } (f { s with pend := s.ind }) moves parts) :
    Frame s (s.inBoth f) moves parts := by
  obtain ⟨hq, hf, hk⟩ := hp
  obtain ⟨_, hf', hk'⟩ := hi
  refine ⟨hq, fun g hg hn => ⟨?_, (hf g hg hn).2⟩, fun p hn => ?_⟩
  · by_cases hb : isBanked g.key = true
    · have := (hf' g hg hn).2
      simpa [State.get, State.pget, State.inBoth, hb] using this
    · have := (hf g hg hn).1
      simpa [State.get, State.inBoth, hb] using this
  · cases p with
    | slots => exact ⟨(hk' _ hn).2, (hk _ hn).2⟩
    | channels => exact ⟨(hk' _ hn).2.1, (hk _ hn).2⟩
    | _ => exact hk _ hn

/-! ## The keys of some fields -/

theorem among_eq_false {l : List Fld} {k : Nat} (h : ∀ f ∈ l, k ≠ f.key) : among l k = false := by
  unfold among
  rw [List.any_eq_false]
  exact fun f hf e => h f hf (beq_iff_eq.mp e).symm

theorem among_of_mem {l : List Fld} {f : Fld} (h : f ∈ l) : among l f.key = true := List.any_eq_true.mpr ⟨f, h, beq_self_eq_true _⟩

theorem among_mono {l l' : List Fld} (h : l ⊆ l') {k : Nat} (hk : among l k = true) : among l' k = true := by
  obtain ⟨f, hf, he⟩ := List.any_eq_true.mp hk
  exact List.any_eq_true.mpr ⟨f, h hf, he⟩

/-! ## What a frame keeps of what the jobs read -/

theorem Frame.get_of (h : Frame s t moves parts) {g : Fld} (hg : gravityKey g.key = false) (hn : moves g.key = false) : t.get g = s.get g := by
  obtain ⟨_, hf, _⟩ := h
  exact (hf g hg hn).1

theorem Frame.pget_of (h : Frame s t moves parts) {g : Fld} (hg : gravityKey g.key = false) (hn : moves g.key = false) : t.pget g = s.pget g := by
  obtain ⟨_, hf, _⟩ := h
  exact (hf g hg hn).2

theorem Frame.part (h : Frame s t moves parts) {p : Part} (hp : p ∉ parts) : p.kept s t := by
  obtain ⟨_, _, hk⟩ := h
  exact hk p hp

theorem Frame.unitInRst (h : Frame s t moves parts) (hp : Part.resets ∉ parts) (u : Nat) : t.unitInRst u = s.unitInRst u := by
  obtain ⟨_, hleft, _⟩ := h.part hp
  unfold State.unitInRst
  rw [hleft]

theorem Frame.slopes (h : Frame s t moves parts) (hf : Part.force ∉ parts) (hr : Part.free ∉ parts) (c : Nat) : t.slopes c = s.slopes c := by
  obtain ⟨hforce, _⟩ := h.part hf
  have hfree : t.free = s.free := h.part hr
  unfold State.slopes State.inF State.fresh
  rw [hforce, hfree]

end Sys2Proof.Machine
end

section
/-!
O26. No job of the schedule acts before an image is applied, or in a reset of LPE.
-/
namespace Sys2Proof.Machine
open Sys2Proof

/-- The jobs of the schedule all run under `State.lpeJob`. -/
theorem exec_loopJob {j : Instr} (h : loopJob j = true) (s : State) : ∃ f : State → State, exec j s = runUp (fun s => s.lpeJob f) s := by
  unfold loopJob at h
  split at h
  case h_20 => cases h
  all_goals exact ⟨_, rfl⟩

theorem lpeJob_idle {s : State} (f : State → State) (h : s.jobsRun = false) : s.lpeJob f = s := by
  rw [State.jobsRun, Bool.and_eq_false_iff, Bool.not_eq_false'] at h
  unfold State.lpeJob
  rcases h with h | h <;> simp [h]

/-- While no job runs, one leaves the state as every command begins. -/
theorem runUp_lpeJob_idle {s : State} (f : State → State) (h : s.jobsRun = false) :
    runUp (fun s => s.lpeJob f) s = .next (s.close s.begin) := by
  have hidle : s.begin.lpeJob f = s.begin := lpeJob_idle f h
  unfold runUp run
  dsimp only
  rw [hidle, ite_self]

/-- Settles O26, by the test of `State.lpeJob` that stands before every job. -/
theorem jobsWaitForImage : Obligations.JobsWaitForImage := by
  unfold Obligations.JobsWaitForImage
  intro s j hj hidle
  obtain ⟨f, hexec⟩ := exec_loopJob hj s
  exact ⟨_, hexec.trans (runUp_lpeJob_idle f hidle), (Frame.of_begin s _ _).close⟩

end Sys2Proof.Machine
end

section
/-!
SUPPORT. What reads of a channel and of its registers are after writes, and the prediction that the loop's jobs evaluate.
-/
namespace Sys2Proof.Machine
open Sys2Proof

/-! ## Channels and events -/

@[simp] theorem chan_setChan_same (s : State) (n : Nat) (x : Chan) : (s.setChan n x).chan n = x := tabGet_tabPut_same _ _ _ _
@[simp] theorem chan_emit (s : State) (owner : Nat) (e : Ev) (n : Nat) : (s.emit owner e).chan n = s.chan n := rfl
@[simp] theorem pget_emit (s : State) (owner : Nat) (e : Ev) (g : Fld) : (s.emit owner e).pget g = s.pget g := rfl

@[simp] theorem chan_emitAll (s : State) (owner : Nat) (es : List Ev) (n : Nat) : (s.emitAll owner es).chan n = s.chan n := by
  unfold State.emitAll
  induction es generalizing s with
  | nil => rfl
  | cons e r ih => exact (ih _).trans (chan_emit s owner e n)

@[simp] theorem chan_close (s t : State) (n : Nat) : (s.close t).chan n = t.chan n := by
  unfold State.chan Bank.chanOf
  rw [close_pend_chan]

/-! ## The prediction (R202, R215) -/

theorem predictEval_frame (s : State) (c : Nat) : Frame s (s.predictEval c) (fun _ => false) [.channels] := by
  have hc : Part.channels ∈ [Part.channels] := .head _
  unfold State.predictEval
  dsimp only
  split
  · exact .refl s _ _
  · exact ((Frame.refl s _ _).setChan c _ hc).emitAll c _ hc

theorem predictEval_preview (s : State) (c : Nat) : ((s.predictEval c).chan c).preview = (s.chan c).preview := by
  unfold State.predictEval
  dsimp only
  split
  · rfl
  · rw [chan_emitAll, chan_setChan_same]

/-- The prediction reads nothing that the beginning of a command clears. -/
theorem predictEval_begin (s : State) (c : Nat) : s.begin.predictEval c = (s.predictEval c).begin := by
  unfold State.predictEval
  rw [apply_ite State.begin]
  rfl

/-! ## The preview job (R188, R190) -/

theorem previewCause_begin (s : State) (c : Nat) : s.begin.previewCause c = s.previewCause c := rfl
theorem confirmedSample_begin (s : State) (c : Nat) : s.begin.confirmedSample c = s.confirmedSample c := rfl
theorem newPreview_begin (s : State) (c cause : Nat) : s.begin.newPreview c cause = s.newPreview c cause := rfl
theorem beginsTransition_begin (s : State) (c : Nat) : s.begin.beginsTransition c = s.beginsTransition c := rfl

/-- A channel that the preview job serves: LPE in no reset, and the channel in ACQUIRE or LOCKED. -/
structure State.Previews (s : State) (c : Nat) : Prop where
  out : s.unitInRst 9 = false
  low : lsAcquire ≤ s.get (LPE_STAT_LSTATE c)
  high : s.get (LPE_STAT_LSTATE c) ≤ lsLocked

section
variable {s : State} {c : Nat}

theorem State.Previews.acts (h : s.Previews c) :
    (s.unitInRst 9 || s.get (LPE_STAT_LSTATE c) == lsOff || s.get (LPE_STAT_LSTATE c) == lsHoldover) = false ∧
    ((s.predictEval c).unitInRst 9 || (s.get (LPE_STAT_LSTATE c) != lsAcquire && s.get (LPE_STAT_LSTATE c) != lsLocked)) = false := by
  obtain ⟨hout, hlow, hhigh⟩ := h
  have hout' : (s.predictEval c).unitInRst 9 = false := ((predictEval_frame s c).unitInRst (by decide) 9).trans hout
  unfold lsAcquire at hlow
  unfold lsLocked at hhigh
  simp only [hout, hout', Bool.false_or, Bool.or_eq_false_iff, Bool.and_eq_false_iff, beq_eq_false_iff_ne, bne_eq_false_iff_eq, lsOff, lsHoldover,
    lsAcquire, lsLocked]
  omega

theorem previewJob_starts (h : s.Previews c) (hp : ((s.predictEval c).chan c).preview = none) (hc : (s.predictEval c).previewCause c ≠ 0) :
    s.previewJob c = ((s.predictEval c).setChan c { (s.predictEval c).chan c with
        preview := some ((s.predictEval c).newPreview c ((s.predictEval c).previewCause c)), cancel := (s.predictEval c).beginsTransition c }).emitAll c
      [.raise (LPE_STICKY_PREV_S c), .count (LPE_CNT_PREVIEWS c) 1, .obs 10 1] := by
  obtain ⟨hserved, hbusy⟩ := h.acts
  simp only [State.previewJob, hserved, hbusy, hp, hc, Bool.false_eq_true, if_false]

theorem previewJob_rests (h : s.Previews c) (hp : ((s.predictEval c).chan c).preview = none) (hc : (s.predictEval c).previewCause c = 0) :
    s.previewJob c = s.predictEval c := by
  obtain ⟨hserved, hbusy⟩ := h.acts
  simp only [State.previewJob, hserved, hbusy, hp, hc, Bool.false_eq_true, if_false, if_true]

theorem previewJob_refreshes (h : s.Previews c) (hp : ((s.predictEval c).chan c).preview ≠ none) :
    ∃ p : Preview, s.previewJob c = (s.predictEval c).setChan c { (s.predictEval c).chan c with
      preview := some p,
      cancel := (decide ((s.predictEval c).previewCause c = 0) && (s.predictEval c).confirmedSample c) || (s.predictEval c).beginsTransition c } := by
  obtain ⟨hserved, hbusy⟩ := h.acts
  obtain ⟨p, hsome⟩ := Option.ne_none_iff_exists'.mp hp
  simp only [State.previewJob, hserved, hbusy, hsome, Bool.false_eq_true, if_false]
  exact ⟨_, rfl⟩

/-- Outside ACQUIRE and LOCKED the job evaluates the prediction at most. -/
theorem previewJob_idle (h : s.get (LPE_STAT_LSTATE c) < lsAcquire ∨ lsLocked < s.get (LPE_STAT_LSTATE c)) :
    s.previewJob c = s ∨ s.previewJob c = s.predictEval c := by
  have hidle : (s.get (LPE_STAT_LSTATE c) != lsAcquire && s.get (LPE_STAT_LSTATE c) != lsLocked) = true := by
    unfold lsAcquire lsLocked at *
    simp only [Bool.and_eq_true, bne_iff_ne]
    omega
  simp only [State.previewJob, hidle, Bool.or_true, if_true]
  split
  · exact .inl rfl
  · exact .inr rfl

end

theorem exec_holdoverPreviewJob {s : State} (c : Fin 12) (hup : s.busUp = true) (hjobs : s.jobsRun = true) :
    exec (.holdoverPreviewJob c) s = .next (s.close (s.begin.previewJob c.val)) := runUp_lpeJob (fun s => s.previewJob c.val) hup hjobs

theorem exec_lockTimerExpiry {s : State} (c : Fin 12) (hup : s.busUp = true) (hjobs : s.jobsRun = true) :
    exec (.lockTimerExpiry c) s = .next (s.close (s.begin.lockTimerExpiry c.val)) := runUp_lpeJob (fun s => s.lockTimerExpiry c.val) hup hjobs

theorem unitInRst_of_jobsRun {s : State} (h : s.jobsRun = true) : s.unitInRst 9 = false := by
  obtain ⟨_, hout⟩ := Bool.and_eq_true_iff.mp h
  exact (Bool.not_eq_true' _).mp hout

section
variable {s : State} {c : Fin 12} (hup : s.busUp = true) (hjobs : s.jobsRun = true)
include hup hjobs

/-- The lock timer runs out (R180). -/
theorem lockTimerExpiry_goes (hst : s.pget (LPE_STAT_LSTATE c.val) = lsAcquire) (hran : 0 < (s.chan c.val).lockT)
    (hdue : s.inF (LPE_LOCK_T_LOCK_T c.val) * s.rate ≤ (s.chan c.val).lockT) :
    Goes (.lockTimerExpiry c) s (fun t => t.pget (LPE_STAT_LSTATE c.val) = lsLocked ∧ t.pget (LPE_STAT_LOL c.val) = 0 ∧
      Frame s t (among [LPE_STAT_LSTATE c.val, LPE_STAT_LOL c.val]) [.channels]) := by
  have hexpiry : s.begin.lockTimerExpiry c.val = ((s.begin.pset (LPE_STAT_LSTATE c.val) lsLocked).psetB (LPE_STAT_LOL c.val) false).emit c.val
      (.raise (LPE_STICKY_LOCK_S c.val)) := if_pos ⟨hst, hran, hdue⟩
  have hkeys : ∀ c : Fin 12, gravityKey (LPE_STAT_LSTATE c.val).key = false ∧ gravityKey (LPE_STAT_LOL c.val).key = false ∧
      (LPE_STAT_LSTATE c.val).key ≠ (LPE_STAT_LOL c.val).key := by decide
  obtain ⟨hstate, hlol, hne⟩ := hkeys c
  refine ⟨_, exec_lockTimerExpiry c hup hjobs, ?_, ?_, Frame.close ?_⟩ <;> rw [hexpiry, psetB_eq]
  · rw [close_pget _ _ hstate, pget_emit, pget_pset_other _ _ hne, pget_pset_same]
    rfl
  · rw [close_pget _ _ hlol, pget_emit, pget_pset_same]
    rfl
  · exact (((Frame.of_begin s _ _).pset _ (among_of_mem (by simp))).pset _ (among_of_mem (by simp))).emit _ _ (.head _)

/-- The preview job at a channel in ACQUIRE or LOCKED (R188, R190). -/
theorem previewJob_goes (hlow : lsAcquire ≤ s.get (LPE_STAT_LSTATE c.val)) (hhigh : s.get (LPE_STAT_LSTATE c.val) ≤ lsLocked) {u : State}
    (hu : u = s.predictEval c.val) :
    ((u.chan c.val).preview = none → u.previewCause c.val ≠ 0 → Goes (.holdoverPreviewJob c) s (fun t =>
      (t.chan c.val).preview = some (u.newPreview c.val (u.previewCause c.val)) ∧
      (t.chan c.val).cancel = u.beginsTransition c.val ∧ Frame s t (fun _ => false) [.channels])) ∧
    ((u.chan c.val).preview = none → u.previewCause c.val = 0 → Goes (.holdoverPreviewJob c) s (fun t =>
      (t.chan c.val).preview = none ∧ Frame s t (fun _ => false) [.channels])) ∧
    ((u.chan c.val).preview ≠ none → Goes (.holdoverPreviewJob c) s (fun t =>
      (t.chan c.val).preview ≠ none ∧
      (t.chan c.val).cancel = ((decide (u.previewCause c.val = 0) && u.confirmedSample c.val) || u.beginsTransition c.val) ∧
      Frame s t (fun _ => false) [.channels])) := by
  subst hu
  have hc : Part.channels ∈ [Part.channels] := .head _
  have hserved : s.begin.Previews c.val := ⟨unitInRst_of_jobsRun hjobs, hlow, hhigh⟩
  have hexec := exec_holdoverPreviewJob c hup hjobs
  have hframe : Frame s (s.begin.predictEval c.val) (fun _ => false) [.channels] := predictEval_frame s.begin c.val
  have hbegin := predictEval_begin s c.val
  refine ⟨fun hnone hcause => ⟨_, hexec, ?_⟩, fun hnone hcause => ⟨_, hexec, ?_⟩, fun hlive => ⟨_, hexec, ?_⟩⟩
  · rw [previewJob_starts hserved (by rwa [hbegin]) (by rwa [hbegin])]
    refine ⟨?_, ?_, ((hframe.setChan _ _ hc).emitAll _ _ hc).close⟩ <;> rw [chan_close, chan_emitAll, chan_setChan_same, hbegin]
    · rw [previewCause_begin, newPreview_begin]
    · exact beginsTransition_begin _ _
  · rw [previewJob_rests hserved (by rwa [hbegin]) (by rwa [hbegin])]
    refine ⟨?_, hframe.close⟩
    rw [chan_close, hbegin]
    exact hnone
  · obtain ⟨p, hjob⟩ := previewJob_refreshes hserved (by rwa [hbegin])
    rw [hjob]
    refine ⟨?_, ?_, (hframe.setChan _ _ hc).close⟩ <;> rw [chan_close, chan_setChan_same]
    · exact Option.some_ne_none p
    · rw [hbegin, previewCause_begin, confirmedSample_begin, beginsTransition_begin]

theorem previewJob_goes_idle (h : s.get (LPE_STAT_LSTATE c.val) < lsAcquire ∨ lsLocked < s.get (LPE_STAT_LSTATE c.val)) :
    Goes (.holdoverPreviewJob c) s (fun t => (t.chan c.val).preview = (s.chan c.val).preview ∧ Frame s t (fun _ => false) [.channels]) := by
  refine ⟨_, exec_holdoverPreviewJob c hup hjobs, ?_⟩
  have hidle : s.begin.previewJob c.val = s.begin ∨ s.begin.previewJob c.val = s.begin.predictEval c.val := previewJob_idle h
  rcases hidle with hjob | hjob <;> rw [hjob]
  · exact ⟨by rw [chan_close]; rfl, (Frame.of_begin s _ _).close⟩
  · have hframe : Frame s (s.begin.predictEval c.val) (fun _ => false) [.channels] := predictEval_frame s.begin c.val
    exact ⟨by rw [chan_close]; exact predictEval_preview s.begin c.val, hframe.close⟩

end

end Sys2Proof.Machine
end

section
/-!
SUPPORT. A host write that is accepted: what it stores, and what it sets going (R8, R374, R378).
-/
namespace Sys2Proof.Machine
open Sys2Proof

theorem countAccess_frame (s : State) : Frame s s.begin.countAccess (fun _ => false) [.counters] := by
  unfold State.countAccess
  split
  · exact (Frame.of_begin s _ _).obsAdd _ _ (.head _)
  · exact .of_begin s _ _

/-- The fields of a register that a write acts on. -/
def RegD.taken (r : RegD) (w : HostWrite) (a : Nat) : List FieldD := r.fields.filter (fun d => d.acc != .ro && w.hits ⟨a, d.lo, d.len⟩)

/-- What `State.accepts` asks of a register that only stores its fields. -/
theorem accepts_spec {s : State} {w : HostWrite} {a : Nat} {r : RegD} (h : s.accepts w a = true) (hr : findReg allRegs a = some r)
    (hw : isWonce a = false) :
    s.begin.countAccess.responds a = true ∧ s.begin.countAccess.locked a = false ∧ (w.full || !r.wholeWord) = true ∧ r.taken w a ≠ [] ∧
    (s.begin.countAccess.privileged w.m || (r.taken w a).all (fun d => !d.priv)) = true ∧
    s.begin.countAccess.misuse (s.begin.countAccess.writeFields w a (r.taken w a)) w a = false := by
  unfold State.accepts at h
  simp only [hr, hw, Bool.false_eq_true, if_false, Bool.and_eq_true, Bool.not_eq_true', List.isEmpty_eq_false_iff] at h
  obtain ⟨⟨hresp, hlock⟩, ⟨⟨hwhole, hhit⟩, hpriv⟩, hmis⟩ := h
  exact ⟨hresp, hlock, hwhole, hhit, hpriv, hmis⟩

/-- An accepted write of a register that is no pair, no WONCE register and no observation counter stores its fields and sets its effect going. -/
theorem hostWrite_accepted {s : State} {w : HostWrite} {a : Nat} {r : RegD} (h : s.accepts w a = true) (hr : findReg allRegs a = some r)
    (ha : a / 4 * 4 = a) (hwin : a < 0x200000) (hp : pairOf a = none) (hw : isWonce a = false) (hobs : ¬ (0x41000 ≤ a ∧ a < 0x41300)) :
    s.begin.hostWrite w a = s.begin.countAccess.writeEffect (s.begin.countAccess.writeFields w a (r.taken w a)) w a none := by
  obtain ⟨hresp, hlock, hwhole, hhit, hpriv, hmis⟩ := accepts_spec h hr hw
  unfold State.hostWrite State.hostWriteFor
  generalize s.begin.countAccess = u at *
  have hwin' : ¬ (0x200000 ≤ a ∧ a < 0x300000) := by omega
  have hwhole' : (((none : Option (Nat × Bool)).isSome || r.wholeWord) && !w.full) = false := by
    revert hwhole
    cases w.full <;> cases r.wholeWord <;> decide
  have hmay : (if u.privileged w.m then r.taken w a else (r.taken w a).filter (fun d => !d.priv)) = r.taken w a := by
    split
    next => rfl
    next hn =>
      rw [List.filter_eq_self]
      simpa [hn] using hpriv
  have htaken : r.fields.filter (fun d => (false || d.acc != .ro) && w.hits ⟨a, d.lo, d.len⟩) = r.taken w a := rfl
  simp only [ha, hresp, Bool.not_true, Bool.false_eq_true, if_false, hwin', State.registerWrite, hr, hwhole', hlock, hp, htaken, hmay, Nat.lt_irrefl,
    List.isEmpty_eq_false_iff.mpr hhit, State.registerPut, hw, hobs, hmis, State.misusedIf]

end Sys2Proof.Machine
end

section
/-!
O24. Writes and events of the loop engine: the lock timer, the preview job, and a write of `PADJ` (R178, R180, R188).
-/
namespace Sys2Proof.Machine
open Sys2Proof

/-! ## `PADJ` has been written (R178) -/

/-- The fields of a channel that a write of `PADJ` is about are different ones, none of a fault unit. -/
theorem padj_keys : ∀ c : Fin 12, (LPE_PH_PH c.val).key ≠ (LPE_STAT_SLEWING c.val).key ∧
    (LPE_PADJ_PADJ c.val).key ≠ (LPE_STAT_SLEWING c.val).key ∧ (LPE_PADJ_PADJ c.val).key ≠ (LPE_PH_PH c.val).key ∧
    (LPE_STAT_LSTATE c.val).key ≠ (LPE_STAT_SLEWING c.val).key ∧ (LPE_STAT_LSTATE c.val).key ≠ (LPE_PADJ_PADJ c.val).key ∧
    gravityKey (LPE_PH_PH c.val).key = false ∧ gravityKey (LPE_STAT_SLEWING c.val).key = false ∧
    gravityKey (LPE_PADJ_PADJ c.val).key = false ∧ gravityKey (LPE_STAT_LSTATE c.val).key = false := by decide

section
variable {s : State} {c : Fin 12}

theorem padjShow_frame (s : State) (c : Nat) : Frame s (s.padjShow c) (among [LPE_STAT_SLEWING c]) [] := by
  unfold State.padjShow
  split
  · exact .refl s _ _
  · exact (Frame.refl s _ _).pset _ (among_of_mem (.head _))

theorem padjShow_both_frame (s : State) (c : Nat) : Frame s (s.inBoth (fun s => s.padjShow c)) (among [LPE_STAT_SLEWING c]) [] :=
  (padjShow_frame s c).inBoth (padjShow_frame _ c)

theorem padjShow_slewing (hls : s.pget (LPE_STAT_LSTATE c.val) ≠ lsOff) :
    (s.padjShow c.val).pget (LPE_STAT_SLEWING c.val) = ofBool (decide (s.pget (LPE_PH_PH c.val) ≠ s.get (LPE_PADJ_PADJ c.val))) := by
  unfold State.padjShow
  rw [if_neg hls, psetB_eq, pget_pset_same]
  cases decide (s.pget (LPE_PH_PH c.val) ≠ s.get (LPE_PADJ_PADJ c.val)) <;> rfl

/-- With no phase-slope limit `PH` follows at once. -/
theorem padjFollow_follows (hls : s.pget (LPE_STAT_LSTATE c.val) ≠ lsOff) (hrst : s.unitInRst 9 = false) (hlim : (s.slopes c.val).1 = 0) :
    s.padjFollow c.val = (s.pset (LPE_PH_PH c.val) (s.get (LPE_PADJ_PADJ c.val))).psetB (LPE_STAT_SLEWING c.val) false := by
  simp [State.padjFollow, hls, hrst, hlim]

theorem padjFollow_stands (h : s.pget (LPE_STAT_LSTATE c.val) = lsOff ∨ s.unitInRst 9 = true ∨ (s.slopes c.val).1 ≠ 0) :
    s.padjFollow c.val = s := by
  rcases h with h | h | h <;> simp [State.padjFollow, h]

/-- `PH` and `SLEWING` follow a write of `PADJ`, and nothing else does. -/
theorem padjWritten_frame (s : State) (c : Nat) : Frame s (s.padjWritten c) (among [LPE_PH_PH c, LPE_STAT_SLEWING c]) [] := by
  have hshow := (padjShow_both_frame s c).mono (moves' := among [LPE_PH_PH c, LPE_STAT_SLEWING c]) (parts' := [])
    (fun _ => among_mono (by simp)) (List.Subset.refl _)
  unfold State.padjWritten State.padjFollow
  split
  · exact hshow
  · exact (hshow.pset _ (among_of_mem (by simp))).pset _ (among_of_mem (by simp))

/-- What showing `SLEWING` leaves of what decides whether `PH` follows. -/
theorem padjShow_both_reads (s : State) (c : Fin 12) :
    (s.inBoth (fun s => s.padjShow c.val)).pget (LPE_STAT_LSTATE c.val) = s.pget (LPE_STAT_LSTATE c.val) ∧
    (s.inBoth (fun s => s.padjShow c.val)).get (LPE_PADJ_PADJ c.val) = s.get (LPE_PADJ_PADJ c.val) ∧
    (s.inBoth (fun s => s.padjShow c.val)).pget (LPE_PH_PH c.val) = s.pget (LPE_PH_PH c.val) ∧
    (s.inBoth (fun s => s.padjShow c.val)).unitInRst 9 = s.unitInRst 9 ∧
    (s.inBoth (fun s => s.padjShow c.val)).slopes c.val = s.slopes c.val := by
  obtain ⟨hps, has, _, hls, _, hgp, _, hga, hgl⟩ := padj_keys c
  have hframe := padjShow_both_frame s c.val
  exact ⟨hframe.pget_of hgl (among_eq_false (by simpa using hls)), hframe.get_of hga (among_eq_false (by simpa using has)),
    hframe.pget_of hgp (among_eq_false (by simpa using hps)), hframe.unitInRst List.not_mem_nil 9,
    hframe.slopes List.not_mem_nil List.not_mem_nil c.val⟩

theorem padjWritten_stands (h : s.pget (LPE_STAT_LSTATE c.val) = lsOff ∨ s.unitInRst 9 = true ∨ (s.slopes c.val).1 ≠ 0) :
    (s.padjWritten c.val).pget (LPE_PH_PH c.val) = s.pget (LPE_PH_PH c.val) := by
  obtain ⟨hstate, _, hph, hrst, hslopes⟩ := padjShow_both_reads s c
  unfold State.padjWritten
  rw [padjFollow_stands (by rwa [hstate, hrst, hslopes]), hph]

theorem padjWritten_follows (hls : s.pget (LPE_STAT_LSTATE c.val) ≠ lsOff) (hrst : s.unitInRst 9 = false) (hlim : (s.slopes c.val).1 = 0) :
    (s.padjWritten c.val).pget (LPE_PH_PH c.val) = s.get (LPE_PADJ_PADJ c.val) % 2 ^ 32 ∧
    (s.padjWritten c.val).pget (LPE_STAT_SLEWING c.val) = 0 := by
  obtain ⟨hstate, hpadj, _, hrst', hslopes⟩ := padjShow_both_reads s c
  obtain ⟨hne, _⟩ := padj_keys c
  unfold State.padjWritten
  rw [padjFollow_follows (by rwa [hstate]) (by rwa [hrst']) (by rwa [hslopes]), hpadj, psetB_eq, pget_pset_other _ _ hne, pget_pset_same,
    pget_pset_same]
  exact ⟨rfl, rfl⟩

/-- `SLEWING` says that `PH` differs from `PADJ`. -/
theorem padjWritten_slewing (hls : s.pget (LPE_STAT_LSTATE c.val) ≠ lsOff) (hlt : s.get (LPE_PADJ_PADJ c.val) < 2 ^ 32) :
    (s.padjWritten c.val).pbit (LPE_STAT_SLEWING c.val) =
      decide ((s.padjWritten c.val).pget (LPE_PH_PH c.val) ≠ s.get (LPE_PADJ_PADJ c.val)) := by
  unfold State.pbit
  by_cases hgo : s.unitInRst 9 = false ∧ (s.slopes c.val).1 = 0
  · obtain ⟨hout, hlim⟩ := hgo
    obtain ⟨hph, hslew⟩ := padjWritten_follows hls hout hlim
    rw [hph, hslew, Nat.mod_eq_of_lt hlt]
    simp
  · have hstop : s.pget (LPE_STAT_LSTATE c.val) = lsOff ∨ s.unitInRst 9 = true ∨ (s.slopes c.val).1 ≠ 0 :=
      .inr ((Decidable.not_and_iff_not_or_not.mp hgo).imp_left (Bool.not_eq_false _).mp)
    obtain ⟨hstate, _, _, hrst, hslopes⟩ := padjShow_both_reads s c
    rw [padjWritten_stands hstop]
    unfold State.padjWritten
    rw [padjFollow_stands (by rwa [hstate, hrst, hslopes])]
    have hshow : (s.inBoth (fun s => s.padjShow c.val)).pget (LPE_STAT_SLEWING c.val) = _ := padjShow_slewing hls
    rw [hshow]
    cases decide (s.pget (LPE_PH_PH c.val) ≠ s.get (LPE_PADJ_PADJ c.val)) <;> rfl

end

/-! ## The host's write -/

/-- The register of `PADJ`. -/
def padjReg : RegD := ⟨0x91024, 0x100, 12, [⟨0, 32, .rw, false, false, .img⟩]⟩

theorem findReg_padj : ∀ c : Fin 12, findReg allRegs (0x91024 + 0x100 * c.val) = some padjReg := by decide +kernel
theorem pairOf_padj : ∀ c : Fin 12, pairOf (0x91024 + 0x100 * c.val) = none := by decide
theorem isWonce_padj : ∀ c : Fin 12, isWonce (0x91024 + 0x100 * c.val) = false := by decide
theorem instOf_padj : ∀ c : Fin 12, instOf (0x91024 + 0x100 * c.val) 0x91024 0x100 12 = some c.val := by decide

theorem heldField_padj (s : State) (c : Fin 12) : s.heldField (LPE_PADJ_PADJ c.val) = false := by
  have hother : ∀ c : Fin 12, [CJL_NODE_NODE_ID, CJL_RANGE_BASE, CJL_RANGE_SIZE].contains (LPE_PADJ_PADJ c.val) = false ∧
      (LPE_PADJ_PADJ c.val == GLD_BOOT_CONFIRM) = false := by decide
  obtain ⟨hcjl, hgld⟩ := hother c
  simp only [State.heldField, hcjl, hgld, Bool.and_false, Bool.false_and, Bool.or_false]

theorem writeEffect_padj (s t : State) (w : HostWrite) (c : Fin 12) :
    s.writeEffect t w (0x91024 + 0x100 * c.val) none = t.padjHost c.val := by
  have hblock : (0x91024 + 0x100 * c.val) / 0x10000 = 9 := by omega
  have hfault : ¬ (0x91024 + 0x100 * c.val) % 0x10000 = 0xE08 := by omega
  simp only [State.writeEffect, State.effectLoop, hblock, hfault, instOf_padj, if_false, Nat.reduceLT, Nat.reduceLeDiff, and_self, if_true]

/-- An accepted write of `PADJ` stores the field on the enabled lanes, and `PH` and `SLEWING` follow. -/
theorem hostWrite_padj {s : State} {w : HostWrite} {c : Fin 12} (h : s.accepts w (0x91024 + 0x100 * c.val) = true) :
    s.begin.hostWrite w (0x91024 + 0x100 * c.val) =
      (s.begin.countAccess.set (LPE_PADJ_PADJ c.val) (mergeField w.be w.v 0 32 (s.begin.countAccess.get (LPE_PADJ_PADJ c.val)))).padjHost c.val := by
  obtain ⟨_, _, _, hhit, _⟩ := accepts_spec h (findReg_padj c) (isWonce_padj c)
  have htaken : padjReg.taken w (0x91024 + 0x100 * c.val) = if w.hits (LPE_PADJ_PADJ c.val) then [⟨0, 32, .rw, false, false, .img⟩] else [] := by
    have hacc : (Acc.rw != Acc.ro) = true := by decide
    simp only [RegD.taken, padjReg, List.filter_cons, List.filter_nil, hacc, Bool.true_and]
    rfl
  have hhits : w.hits (LPE_PADJ_PADJ c.val) = true := by
    rw [htaken] at hhit
    exact Decidable.of_not_not (fun hn => hhit (if_neg hn))
  rw [if_pos hhits] at htaken
  rw [hostWrite_accepted h (findReg_padj c) (by omega) (by omega) (pairOf_padj c) (isWonce_padj c) (by omega), writeEffect_padj, htaken]
  have hheld := heldField_padj s.begin.countAccess c
  unfold LPE_PADJ_PADJ at hhits hheld
  simp only [State.writeFields, List.foldl_cons, List.foldl_nil, hhits, hheld, Bool.not_false, Bool.and_self, if_true]
  rfl

/-- What `PADJ` holds after a host write that leaves `x` in it: a tense action of the same tick applies after the write (R196). -/
theorem padjHost_eq (s : State) (c x : Nat) :
    (s.set (LPE_PADJ_PADJ c) x).padjHost c = (((s.tns.padj.find? (fun e => e.1 == c)).map (fun e => (s.set (LPE_PADJ_PADJ c) x).set (LPE_PADJ_PADJ c) e.2)).getD
      (s.set (LPE_PADJ_PADJ c) x)).padjWritten c := by
  unfold State.padjHost
  rw [set_tns]
  cases s.tns.padj.find? (fun e => e.1 == c) <;> rfl

/-- The state in which `PH` and `SLEWING` begin to follow: `PADJ` holds its new value, and only it and the count of accesses have moved. -/
theorem hostWrite_padj_stored {s : State} {w : HostWrite} {c : Fin 12} (h : s.accepts w (0x91024 + 0x100 * c.val) = true) :
    ∃ u : State, s.begin.hostWrite w (0x91024 + 0x100 * c.val) = u.padjWritten c.val ∧
      u.get (LPE_PADJ_PADJ c.val) =
        ((s.tns.padj.find? (fun e => e.1 == c.val)).map (fun e => e.2 % 2 ^ 32)).getD (s.merged w (LPE_PADJ_PADJ c.val)) ∧
      Frame s u (among [LPE_PADJ_PADJ c.val]) [.counters] := by
  have hcount := countAccess_frame s
  have htns : s.begin.countAccess.tns = s.tns := hcount.part (p := .tns) (by decide)
  obtain ⟨_, _, _, _, _, _, _, hgrav, _⟩ := padj_keys c
  have hget := hcount.get_of hgrav rfl
  have hset := fun x => (hcount.mono (moves' := among [LPE_PADJ_PADJ c.val]) (fun _ hk => by cases hk) (List.Subset.refl _)).set (f := LPE_PADJ_PADJ c.val) x
    (among_of_mem (.head _))
  refine ⟨_, (hostWrite_padj h).trans (padjHost_eq _ _ _), ?_, ?_⟩ <;> rw [htns]
  · cases s.tns.padj.find? (fun e => e.1 == c.val) with
    | none => exact (get_set_same _ _ _).trans (by rw [hget]; rfl)
    | some e => exact get_set_same _ _ _
  · cases s.tns.padj.find? (fun e => e.1 == c.val) with
    | none => exact hset _
    | some e => exact (hset _).set _ (among_of_mem (.head _))

theorem lpePadjWrite_goes {s : State} {c : Fin 12} {w : HostWrite} (h : s.accepts w (0x91024 + 0x100 * c.val) = true) {v : Nat}
    (hv : v = ((s.tns.padj.find? (fun e => e.1 == c.val)).map (fun e => e.2 % 2 ^ 32)).getD (s.merged w (LPE_PADJ_PADJ c.val))) :
    Goes (.lpePadjWrite c w) s (fun t =>
      t.get (LPE_PADJ_PADJ c.val) = v ∧
      (s.pget (LPE_STAT_LSTATE c.val) ≠ lsOff → t.pbit (LPE_STAT_SLEWING c.val) = decide (t.pget (LPE_PH_PH c.val) ≠ v)) ∧
      (s.pget (LPE_STAT_LSTATE c.val) ≠ lsOff → s.unitInRst 9 = false → (s.slopes c.val).1 = 0 → t.pget (LPE_PH_PH c.val) = v) ∧
      (s.pget (LPE_STAT_LSTATE c.val) = lsOff ∨ s.unitInRst 9 = true ∨ (s.slopes c.val).1 ≠ 0 →
        t.pget (LPE_PH_PH c.val) = s.pget (LPE_PH_PH c.val)) ∧
      Frame s t (among [LPE_PADJ_PADJ c.val, LPE_PH_PH c.val, LPE_STAT_SLEWING c.val]) [.counters]) := by
  obtain ⟨_, hpadj_slew, hpadj_ph, _, hls_padj, hgp, hgs, hga, hgl⟩ := padj_keys c
  obtain ⟨u, hexec, hpadj, hstored⟩ := hostWrite_padj_stored h
  have hlt : v < 2 ^ 32 := by
    subst hv
    cases s.tns.padj.find? (fun e => e.1 == c.val) <;> exact Nat.mod_lt _ (Nat.two_pow_pos _)
  have hword : u.get (LPE_PADJ_PADJ c.val) = v := hpadj.trans hv.symm
  have hstate : u.pget (LPE_STAT_LSTATE c.val) = s.pget (LPE_STAT_LSTATE c.val) :=
    hstored.pget_of hgl (among_eq_false (by simpa using hls_padj))
  have hph : u.pget (LPE_PH_PH c.val) = s.pget (LPE_PH_PH c.val) := hstored.pget_of hgp (among_eq_false (by simpa using hpadj_ph.symm))
  have hrst := hstored.unitInRst (by decide) 9
  have hslopes := hstored.slopes (by decide) (by decide) c.val
  have hwritten := padjWritten_frame u c.val
  have hgoes : exec (.lpePadjWrite c w) s = .next (s.close (u.padjWritten c.val)) := congrArg (fun t => Host.Outcome.next (s.close t)) hexec
  refine ⟨_, hgoes, ?_, fun hls => ?_, fun hls hout hlim => ?_, fun hstop => ?_, Frame.close ?_⟩
  · rw [close_get _ _ hga, hwritten.get_of hga (among_eq_false (by simpa using ⟨hpadj_ph, hpadj_slew⟩)), hword]
  · rw [State.pbit, close_pget _ _ hgs, close_pget _ _ hgp, ← hword]
    exact padjWritten_slewing (by rwa [hstate]) (by rwa [hword])
  · obtain ⟨hfollows, _⟩ := padjWritten_follows (s := u) (c := c) (by rwa [hstate]) (by rwa [hrst]) (by rwa [hslopes])
    rw [close_pget _ _ hgp, hfollows, hword, Nat.mod_eq_of_lt hlt]
  · rw [close_pget _ _ hgp, padjWritten_stands (by rwa [hstate, hrst, hslopes]), hph]
  · exact (hstored.mono (fun _ => among_mono (by simp)) (List.Subset.refl _)).trans
      (hwritten.mono (fun _ => among_mono (by simp)) (List.nil_subset _))

/-- Settles O24: each job by the branch of its definition that the premises choose, the write by what it stores before `PH` follows. -/
theorem loopCommands : Obligations.LoopCommands := by
  unfold Obligations.LoopCommands
  intro s c
  exact ⟨fun hup hjobs => ⟨lockTimerExpiry_goes hup hjobs, fun hlow hhigh u hu => previewJob_goes hup hjobs hlow hhigh hu,
    previewJob_goes_idle hup hjobs⟩, fun w h v hv => lpePadjWrite_goes h hv⟩

end Sys2Proof.Machine
end

section
/-!
O23. The frequency word of a channel that is enabled has 64 bits; the range it is held within has no bound in the statement.
-/
namespace Sys2Proof.Machine
open Sys2Proof

/-- A two's-complement number of 64 bits lies below half their span. -/
theorem signed64_lt (n : Nat) : signed 64 n < 2 ^ 63 := by
  unfold signed
  split <;> omega

theorem pFw_lt (s : State) (c : Nat) : s.pFw c < 2 ^ 63 := signed64_lt _

/-- An image runs whose oscillator word puts the free-run word past 64 bits, and channel 0 has just been enabled. The number in force for its `FRANGE`,
10^12 * 2^48, is past the 32 bits of the field, and puts the range there too; no run reaches such a number, and the statement allows it. -/
def wideRange : State :=
  { State.reset with
    applied := true, sys := { State.reset.sys with clocks := true }, cfg := { State.reset.cfg with oscCal := 1 - 2 ^ 48 },
    inForce := [((SEL_CTL_EN 0).key, 1), ((LPE_FRANGE_FRANGE 0).key, 10 ^ 12 * 2 ^ 48)] }

theorem wideRange_clampFw : wideRange.clampFw 0 wideRange.freeRun = 2 ^ 96 - 2 ^ 48 := by decide +kernel

/-- Refutes O23, in the clause on enabling: the statement sets no bound to the number in force for `FRANGE`, and where it is past the field's 32 bits the
clamped free-run word need not fit the 64 bits of `FW`. -/
theorem not_filterJob : ¬ Obligations.FilterJob := by
  unfold Obligations.FilterJob
  rintro ⟨h, _⟩
  obtain ⟨_, henabled, _⟩ := h wideRange 0 (by decide +kernel) (by decide +kernel)
  obtain ⟨t, _, _, hword, _⟩ := henabled (by decide +kernel) (by decide +kernel)
  have hclamp : t.pFw 0 = 2 ^ 96 - 2 ^ 48 := hword.trans wideRange_clampFw
  have hfits := pFw_lt t 0
  omega

end Sys2Proof.Machine
end
